-- ==== Sys2Proof/Word.lean ====
section
/-! DEFINITION. The word types of the register file and of the slots (R9, R11). -/

namespace Sys2Proof

/-- A register, descriptor word or packet word: 32 bits (R11, R318). -/
abbrev Word := BitVec 32

/-- A byte of a slot, of host data or of the two-wire bus. -/
abbrev Byte := BitVec 8

end Sys2Proof
end

