-- ==== Sys2Proof/Syntax.lean ====
section
/-! DEFINITION. The commands of the block: one constructor per row of spec/opcode_table.json, and the types of
what a command brings from outside the die. -/

namespace Sys2Proof

/-- The four access paths of the register space (R35, R543). -/
inductive Path where
  | hive
  | cfg
  | tw
  | jtag
  deriving DecidableEq, Repr, Inhabited

/-- What one slot holds: the block's stored data and its metadata (R123, R124, R125); `strength` is the T_CODE at
which the slot was encoded. -/
structure Slot where
  data     : List Byte
  crc      : Word
  gen      : Word
  key      : BitVec 10
  enc      : Bool
  zero     : Bool
  san      : Bool
  fmt      : Bool
  strength : BitVec 3
  owner    : Word
  deriving DecidableEq, Repr, Inhabited

/-- A transaction packet as it crosses a port: header words W0 to W3 and payload words (R318, R320). -/
structure Packet where
  w0 : Word
  w1 : Word
  w2 : Word
  w3 : Word
  payload : List Word
  deriving DecidableEq, Repr, Inhabited

/-- The data symbols 2 to 15 of a TS1 or TS2 training set (R295). -/
structure TrainSet where
  lane     : Byte
  rates    : Byte
  lanesOk  : Byte
  role     : Byte
  ctrl     : Byte
  nfts     : Byte
  tag      : BitVec 16
  echo     : BitVec 16
  minLanes : Byte
  d13      : Byte
  d14      : Byte
  chk      : Byte
  deriving DecidableEq, Repr, Inhabited

/-- A TS1 as received, with the stamps (R343) of the training sets that the port has sent since the one before. -/
structure TrainRx where
  set  : TrainSet
  sent : List Nat
  deriving DecidableEq, Repr, Inhabited

/-- What a lane has seen as it gains symbol lock (R296): COM at one alignment with no lane error between them, and that every symbol
came inverted. -/
structure LockSeen where
  coms     : Nat
  inverted : Bool
  deriving DecidableEq, Repr, Inhabited

/-- A 10-bit code as received (R292, R296): its number among the lane's symbols, the running disparity before it (true: positive)
and the code. -/
structure RxError where
  sym  : Nat
  plus : Bool
  code : BitVec 10
  deriving DecidableEq, Repr, Inhabited

/-- Where a lane error falls (R303, R325): between packets, in a transaction packet, in an ACK or NAK, or in the lane's elastic
buffer, which overflowed or ran dry. -/
inductive ErrPlace where
  | between
  | inPacket
  | inAck
  | buffer
  deriving DecidableEq, Repr, Inhabited

/-- A TIME ordered set as received (R346), with what the port measures of it: whether its L0 symbols carried a lane
error, how far into the local tick it arrived (in 1/16 ns) and how long it waited on each port, by number, before it left again there
(in 1/16 ns). -/
structure TimeSet where
  count     : BitVec 64
  corr      : Word
  hops      : Byte
  chk       : Byte
  laneErr   : Bool
  frac      : Nat
  residence : List Nat
  deriving DecidableEq, Repr, Inhabited

/-- The identity registers of a tier as read by MRR (R83, R88). -/
structure TierId where
  vendor : Byte
  rev    : Byte
  geom   : Byte
  dist   : Byte
  /-- Mode registers 16 to 23. -/
  serial : BitVec 64
  deriving DecidableEq, Repr, Inhabited

/-- How a training probe ended (R101): its code passes, mode register 6 of a CA probe read PAR_ERR 1, or the code fails
otherwise: an MRR that returned no valid value, or bytes that do not match. -/
inductive ProbeEnd where
  | pass
  | parErr
  | invalid
  deriving DecidableEq, Repr, Inhabited

/-- One fuse word as it reads at the normal and the strict margin (R434, R438). -/
structure FuseRead where
  word   : BitVec 12
  normal : BitVec 39
  strict : BitVec 39
  deriving DecidableEq, Repr, Inhabited

/-- One raised error line of the fault collector: its source and its detail word (R493, R494). -/
structure FaultLine where
  src    : BitVec 7
  detail : BitVec 64
  deriving DecidableEq, Repr, Inhabited

/-- Bits of one stored register that have changed by themselves (what configuration parity looks for, R516). -/
structure Upset where
  key  : Nat
  mask : Word
  deriving DecidableEq, Repr, Inhabited

/-- How a two-wire controller transaction ended (R532, R541). -/
inductive TwResult where
  | ok
  | addrNack
  | dataNack
  | arbLost
  | busError
  | timeout
  | aborted
  deriving DecidableEq, Repr, Inhabited

/-- The rails that have an under-voltage detector (R392). -/
inductive Rail where
  | aon
  | core
  | lnk
  | io
  | vddT
  | vppT
  deriving DecidableEq, Repr, Inhabited

/-- The causes of a power-on reset that come from outside (R414, R433); the exit from P5 is a cause of the die's own. -/
inductive PorCause where
  | porstN
  | aonUv
  | coreUv
  deriving DecidableEq, Repr, Inhabited

/-- A calibration item whose round ends (R382); the sensor set is measured in every round. -/
inductive CalItem where
  | tier (t : BitVec 5)
  | port (n : BitVec 2)
  deriving DecidableEq, Repr, Inhabited

/-- The eye check of one channel of a tier: whether each code of the read and of the write window passed, the lowest code first
(R383). -/
structure CalChan where
  ch : BitVec 5
  rd : List Bool
  wr : List Bool
  deriving DecidableEq, Repr, Inhabited

/-- What a calibration round measured: the channels of a tier, the monitor's steps to the low and to the high side of each lane of a
port, sensor offsets (R311, R383). -/
structure CalResult where
  chans : List CalChan
  lanes : List (BitVec 3 × BitVec 6 × BitVec 6)
  offs  : List Byte
  deriving DecidableEq, Repr, Inhabited

/-- The registers that DBG_ACCESS reaches (R486, R492). -/
inductive DbgReg where
  | req
  | stat
  | chal (w : BitVec 3)
  | token (w : BitVec 6)
  deriving DecidableEq, Repr, Inhabited

/-- What the TAP is asked to do (R486, R569). `cells` is what is shifted into the boundary-scan register; `fast` says that TCK runs
faster than a register access allows (R412). -/
inductive TapInstr where
  | idcode
  | bypass
  | dbgAccess (reg : DbgReg) (wr : Option Word)
  | samplePreload (cells : BitVec 17)
  | extest (cells : BitVec 17)
  | regRead (addr : BitVec 16) (fast : Bool)
  | regWrite (addr : BitVec 16) (data : Word) (fast : Bool)
  | trace
  | hiveHalt
  | hiveStep
  | hiveRun
  | hiveMemRead (addr : BitVec 17)
  | hiveMemWrite (addr : BitVec 17) (data : Byte)
  | other
  deriving DecidableEq, Repr, Inhabited

/-- The commands: one constructor per row of the table of operations and events. -/
inductive Instr where
  /-- REGISTER_WRITE, R553. -/
  | registerWrite (p : Path) (addr : BitVec 16) (data : Word)
  /-- IND_WIN_ACCESS, R547. -/
  | indWinAccess (p : Path) (k : BitVec 5) (wr : Option (Word))
  /-- FLT_STAT0_READ, R502. -/
  | fltStat0Read (p : Path)
  /-- FLT_ACK, R503. -/
  | fltAck (p : Path) (data : Word)
  /-- CLAMP_ACK, R552. -/
  | clampAck (p : Path) (data : Word)
  /-- FLT_INJECT, R517. -/
  | fltInject (p : Path) (data : Word)
  /-- TIM_CFG_WRITE, R58. -/
  | timCfgWrite (p : Path) (data : Word)
  /-- BUD_CAP_WRITE, R72. -/
  | budCapWrite (p : Path) (data : Word)
  /-- PCD_SMAP_WRITE, R133. -/
  | pcdSmapWrite (p : Path) (r : Byte) (data : Word)
  /-- PCD_RDY_SET, R139. -/
  | pcdRdySet (p : Path) (r : Byte) (data : Word)
  /-- SCB_LOG_DISMISS, R154. -/
  | scbLogDismiss (p : Path) (data : Word)
  /-- MAX_MULT_WRITE, R158. -/
  | maxMultWrite (p : Path) (n : BitVec 5) (data : Word)
  /-- TIER_FREQ_WRITE, R116. -/
  | tierFreqWrite (p : Path) (n : BitVec 5) (data : Word)
  /-- CHANNEL_RETIRE, R111. -/
  | channelRetire (p : Path) (n : BitVec 5) (data : Word)
  /-- CHANNEL_RESUME, R109. -/
  | channelResume (p : Path) (i : BitVec 10)
  /-- CHANNEL_DISCARD, R109. -/
  | channelDiscard (p : Path) (i : BitVec 10)
  /-- CHANNEL_RETRAIN, R104. -/
  | channelRetrain (p : Path) (i : BitVec 10)
  /-- SQ_ENABLE, R170. -/
  | sqEnable (p : Path) (q : BitVec 12) (data : Word)
  /-- SQ_DISABLE, R171. -/
  | sqDisable (p : Path) (q : BitVec 12) (data : Word)
  /-- CQ_ENABLE, R172. -/
  | cqEnable (p : Path) (q : BitVec 12)
  /-- CQ_DISABLE, R172. -/
  | cqDisable (p : Path) (q : BitVec 12)
  /-- CQ_RESUME, R201. -/
  | cqResume (p : Path) (q : BitVec 12)
  /-- RNG_EVT_CQ_WRITE, R203. -/
  | rngEvtCqWrite (p : Path) (data : Word)
  /-- QOS_TC_WRITE, R286. -/
  | qosTcWrite (p : Path) (n : BitVec 3) (data : Word)
  /-- PORT_EN_WRITE, R313. -/
  | portEnWrite (p : Path) (n : BitVec 2) (data : Word)
  /-- LNK_RETRAIN, R306. -/
  | lnkRetrain (p : Path) (n : BitVec 2)
  /-- LNK_RECOVER, R304. -/
  | lnkRecover (p : Path) (n : BitVec 2)
  /-- NODE_ID_ASSIGN, R335. -/
  | nodeIdAssign (p : Path) (port : BitVec 2) (data : Word)
  /-- PWR_WAKE, R365. -/
  | pwrWake (p : Path)
  /-- PWR_OFF, R367. -/
  | pwrOff (p : Path) (code : Byte)
  /-- PWR_TIER_GATE_WRITE, R396. -/
  | pwrTierGateWrite (p : Path) (data : Word)
  /-- THM_RETRUST, R375. -/
  | thmRetrust (p : Path) (data : Word)
  /-- CAL_NOW, R382. -/
  | calNow (p : Path)
  /-- RST_CTL_HARD, R432. -/
  | rstCtlHard (p : Path) (key : Byte)
  /-- RST_CTL_WARM, R426. -/
  | rstCtlWarm (p : Path) (key : Byte)
  /-- RST_BLOCK, R429. -/
  | rstBlock (p : Path) (data : Word)
  /-- BLOCK_RESET_END, R429. -/
  | blockResetEnd (block : Byte)
  /-- OTP_PROGRAM, R450. -/
  | otpProgram (p : Path) (key : Byte)
  /-- OTP_LOCK, R444. -/
  | otpLock (p : Path) (key : Byte) (r : BitVec 2)
  /-- OTP_COMMAND_END, R450. -/
  | otpCommandEnd (normal : BitVec 39) (strict : BitVec 39)
  /-- BIST_RUN, R462. -/
  | bistRun (p : Path)
  /-- BIST_STOP, R468. -/
  | bistStop (p : Path)
  /-- STACK_TEST, R465. -/
  | stackTest (p : Path) (failStep : Option (BitVec 4))
  /-- KEYGEN, R469. -/
  | keygen (p : Path) (key : Byte)
  /-- KX_SET, R476. -/
  | kxSet (p : Path) (key : Byte)
  /-- REVOKE, R482. -/
  | revoke (p : Path) (key : Byte)
  /-- LIFE_ADV, R483. -/
  | lifeAdv (p : Path) (key : Byte) (target : BitVec 2)
  /-- DBG_LEVEL_REQUEST, R488. -/
  | dbgLevelRequest (p : Path) (level : BitVec 2)
  /-- DEBUG_TOKEN_CHECKED, R488. -/
  | debugTokenChecked
  /-- DBG_END, R489. -/
  | dbgEnd (p : Path)
  /-- NEWCHAL, R488. -/
  | newchal (p : Path)
  /-- DEBUG_SESSION_EXPIRE, R489. -/
  | debugSessionExpire
  /-- TW_GO, R532. -/
  | twGo (p : Path) (data : Word)
  /-- NOP, R234. -/
  | nop (id : Nat)
  /-- READ, R215. -/
  | read (id : Nat)
  /-- WRITE, R217. -/
  | write (id : Nat)
  /-- FLUSH, R218. -/
  | flush (id : Nat)
  /-- FILL, R219. -/
  | fill (id : Nat)
  /-- COPY, R220. -/
  | copy (id : Nat)
  /-- COMPARE, R221. -/
  | compare (id : Nat)
  /-- CHECK, R222. -/
  | check (id : Nat)
  /-- VERIFY, R223. -/
  | verify (id : Nat)
  /-- RECODE, R224. -/
  | recode (id : Nat)
  /-- SANITIZE, R226. -/
  | sanitize (id : Nat)
  /-- KEY_LOAD, R227. -/
  | keyLoad (id : Nat)
  /-- KEY_DESTROY, R228. -/
  | keyDestroy (id : Nat)
  /-- KEY_ERASE, R228. -/
  | keyErase (k : BitVec 10)
  /-- ATTEST, R229. -/
  | attest (id : Nat)
  /-- REPAIR, R230. -/
  | repair (id : Nat)
  /-- GET_LOG, R231. -/
  | getLog (id : Nat)
  /-- SET_LATENCY, R233. -/
  | setLatency (id : Nat)
  /-- ABORT, R236. -/
  | abort (id : Nat)
  /-- DESCRIPTOR_FETCH, R179. -/
  | descriptorFetch (q : BitVec 12)
  /-- SQ_DOORBELL, R174. -/
  | sqDoorbell (n : BitVec 2) (pkt : Packet)
  /-- CQ_DOORBELL, R175. -/
  | cqDoorbell (n : BitVec 2) (pkt : Packet)
  /-- DATA_FLOOR_REACHED, R42. -/
  | dataFloorReached
  /-- COAL_TIMEOUT, R199. -/
  | coalTimeout (q : BitVec 12)
  /-- CRICKET_TICK, R47. -/
  | cricketTick
  /-- TIME_SET_RECEIVED, R348. -/
  | timeSetReceived (n : BitVec 2) (ts : TimeSet)
  /-- ORPHAN_TIMEOUT, R54. -/
  | orphanTimeout
  /-- EPOCH_BOUNDARY, R51. -/
  | epochBoundary
  /-- BIST_SEGMENT_END, R457. -/
  | bistSegmentEnd (misr : Word)
  /-- BIST_PERIODIC_DUE, R462. -/
  | bistPeriodicDue
  /-- REQUEST_ISSUE, R90. -/
  | requestIssue (i : BitVec 10)
  /-- BURST_COMPLETE, R29. -/
  | burstComplete (i : BitVec 10) (errs : List Nat)
  /-- DECODE_END, R131. -/
  | decodeEnd (i : BitVec 10) (mis : Option Slot)
  /-- REFRESH_DUE, R93. -/
  | refreshDue (i : BitVec 10) (ahead : Bool)
  /-- TALERT_LOW, R106. -/
  | talertLow (t : BitVec 5)
  /-- MR6_READ_DONE, R106. -/
  | mr6ReadDone (i : BitVec 10) (parErr : Bool) (win : Nat) (idle : Bool)
  /-- TRAINING_PROBE_DONE, R101. -/
  | trainingProbeDone (i : BitVec 10) (res : ProbeEnd)
  /-- GATE_OPENING_START, R394. -/
  | gateOpeningStart
  /-- TIER_GOOD, R394. -/
  | tierGood (t : BitVec 5)
  /-- TIER_GATE_TIMEOUT, R394. -/
  | tierGateTimeout (t : BitVec 5)
  /-- GATE_CLOSING, R117. -/
  | gateClosing (t : BitVec 5)
  /-- TRST_RELEASE, R87. -/
  | trstRelease (t : BitVec 5)
  /-- IDENTITY_CHECK, R88. -/
  | identityCheck (t : BitVec 5) (ident : TierId)
  /-- FORMAT_WRITE, R138. -/
  | formatWrite (i : BitVec 10)
  /-- SCARAB_READ, R151. -/
  | scarabRead (i : BitVec 10)
  /-- SCARAB_PASS_END, R150. -/
  | scarabPassEnd
  /-- WAKE_PASS_END, R157. -/
  | wakePassEnd (t : BitVec 5)
  /-- QOS_ADAPT_STEP, R270. -/
  | qosAdaptStep
  /-- ADMISSION_RECOMPUTE, R281. -/
  | admissionRecompute
  /-- LINK_DETECT, R298. -/
  | linkDetect (n : BitVec 2)
  /-- SIGNAL_DETECTED, R298. -/
  | signalDetected (n : BitVec 2)
  /-- SYMBOL_LOCK, R296. -/
  | symbolLock (n : BitVec 2) (lane : BitVec 3) (seen : LockSeen)
  /-- TS1_RECEIVED, R295. -/
  | ts1Received (n : BitVec 2) (lane : BitVec 3) (rx : TrainRx)
  /-- TS2_RECEIVED, R298: with the stamps of R343 in 1/16 ns, of this set and of each set that the port has sent since the one
  before. -/
  | ts2Received (n : BitVec 2) (lane : BitVec 3) (ts : TrainSet) (stamp : Nat) (sent : List Nat)
  /-- RATE_SWITCH_END, R298. -/
  | rateSwitchEnd (n : BitVec 2)
  /-- LANE_TRAIN_DONE, R298. -/
  | laneTrainDone (n : BitVec 2)
  /-- LMK_RECEIVED, R299. -/
  | lmkReceived (n : BitVec 2) (lane : BitVec 3) (num : Byte) (count : Byte) (delay : Nat)
  /-- LINK_STATE_TIMEOUT, R298. -/
  | linkStateTimeout (n : BitVec 2)
  /-- LANE_ERROR, R304. -/
  | laneError (n : BitVec 2) (lane : BitVec 3) (rx : RxError) (place : ErrPlace)
  /-- SIGNAL_LOSS, R304. -/
  | signalLoss (n : BitVec 2)
  /-- SKP_RECEIVED, R303. -/
  | skpReceived (n : BitVec 2) (count : BitVec 4) (aligned : Bool)
  /-- SKP_DUE, R303. -/
  | skpDue (n : BitVec 2)
  /-- IDL_E_RECEIVED, R307. -/
  | idlEReceived (n : BitVec 2) (onL0 : Bool)
  /-- FIREFLY_BURST_END, R308. -/
  | fireflyBurstEnd (n : BitVec 2) (service : Bool) (locked : Bool)
  /-- L0_SLEEP, R309. -/
  | l0Sleep (n : BitVec 2)
  /-- L0_SIGNAL_WAKE, R310. -/
  | l0SignalWake (n : BitVec 2)
  /-- EYE_MEASURE_DONE, R311. -/
  | eyeMeasureDone (n : BitVec 2) (lane : BitVec 3) (steps : BitVec 7)
  /-- ACK_RECEIVED, R326. -/
  | ackReceived (n : BitVec 2) (ackseq : BitVec 12) (w1 : Word)
  /-- NAK_RECEIVED, R326. -/
  | nakReceived (n : BitVec 2) (ackseq : BitVec 12) (w1 : Word)
  /-- PACKET_ERROR, R325: the characters that came between STP and END, or to the break, and that END is missing or a lane error
  fell among them. -/
  | packetError (n : BitVec 2) (rx : List Byte) (framing : Bool)
  /-- PACKET_ABANDONED, R317. -/
  | packetAbandoned (n : BitVec 2)
  /-- CPL_RECEIVED, R340. -/
  | cplReceived (n : BitVec 2) (pkt : Packet)
  /-- CFG_RD, R338. -/
  | cfgRd (n : BitVec 2) (pkt : Packet)
  /-- CFG_WR, R338. -/
  | cfgWr (n : BitVec 2) (pkt : Packet)
  /-- TURN, R344. -/
  | turn (n : BitVec 2) (pkt : Packet)
  /-- PACKET_FORWARD, R336. -/
  | packetForward (n : BitVec 2) (pkt : Packet)
  /-- ACK_LATENCY_TIMEOUT, R328. -/
  | ackLatencyTimeout (n : BitVec 2)
  /-- REPLAY_TIMEOUT, R328. -/
  | replayTimeout (n : BitVec 2)
  /-- MRD_TIMEOUT, R340. -/
  | mrdTimeout (tag : BitVec 12)
  /-- TURN_TIMEOUT, R344. -/
  | turnTimeout (n : BitVec 2)
  /-- IDLE_TIMEOUT, R363. -/
  | idleTimeout
  /-- RING_WINDOW_EXPIRE, R362. -/
  | ringWindowExpire (q : BitVec 12)
  /-- WAKE_N_FALL, R365. -/
  | wakeNFall
  /-- WAKE_PULSE_END, R365. -/
  | wakePulseEnd
  /-- TIER_RESTART_DUE, R366. -/
  | tierRestartDue
  /-- SENSOR_SAMPLE, R372. -/
  | sensorSample (base : List (BitVec 10))
  /-- TIER_SENSOR_FRAME, R373. -/
  | tierSensorFrame (t : BitVec 5) (frame : BitVec 12)
  /-- GRACE_TIMEOUT, R378. -/
  | graceTimeout
  /-- CLICK_RESTART, R380. -/
  | clickRestart
  /-- CAL_ROUND_DONE, R383. -/
  | calRoundDone (item : CalItem) (res : CalResult)
  /-- RAIL_UNDERVOLTAGE, R392. -/
  | railUndervoltage (rail : Rail)
  /-- RAIL_RESTORED, R392. -/
  | railRestored (rail : Rail)
  /-- RC_READY, R403. -/
  | rcReady
  /-- STARTUP_WATCHDOG_EXPIRY, R403. -/
  | startupWatchdogExpiry
  /-- XTAL_GOOD, R404. -/
  | xtalGood
  /-- XTAL_TIMEOUT, R404. -/
  | xtalTimeout
  /-- XTAL_FAIL, R408. -/
  | xtalFail
  /-- RC_WATCH_TRIP, R410. -/
  | rcWatchTrip
  /-- PLL_LOCK, R405. -/
  | pllLock (pll : BitVec 6)
  /-- PLL_MONITOR_TRIP, R407. -/
  | pllMonitorTrip (pll : BitVec 6) (drift : Bool)
  /-- MUX_FORCE, R406. -/
  | muxForce (hive : Bool)
  /-- POWER_ON_RESET, R414. -/
  | powerOnReset (cause : PorCause)
  /-- PORST_N_RELEASE, R421. -/
  | porstNRelease (strap : BitVec 3)
  /-- RESET_N_LOW, R415. -/
  | resetNLow (ns : Nat)
  /-- RESET_N_RISE, R415. -/
  | resetNRise
  /-- RESET_HOLD_END, R419. -/
  | resetHoldEnd
  /-- QUIESCE_OVERRUN, R417. -/
  | quiesceOverrun (t : BitVec 5)
  /-- OTP_SENSE_DONE, R438. -/
  | otpSenseDone (decay : List FuseRead)
  /-- MEMORY_BIST_DONE, R464. -/
  | memoryBistDone (group : BitVec 4) (fails : Nat)
  /-- IMAGE_READ_DONE, R534. -/
  | imageReadDone
  /-- IMAGE_RETRY, R423. -/
  | imageRetry
  /-- DATA_SERVICE, R421. -/
  | dataService
  /-- FAULT_EVENT, R498. -/
  | faultEvent (ext : List FaultLine)
  /-- FAULT_WINDOW_END, R497. -/
  | faultWindowEnd (src : BitVec 7)
  /-- SHADOW_END, R509. -/
  | shadowEnd (src : BitVec 7)
  /-- COLLECTOR_PARITY, R515. -/
  | collectorParity (histOk : Bool)
  /-- CONFIG_PARITY_SCAN, R516. -/
  | configParityScan (upset : Option Upset)
  /-- TW_ADDRESS, R523. -/
  | twAddress (byte : Byte)
  /-- TW_WRITE_BYTE, R526. -/
  | twWriteByte (byte : Byte)
  /-- TW_READ_BYTE, R525. -/
  | twReadByte (acked : Bool)
  /-- TW_STOP, R527. -/
  | twStop (repeated : Bool)
  /-- TW_MISPLACED_CONDITION, R528. -/
  | twMisplacedCondition (isStop : Bool) (inAckSlot : Bool)
  /-- TW_SDA_TIMEOUT, R538. -/
  | twSdaTimeout
  /-- TW_TRANSACTION_END, R532. -/
  | twTransactionEnd (res : TwResult) (done : Nat) (bytes : List Byte)
  /-- TW_ARB_LOST, R536. -/
  | twArbLost (byte : Option Byte) (done : Nat) (bytes : List Byte)
  /-- TW_STRETCH_TIMEOUT, R531. -/
  | twStretchTimeout (done : Nat) (bytes : List Byte)
  /-- TW_BUS_RECOVERY, R537. -/
  | twBusRecovery (freed : Bool)
  /-- TAP_RESET, R569. -/
  | tapReset
  /-- TAP_INSTRUCTION, R486. -/
  | tapInstruction (ins : TapInstr)
  /-- FALLBACK_IDLE_END, R300. -/
  | fallbackIdleEnd (n : BitVec 2)
  /-- MALFORMED_PACKET, R322. -/
  | malformedPacket (n : BitVec 2) (pkt : Packet)
  /-- DUPLICATE_PACKET, R325. -/
  | duplicatePacket (n : BitVec 2) (pkt : Packet)
  deriving DecidableEq, Repr, Inhabited

end Sys2Proof
end

