-- ==== Sys2Proof/Config.lean ====
section
/-! DEFINITION. The free values: what the spec leaves open and every machine of the family settles in its own way.
None has a body, so no proof can see a value. -/

namespace Sys2Proof.Config

/-- Free value: the n-th word drawn from the security engine's random-bit generator (R127, R469, R488) (log 4). -/
opaque randomWord : Nat → Word

/-- Free value: where the CALIB words keep the value of an "OTP" field is not stated (R436), so the word loaded into
the register at this address is a free function of the CALIB shadows (log 5). -/
opaque calibWord : Nat → List Word → Word

/-- Free value: the trim that CALIB gives a base-die sensor (0 to 15) or a lane (16 + 8n + k) (R436) (log 138). -/
opaque calibTrim : Nat → List Word → BitVec 8

/-- Free value: the offset trim that a round computes for a sensor, by the number of the choice and the sensor (R383) (log 138). -/
opaque sensorTrim : Nat → Nat → BitVec 8

/-- Free value: the expected signature of a partition for a pattern count, loaded from CALIB (R463) (log 5). -/
opaque bistSignature : Nat → Nat → List Word → Word

/-- Free value: the coverage, in 0.01 %, of a partition for a pattern count, loaded from CALIB (R463) (log 5). -/
opaque bistCoverage : Nat → Nat → List Word → Nat

/-- Free value: whether a pulse longer than the ignored length and shorter than the taken one is taken (R415, R566,
R567), by the number of the choice (log 6). -/
opaque takesPulse : Nat → Bool

/-- Free value: whether an accepted packet is lost when CK_FAB is slower than CK_LNKn (R412) (log 7). -/
opaque losesPacket : Nat → Bool

/-- Free value: whether RECOVERY cuts off the packet sent last (R317) (log 120). -/
opaque cutsPacket : Nat → Bool

/-- Free value: the bytes of a host buffer that the spec leaves undefined (R209, R256) (log 8). -/
opaque undefinedByte : Nat → Byte

/-- Free value: the level an open-drain pin shows while VDD_IO is low (R392) (log 9). -/
opaque pinLevel : Nat → Bool

/-- Free value: whether the die sees an event on a pin or a two-wire byte while VDD_IO is low (R392) (log 9). -/
opaque pinSeen : Nat → Bool

/-- Free value: the die revision and the vendor code of IDCODE, whose numbers the spec does not give (R569) (log 10). -/
opaque dieRevision : BitVec 4
/-- Free value: Uszosia's vendor code of IDCODE (R569) (log 10). -/
opaque vendorCode : BitVec 11

/-- Free value: which of the bits asked for an interrupted programming has blown, at one margin (R453) (log 17). -/
opaque partlyBlown : Nat → BitVec 39

/-- Free value: whether the partner's idle that an IDL_E announces is a deep one; no set carries it (R307, R309) (log 23). -/
opaque partnerDeep : Nat → Bool

/-- Free value: how many characters of a packet have gone when RECOVERY cuts it off (R317) (log 120). -/
opaque cutChars : Nat → Nat

/-- Free value: at a SKP the elastic buffers of a port add a K28.0, and else they remove one (R303) (log 142). -/
opaque addsSkip : Nat → Bool

/-- Free value: which codec engines of a failing memory group fail; the report names the group alone (R464) (log 19). -/
opaque failedEngines : Nat → Word

/-- Free value: DURATION of a memory group's entry in the self-test report, which has no segments (R467) (log 35). -/
opaque memoryBistTime : Nat → Word

/-- The SEED of the training pattern that the tier controller writes; no rule gives it (R83, R101, log 94). -/
opaque trainingSeed : BitVec 15

/-- Free value: CK_REF cycles in the last window of 96 CK_RC cycles, by tick (R413) (log 36). -/
opaque crystalCount : Nat → Byte

/-- Free value: the PRBS15 data of a stack test, whose seed no rule gives (R465) (log 37). -/
opaque stackPattern : List Byte

/-- Free value: which partitions fail in a stack test whose first step fails (R465) (log 37). -/
opaque stackFails : Nat → Byte

/-- Free value: which memory groups fail in a stack test whose first or second step fails (R465) (log 37). -/
opaque stackGroups : Nat → BitVec 16

/-- Free value: the LFSR seed of a partition's run (R457) (log 122). -/
opaque lfsrSeed : Nat → Word

/-- Free value: the LFSR state that follows a state after a segment's 14 patterns (R457) (log 122). -/
opaque lfsrAfter : Word → Word

/-- Free value: the MISR of a partition that fails in a stack test, or a failing group's count of addresses (R465, R467) (log 37). -/
opaque stackMisr : Nat → Word

/-- Free value: the bytes that a controller transaction had moved when it was aborted (R532, R541) (log 100). -/
opaque abortedDone : Nat → Nat

/-- Free value: the severity of a firmware finding, by its code (R196) (log 104). -/
opaque findingSeverity : Nat → BitVec 2

/-- Free value: the levels of the 17 board-signal bumps that the boundary-scan register captures (R569) (log 46). -/
opaque boundaryPins : Nat → BitVec 17

/-- Free value: what instruction trace shows, and what Hive core memory holds beyond the image (R486) (log 46). -/
opaque hiveTrace : Nat → Word
/-- Free value: a byte of Hive core memory that no rule gives (R486) (log 46). -/
opaque hiveByte : Nat → Byte

/-- Free value: what a register read returns, and whether a register write is lost, with TCK above 11 MHz (R412) (log 46). -/
opaque staleRead : Nat → Word
/-- Free value: whether a register write with TCK above 11 MHz is lost (R412) (log 46). -/
opaque losesWrite : Nat → Bool

/-- Free value: source, class and detail word of the history entry of a service level that changes below the data floor
(R46) (log 78). -/
opaque levelSource : Byte
/-- Free value: class of that entry (R46) (log 78). -/
opaque levelClass : Byte
/-- Free value: detail word of that entry, by RST_SERVICE (R46) (log 78). -/
opaque levelDetail : Word → BitVec 64

end Sys2Proof.Config
end

