-- ==== Sys2Proof/Machine/State.lean ====
section
/-! DEFINITION. The state of the YXB3210 as plain data, the stops, and the state right after reset.
Every stored RW or RWL register value stands in `Regs.cfg` under its address; every other field names the rule that
gives it. -/

namespace Sys2Proof.Machine

/-- A sparse table: pairs of an index and a value, in rising index, no value equal to the table's default. -/
abbrev Tab (α : Type) := List (Nat × α)

/-! ## Small types -/

/-- What the die as a whole is doing (R414 to R421, R511, R379, R367, R403, R410, R441). -/
inductive DieMode where
  /-- PORST_N low, or a core rail collapsed: the power-on reset stands (R414). -/
  | porstLow
  /-- PORST_N released, RC_READY not yet reported (R403). -/
  | startWatch
  /-- The start-up watchdog or the RC watch holds the die in reset (R403, R410). -/
  | rcHold
  /-- The BOOT region is untrusted: no service until PORST_N (R441). -/
  | bootHeld
  /-- A restart runs and management-ready is not yet reached (R421 steps 2 to 4, R426). -/
  | restarting
  /-- The register file is released: management-ready or later (R421 step 4). -/
  | running
  /-- The reset hold of R419. -/
  | resetHold
  /-- The safe state (R511). -/
  | safe
  /-- The Click hold (R379, R380). -/
  | clickHold
  /-- P5 (R367). -/
  | off
  deriving DecidableEq, Repr, Inhabited

/-- The kind of reset a restart follows (R414). -/
inductive ResetKind where
  | powerOn
  | hard
  | warm
  deriving DecidableEq, Repr, Inhabited

/-- The activity classes, by the index of R61. -/
inductive Class where
  | host
  | nmo
  | scarab
  | maint
  | bist
  | cal
  | train
  | repair
  deriving DecidableEq, Repr, Inhabited

/-- One value for each activity class. -/
structure ByClass (α : Type) where
  host   : α
  nmo    : α
  scarab : α
  maint  : α
  bist   : α
  cal    : α
  train  : α
  repair : α
  deriving DecidableEq, Repr, Inhabited

/-- STATE of TCH_CHSTATi but for retired, self-refresh and power-down, which are kept apart (R121). -/
inductive ChanSt where
  | untrained
  | training
  | serving
  | frozen
  | retraining
  deriving DecidableEq, Repr, Inhabited

/-- STATE of an SQ (R167). -/
inductive SqSt where
  | disabled
  | active
  | draining
  | error
  deriving DecidableEq, Repr, Inhabited

/-- STATE of a CQ (R168). -/
inductive CqSt where
  | disabled
  | active
  | error
  deriving DecidableEq, Repr, Inhabited

/-- STATE of a port (R298, R314). -/
inductive PortSt where
  | down
  | detect
  | align
  | config
  | rateSwitch
  | laneTrain
  | deskew
  | confirm
  | up
  | recovery
  deriving DecidableEq, Repr, Inhabited

/-- States of a merge-buffer slot (R143). -/
inductive MergeSt where
  | fetch
  | merge
  | encode
  | write
  deriving DecidableEq, Repr, Inhabited

/-- The opcodes of R204. -/
inductive Op where
  | nop
  | read
  | write
  | flush
  | fill
  | copy
  | compare
  | check
  | verify
  | recode
  | sanitize
  | keyLoad
  | keyDestroy
  | attest
  | repair
  | getLog
  | setLatency
  | abort
  deriving DecidableEq, Repr, Inhabited

/-- Who sent a request to a channel. -/
inductive ReqSrc where
  /-- A block read of a command: its source, single or first range. -/
  | cmdRead
  /-- A block read of a command's second range (COMPARE mode 1). -/
  | cmdRead2
  /-- A block write of a command. -/
  | cmdWrite
  /-- The merge fetch of a partial WRITE (R143). -/
  | mergeFetch
  | scarab
  | scarabAgain
  | scarabRewrite
  | format
  deriving DecidableEq, Repr, Inhabited

/-- How a decode ended (R131). -/
inductive Decode where
  | clean
  | corrected (k : Nat)
  | uncorrectable
  deriving DecidableEq, Repr, Inhabited

/-! ## Requests, commands, entries -/

/-- A request of a channel scheduler: one slot transfer (R34, R90). -/
structure Req where
  src  : ReqSrc
  /-- The command it belongs to, by fetch number. -/
  cmd  : Option Nat
  /-- Offset of its block in the command's range. -/
  off  : Nat
  lbn  : Nat
  inst : Nat
  bank : Nat
  /-- Data row before substitution (R113); a spare row of REPAIR is given as it stands. -/
  row  : Nat
  /-- Physical row of its ACT, set at the issue. -/
  phys : Nat
  /-- True: a WR burst. -/
  wr   : Bool
  cls  : Class
  tc   : Option (BitVec 3)
  /-- Order of arrival over all requests (age, R89). -/
  age  : Nat
  /-- Order of R30: the fetch number of its command, or a number of its own from the same count. -/
  ord  : Nat
  /-- The contents a WR burst writes. -/
  slot : Option Slot
  /-- Its encode takes a new generation (R126). -/
  fresh : Bool
  /-- The merge-buffer slot held (R142). -/
  merge : Option Nat
  /-- Tick at which the request arrived. -/
  at_  : Nat
  /-- A REF forced under R94 was issued while it waited (R277). -/
  sawForced : Bool
  /-- Bits of the code word that the burst delivered wrong, and the strength fixed when its decode started (R132). -/
  errs : List Nat
  dstr : BitVec 3
  /-- SCB_CFG as it acts on a read: CRC_CHECK from its issue, LOG_T and RW_PCT from the start of its decode (R160). -/
  scb  : Word
  /-- Its block's deadline miss is counted already, at an issue that a command error undid (R107, R277). -/
  missed : Bool
  deriving DecidableEq, Repr, Inhabited

/-- An uncorrectable read of a channel whose mode register 6 is being read: the freeze waits for what the register shows
(R106). -/
structure FrzNote where
  bank : Nat
  row  : Nat
  word : BitVec 24
  /-- The arrival number at which it froze: later requests find the channel frozen (R108). -/
  age  : Nat
  deriving DecidableEq, Repr, Inhabited

/-- The fields of a descriptor (R181). -/
structure Desc where
  opcode : Byte
  fence  : Bool
  urgent : Bool
  dmode  : BitVec 2
  raw    : Bool
  tcSet  : Bool
  tc     : BitVec 3
  keySet : Bool
  key    : BitVec 10
  zero0  : BitVec 4
  cid    : BitVec 16
  gen    : BitVec 16
  lbn    : BitVec 26
  zero1  : BitVec 6
  nblk   : BitVec 16
  gstart : BitVec 6
  gend   : BitVec 6
  zero2  : BitVec 4
  addr   : BitVec 64
  addr2  : BitVec 64
  opnd0  : Word
  opnd1  : Word
  owner  : Word
  opnd2  : Word
  opnd3  : BitVec 64
  opnd4  : Word
  zero3  : Word
  deriving DecidableEq, Repr, Inhabited

/-- The failing block with the lowest offset: what a final entry reports (R211). -/
structure Fail where
  off     : Nat
  status  : Byte
  sdetail : Byte
  lbn     : Nat
  deriving DecidableEq, Repr, Inhabited

/-- The counters of a result record (R213). -/
structure Tally where
  examined  : Nat
  clean     : Nat
  corrected : Nat
  bits      : Nat
  uncorr    : Nat
  integrity : Nat
  marked    : Nat
  skipped   : Nat
  maxCorr   : Nat
  deriving DecidableEq, Repr, Inhabited

/-- A final entry that waits for the order of R189 or R238. -/
structure Final where
  kind    : BitVec 4
  status  : Byte
  sdetail : Byte
  res0    : Word
  res1    : Word
  deriving DecidableEq, Repr, Inhabited

/-- A block of host data or of a second range that a command is gathering. -/
structure BlockBuf where
  /-- Parts still to come from the host, by part number. -/
  waits : List Nat
  /-- Parts received: part number and bytes. -/
  parts : List (Nat × List Byte)
  /-- A part failed with HOST_ACCESS_ERROR. -/
  bad   : Bool
  /-- What a KEY_LOAD has unwrapped (R227). -/
  plain : Option (List Byte)
  /-- Reads of the block that have not ended, the contents the first and the second side decoded to with the bits
  corrected, and the failure of a side: for COMPARE and VERIFY, which judge both sides together. -/
  rdLeft : Nat
  side1  : Option (Slot × Nat)
  side2  : Option (Slot × Nat)
  rdFail : Option (Nat × Nat)
  /-- Stored form that an early READ decrypted and sent before the decode ended (R256). -/
  sent  : Option (List Byte)
  deriving DecidableEq, Repr, Inhabited

/-- A command from its fetch to its final entry (R187). -/
structure Cmd where
  /-- Fetch number: the order of R30. -/
  id      : Nat
  sq      : Nat
  cq      : Nat
  op      : Op
  desc    : Desc
  key     : BitVec 10
  tc      : BitVec 3
  /-- Interleave mode at its fetch (R23). -/
  intlv   : BitVec 2
  early   : Bool
  raw     : Bool
  /-- It has passed its fence and its start checks. -/
  started : Bool
  /-- Offset of the next block to start. -/
  next    : Nat
  /-- Offsets of blocks started and not ended. -/
  running : List Nat
  done    : Nat
  /-- Blocks among them that a RECODE skipped (R225). -/
  passed  : Nat
  /-- Blocks that have ended, done or failed. -/
  ended   : Nat
  fail    : Option Fail
  /-- Starts no further block (R210). -/
  stopped : Bool
  /-- An ABORT matched it in time (R237). -/
  aborted : Bool
  tally   : Tally
  /-- Per-block CRC-64 values not yet combined, by offset (R252). -/
  vals    : Tab (BitVec 64)
  bufs    : Tab (Option BlockBuf)
  /-- Stored GEN, ZERO and SANITISED of the block at LBN (R216, R217). -/
  gen0    : Word
  zero0   : Bool
  san0    : Bool
  anyCorr : Bool
  amended : Bool
  /-- Blocks of an early READ whose data were sent; whether the PROVISIONAL entry was written (R257). -/
  sent    : Nat
  provis  : Bool
  /-- The PROVISIONAL entry stands in the CQ; false while a CQ in ERROR holds it (R201). -/
  provOut : Bool
  /-- Amending writes and trailer values that wait for the PROVISIONAL entry (R260): address and bytes. -/
  after   : List (Nat × List Byte)
  /-- Lowest LBN that ended with INTEGRITY_MISMATCH, and its stored CRC (R247). -/
  integ   : Option (Nat × Word)
  startAt : Option Nat
  /-- Deadline of the blocks of a stream ring's READ or WRITE (R277); of an ABORT, the last tick in which a block of a command
  that it matched may start (R237). -/
  due     : Option Nat
  /-- Commands, and uses of merge slots by their arrival number, that it waits for (FLUSH, KEY_DESTROY, ABORT). -/
  waitIds : List Nat
  waitMrg : List Nat
  /-- ABORT: matched commands that completed ABORTED and otherwise. -/
  abOk    : Nat
  abNo    : Nat
  /-- Free-form phase of a command without blocks, of REPAIR and of RECODE. -/
  phase   : Nat
  /-- Result of an OTP append, of a spare index, of a POINTER: by opcode. -/
  aux     : Nat
  final   : Option Final
  /-- Its final entry is held by a CQ in ERROR (R201). -/
  inCq    : Bool
  /-- A block ended before its point of no return (R237). -/
  short   : Bool
  /-- It runs to its points of no return and writes no entry (R353 step 4). -/
  silent  : Bool
  deriving DecidableEq, Repr, Inhabited

/-- Why an MRD was sent (R340). -/
inductive MrdFor where
  /-- Descriptors of an SQ: the number of the run and its length. -/
  | descs (sq : Nat) (id : Nat) (n : Nat)
  /-- Part `part` of the data or check value of a block of a command. -/
  | block (id : Nat) (off : Nat) (part : Nat)
  deriving DecidableEq, Repr, Inhabited

/-- An outstanding MRD (R321, R340). -/
structure Mrd where
  tag   : BitVec 12
  use   : MrdFor
  words : Nat
  at_   : Nat
  /-- It has left for the host; its timeout in ticks is LNK_CFG.MRD_TO as it stood then (R340, R356). -/
  sent  : Bool
  limit : Nat
  deriving DecidableEq, Repr, Inhabited

/-- A completion or event entry: its four words, PHASE not yet placed (R183). -/
structure Entry where
  w0 : Word
  w1 : Word
  w2 : Word
  w3 : Word
  deriving DecidableEq, Repr, Inhabited

/-- What the writing of an entry brings with it. -/
inductive EntryUse where
  /-- Nothing more. -/
  | plain
  /-- The pair of R236 that is remembered: this CID, on the entry's SQ. -/
  | pair (cid : BitVec 16)
  /-- The PROVISIONAL entry of a command (R257). -/
  | prov (id : Nat)
  /-- The final entry of a command, composed when it is written. -/
  | final (id : Nat)
  deriving DecidableEq, Repr, Inhabited

/-- A command's entry on its way to a CQ, SQHD not yet placed: that is HEAD when the entry is written (R183, R201). -/
structure HeldEntry where
  entry  : Entry
  sq     : Nat
  urgent : Bool
  tc     : Nat
  use    : EntryUse
  deriving DecidableEq, Repr, Inhabited

/-- An event that is held (R193, R342). -/
structure HeldEvent where
  entry   : Entry
  /-- A service level that changed below the data floor: its message too waits until the floor is reached (R46). -/
  atFloor : Bool
  /-- Its Lyser message is still to be sent. -/
  needMsg : Bool
  /-- Its entry is still to be written. -/
  needEnt : Bool
  deriving DecidableEq, Repr, Inhabited

/-! ## What leaves the die -/

/-- A character of a lane: a D or a K code (R292). -/
structure Sym where
  k    : Bool
  byte : Byte
  deriving DecidableEq, Repr, Inhabited

/-- Ordered sets (R294): a marker carries its count, a TIME set the fields of R346. -/
inductive OrderedSet where
  | idle
  | skp
  | fts
  | idlE
  | lmk (count : Nat)
  | ts1 (t : TrainSet)
  | ts2 (t : TrainSet)
  | time (count : BitVec 64) (corr : Word) (hops : Byte)
  deriving DecidableEq, Repr, Inhabited

/-- Things the die sends: the model's own record of its outputs (log 2). -/
inductive Out where
  /-- A transaction packet placed on a port's wire: the lanes it is striped over, and its CRC (R293, R319). -/
  | packet (n : Nat) (lanes : Byte) (p : Packet) (crc : Word)
  | ack (n : Nat) (lanes : Byte) (w0 w1 : Word) (crc : Word)
  | nak (n : Nat) (lanes : Byte) (w0 w1 : Word) (crc : Word)
  /-- A packet sent again from the replay buffer (R326). -/
  | replay (n : Nat) (lanes : Byte) (p : Packet) (crc : Word)
  /-- A packet, or one sent again, that is abandoned: so many of its characters have begun, and EDB ends it (R317). -/
  | abandoned (n : Nat) (lanes : Byte) (p : Packet) (crc : Word) (chars : Nat)
  /-- An ordered set on these lanes: the first of a run of training sets stands for the run (log 22). -/
  | set (n : Nat) (lanes : Byte) (x : OrderedSet)
  /-- D10.2 for so many microseconds (R308, R309). -/
  | preamble (n : Nat) (lanes : Byte) (us : Nat)
  /-- A command word on a channel's CA bus (R79). -/
  | word (i : Nat) (w : BitVec 24)
  /-- Register data returned on a path. -/
  | regData (p : Path) (w : Word)
  | twByte (b : Byte)
  | twAck (a : Bool)
  /-- The controller starts a transaction with this 7-bit target (R532, R534). -/
  | twStart (addr : Byte)
  | tdo (w : Word)
  deriving DecidableEq, Repr, Inhabited

/-! ## Die, resets, pins -/

/-- Die-wide state: start-up progress, the reset in progress, marks, rails and pins (12, 13). -/
structure Die where
  mode        : DieMode
  kind        : ResetKind
  /-- RESET_N is held low (R415). -/
  resetLow    : Bool
  rcReady     : Bool
  mgmt        : Bool
  hiveRun     : Bool
  hiveHalted  : Bool
  dataService : Bool
  /-- RST_SERVICE.LEVEL as last seen, for the change of R46. -/
  lastLevel   : Nat
  cause       : BitVec 4
  tierRetained : Bool
  imageKept   : Bool
  wasSafe     : Bool
  warmCount   : Byte
  hardCount   : Byte
  retain      : Word
  relaxed     : Word
  /-- Tiers good, with no gate operation running, when the reset cause came (R418). -/
  goodAtCause : Word
  /-- Microseconds counted on CK_RC since the mark origin of R433. -/
  markUs      : Nat
  mark0       : Word
  mark1       : Word
  mark2       : Word
  /-- Blocks whose block reset is in progress (R429). -/
  blockBusy   : List Byte
  /-- Block resets that wait for the end of a segment of logic BIST (R461), and whether each is a reaction (R509). -/
  blockPend   : List (Byte × Bool)
  /-- Hard and warm resets since the power-on reset, unsaturated: a page write that one of them cuts off ends there (R416). -/
  resets      : Nat
  /-- Rail ballast and its run-down, in 0.1 mA, on VDD_CORE and VDD_T (R400). -/
  ballastCore : Nat
  ballastT    : Nat
  uvLnk       : Bool
  uvIo        : Bool
  uvT         : Bool
  uvPp        : Bool
  /-- FAULT_N is held low by R403, R410 or R441. -/
  faultHold   : Bool
  /-- Image digest recorded when it was verified, and the image (R426, R473). -/
  image       : List Byte
  /-- The image has been read whole and is not yet checked (R534). -/
  imageRead   : Bool
  /-- When the image was last refused, in microseconds of the start-up count (R423). -/
  imageAt     : Nat
  imageOk     : Bool
  /-- Hive core memory: the bytes a FULL debugger wrote (R486); the rest is the image and what no rule gives (log 46). -/
  hiveMem     : Tab (Option Byte)
  deriving DecidableEq, Repr, Inhabited

/-! ## Register file -/

/-- The indirect pointer of one access path (R547, R548). -/
structure IndPtr where
  addr : BitVec 24
  inc  : BitVec 2
  deriving DecidableEq, Repr, Inhabited

/-- A clamp-log entry (R557). -/
structure ClampEntry where
  whr      : Word
  field    : Byte
  fieldHi  : Byte
  seq      : BitVec 16
  written  : Word
  applied  : Word
  time     : BitVec 64
  data     : Word
  deriving DecidableEq, Repr, Inhabited

/-- A committed write whose block does not take it yet: the write, and its register before and after (R39, R554). -/
structure LateWrite where
  src  : Nat
  ind  : Bool
  addr : Nat
  data : Word
  port : Nat
  fail : Option (BitVec 4)
  old  : Word
  new  : Word
  deriving DecidableEq, Repr, Inhabited

/-- The register file (19). -/
structure Regs where
  /-- Stored RW and RWL values: direct byte address a under key a, indirect word i under key 0x10000 + i. -/
  cfg       : Tab Word
  /-- Stored parity bits that are odd (R559). -/
  par       : Tab Bool
  /-- Writes that act when their block runs again, oldest first (R39, R429, R460, R554). -/
  late      : List LateWrite
  indHive   : IndPtr
  indCfg    : IndPtr
  indTw     : IndPtr
  indJtag   : IndPtr
  /-- The last 32 entries, oldest first. -/
  clampLog  : List ClampEntry
  clampNext : BitVec 16
  clampNew  : Bool
  clampLost : Byte
  deriving DecidableEq, Repr, Inhabited

/-! ## Shelf time -/

/-- The shelf time unit (02). -/
structure Tim where
  count       : BitVec 64
  held        : Bool
  /-- CK_EPOCH cycles of slew still to take; positive shortens ticks (R48). -/
  slew        : Int
  lastChanged : Bool
  orphan      : Bool
  everLocked  : Bool
  locked      : Bool
  /-- Corrected difference (1/16 ns) of the last valid TIME set, for R49. -/
  prevDiff    : Option Int
  lastSetAt   : Nat
  epochStart  : Nat
  epochEnd    : Nat
  epochNum    : Nat
  irreg       : Bool
  lastIrreg   : Bool
  step        : Word
  deriving DecidableEq, Repr, Inhabited

/-! ## Clocks -/

/-- The clock unit (12). -/
structure Clk where
  xtalGood  : Bool
  xtalEver  : Bool
  onRc      : Bool
  hiveOnRc  : Bool
  fabA      : Bool
  fabB      : Bool
  laneLock  : BitVec 4
  tierLock  : Word
  forced    : BitVec 2
  xtalFails : Byte
  /-- PLLs whose monitor has tripped since their last lock: their domains issue nothing (R407), numbered as in R494 (log 61). -/
  tripped   : List Nat
  /-- Islands and PLLs stopped after a crystal failure (R408). -/
  parked    : Bool
  /-- The step of R409 that a return of the crystal has reached: 1 the PLLs relock, 2 the islands reopen, 3 the tiers leave
  self-refresh; 0 where none runs. -/
  back      : Nat
  deriving DecidableEq, Repr, Inhabited

/-! ## Budgets and QoS -/

/-- The budget unit's node-wide part (02). -/
structure Bud where
  used      : ByClass Nat
  usedSnap  : ByClass Nat
  overQ     : Nat
  overSnap  : Nat
  ballast   : Nat
  ballastSnap : Nat
  limCh     : Nat
  limCl     : Nat
  throttled : Bool
  capRaised : Bool
  /-- Targets of the last evaluation, for R71. -/
  lastCh    : Nat
  lastCl    : Nat
  deriving DecidableEq, Repr, Inhabited

/-- An admission report entry before it is laid out (R290). -/
structure AdmEntry where
  seq   : Word
  time  : Word
  cause : BitVec 16
  scale : Nat
  d     : Nat
  a     : Nat
  m     : Nat
  s     : Nat
  pool  : Nat
  sum   : Nat
  nch   : Nat
  ncl   : Nat
  t     : Nat
  req   : List Nat
  app   : List Nat
  deriving DecidableEq, Repr, Inhabited

/-- Regulation and admission (08). -/
structure Qos where
  bytes     : Tab Nat
  bytesSnap : Tab Nat
  short     : Tab Nat
  applied   : Tab Nat
  scale     : Nat
  pool      : Nat
  stale     : Bool
  /-- Classes under guarantee, as the last cricket tick or recomputation judged them (R273). -/
  guar      : BitVec 8
  /-- CAUSE bits of the input changes since the last recomputation (R281). -/
  causes    : BitVec 16
  report    : List AdmEntry
  repSeq    : Word
  missTotal : BitVec 16
  missForced : BitVec 16
  lastStep  : Nat
  poolFree  : Nat
  deriving DecidableEq, Repr, Inhabited

/-! ## Rings -/

/-- The live part of an SQ context (R166, R167). -/
structure SqCtx where
  st     : SqSt
  err    : BitVec 3
  head   : BitVec 16
  tail   : BitVec 16
  gen    : BitVec 16
  out    : Nat
  /-- Descriptor MRDs in flight, in ring order: a number of its own, first index, count and the answer when it has come. -/
  fetch  : List (Nat × Nat × Nat × Option (List Word))
  /-- Tick of the last fetch or entry (ring window, R362). -/
  usedAt : Option Nat
  /-- Stream ring: entries held, in panic, misses (R275 to R278). -/
  fill   : Nat
  panic  : Bool
  miss   : BitVec 16
  deriving DecidableEq, Repr, Inhabited

/-- The live part of a CQ context (R166, R168). -/
structure CqCtx where
  st       : CqSt
  head     : BitVec 16
  /-- HEAD of the last accepted doorbell: what a HEAD written in ERROR is judged against (R201). -/
  accepted : BitVec 16
  tail     : BitVec 16
  phase    : Bool
  reserved : Nat
  /-- Entries that wait for RESUME, in the order they arose. -/
  held     : List HeldEntry
  /-- Entries written and not yet notified, and when the oldest was written (R199). -/
  unNote   : Nat
  oldest   : Option Nat
  deriving DecidableEq, Repr, Inhabited

/-- An integrity-log entry (R248). -/
structure IntegEntry where
  seq      : Word
  lbn      : Word
  stored   : Word
  computed : Word
  gen      : Word
  key      : BitVec 16
  source   : Byte
  dec      : Byte
  sqid     : BitVec 16
  cid      : BitVec 16
  time     : Word
  deriving DecidableEq, Repr, Inhabited

/-- The ring engine (05, 06, 07). -/
structure Rng where
  sqs       : Tab SqCtx
  cqs       : Tab CqCtx
  cmds      : List Cmd
  nextId    : Nat
  nextAge   : Nat
  mrds      : List Mrd
  /-- MRDs that wait for a tag, oldest first: class, address, words and use (R321). -/
  mrdQ      : List (Nat × Nat × Nat × MrdFor)
  nextTag   : BitVec 12
  remembered : List (Nat × BitVec 16)
  evSeq     : BitVec 16
  evLost    : BitVec 16
  evTotal   : BitVec 16
  held      : List HeldEvent
  dblDrop   : Word
  integ     : List IntegEntry
  integSeq  : Word
  cntInteg  : BitVec 16
  cntCrc    : BitVec 16
  cntAmend  : BitVec 16
  cntRetr   : BitVec 16
  cntGen    : BitVec 16
  /-- Last SQ served, and last stream SQ served, for the round robins of R179. -/
  lastSq    : Nat
  lastStrm  : Nat
  deriving DecidableEq, Repr, Inhabited

/-! ## Links -/

/-- One lane of a port (R315). -/
structure Lane where
  eye      : Byte
  locked   : Bool
  /-- It takes part in this training: enabled at the bring-up, or agreed before a RECOVERY. -/
  enabled  : Bool
  inverted : Bool
  errs     : Nat
  errsLast : Byte
  /-- Symbol numbers of the last lane errors, at most eight (R296). -/
  errAt    : List Nat
  skew     : BitVec 5
  /-- Passed LANE_TRAIN, and aligned in DESKEW, in this bring-up. -/
  passed   : Bool
  aligned  : Bool
  eyeDone  : Bool
  /-- Sampler phase in 1/256 UI from the centre of bring-up, and the move that the next SKP brings (R383, R384). -/
  phase    : Int
  shift    : Int
  /-- The trim that CALIB gives the lane, 128 being mid-scale (R436, R441) (log 138). -/
  trim     : Byte
  /-- Running disparity that the receiver follows, positive when true (R292) (log 141). -/
  rxPlus   : Bool
  deriving DecidableEq, Repr, Inhabited

/-- One Lyser port (09, 10). -/
structure Port where
  st        : PortSt
  rate      : BitVec 3
  lanes     : Byte
  laneTab   : Tab Lane
  /-- Rates offered are below this code after a fallback (R297). -/
  rateCap   : Nat
  chosen    : BitVec 3
  /-- The highest rate code that the present bring-up offers, from its CONFIG on (R297, R313). -/
  offer     : Nat
  /-- Identical training sets in a row and the set they repeat (R295, R298). -/
  runLen    : Nat
  runSet    : Option TrainSet
  cfgTs2    : Bool
  /-- Training sets sent since the first of the run, and that the run has reached eight sets (R298). -/
  tsSent    : Nat
  runFull   : Bool
  myTag     : BitVec 16
  lastTag   : BitVec 16
  /-- Entry to the present step and to RECOVERY, in ticks (R298). -/
  phaseAt   : Nat
  recAt     : Nat
  /-- MIN_LANES as the present CONFIRM offers it (R313). -/
  myMin     : Byte
  pRole     : Byte
  pNfts     : Byte
  pMin      : Byte
  pLanesOk  : Byte
  pRates    : Byte
  /-- Idle after a fallback runs (R300). -/
  fbIdle    : Bool
  /-- The step that RECOVERY repeats: LANE_TRAIN, DESKEW or CONFIRM (R304). -/
  recStep   : PortSt
  recPend   : Bool
  retPend   : Bool
  svcTx     : BitVec 2
  svcRx     : BitVec 2
  bulkTx    : BitVec 2
  bulkRx    : BitVec 2
  downs     : Byte
  recoveries : Byte
  fallbacks : Byte
  isolated  : Bool
  /-- Send stamps of the last 64 TS2 sent in CONFIRM, by TAG. -/
  stamps    : List (BitVec 16 × Nat)
  /-- When L0 last sent anything but IDLE and SKP (R309). -/
  sentAt    : Nat
  /-- Last TS2 received in CONFIRM: its ECHO and receive stamp, and its TAG. -/
  lastTs2   : Option (BitVec 16 × Nat × BitVec 16)
  /-- Last TS2 sent in CONFIRM: its ECHO and the turnaround. -/
  echoed    : Option (BitVec 16 × Nat)
  turnWait  : Bool
  delay     : BitVec 20
  dvalid    : Bool
  /-- Queued packets with their pool (0 P, 1 NP, 2 CPL) and source port (4 for the node itself). -/
  txq       : List (Nat × Nat × Packet)
  /-- Source served last (R337). -/
  lastSrc   : Nat
  replay    : List Packet
  nextTx    : BitVec 12
  nextRcv   : BitVec 12
  consumed  : Tab (BitVec 10)
  limit     : Tab (BitVec 10)
  freed     : Tab Nat
  freedSent : Tab Nat
  ackOwed   : Nat
  /-- When the oldest packet accepted and not acknowledged falls due, in units of 100 ns (R328, R357). -/
  ackDue    : Nat
  nakSent   : Bool
  replays   : Nat
  /-- Ticks at which the replay timer runs out, and to which a NAK silences others (R327, R328). -/
  replayDue : Nat
  nakDue    : Nat
  /-- RECOVERY cut off the packet sent last (R317). -/
  cut       : Bool
  /-- K28.0 that the elastic buffers of its lanes have added, less those they have removed (R303) (log 142). -/
  elastic   : Int
  crcErrs   : Byte
  naksSent  : Byte
  replaysC  : Byte
  malformed : Byte
  deriving DecidableEq, Repr, Inhabited

/-- What has arrived for a block that sleeps, and waits until that block runs again (R37, R38, R39). -/
inductive Parked where
  /-- A consumed packet, with the port it came in by. -/
  | packet (n : Nat) (p : Packet)
  /-- A register access of the CFG path: direct or indirect place, the word to write, its port and what a stack test finds. -/
  | access (ind : Bool) (addr : Nat) (wr : Option Word) (port : Nat) (fail : Option (BitVec 4))
  deriving DecidableEq, Repr, Inhabited

/-- The links of the node (10). -/
structure Lnk where
  ports      : Tab Port
  id         : BitVec 6
  valid      : Bool
  upPort     : BitVec 2
  depth      : BitVec 3
  unroutable : BitVec 16
  lateCpl    : Byte
  badMsg     : Byte
  /-- Oldest first. -/
  parked     : List Parked
  deriving DecidableEq, Repr, Inhabited

/-! ## Tiers and channels -/

/-- A Weevil entry (R97). -/
structure WvlEntry where
  bank  : Nat
  row   : Nat
  count : Nat
  deriving DecidableEq, Repr, Inhabited

/-- Where a training sweep stands (R101): sweep 0 CA, 1 read, 2 write; the next code; the present and the longest run
of passing codes. -/
structure Sweep where
  /-- TCH_CFG.EYE_MIN at the start of the training (R118). -/
  eyeMin  : Nat
  which   : BitVec 2
  code    : Nat
  runAt   : Nat
  runLen  : Nat
  bestAt  : Nat
  bestLen : Nat
  caOk    : Bool
  rdAt    : Nat
  rdLen   : Nat
  caAt    : Nat
  /-- Writes of mode registers that the sweep waits for: address and data. -/
  todo    : List (Nat × Nat)
  deriving DecidableEq, Repr, Inhabited

/-- Where a channel's format walk stands: region and index of the next slot (R138). -/
structure FmtPos where
  region : Nat
  idx    : Nat
  /-- Regions in which it has written its last slot. -/
  fin    : List Nat
  deriving DecidableEq, Repr, Inhabited

/-- One channel (03, 02, 08, 04). -/
structure Chan where
  st       : ChanSt
  retired  : Bool
  trained  : Bool
  ever     : Bool
  caCode   : Nat
  rdCode   : Nat
  wrCode   : Nat
  eyeRd    : Byte
  eyeWr    : Byte
  fails    : Nat
  sweep    : Option Sweep
  queue    : List Req
  ringq    : List Req
  active   : List Req
  dec      : List Req
  debt     : Int
  bank     : BitVec 4
  dueCount : Nat
  forced   : Bool
  weevil   : List WvlEntry
  floorF   : Nat
  nrefQ    : List (Nat × Nat)
  frzCause : Word
  frzCmd   : Word
  words    : List (BitVec 24)
  resume   : Bool
  discard  : Bool
  retrain  : Bool
  parWait  : Bool
  /-- Words sent since TALERT_N was sampled low, and the arrival number at that cycle (R106, R107). -/
  alertN   : Nat
  alertAge : Nat
  uncWait  : Option FrzNote
  /-- Mode register 8 holds CA_TRN 1 (R101). -/
  caTrn    : Bool
  freqChg  : Bool
  /-- Remaining budget, carry and charged time of each class in quarters of a nanosecond (R60, R62, R64, R66). -/
  remain   : ByClass Int
  carry    : ByClass Int
  charged  : ByClass Nat
  /-- It holds an active-channel place, a reserved one, and the tick by which every charge but those of bursts has ended
  (R68, R70). -/
  place    : Bool
  resv     : Bool
  busyTo   : Nat
  /-- Its next due instant of refresh (R91). -/
  dueAt    : Nat
  lim      : Tab Nat
  /-- Scarab: slots done in this pass, slots of a wake pass still to read (R151, R157). -/
  done     : Nat
  wakeAt   : Option Nat
  fmt      : FmtPos
  deriving DecidableEq, Repr, Inhabited

/-- One tier and its controller (03, 11, 12). -/
structure Tier where
  /-- Gates open (R394), good, failed. -/
  open_    : Bool
  good     : Bool
  failed   : Bool
  trstLow  : Bool
  /-- Tick from which TRST_N has been low with the gates good (R87). -/
  trstAt   : Nat
  accepted : Bool
  /-- Its identity has been asked for and not yet been checked (R88). -/
  awaitId  : Bool
  ident    : TierId
  freqNow  : BitVec 2
  changing : Bool
  /-- The frequency a change in progress goes to (R116). -/
  freqTo   : BitVec 2
  /-- A frequency written during a change (R116). -/
  freqNext : Option (BitVec 2)
  selfRef  : Bool
  /-- CKT stopped: power-down (R86). -/
  pwrDown  : Bool
  mult     : BitVec 2
  hot      : Bool
  season   : BitVec 2
  acceptedM : BitVec 2
  trial    : BitVec 2
  hold     : Byte
  /-- Since the pass began: an UNCORRECTABLE decode, a multiplier above x1. -/
  passBad  : Bool
  passMult : Bool
  /-- Passes that have ended and that the Hive core has not judged yet, oldest first: both marks of each (R26, R155). -/
  ended    : List (Bool × Bool)
  /-- Wake pass: running, largest k and its t, an UNCORRECTABLE, and that the Hive core is to judge it once it has ended
(R157, R420). -/
  wake     : Bool
  wakeK    : Nat
  wakeT    : Nat
  wakeBad  : Bool
  wakeJudge : Bool
  usedMult : BitVec 2
  /-- Activity of the epoch for the thermal model (R374). -/
  nAct     : Nat
  nRd      : Nat
  nWr      : Nat
  nRef     : Nat
  deriving DecidableEq, Repr, Inhabited

/-- Tiers, channels and substitution tables (03). -/
structure Tch where
  tiers    : Tab Tier
  chans    : Tab Chan
  /-- Substitution entries by (channel instance * 512 + bank * 32 + entry): row and spare of a valid entry (R113). -/
  subs     : Tab (Option (Nat × Nat))
  /-- Training group in progress at start-up: 4 when all are done (R103). -/
  group    : Nat
  groupRun : Bool
  nref     : Nat
  nrefSnap : Nat
  deriving DecidableEq, Repr, Inhabited

/-! ## Slots, merge buffer, Scarab -/

/-- A recode window (R134). -/
structure Window where
  open_   : Bool
  region  : BitVec 8
  old     : BitVec 3
  new     : BitVec 3
  pointer : Nat
  /-- Offsets from POINTER upward whose done-mask bit is set. -/
  mask    : List Nat
  deriving DecidableEq, Repr, Inhabited

/-- A merge-buffer slot that is not FREE (R142, R143). -/
structure Merge where
  st       : MergeSt
  /-- The arrival number of the request that took it. -/
  no       : Nat
  lbn      : Nat
  internal : Bool
  deriving DecidableEq, Repr, Inhabited

/-- Page code and merge buffer (04). -/
structure Pcd where
  /-- What each written tier row holds, by (inst * 16 + bank) * 8192 + physical row. -/
  store      : Tab (Option Slot)
  rdy        : Tab Word
  gen        : Word
  genUnseeded : Bool
  windows    : Tab Window
  merge      : Tab (Option Merge)
  corr       : Nat
  bits       : Nat
  ue         : Nat
  corrSnap   : Word
  bitsSnap   : Word
  ueSnap     : BitVec 16
  codecOut   : Word
  deriving DecidableEq, Repr, Inhabited

/-- A correctable-log entry (R153, R162). -/
structure ScbEntry where
  tier    : Nat
  chan    : Nat
  bank    : Nat
  row     : Nat
  kind    : BitVec 3
  cand    : Bool
  lbn     : BitVec 26
  tcode   : BitVec 3
  src     : Bool
  maxCorr : Byte
  pass    : Byte
  /-- A Scarab finding with k at or above RW has been made. -/
  hadRw   : Bool
  hits    : Byte
  /-- The whole count, so that the oldest entry is known when TIME has wrapped. -/
  time    : BitVec 64
  deriving DecidableEq, Repr, Inhabited

/-- Scarab (04). -/
structure Scb where
  passStart : Nat
  pass      : Word
  running   : Bool
  log       : Tab (Option ScbEntry)
  logDrop   : BitVec 16
  behind    : Bool
  deriving DecidableEq, Repr, Inhabited

/-! ## Power, thermal, calibration -/

/-- A power-state history entry (R371). -/
structure PwrEntry where
  time  : BitVec 64
  from_ : Byte
  dest  : Byte
  cause : BitVec 16
  seq   : Word
  deriving DecidableEq, Repr, Inhabited

/-- Load, or a change of it, on VDD_CORE, VDD_T and VDD_LNK in 0.1 mA (R399). -/
structure Load where
  core : Nat
  t    : Nat
  lnk  : Nat
  deriving DecidableEq, Repr, Inhabited

/-- A granted load change, and the tick from which it no longer counts in the sliding window (R398). -/
structure Grant where
  load : Load
  till : Nat
  deriving DecidableEq, Repr, Inhabited

/-- The power controller (11, 12). -/
structure Pwr where
  state     : BitVec 3
  cause     : BitVec 4
  /-- A wake from P4 in progress: tiers restart first (R366). -/
  exiting   : Bool
  /-- Cause of the exit in progress (R371). -/
  exitCause : Nat
  /-- Tiers still to restart, in rising order (R360, R366). -/
  restart   : List Nat
  restartAt : Option Nat
  idleSince : Nat
  history   : List PwrEntry
  histSeq   : Word
  keysKept  : Bool
  /-- WAKE_N is driven low (R365). -/
  wakeLow   : Bool
  /-- Microseconds left of the pulse on WAKE_N (R365). -/
  wakeLeft  : Nat
  p4Since   : Nat
  p4Stay    : Nat
  /-- Gate openings queued, the tier opening now, closings queued, last opening tick (R394). -/
  openQ     : List Nat
  opening   : Option Nat
  closeQ    : List Nat
  lastOpen  : Option Nat
  /-- The domains on fabric VCO A (fabric, ring, NMO) and on VCO B (codec, security) are gated: from the entry to P2 or a
  crystal failure to the restart of the domain at the exit (R37, R39, R359, R366, R408). -/
  gateA     : Bool
  gateB     : Bool
  /-- When the last gate closing was done (R394), when the base die's islands have moved (R399, R408), and the load changes granted
  from the allowance of R398. -/
  lastClose : Option Nat
  isleTo    : Nat
  grants    : List Grant
  /-- Microseconds on CK_PWR since the power-on reset: the time base of the gates, the islands and the allowance. -/
  us        : Nat
  /-- A movement of the islands waits for room in the allowance (R398). -/
  isleWait  : Bool
  /-- When the last tier took SRX or its clock (R399). -/
  lastSrx   : Option Nat
  /-- The step that the entry to P5 has reached: 1 an OTP command runs on (R452), 2 the gates close and the limits ramp down,
  3 the islands close; 0 where none is asked for (R367). -/
  offStage  : Nat
  deriving DecidableEq, Repr, Inhabited

/-- The thermal unit and Click (11). Temperatures are codes of 0.25 degrees from -64 (R372). -/
structure Thm where
  sample    : Tab Nat
  /-- Model value in 1/65,536 of a code. -/
  model     : Tab Int
  suspect   : Word
  invalid   : Word
  badRun    : Tab Nat
  lowRun    : Tab Nat
  base      : Tab Nat
  /-- Sources (0 to 31 tiers, 32 + k base sensors) that hold warning and throttle (R377). -/
  warn      : List Nat
  throt     : List Nat
  /-- Sensors that have given their first sample since the reset (R376). -/
  seen      : List Nat
  /-- The highest of those first samples. -/
  firstTop  : Nat
  converge  : Nat
  modelUp   : Bool
  graceAt   : Option Nat
  graceLen  : Nat
  enforced  : Bool
  clicks    : Byte
  clickTime : Word
  clickAt   : List Int
  hold      : Bool
  noRestart : Bool
  latchAt   : Nat
  hotSrc    : Nat
  deriving DecidableEq, Repr, Inhabited

/-- Codes and eye widths of one channel that wait to be latched (R384). -/
structure ChanCodes where
  ch    : BitVec 5
  rd    : Nat
  wr    : Nat
  eyeRd : Byte
  eyeWr : Byte
  deriving DecidableEq, Repr, Inhabited

/-- What an item's round computed and the next node-epoch boundary latches (R383, R384): a lane's eye and the move of its sampler
phase in 1/256 UI. -/
structure CalLatch where
  chans : List ChanCodes
  lanes : List (BitVec 3 × Byte × Int)
  offs  : List Byte
  /-- The time of the measurement and the item's temperature then (R385). -/
  time  : Nat
  temp  : Nat
  deriving DecidableEq, Repr, Inhabited

/-- The calibration unit (11). -/
structure Cal where
  /-- Items due: 0 to 31 tiers, 32 + n ports. -/
  due      : List Nat
  running  : List Nat
  pend     : List (CalItem × CalLatch)
  ref      : Tab Nat
  rounds   : BitVec 16
  now_     : Bool
  offs     : Tab Byte
  /-- Offset trims of the base-die sensors, 128 being mid-scale (R384, R436, R441) (log 138). -/
  trims    : Tab Byte
  /-- Time and temperature code of the last eye measurement of each log entry (R385). -/
  eyeTime  : Tab (Nat × Nat)
  /-- Probes of the rounds in progress still to issue, by channel: read codes and write codes (R383). -/
  probes   : Tab (Nat × Nat)
  deriving DecidableEq, Repr, Inhabited

/-! ## OTP, BIST, security, debug -/

/-- An OTP command in progress (R450, R452). -/
structure OtpCmd where
  lock   : Bool
  region : BitVec 2
  addr   : BitVec 12
  data   : Word
  /-- Words still to program after this one: address and data. -/
  rest   : List (BitVec 12 × Word)
  /-- What asked for it: 0 a register write, 1 KEYGEN, 2 a counter step, 3 a REPAIR append, 4 a retirement append, 5 a
  revocation, 6 a lifecycle transition. -/
  why    : Nat
  /-- The command or channel it serves. -/
  who    : Nat
  deriving DecidableEq, Repr, Inhabited

/-- The OTP controller (14). -/
structure Otp where
  normal   : Tab (BitVec 39)
  strict   : Tab (BitVec 39)
  shadow   : Tab Word
  marginal : Tab Bool
  bad      : Tab Bool
  /-- Words not blank at either margin. -/
  used     : Tab Bool
  corrected : Nat
  uncorr   : Nat
  sensed   : Bool
  busy     : Option OtpCmd
  /-- Commands of the Hive core and of the security engine that wait for BUSY. -/
  queue    : List OtpCmd
  /-- Tick from which the VQPS that the Hive core switched on for its command may pulse; none before (R451, R535). -/
  pulseAt  : Option Nat
  locked   : Bool
  err      : BitVec 3
  trusted  : BitVec 4
  lockedReg : BitVec 4
  deriving DecidableEq, Repr, Inhabited

/-- One entry of the self-test report (R467). -/
structure BstResult where
  result   : Byte
  count    : Word
  sign     : Word
  expect   : Word
  cover    : BitVec 16
  duration : Word
  endAt    : BitVec 64
  deriving DecidableEq, Repr, Inhabited

/-- Where the retention step of a stack test stands (R466): the bank, the tick in which its first row was written (none: it
waits for the temperatures), rows written and read back, and the step at which the tester's stack fails (0: none). -/
structure RetainRun where
  /-- The Hive core has done steps 1 to 5 (R26, R465). -/
  begun   : Bool
  bank    : Nat
  at_     : Option Nat
  written : Nat
  read    : Nat
  fail    : BitVec 4
  deriving DecidableEq, Repr, Inhabited

/-- The BIST controller (15). -/
structure Bst where
  state     : BitVec 2
  part      : Nat
  todo      : List Nat
  /-- Patterns applied to the partition in progress and its start tick. -/
  applied   : Nat
  startAt   : Nat
  /-- When the last segment of the partition ended (R467). -/
  lastEnd   : Nat
  /-- PATTERNS and PART_EN as they stood when the run started. -/
  patterns  : Nat
  misr      : Word
  /-- State of the pattern generator of the run (R457). -/
  lfsr      : Word
  inSegment : Bool
  stopReq   : Bool
  lastStart : Nat
  due       : Bool
  logicFail : Byte
  scrap     : Bool
  scrapStep : BitVec 4
  /-- The retention step of a stack test in progress (R466). -/
  retain    : Option RetainRun
  memFail   : BitVec 16
  memDone   : BitVec 16
  results   : Tab BstResult
  deriving DecidableEq, Repr, Inhabited

/-- The security engine (16). -/
structure Sec where
  /-- Key slots that hold a key: K1 then K2, 64 bytes (R480). -/
  slots    : Tab (List Byte)
  /-- Slots that count as empty for later fetches, and the fetch number from which (R228). -/
  erasing  : List (Nat × Nat)
  kwk      : Option (List Byte)
  err      : BitVec 3
  /-- Action in progress: 0 none, 1 KEYGEN, 2 KX_SET, 3 REVOKE, 4 LIFE_ADV. -/
  busy     : Nat
  target   : BitVec 2
  boot     : BitVec 3
  isolated : Bool
  deriving DecidableEq, Repr, Inhabited

/-- Debug and the TAP (16, 20). -/
structure Dbg where
  level     : BitVec 2
  max       : BitVec 2
  fails     : BitVec 2
  lockout   : Bool
  sessions  : BitVec 16
  /-- Level asked for while a token is checked or slots are erased. -/
  checking  : Option (BitVec 2)
  erasing   : Bool
  chal      : Tab Word
  token     : Tab Word
  /-- Microseconds left of the session; none: until ended (R487). -/
  left      : Option Nat
  /-- The number that an erasure for the request checked now takes: commands fetched before it keep their keys (R488). -/
  reqId     : Nat
  /-- What the check of a token in progress will find, and the session length its token gives. -/
  chkOk     : Bool
  chkDur    : Nat
  /-- Instruction in force in the TAP, and the boundary-scan register (R569). -/
  ir        : TapInstr
  cells     : BitVec 17
  deriving DecidableEq, Repr, Inhabited

/-! ## Faults, two-wire -/

/-- A fault-history entry (R501). -/
structure FltEntry where
  time     : BitVec 64
  seq      : BitVec 16
  source   : Byte
  cls      : Byte
  react    : Byte
  shadowed : Bool
  same     : Bool
  injected : Bool
  safe     : Bool
  count    : BitVec 16
  detail   : BitVec 64
  deriving DecidableEq, Repr, Inhabited

/-- The snapshot of R502. -/
structure FltSnap where
  status : BitVec 96
  seq    : BitVec 16
  first  : Word
  hist   : List FltEntry
  deriving DecidableEq, Repr, Inhabited

/-- The fault collector (17). -/
structure Flt where
  /-- Lines raised and not yet sampled, at most one per source (R493). -/
  lines   : List FaultLine
  status  : BitVec 96
  /-- Class and sequence number of each source's last event. -/
  last    : Tab (Nat × BitVec 16)
  counts  : Tab Nat
  /-- Start tick of a running window (R497). -/
  window  : Tab (Option Nat)
  hist    : List FltEntry
  next    : BitVec 16
  /-- Entries made since power-on reset, unwrapped (R503). -/
  made    : Nat
  first   : Word
  lost    : BitVec 16
  shadowN : BitVec 16
  /-- Shadows: source masked, and the block reset (or 0x100 for a die reset) it comes from (R509). -/
  shadows : List (Nat × Nat)
  snap    : FltSnap
  /-- The parity of a collector register, and that of the history, no longer fits (R514, R515). -/
  unfit   : Bool
  histOdd : Bool
  deriving DecidableEq, Repr, Inhabited

/-- What the two-wire target is receiving (R524 to R529). -/
inductive TwPhase where
  | idle
  | readFirst
  | ptrHi
  | ptrLo
  | data
  | reading
  | ignore
  deriving DecidableEq, Repr, Inhabited

/-- The two-wire interface (18). -/
structure Tw where
  strap    : BitVec 3
  phase    : TwPhase
  pointer  : BitVec 16
  loaded   : BitVec 16
  pending  : List Byte
  refused  : Nat
  firstBad : BitVec 16
  latched  : Word
  busBusy  : Bool
  busy     : Bool
  result   : BitVec 3
  doneN    : Nat
  /-- Bytes to write and to read of the transaction, as GO found them (R540). -/
  asked    : Nat × Nat
  losses   : Nat
  recover  : Bool
  /-- Who started the transaction: false a register write, true the boot code's image read (R533). -/
  bootRead : Bool
  /-- Switchings of VQPS that wait for the controller, and the one it is writing: true on, false off (R535). -/
  vqpsQ    : List Bool
  vqps     : Option Bool
  sdaTo    : Byte
  discards : Byte
  arbLost  : Byte
  busErrs  : Byte
  timeouts : Byte
  recovers : Byte
  deriving DecidableEq, Repr, Inhabited

/-! ## The state -/

/-- The whole block. -/
structure State where
  die  : Die
  regs : Regs
  tim  : Tim
  clk  : Clk
  bud  : Bud
  qos  : Qos
  rng  : Rng
  lnk  : Lnk
  tch  : Tch
  pcd  : Pcd
  scb  : Scb
  pwr  : Pwr
  thm  : Thm
  cal  : Cal
  otp  : Otp
  bst  : Bst
  sec  : Sec
  dbg  : Dbg
  flt  : Flt
  tw   : Tw
  /-- What the die has sent, oldest first: the model's own field (log 2). -/
  out  : List Out
  /-- How many free values have been drawn: the model's own field (log 4). -/
  free : Nat
  /-- The commands that wait, first in, first out: the model's own field. -/
  pending : List Instr
  deriving DecidableEq, Repr, Inhabited

/-- No command of this block stops with a fault: the spec gives every row its effect. -/
inductive Fault where
  deriving DecidableEq, Repr

/-- No meaning answers a refusal; the one constructor marks an arm that has no meaning yet. -/
inductive Refusal where
  /-- The dispatcher raises it for a command whose meaning is not written; safe. -/
  | notModelled (mnemonic : String)
  deriving DecidableEq, Repr

/-! ## The state right after reset

A power-on reset that stands with PORST_N low (R414): no fuse read, no image, every gate closed, no clock judged.
Values the spec does not give are named in logs 11 and 12. -/

/-- One value for every class. -/
def ByClass.all {α : Type} (x : α) : ByClass α := ⟨x, x, x, x, x, x, x, x⟩

/-- A descriptor of zeros. -/
def Desc.zeros : Desc :=
  { opcode := 0, fence := false, urgent := false, dmode := 0, raw := false, tcSet := false, tc := 0, keySet := false, key := 0,
    zero0 := 0, cid := 0, gen := 0, lbn := 0, zero1 := 0, nblk := 0, gstart := 0, gend := 0, zero2 := 0, addr := 0, addr2 := 0,
    opnd0 := 0, opnd1 := 0, owner := 0, opnd2 := 0, opnd3 := 0, opnd4 := 0, zero3 := 0 }

/-- Counters of a result record at zero. -/
def Tally.zero : Tally :=
  { examined := 0, clean := 0, corrected := 0, bits := 0, uncorr := 0, integrity := 0, marked := 0, skipped := 0, maxCorr := 0 }

/-- An empty gathering buffer. -/
def BlockBuf.empty : BlockBuf := { waits := [], parts := [], bad := false, plain := none, rdLeft := 0, side1 := none, side2 := none, rdFail := none, sent := none }

/-- Default ceilings in quarters of a nanosecond (R61): what a channel's classes hold before their first epoch boundary. -/
def ceilingsQ : ByClass Int :=
  { host := 4096000, nmo := 4096000, scarab := 256000, maint := 0, bist := 128000, cal := 64000, train := 1024000, repair := 256000 }

/-- A channel that has never been trained (R121). -/
def Chan.init : Chan :=
  { st := .untrained, retired := false, trained := false, ever := false, caCode := 32, rdCode := 0, wrCode := 0, eyeRd := 0, eyeWr := 0,
    fails := 0, sweep := none, queue := [], ringq := [], active := [], dec := [], debt := 0, bank := 0, dueCount := 0, forced := false,
    weevil := [], floorF := 0, nrefQ := [], frzCause := 0, frzCmd := 0, words := [], resume := false, discard := false,
    retrain := false, parWait := false, alertN := 0, alertAge := 0, uncWait := none, caTrn := true, freqChg := false, remain := ceilingsQ, carry := .all 0, charged := .all 0, place := false, resv := false,
    busyTo := 0, dueAt := 0,
    lim := [], done := 0, wakeAt := none, fmt := { region := 0, idx := 0, fin := [] } }

/-- A tier whose gates are closed. -/
def Tier.init : Tier :=
  { open_ := false, good := false, failed := false, trstLow := false, trstAt := 0, accepted := false, awaitId := false,
    ident := { vendor := 0, rev := 0, geom := 0, dist := 0, serial := 0 }, freqNow := 0, changing := false, freqTo := 0, freqNext := none, selfRef := false,
    pwrDown := false, mult := 0, hot := false, season := 0, acceptedM := 0, trial := 0, hold := 0, passBad := false,
    passMult := false, ended := [], wake := false, wakeK := 0, wakeT := 0, wakeBad := false, wakeJudge := false, usedMult := 0, nAct := 0,
    nRd := 0, nWr := 0, nRef := 0 }

/-- A lane before any bring-up. -/
def Lane.init : Lane :=
  { eye := 0, locked := false, enabled := false, inverted := false, errs := 0, errsLast := 0, errAt := [], skew := 0, passed := false,
    aligned := false, eyeDone := false, phase := 0, shift := 0, trim := 128, rxPlus := false }

/-- A port in DOWN. -/
def Port.init : Port :=
  { st := .down, rate := 0, lanes := 0, laneTab := [], rateCap := 6, chosen := 0, offer := 0, runLen := 0, runSet := none,
    cfgTs2 := false, tsSent := 0, runFull := false, myTag := 0, lastTag := 0, phaseAt := 0, recAt := 0, myMin := 4, pRole := 0, pNfts := 0, pMin := 0, pLanesOk := 0, pRates := 0,
    fbIdle := false, recStep := .laneTrain, recPend := false, retPend := false, svcTx := 0, svcRx := 0, bulkTx := 0, bulkRx := 0,
    downs := 0, recoveries := 0, fallbacks := 0, isolated := false, stamps := [], sentAt := 0, lastTs2 := none, echoed := none, turnWait := false, delay := 0,
    dvalid := false, txq := [], lastSrc := 4, replay := [], nextTx := 0, nextRcv := 0, consumed := [], limit := [], freed := [], freedSent := [],
    ackOwed := 0, ackDue := 0, nakSent := false, replays := 0, replayDue := 0, nakDue := 0, cut := false, elastic := 0, crcErrs := 0, naksSent := 0, replaysC := 0, malformed := 0 }

/-- A submission ring at its reset values: DISABLED, GEN 1 (R167). -/
def SqCtx.init : SqCtx :=
  { st := .disabled, err := 0, head := 0, tail := 0, gen := 1, out := 0, fetch := [], usedAt := none, fill := 0, panic := false,
    miss := 0 }

/-- A completion ring at its reset values (R168). -/
def CqCtx.init : CqCtx :=
  { st := .disabled, head := 0, accepted := 0, tail := 0, phase := false, reserved := 0, held := [], unNote := 0, oldest := none }

/-- A closed recode window. -/
def Window.closed : Window := { open_ := false, region := 0, old := 0, new := 0, pointer := 0, mask := [] }

/-- A self-test report entry of a partition never run. -/
def BstResult.none : BstResult :=
  { result := 0, count := 0, sign := 0, expect := 0, cover := 0, duration := 0, endAt := 0 }

/-- An empty snapshot of the fault registers. -/
def FltSnap.empty : FltSnap := { status := 0, seq := 0, first := 0, hist := [] }

def Die.init : Die :=
  { mode := .porstLow, kind := .powerOn, resetLow := false, rcReady := false, mgmt := false, hiveRun := false, hiveHalted := false,
    dataService := false, lastLevel := 0, cause := 0, tierRetained := false, imageKept := false, wasSafe := false, warmCount := 0,
    hardCount := 0, retain := 0, relaxed := 0, goodAtCause := 0, markUs := 0, mark0 := 0, mark1 := 0, mark2 := 0, blockBusy := [], blockPend := [], resets := 0,
    ballastCore := 0, ballastT := 0, uvLnk := false, uvIo := false, uvT := false, uvPp := false, faultHold := false, image := [],
    imageRead := false, imageAt := 0, imageOk := false, hiveMem := [] }

def Regs.init : Regs :=
  { cfg := [], par := [], late := [], indHive := ⟨0, 1⟩, indCfg := ⟨0, 1⟩, indTw := ⟨0, 1⟩, indJtag := ⟨0, 1⟩, clampLog := [], clampNext := 0,
    clampNew := false, clampLost := 0 }

def Tim.init : Tim :=
  { count := 0, held := true, slew := 0, lastChanged := false, orphan := true, everLocked := false, locked := false, prevDiff := none,
    lastSetAt := 0, epochStart := 0, epochEnd := 1024, epochNum := 0, irreg := false, lastIrreg := false, step := 0 }

def Clk.init : Clk :=
  { xtalGood := false, xtalEver := false, onRc := true, hiveOnRc := true, fabA := false, fabB := false, laneLock := 0, tierLock := 0,
    forced := 0, xtalFails := 0, tripped := [], parked := false, back := 0 }

def Bud.init : Bud :=
  { used := .all 0, usedSnap := .all 0, overQ := 0, overSnap := 0, ballast := 0, ballastSnap := 0, limCh := 0, limCl := 0,
    throttled := false, capRaised := false, lastCh := 0, lastCl := 0 }

def Qos.init : Qos :=
  { bytes := [], bytesSnap := [], short := [], applied := [], scale := 4096, pool := 0, stale := false, guar := 0, causes := 0, report := [],
    repSeq := 0, missTotal := 0, missForced := 0, lastStep := 0, poolFree := 1024 }

def Rng.init : Rng :=
  { sqs := [], cqs := [], cmds := [], nextId := 0, nextAge := 0, mrds := [], mrdQ := [], nextTag := 0, remembered := [], evSeq := 0, evLost := 0,
    evTotal := 0, held := [], dblDrop := 0, integ := [], integSeq := 0, cntInteg := 0, cntCrc := 0, cntAmend := 0, cntRetr := 0,
    cntGen := 0, lastSq := 0, lastStrm := 0 }

def Lnk.init : Lnk :=
  { ports := [], id := 0, valid := false, upPort := 0, depth := 0, unroutable := 0, lateCpl := 0, badMsg := 0, parked := [] }

def Tch.init : Tch := { tiers := [], chans := [], subs := [], group := 0, groupRun := false, nref := 0, nrefSnap := 0 }

def Pcd.init : Pcd :=
  { store := [], rdy := [], gen := 0, genUnseeded := false, windows := [], merge := [], corr := 0, bits := 0, ue := 0, corrSnap := 0,
    bitsSnap := 0, ueSnap := 0, codecOut := 0 }

def Scb.init : Scb := { passStart := 0, pass := 0, running := false, log := [], logDrop := 0, behind := false }

def Pwr.init : Pwr :=
  { state := 0, cause := 0, exiting := false, exitCause := 0, restart := [], restartAt := none, idleSince := 0, history := [], histSeq := 0,
    keysKept := false, wakeLow := false, wakeLeft := 0, p4Since := 0, p4Stay := 0, openQ := [], opening := none, closeQ := [], lastOpen := none,
    gateA := false, gateB := false, lastClose := none, isleTo := 0, grants := [], us := 0, isleWait := false, lastSrx := none, offStage := 0 }

def Thm.init : Thm :=
  { sample := [], model := [], suspect := 0, invalid := 0, badRun := [], lowRun := [], base := [], warn := [], throt := [], seen := [], firstTop := 0,
    converge := 64, modelUp := false, graceAt := none, graceLen := 0, enforced := false, clicks := 0, clickTime := 0, clickAt := [],
    hold := false, noRestart := false, latchAt := 0, hotSrc := 0 }

def Cal.init : Cal :=
  { due := [], running := [], pend := [], ref := [], rounds := 0, now_ := false, offs := [], trims := [], eyeTime := [], probes := [] }

def Otp.init : Otp :=
  { normal := [], strict := [], shadow := [], marginal := [], bad := [], used := [], corrected := 0, uncorr := 0, sensed := false,
    busy := none, queue := [], pulseAt := none, locked := false, err := 0, trusted := 0, lockedReg := 0 }

def Bst.init : Bst :=
  { state := 0, part := 0, todo := [], applied := 0, startAt := 0, lastEnd := 0, patterns := 0, misr := 0, lfsr := 0, inSegment := false, stopReq := false,
    lastStart := 0, due := false, logicFail := 0, scrap := false, scrapStep := 0, retain := none, memFail := 0, memDone := 0, results := [] }

def Sec.init : Sec :=
  { slots := [], erasing := [], kwk := none, err := 0, busy := 0, target := 0, boot := 0, isolated := false }

def Dbg.init : Dbg :=
  { level := 0, max := 0, fails := 0, lockout := false, sessions := 0, checking := none, erasing := false, chal := [], token := [],
    left := none, reqId := 0, chkOk := false, chkDur := 0, ir := .idcode, cells := 0 }

def Flt.init : Flt :=
  { lines := [], status := 0, last := [], counts := [], window := [], hist := [], next := 0, made := 0, first := 0, lost := 0,
    shadowN := 0, shadows := [], snap := .empty, unfit := false, histOdd := false }

def Tw.init : Tw :=
  { strap := 0, phase := .idle, pointer := 0, loaded := 0, pending := [], refused := 0, firstBad := 0, latched := 0, busBusy := false,
    busy := false, result := 0, doneN := 0, asked := (0, 0), losses := 0, recover := false, bootRead := false, vqpsQ := [], vqps := none, sdaTo := 0, discards := 0, arbLost := 0,
    busErrs := 0, timeouts := 0, recovers := 0 }

/-- The machine right after reset. -/
def State.reset : State :=
  { die := .init, regs := .init, tim := .init, clk := .init, bud := .init, qos := .init, rng := .init, lnk := .init, tch := .init,
    pcd := .init, scb := .init, pwr := .init, thm := .init, cal := .init, otp := .init, bst := .init, sec := .init, dbg := .init,
    flt := .init, tw := .init, out := [], free := 0, pending := [] }

end Sys2Proof.Machine
end

