-- ==== Sys2Proof/Machine/Tab.lean ====
section
/-! DEFINITION. Sparse tables in one canonical form: rising keys, and no listed value equal to the default, so that
equal tables are equal data. The caller gives the default, which an unlisted key reads as. -/

namespace Sys2Proof.Machine

variable {α : Type}

/-- The value at a key. -/
def Tab.get (d : α) : Tab α → Nat → α
  | [], _ => d
  | (k, v) :: t, i => if i < k then d else if i = k then v else Tab.get d t i

/-- Writes the value at a key; writing the default removes the entry. -/
def Tab.set [DecidableEq α] (d : α) : Tab α → Nat → α → Tab α
  | [], i, x => if x = d then [] else [(i, x)]
  | (k, v) :: t, i, x =>
    if i < k then (if x = d then (k, v) :: t else (i, x) :: (k, v) :: t)
    else if i = k then (if x = d then t else (i, x) :: t)
    else (k, v) :: Tab.set d t i x

/-- Rewrites the value at a key. -/
def Tab.upd [DecidableEq α] (d : α) (t : Tab α) (i : Nat) (f : α → α) : Tab α :=
  Tab.set d t i (f (Tab.get d t i))

/-- Every key is at least this one, keys rise, and no value is the default. -/
def Tab.wfFrom [DecidableEq α] (d : α) : Nat → Tab α → Bool
  | _, [] => true
  | n, (k, v) :: t => decide (n ≤ k) && decide (v ≠ d) && Tab.wfFrom d (k + 1) t

/-- The canonical form. -/
def Tab.wf [DecidableEq α] (d : α) (t : Tab α) : Bool := Tab.wfFrom d 0 t

/-- Rewrites the listed values; an unlisted key reads as the new default. -/
def Tab.mapVals [DecidableEq α] (d : α) (f : Nat → α → α) (t : Tab α) : Tab α :=
  (t.map fun e => (e.1, f e.1 e.2)).filter fun e => decide (e.2 ≠ d)

/-- Keeps the entries whose key passes. -/
def Tab.keep (p : Nat → Bool) (t : Tab α) : Tab α := t.filter fun e => p e.1

/-- Writes the values of a list at consecutive keys. -/
def Tab.setList [DecidableEq α] (d : α) (t : Tab α) (i : Nat) : List α → Tab α
  | [] => t
  | x :: xs => Tab.setList d (Tab.set d t i x) (i + 1) xs

/-- The values at `n` consecutive keys. -/
def Tab.getList (d : α) (t : Tab α) (i n : Nat) : List α := (List.range n).map fun k => Tab.get d t (i + k)

end Sys2Proof.Machine
end

