-- ==== Sys2Proof/Machine/Bits.lean ====
section
/-! DEFINITION. Bit fields, byte order and check values: the helpers every other file uses. -/

namespace Sys2Proof.Machine

/-- The field of `wd` bits from bit `lo`. -/
def fieldOf (w : Word) (lo wd : Nat) : Nat := w.toNat / 2 ^ lo % 2 ^ wd

/-- One bit. -/
def bitOf (w : Word) (i : Nat) : Bool := w.getLsbD i

/-- A value placed at bit `lo`, held to `wd` bits. -/
def placed (v lo wd : Nat) : Nat := v % 2 ^ wd * 2 ^ lo

/-- Rewrites the field of `wd` bits from bit `lo`. -/
def withField (w : Word) (lo wd v : Nat) : Word :=
  BitVec.ofNat 32 (w.toNat - placed (fieldOf w lo wd) lo wd + placed v lo wd)

/-- A word from fields that do not overlap: value, lowest bit, width. -/
def packed (fs : List (Nat × Nat × Nat)) : Word :=
  BitVec.ofNat 32 (fs.foldl (fun a f => a + placed f.1 f.2.1 f.2.2) 0)

/-- 1 for true. -/
def oneIf (b : Bool) : Nat := if b then 1 else 0

/-- A word from a bit of each index. -/
def wordOf (p : Nat → Bool) : Word :=
  BitVec.ofNat 32 ((List.range 32).foldl (fun a i => a + oneIf (p i) * 2 ^ i) 0)

/-- Adds to a counter that stops at `top`. -/
def satAdd (top a b : Nat) : Nat := min top (a + b)

/-- Adds to a bit-vector counter that stops at its largest value. -/
def satInc {w : Nat} (x : BitVec w) (b : Nat) : BitVec w := BitVec.ofNat w (min (2 ^ w - 1) (x.toNat + b))

/-- Ceiling of a quotient. -/
def ceilDiv (a b : Nat) : Nat := (a + b - 1) / b

/-- The `n` bytes of a value, least significant first. -/
def leBytes : Nat → Nat → List Byte
  | 0, _ => []
  | n + 1, v => BitVec.ofNat 8 v :: leBytes n (v / 256)

/-- The value of bytes, least significant first. -/
def leVal : List Byte → Nat
  | [] => 0
  | b :: t => b.toNat + 256 * leVal t

/-- The `n` bytes of a value, most significant first. -/
def beBytes (n v : Nat) : List Byte := (leBytes n v).reverse

/-- The value of bytes, most significant first. -/
def beVal (l : List Byte) : Nat := leVal l.reverse

/-- The bytes of words, each least significant byte first. -/
def wordsBytes : List Word → List Byte
  | [] => []
  | w :: t => leBytes 4 w.toNat ++ wordsBytes t

/-- Words from bytes, each least significant byte first. -/
def bytesWords : List Byte → List Word
  | a :: b :: c :: d :: t => BitVec.ofNat 32 (leVal [a, b, c, d]) :: bytesWords t
  | [] => []
  | l => [BitVec.ofNat 32 (leVal l)]

/-- A list cut into pieces of `n`; `fuel` bounds the number of pieces. -/
def chunksOf {α : Type} (n : Nat) : Nat → List α → List (List α)
  | 0, _ => []
  | fuel + 1, l => if l.isEmpty then [] else l.take n :: chunksOf n fuel (l.drop n)

/-- Pads with zero bytes up to a length, and cuts beyond it. -/
def padTo (n : Nat) (l : List Byte) : List Byte := (l ++ List.replicate (n - l.length) 0).take n

/-- One bit-serial step of a reflected CRC. -/
def crcStep {w : Nat} (poly r : BitVec w) : BitVec w :=
  if r.getLsbD 0 then (r >>> 1) ^^^ poly else r >>> 1

/-- One byte of a reflected CRC. -/
def crcByte {w : Nat} (poly r : BitVec w) (b : Byte) : BitVec w :=
  (List.range 8).foldl (fun x _ => crcStep poly x) (r ^^^ b.setWidth w)

/-- A reflected CRC with the register started and inverted at all ones. -/
def crcReflected {w : Nat} (poly : BitVec w) (l : List Byte) : BitVec w :=
  ~~~ (l.foldl (crcByte poly) (BitVec.allOnes w))

/-- Parity: the count of ones is odd. -/
def oddOnes {w : Nat} (x : BitVec w) : Bool := (List.range w).foldl (fun a i => a ^^ x.getLsbD i) false

/-- A list without repeats, rising, with one more number. -/
def insertSorted (x : Nat) : List Nat → List Nat
  | [] => [x]
  | y :: t => if x < y then x :: y :: t else if x = y then y :: t else y :: insertSorted x t

/-- Largest of a list; 0 for the empty one. -/
def maxOf (l : List Nat) : Nat := l.foldl max 0

end Sys2Proof.Machine
end

