-- ==== Sys2Proof/Machine/RegMap.lean ====
section
/-! DEFINITION. The map of the register space (R545, R549): every register's name, where it lies, and which of its
fields a write can reach, with type, reset value and clamp. Fields that only the die writes stand in the read views. -/

namespace Sys2Proof.Machine

/-- The registers, an instanced one under one name. -/
inductive RegName where
  | rstService
  | rstCtl
  | rstBlock
  | rstStat
  | rstRetain
  | rstRelaxed
  | rstMark0
  | rstMark1
  | rstMark2
  | indAddr
  | indCtl
  | indWin
  | timCfg
  | timStat
  | timNowLo
  | timNowHi
  | timEpoch
  | timStep
  | clkDiv
  | clkStat
  | clkTpll
  | clkXcnt
  | clampStat
  | clampAck
  | clampLog
  | pwrCfg
  | pwrRing
  | pwrLatTol
  | pwrCicada
  | pwrCtl
  | pwrStat
  | pwrTierGate
  | pwrTierStat
  | pwrTierFail
  | pwrRailStat
  | calCfg
  | calCtl
  | calStat
  | calSoff
  | thmCfg
  | thmLimit
  | thmThrot
  | thmClick
  | thmClickTime
  | thmRetrust
  | thmStat
  | thmEcoef
  | thmS
  | thmT
  | thmCoef
  | budCap
  | budCapMin
  | budPwr0
  | budPwr1
  | budLimit
  | budSlew
  | budStat
  | budMaintOver
  | budBallast
  | budClass
  | budUsed
  | qosCfg
  | qosAdmStat
  | qosTc7Miss
  | qosStrmPool
  | qosTc
  | qosApp
  | qosBytes
  | qosShort
  | fltStat
  | fltSeq
  | fltAck
  | fltFirst
  | fltCfg
  | fltState
  | fltShadow
  | fltInject
  | otpCmd
  | otpAddr
  | otpWdata
  | otpStat
  | otpEcc
  | otpCnt0
  | otpCnt1
  | bstCfg
  | bstCtl
  | bstStat
  | bstMemfail
  | secCtl
  | secStat
  | secBoot
  | secImage
  | dbgReq
  | dbgStat
  | twCfg
  | twCcmd
  | twCres
  | twStat
  | twCnt
  | twCbuf
  | nmoStat
  | lnkCfg
  | lnkNode
  | lnkDrop
  | lnkPhy0
  | lnkPhy1
  | lnkCtl
  | lnkStat
  | lnkCnt
  | lnkRange
  | lnkLlc
  | lnkTime
  | lnkTadj
  | lnkSeq
  | lnkRepl
  | lnkErr
  | lnkLane
  | rngEvtCq
  | rngEvtSeq
  | rngEvtLost
  | rngDblDrop
  | rngStat
  | rngIcnt0
  | rngIcnt1
  | rngIcnt2
  | rngSqerr
  | rngCqerr
  | tchCfg
  | wvlCfg
  | wvlStat
  | tchTcfg
  | tchTstat
  | tchRetire
  | pcdIntlv
  | pcdGen
  | pcdMrg
  | pcdCntCorr
  | pcdCntBits
  | pcdCntUe
  | pcdStat
  | scbCfg
  | scbPace
  | scbPass
  | scbStat
  | scbLogDismiss
  | scbSeasonCfg
  | scbSeason
  | sqcW0
  | sqcW1
  | sqcW2
  | sqcW3
  | sqcW4
  | sqcW5
  | sqcW6
  | sqcW7
  | cqcW0
  | cqcW1
  | cqcW2
  | cqcW3
  | cqcW4
  | cqcW5
  | cqcW6
  | cqcW7
  | qosStrmW0
  | qosStrmW1
  | qosStrmW2
  | tchChstat
  | tchChctl
  | tchFrzCause
  | tchFrzCmd
  | qosLimW0
  | qosLimW1
  | qosLvl
  | pcdSmap
  | pcdRdy
  | pcdRcw
  | pcdRcp
  | scbLog
  | fltSrcW0
  | fltSrcW1
  | fltHist
  | secKxpub
  | secKslot
  | dbgChal
  | dbgToken
  | otpSh
  | otpMarginal
  | tchSub
  deriving DecidableEq, Repr, Inhabited

/-- Where a register lies: the space, the first address (direct: bytes; indirect: words), instances and stride. -/
structure Place where
  ind    : Bool
  base   : Nat
  count  : Nat
  stride : Nat
  deriving DecidableEq, Repr, Inhabited

/-- The two maps (R545, R549). -/
def regPlace : RegName → Place
  | .rstService => ⟨false, 0x0000, 1, 4⟩
  | .rstCtl => ⟨false, 0x0004, 1, 4⟩
  | .rstBlock => ⟨false, 0x0008, 1, 4⟩
  | .rstStat => ⟨false, 0x000C, 1, 4⟩
  | .rstRetain => ⟨false, 0x0010, 1, 4⟩
  | .rstRelaxed => ⟨false, 0x0014, 1, 4⟩
  | .rstMark0 => ⟨false, 0x0018, 1, 4⟩
  | .rstMark1 => ⟨false, 0x001C, 1, 4⟩
  | .rstMark2 => ⟨false, 0x0020, 1, 4⟩
  | .indAddr => ⟨false, 0x0100, 1, 4⟩
  | .indCtl => ⟨false, 0x0104, 1, 4⟩
  | .indWin => ⟨false, 0x0180, 32, 4⟩
  | .timCfg => ⟨false, 0x0200, 1, 4⟩
  | .timStat => ⟨false, 0x0204, 1, 4⟩
  | .timNowLo => ⟨false, 0x0208, 1, 4⟩
  | .timNowHi => ⟨false, 0x020C, 1, 4⟩
  | .timEpoch => ⟨false, 0x0210, 1, 4⟩
  | .timStep => ⟨false, 0x0214, 1, 4⟩
  | .clkDiv => ⟨false, 0x0300, 1, 4⟩
  | .clkStat => ⟨false, 0x0304, 1, 4⟩
  | .clkTpll => ⟨false, 0x0308, 1, 4⟩
  | .clkXcnt => ⟨false, 0x030C, 1, 4⟩
  | .clampStat => ⟨false, 0x0400, 1, 4⟩
  | .clampAck => ⟨false, 0x0404, 1, 4⟩
  | .clampLog => ⟨false, 0x0800, 256, 4⟩
  | .pwrCfg => ⟨false, 0x0C00, 1, 4⟩
  | .pwrRing => ⟨false, 0x0C04, 1, 4⟩
  | .pwrLatTol => ⟨false, 0x0C08, 1, 4⟩
  | .pwrCicada => ⟨false, 0x0C0C, 1, 4⟩
  | .pwrCtl => ⟨false, 0x0C10, 1, 4⟩
  | .pwrStat => ⟨false, 0x0C14, 1, 4⟩
  | .pwrTierGate => ⟨false, 0x0C18, 1, 4⟩
  | .pwrTierStat => ⟨false, 0x0C1C, 1, 4⟩
  | .pwrTierFail => ⟨false, 0x0C20, 1, 4⟩
  | .pwrRailStat => ⟨false, 0x0C24, 1, 4⟩
  | .calCfg => ⟨false, 0x0D00, 1, 4⟩
  | .calCtl => ⟨false, 0x0D04, 1, 4⟩
  | .calStat => ⟨false, 0x0D08, 1, 4⟩
  | .calSoff => ⟨false, 0x0D40, 16, 4⟩
  | .thmCfg => ⟨false, 0x0E00, 1, 4⟩
  | .thmLimit => ⟨false, 0x0E04, 1, 4⟩
  | .thmThrot => ⟨false, 0x0E08, 1, 4⟩
  | .thmClick => ⟨false, 0x0E0C, 1, 4⟩
  | .thmClickTime => ⟨false, 0x0E10, 1, 4⟩
  | .thmRetrust => ⟨false, 0x0E14, 1, 4⟩
  | .thmStat => ⟨false, 0x0E18, 1, 4⟩
  | .thmEcoef => ⟨false, 0x0E1C, 1, 4⟩
  | .thmS => ⟨false, 0x0E40, 16, 4⟩
  | .thmT => ⟨false, 0x0E80, 32, 4⟩
  | .thmCoef => ⟨false, 0x0F00, 32, 4⟩
  | .budCap => ⟨false, 0x1000, 1, 4⟩
  | .budCapMin => ⟨false, 0x1004, 1, 4⟩
  | .budPwr0 => ⟨false, 0x1008, 1, 4⟩
  | .budPwr1 => ⟨false, 0x100C, 1, 4⟩
  | .budLimit => ⟨false, 0x1010, 1, 4⟩
  | .budSlew => ⟨false, 0x1014, 1, 4⟩
  | .budStat => ⟨false, 0x1018, 1, 4⟩
  | .budMaintOver => ⟨false, 0x101C, 1, 4⟩
  | .budBallast => ⟨false, 0x1020, 1, 4⟩
  | .budClass => ⟨false, 0x1040, 8, 4⟩
  | .budUsed => ⟨false, 0x1060, 8, 4⟩
  | .qosCfg => ⟨false, 0x1100, 1, 4⟩
  | .qosAdmStat => ⟨false, 0x1104, 1, 4⟩
  | .qosTc7Miss => ⟨false, 0x1108, 1, 4⟩
  | .qosStrmPool => ⟨false, 0x110C, 1, 4⟩
  | .qosTc => ⟨false, 0x1120, 8, 4⟩
  | .qosApp => ⟨false, 0x1140, 8, 4⟩
  | .qosBytes => ⟨false, 0x1160, 8, 4⟩
  | .qosShort => ⟨false, 0x1180, 8, 4⟩
  | .fltStat => ⟨false, 0x1200, 4, 4⟩
  | .fltSeq => ⟨false, 0x1210, 1, 4⟩
  | .fltAck => ⟨false, 0x1214, 1, 4⟩
  | .fltFirst => ⟨false, 0x1218, 1, 4⟩
  | .fltCfg => ⟨false, 0x121C, 1, 4⟩
  | .fltState => ⟨false, 0x1220, 1, 4⟩
  | .fltShadow => ⟨false, 0x1224, 1, 4⟩
  | .fltInject => ⟨false, 0x1228, 1, 4⟩
  | .otpCmd => ⟨false, 0x1300, 1, 4⟩
  | .otpAddr => ⟨false, 0x1304, 1, 4⟩
  | .otpWdata => ⟨false, 0x1308, 1, 4⟩
  | .otpStat => ⟨false, 0x130C, 1, 4⟩
  | .otpEcc => ⟨false, 0x1310, 1, 4⟩
  | .otpCnt0 => ⟨false, 0x1314, 1, 4⟩
  | .otpCnt1 => ⟨false, 0x1318, 1, 4⟩
  | .bstCfg => ⟨false, 0x1400, 1, 4⟩
  | .bstCtl => ⟨false, 0x1404, 1, 4⟩
  | .bstStat => ⟨false, 0x1408, 1, 4⟩
  | .bstMemfail => ⟨false, 0x140C, 1, 4⟩
  | .secCtl => ⟨false, 0x1500, 1, 4⟩
  | .secStat => ⟨false, 0x1504, 1, 4⟩
  | .secBoot => ⟨false, 0x1508, 1, 4⟩
  | .secImage => ⟨false, 0x150C, 1, 4⟩
  | .dbgReq => ⟨false, 0x1600, 1, 4⟩
  | .dbgStat => ⟨false, 0x1604, 1, 4⟩
  | .twCfg => ⟨false, 0x1700, 1, 4⟩
  | .twCcmd => ⟨false, 0x1704, 1, 4⟩
  | .twCres => ⟨false, 0x1708, 1, 4⟩
  | .twStat => ⟨false, 0x170C, 1, 4⟩
  | .twCnt => ⟨false, 0x1710, 1, 4⟩
  | .twCbuf => ⟨false, 0x1720, 8, 4⟩
  | .nmoStat => ⟨false, 0x1800, 1, 4⟩
  | .lnkCfg => ⟨false, 0x2000, 1, 4⟩
  | .lnkNode => ⟨false, 0x2004, 1, 4⟩
  | .lnkDrop => ⟨false, 0x2008, 1, 4⟩
  | .lnkPhy0 => ⟨false, 0x2100, 4, 64⟩
  | .lnkPhy1 => ⟨false, 0x2104, 4, 64⟩
  | .lnkCtl => ⟨false, 0x2108, 4, 64⟩
  | .lnkStat => ⟨false, 0x210C, 4, 64⟩
  | .lnkCnt => ⟨false, 0x2110, 4, 64⟩
  | .lnkRange => ⟨false, 0x2114, 4, 64⟩
  | .lnkLlc => ⟨false, 0x2118, 4, 64⟩
  | .lnkTime => ⟨false, 0x211C, 4, 64⟩
  | .lnkTadj => ⟨false, 0x2120, 4, 64⟩
  | .lnkSeq => ⟨false, 0x2124, 4, 64⟩
  | .lnkRepl => ⟨false, 0x2128, 4, 64⟩
  | .lnkErr => ⟨false, 0x212C, 4, 64⟩
  | .lnkLane => ⟨false, 0x2200, 32, 4⟩
  | .rngEvtCq => ⟨false, 0x3000, 1, 4⟩
  | .rngEvtSeq => ⟨false, 0x3004, 1, 4⟩
  | .rngEvtLost => ⟨false, 0x3008, 1, 4⟩
  | .rngDblDrop => ⟨false, 0x300C, 1, 4⟩
  | .rngStat => ⟨false, 0x3010, 1, 4⟩
  | .rngIcnt0 => ⟨false, 0x3014, 1, 4⟩
  | .rngIcnt1 => ⟨false, 0x3018, 1, 4⟩
  | .rngIcnt2 => ⟨false, 0x301C, 1, 4⟩
  | .rngSqerr => ⟨false, 0x3200, 128, 4⟩
  | .rngCqerr => ⟨false, 0x3400, 128, 4⟩
  | .tchCfg => ⟨false, 0x4000, 1, 4⟩
  | .wvlCfg => ⟨false, 0x4004, 1, 4⟩
  | .wvlStat => ⟨false, 0x4008, 1, 4⟩
  | .tchTcfg => ⟨false, 0x4100, 32, 4⟩
  | .tchTstat => ⟨false, 0x4200, 32, 4⟩
  | .tchRetire => ⟨false, 0x4300, 32, 4⟩
  | .pcdIntlv => ⟨false, 0x5000, 1, 4⟩
  | .pcdGen => ⟨false, 0x5004, 1, 4⟩
  | .pcdMrg => ⟨false, 0x5008, 1, 4⟩
  | .pcdCntCorr => ⟨false, 0x500C, 1, 4⟩
  | .pcdCntBits => ⟨false, 0x5010, 1, 4⟩
  | .pcdCntUe => ⟨false, 0x5014, 1, 4⟩
  | .pcdStat => ⟨false, 0x5018, 1, 4⟩
  | .scbCfg => ⟨false, 0x5100, 1, 4⟩
  | .scbPace => ⟨false, 0x5104, 1, 4⟩
  | .scbPass => ⟨false, 0x5108, 1, 4⟩
  | .scbStat => ⟨false, 0x510C, 1, 4⟩
  | .scbLogDismiss => ⟨false, 0x5110, 1, 4⟩
  | .scbSeasonCfg => ⟨false, 0x5114, 1, 4⟩
  | .scbSeason => ⟨false, 0x5200, 32, 4⟩
  | .sqcW0 => ⟨true, 0x0, 4096, 8⟩
  | .sqcW1 => ⟨true, 0x1, 4096, 8⟩
  | .sqcW2 => ⟨true, 0x2, 4096, 8⟩
  | .sqcW3 => ⟨true, 0x3, 4096, 8⟩
  | .sqcW4 => ⟨true, 0x4, 4096, 8⟩
  | .sqcW5 => ⟨true, 0x5, 4096, 8⟩
  | .sqcW6 => ⟨true, 0x6, 4096, 8⟩
  | .sqcW7 => ⟨true, 0x7, 4096, 8⟩
  | .cqcW0 => ⟨true, 0x8000, 4096, 8⟩
  | .cqcW1 => ⟨true, 0x8001, 4096, 8⟩
  | .cqcW2 => ⟨true, 0x8002, 4096, 8⟩
  | .cqcW3 => ⟨true, 0x8003, 4096, 8⟩
  | .cqcW4 => ⟨true, 0x8004, 4096, 8⟩
  | .cqcW5 => ⟨true, 0x8005, 4096, 8⟩
  | .cqcW6 => ⟨true, 0x8006, 4096, 8⟩
  | .cqcW7 => ⟨true, 0x8007, 4096, 8⟩
  | .qosStrmW0 => ⟨true, 0x10000, 4096, 4⟩
  | .qosStrmW1 => ⟨true, 0x10001, 4096, 4⟩
  | .qosStrmW2 => ⟨true, 0x10002, 4096, 4⟩
  | .tchChstat => ⟨true, 0x14000, 1024, 4⟩
  | .tchChctl => ⟨true, 0x14001, 1024, 4⟩
  | .tchFrzCause => ⟨true, 0x14002, 1024, 4⟩
  | .tchFrzCmd => ⟨true, 0x14003, 1024, 4⟩
  | .qosLimW0 => ⟨true, 0x15000, 1024, 4⟩
  | .qosLimW1 => ⟨true, 0x15001, 1024, 4⟩
  | .qosLvl => ⟨true, 0x15002, 1024, 4⟩
  | .pcdSmap => ⟨true, 0x16000, 256, 1⟩
  | .pcdRdy => ⟨true, 0x16100, 256, 1⟩
  | .pcdRcw => ⟨true, 0x16200, 4, 2⟩
  | .pcdRcp => ⟨true, 0x16201, 4, 2⟩
  | .scbLog => ⟨true, 0x16300, 256, 1⟩
  | .fltSrcW0 => ⟨true, 0x16400, 96, 2⟩
  | .fltSrcW1 => ⟨true, 0x16401, 96, 2⟩
  | .fltHist => ⟨true, 0x16500, 128, 1⟩
  | .secKxpub => ⟨true, 0x16600, 24, 1⟩
  | .secKslot => ⟨true, 0x16640, 32, 1⟩
  | .dbgChal => ⟨true, 0x16680, 8, 1⟩
  | .dbgToken => ⟨true, 0x16700, 60, 1⟩
  | .otpSh => ⟨true, 0x17000, 4096, 1⟩
  | .otpMarginal => ⟨true, 0x18000, 128, 1⟩
  | .tchSub => ⟨true, 0x100000, 524288, 1⟩

/-- Part 1 of `directRegs`. -/
def directRegs1 : List RegName :=
  [.rstService, .rstCtl, .rstBlock, .rstStat, .rstRetain, .rstRelaxed, .rstMark0, .rstMark1, .rstMark2, .indAddr,
    .indCtl, .indWin, .timCfg, .timStat, .timNowLo, .timNowHi, .timEpoch, .timStep, .clkDiv, .clkStat,
    .clkTpll, .clkXcnt, .clampStat, .clampAck, .clampLog, .pwrCfg, .pwrRing, .pwrLatTol]

/-- Part 2 of `directRegs`. -/
def directRegs2 : List RegName :=
  [.pwrCicada, .pwrCtl, .pwrStat, .pwrTierGate, .pwrTierStat, .pwrTierFail, .pwrRailStat, .calCfg, .calCtl, .calStat,
    .calSoff, .thmCfg, .thmLimit, .thmThrot, .thmClick, .thmClickTime, .thmRetrust, .thmStat, .thmEcoef, .thmS,
    .thmT, .thmCoef, .budCap, .budCapMin, .budPwr0, .budPwr1, .budLimit, .budSlew]

/-- Part 3 of `directRegs`. -/
def directRegs3 : List RegName :=
  [.budStat, .budMaintOver, .budBallast, .budClass, .budUsed, .qosCfg, .qosAdmStat, .qosTc7Miss, .qosStrmPool, .qosTc,
    .qosApp, .qosBytes, .qosShort, .fltStat, .fltSeq, .fltAck, .fltFirst, .fltCfg, .fltState, .fltShadow,
    .fltInject, .otpCmd, .otpAddr, .otpWdata, .otpStat, .otpEcc, .otpCnt0, .otpCnt1]

/-- Part 4 of `directRegs`. -/
def directRegs4 : List RegName :=
  [.bstCfg, .bstCtl, .bstStat, .bstMemfail, .secCtl, .secStat, .secBoot, .secImage, .dbgReq, .dbgStat,
    .twCfg, .twCcmd, .twCres, .twStat, .twCnt, .twCbuf, .nmoStat, .lnkCfg, .lnkNode, .lnkDrop,
    .lnkPhy0, .lnkPhy1, .lnkCtl, .lnkStat, .lnkCnt, .lnkRange, .lnkLlc, .lnkTime]

/-- Part 5 of `directRegs`. -/
def directRegs5 : List RegName :=
  [.lnkTadj, .lnkSeq, .lnkRepl, .lnkErr, .lnkLane, .rngEvtCq, .rngEvtSeq, .rngEvtLost, .rngDblDrop, .rngStat,
    .rngIcnt0, .rngIcnt1, .rngIcnt2, .rngSqerr, .rngCqerr, .tchCfg, .wvlCfg, .wvlStat, .tchTcfg, .tchTstat,
    .tchRetire, .pcdIntlv, .pcdGen, .pcdMrg, .pcdCntCorr, .pcdCntBits, .pcdCntUe, .pcdStat]

/-- Part 6 of `directRegs`. -/
def directRegs6 : List RegName :=
  [.scbCfg, .scbPace, .scbPass, .scbStat, .scbLogDismiss, .scbSeasonCfg, .scbSeason]

/-- The registers of the direct space. -/
def directRegs : List RegName :=
  directRegs1 ++ directRegs2 ++ directRegs3 ++ directRegs4 ++ directRegs5 ++ directRegs6

/-- Part 1 of `indirectRegs`. -/
def indirectRegs1 : List RegName :=
  [.sqcW0, .sqcW1, .sqcW2, .sqcW3, .sqcW4, .sqcW5, .sqcW6, .sqcW7, .cqcW0, .cqcW1,
    .cqcW2, .cqcW3, .cqcW4, .cqcW5, .cqcW6, .cqcW7, .qosStrmW0, .qosStrmW1, .qosStrmW2, .tchChstat,
    .tchChctl, .tchFrzCause, .tchFrzCmd, .qosLimW0, .qosLimW1, .qosLvl, .pcdSmap, .pcdRdy]

/-- Part 2 of `indirectRegs`. -/
def indirectRegs2 : List RegName :=
  [.pcdRcw, .pcdRcp, .scbLog, .fltSrcW0, .fltSrcW1, .fltHist, .secKxpub, .secKslot, .dbgChal, .dbgToken,
    .otpSh, .otpMarginal, .tchSub]

/-- The registers of the indirect space. -/
def indirectRegs : List RegName :=
  indirectRegs1 ++ indirectRegs2

/-- The instance of a register at an address, if it lies there. -/
def Place.instanceAt (p : Place) (a : Nat) : Option Nat :=
  if p.base ≤ a ∧ (a - p.base) % p.stride = 0 ∧ (a - p.base) / p.stride < p.count then
    some ((a - p.base) / p.stride) else none

/-- The register at an address of a list's space. -/
def locateIn (a : Nat) : List RegName → Option (RegName × Nat)
  | [] => none
  | n :: t =>
    match (regPlace n).instanceAt a with
    | some i => some (n, i)
    | none => locateIn a t

/-- The register at a direct byte address; the two low address bits name no register (R543). -/
def locateDirect (a : Nat) : Option (RegName × Nat) := locateIn (a / 4 * 4) directRegs

/-- The register at an indirect word index. -/
def locateIndirect (a : Nat) : Option (RegName × Nat) := locateIn a indirectRegs

/-- Address of an instance within its space. -/
def regAddr (n : RegName) (i : Nat) : Nat := (regPlace n).base + (regPlace n).stride * i

/-- Key of an instance in the store of register values. -/
def regKey (n : RegName) (i : Nat) : Nat :=
  if (regPlace n).ind then 0x10000 + regAddr n i else regAddr n i

/-- Types of a writable field (R12). -/
inductive FTyp where
  | rw
  | rwl
  | w1s
  | wo
  deriving DecidableEq, Repr, Inhabited

/-- Clamp of a field (R555): every value, a fixed range, or a rule of its own (bounds set by another field, another
register or the die, a forced bit, a write that is ignored). -/
inductive Clamp where
  | any
  | range (lo hi : Nat)
  | dyn
  deriving DecidableEq, Repr, Inhabited

/-- A field that a write can reach. -/
structure Field where
  lo    : Nat
  wd    : Nat
  typ   : FTyp
  rst   : Nat
  clamp : Clamp
  deriving DecidableEq, Repr, Inhabited

/-- Default of FLT_SRCk.W0 (R493): mode, class, reactions and thresholds. -/
structure SrcDefault where
  counting : Bool
  cls      : Nat
  maj      : Nat
  crit     : Nat
  thrMaj   : Nat
  thrCrit  : Nat
  winMs    : Nat
  deriving DecidableEq, Repr, Inhabited

/-- A source in three-class mode. -/
def threeClass (cls maj crit : Nat) : SrcDefault := ⟨false, cls, maj, crit, 1, 255, 1000⟩

/-- The defaults of R493. A source marked fixed keeps NONE in its reaction fields: no register changes what it does (log 41). -/
def srcDefault (k : Nat) : SrcDefault :=
  if k < 32 then threeClass 2 1 3
  else if k < 64 then ⟨true, 2, 2, 2, 4, 16, 1000⟩
  else if k < 68 then ⟨true, 2, 3, 2, 8, 32, 60000⟩
  else match k with
  | 68 => threeClass 2 3 5
  | 69 => threeClass 2 3 5
  | 70 => threeClass 2 3 2
  | 71 => threeClass 3 5 5
  | 72 => threeClass 1 3 3
  | 73 => threeClass 3 5 5
  | 74 => threeClass 3 6 6
  | 75 => threeClass 2 0 3
  | 76 => threeClass 1 0 3
  | 77 => threeClass 3 0 0
  | 78 => threeClass 2 4 5
  | 79 => threeClass 2 0 0
  | 80 => threeClass 3 0 0
  | 81 => threeClass 3 5 5
  | 82 => threeClass 2 0 0
  | 83 => threeClass 2 0 0
  | 84 => threeClass 2 3 4
  | 85 => threeClass 1 3 3
  | 86 => threeClass 1 0 0
  | 87 => threeClass 2 0 0
  | 88 => threeClass 2 0 0
  | 89 => threeClass 3 0 0
  | 90 => threeClass 1 0 0
  | 91 => threeClass 2 0 0
  | 92 => threeClass 3 6 6
  | 93 => threeClass 3 0 0
  | 94 => threeClass 2 0 0
  | _ => threeClass 1 0 0

/-- Default ceiling of an activity class, in µs (R61). -/
def ceilDefault (n : Nat) : Nat :=
  match n with
  | 0 => 1024 | 1 => 1024 | 2 => 64 | 4 => 32 | 5 => 16 | 6 => 256 | 7 => 64 | _ => 0

/-- Default floor of an activity class, in µs (R61). -/
def floorDefault (n : Nat) : Nat :=
  match n with
  | 2 => 2 | 3 => 64 | _ => 0

/-- The fields a write can reach, lowest first. -/
def regFields (n : RegName) (i : Nat) : List Field :=
  match n with
  | .rstCtl => [.mk 0 8 .wo 0 .any, .mk 8 1 .wo 0 .any, .mk 9 1 .wo 0 .any]
  | .rstBlock => [.mk 0 8 .wo 0 .any, .mk 8 8 .wo 0 .any]
  | .indAddr => [.mk 0 24 .rw 0 .any]
  | .indCtl => [.mk 0 2 .rw 1 (.range 0 2)]
  | .timCfg => [.mk 0 6 .rw 0 .any, .mk 16 16 .rw 256 (.range 16 65535)]
  | .clkDiv => [.mk 0 2 .rw 0 (.range 0 2), .mk 4 1 .rw 0 .any]
  | .clampAck => [.mk 0 16 .wo 0 .any]
  | .pwrCfg => [.mk 0 16 .rw 100 (.range 10 65535), .mk 16 3 .rw 4 (.range 0 4), .mk 19 1 .rw 0 .any]
  | .pwrRing => [.mk 0 16 .rw 1000 (.range 1 65535)]
  | .pwrLatTol => [.mk 0 16 .rw 0xFFFF .any]
  | .pwrCicada => [.mk 0 8 .rw 60 (.range 30 60)]
  | .pwrCtl => [.mk 0 1 .w1s 0 .any, .mk 8 8 .wo 0 .any]
  | .pwrTierGate => [.mk 0 32 .rw 0xFFFFFFFF .any]
  | .calCfg => [.mk 0 5 .rw 4 (.range 1 20), .mk 8 1 .rw 1 .any]
  | .calCtl => [.mk 0 1 .w1s 0 .any]
  | .thmCfg => [.mk 0 5 .rw 6 (.range 2 20), .mk 8 4 .rw 5 (.range 1 15)]
  | .thmLimit => [.mk 0 8 .rw 85 (.range 60 100), .mk 8 8 .rw 95 .dyn, .mk 16 8 .rw 110 .dyn, .mk 24 8 .rw 90 .dyn]
  | .thmThrot => [.mk 0 10 .rw 50 (.range 1 1000), .mk 16 7 .rw 30 (.range 10 90)]
  | .thmClick => [.mk 8 4 .rw 3 (.range 1 15)]
  | .thmRetrust => [.mk 0 32 .w1s 0 .any]
  | .thmEcoef => [.mk 0 8 .rwl 0 .any, .mk 8 8 .rwl 0 .any, .mk 16 8 .rwl 0 .any, .mk 24 8 .rwl 0 .any]
  | .thmCoef => [.mk 0 8 .rwl 0 .any, .mk 8 8 .rwl 0 .any, .mk 16 3 .rwl 0 .any, .mk 20 12 .rwl 0 .any]
  | .budCap => [.mk 0 16 .rw 48000 .dyn]
  | .budPwr0 => [.mk 0 16 .rwl 0 (.range 1000 22000), .mk 16 16 .rwl 0 (.range 0 1000)]
  | .budPwr1 => [.mk 0 8 .rwl 0 .any, .mk 8 8 .rwl 0 (.range 1 255), .mk 16 8 .rwl 0 (.range 1 255), .mk 24 8 .rwl 0 .any]
  | .budSlew => [.mk 0 4 .rw 6 (.range 1 6), .mk 8 2 .rw 1 (.range 1 2)]
  | .budClass => [.mk 0 11 .rw (ceilDefault i) .dyn, .mk 16 11 .rw (floorDefault i) .dyn]
  | .qosCfg => [.mk 0 6 .rw 8 .dyn, .mk 8 6 .rw 24 .dyn, .mk 16 6 .rw 4 (.range 1 63), .mk 24 4 .rw 2 (.range 1 8)]
  | .qosTc => [.mk 0 16 .rw 0 .any, .mk 16 6 .rw 2 (.range 1 32), .mk 24 6 .rw 16 .dyn]
  | .fltAck => [.mk 0 16 .wo 0 .any]
  | .fltCfg => [.mk 0 2 .rw 2 (.range 1 3), .mk 2 2 .rw 1 (.range 1 3)]
  | .fltInject => [.mk 0 7 .wo 0 .any, .mk 7 1 .wo 0 .any, .mk 8 8 .wo 0 .any]
  | .otpCmd => [.mk 0 4 .wo 0 .any, .mk 4 2 .wo 0 .any, .mk 8 8 .wo 0 .any]
  | .otpAddr => [.mk 0 12 .rw 0 .any]
  | .otpWdata => [.mk 0 32 .rw 0 .any]
  | .bstCfg => [.mk 0 1 .rw 1 .any, .mk 8 8 .rw 0x3F .dyn, .mk 16 2 .rw 2 .any, .mk 24 8 .rw 24 (.range 1 255)]
  | .bstCtl => [.mk 0 1 .w1s 0 .any, .mk 1 1 .w1s 0 .any, .mk 2 1 .w1s 0 .any]
  | .secCtl => [.mk 0 8 .wo 0 .any, .mk 8 1 .wo 0 .any, .mk 9 1 .wo 0 .any, .mk 10 1 .wo 0 .any, .mk 11 2 .wo 0 .any]
  | .dbgReq => [.mk 0 2 .wo 0 .any, .mk 2 1 .wo 0 .any, .mk 3 1 .wo 0 .any]
  | .twCfg => [.mk 0 2 .rw 0 (.range 0 2), .mk 2 3 .rw 3 .any, .mk 16 7 .rw 25 (.range 1 100)]
  | .twCcmd => [.mk 0 7 .rw 0x08 (.range 0x08 0x77), .mk 8 6 .rw 0 (.range 0 32), .mk 16 6 .rw 0 (.range 0 32), .mk 24 1 .w1s 0 .any]
  | .twCbuf => [.mk 0 32 .rw 0 .any]
  | .lnkCfg => [.mk 0 1 .rw 0 .any, .mk 16 16 .rw 100 (.range 10 10000)]
  | .lnkNode => [.mk 0 6 .rw 0 .any, .mk 6 1 .rw 0 .dyn]
  | .lnkPhy0 => [.mk 0 1 .rw 1 .any, .mk 1 3 .rw 5 (.range 0 5), .mk 4 8 .rw 0xFF .dyn, .mk 12 4 .rw 4 (.range 1 8),
      .mk 16 8 .rw 90 (.range 51 160), .mk 24 1 .rw 1 .any]
  | .lnkPhy1 => [.mk 0 8 .rw 64 (.range 16 255), .mk 8 8 .rw 64 (.range 8 255), .mk 16 1 .rw 1 .any, .mk 24 8 .rw 16 (.range 1 255)]
  | .lnkCtl => [.mk 0 1 .w1s 0 .any, .mk 1 1 .w1s 0 .any]
  | .lnkRange => [.mk 0 6 .rw 0 .any, .mk 8 6 .rw 0 .dyn, .mk 16 1 .rw 0 .any]
  | .lnkLlc => [.mk 0 8 .rw 10 (.range 1 255), .mk 8 8 .rw 20 (.range 5 255), .mk 16 3 .rw 4 (.range 1 7)]
  | .lnkTadj => [.mk 0 16 .rw 0 .dyn]
  | .rngEvtCq => [.mk 0 12 .rw 0 .any, .mk 16 1 .rw 0 .any]
  | .tchCfg => [.mk 0 1 .rw 1 .any, .mk 1 3 .rw 3 (.range 1 7), .mk 4 8 .rw 77 (.range 51 128)]
  | .wvlCfg => [.mk 0 12 .rw 2048 .dyn, .mk 12 3 .rw 2 .dyn]
  | .tchTcfg => [.mk 0 2 .rw 0 .any]
  | .tchRetire => [.mk 0 32 .w1s 0 .any]
  | .pcdIntlv => [.mk 0 2 .rw 0 .any]
  | .pcdGen => [.mk 0 32 .rw 0 .any]
  | .pcdMrg => [.mk 16 8 .rw 128 (.range 8 224)]
  | .scbCfg => [.mk 0 1 .rw 1 .any, .mk 1 1 .rw 1 .any, .mk 2 1 .rw 1 .any, .mk 8 7 .rw 8 (.range 1 120), .mk 16 7 .rw 25 (.range 5 100)]
  | .scbPace => [.mk 0 16 .rw 1440 (.range 1 65535)]
  | .scbLogDismiss => [.mk 0 6 .wo 0 .any, .mk 16 16 .wo 0 .any]
  | .scbSeasonCfg => [.mk 0 16 .rw 10 (.range 1 1440), .mk 16 7 .rw 50 (.range 10 90), .mk 24 8 .rw 16 (.range 1 255)]
  | .scbSeason => [.mk 6 2 .rw 3 .any]
  | .sqcW0 => [.mk 6 26 .rw 0 .any]
  | .sqcW1 => [.mk 0 32 .rw 0 .any]
  | .sqcW2 => [.mk 0 5 .rw 4 (.range 4 16), .mk 16 12 .rw 0 .any]
  | .sqcW3 => [.mk 0 3 .rw 0 .any, .mk 3 1 .rw 0 .any, .mk 4 1 .rw 0 .any, .mk 5 2 .rw 1 (.range 1 2), .mk 7 1 .rw 0 .any,
      .mk 8 1 .rw 0 .any, .mk 12 4 .rw 4 (.range 1 8), .mk 16 10 .rw 0 .any]
  | .sqcW4 => [.mk 0 16 .rw 0xFFFF .any, .mk 16 16 .rw 1 .any]
  | .sqcW5 => [.mk 0 16 .rw 0 .dyn]
  | .sqcW7 => [.mk 0 1 .w1s 0 .any, .mk 1 1 .w1s 0 .any, .mk 16 11 .rw 256 (.range 1 1024)]
  | .cqcW0 => [.mk 6 26 .rw 0 .any]
  | .cqcW1 => [.mk 0 32 .rw 0 .any]
  | .cqcW2 => [.mk 0 5 .rw 4 (.range 4 16)]
  | .cqcW3 => [.mk 0 8 .rw 0 .any, .mk 8 16 .rw 0 .any, .mk 24 1 .rw 1 .any]
  | .cqcW4 => [.mk 0 16 .rw 0 .dyn]
  | .cqcW7 => [.mk 0 1 .w1s 0 .any, .mk 1 1 .w1s 0 .any, .mk 2 1 .w1s 0 .any]
  | .qosStrmW0 => [.mk 0 7 .rw 16 (.range 1 64), .mk 8 7 .rw 12 .dyn, .mk 16 7 .rw 4 .dyn]
  | .qosStrmW1 => [.mk 0 16 .rw 500 (.range 1 65535)]
  | .tchChctl => [.mk 0 1 .w1s 0 .any, .mk 1 1 .w1s 0 .any, .mk 2 1 .w1s 0 .any]
  | .pcdSmap => [.mk 0 3 .rw 2 (.range 0 4)]
  | .pcdRdy => [.mk 0 32 .w1s 0 .any]
  | .fltSrcW0 =>
    let d := srcDefault i
    [.mk 0 1 .rw (oneIf d.counting) .any, .mk 1 2 .rw (d.cls) (.range 1 3), .mk 3 3 .rw (d.maj) .dyn, .mk 6 3 .rw (d.crit) .dyn,
      .mk 16 8 .rw (d.thrMaj) (.range 1 255), .mk 24 8 .rw (d.thrCrit) .dyn]
  | .fltSrcW1 => [.mk 0 16 .rw ((srcDefault i).winMs) (.range 1 65535)]
  | .secKxpub => [.mk 0 32 .rw 0 .any]
  | .dbgToken => [.mk 0 32 .wo 0 .any]
  | .rstService => []
  | .rstStat => []
  | .rstRetain => []
  | .rstRelaxed => []
  | .rstMark0 => []
  | .rstMark1 => []
  | .rstMark2 => []
  | .indWin => []
  | .timStat => []
  | .timNowLo => []
  | .timNowHi => []
  | .timEpoch => []
  | .timStep => []
  | .clkStat => []
  | .clkTpll => []
  | .clkXcnt => []
  | .clampStat => []
  | .clampLog => []
  | .pwrStat => []
  | .pwrTierStat => []
  | .pwrTierFail => []
  | .pwrRailStat => []
  | .calStat => []
  | .calSoff => []
  | .thmClickTime => []
  | .thmStat => []
  | .thmS => []
  | .thmT => []
  | .budCapMin => []
  | .budLimit => []
  | .budStat => []
  | .budMaintOver => []
  | .budBallast => []
  | .budUsed => []
  | .qosAdmStat => []
  | .qosTc7Miss => []
  | .qosStrmPool => []
  | .qosApp => []
  | .qosBytes => []
  | .qosShort => []
  | .fltStat => []
  | .fltSeq => []
  | .fltFirst => []
  | .fltState => []
  | .fltShadow => []
  | .otpStat => []
  | .otpEcc => []
  | .otpCnt0 => []
  | .otpCnt1 => []
  | .bstStat => []
  | .bstMemfail => []
  | .secStat => []
  | .secBoot => []
  | .secImage => []
  | .dbgStat => []
  | .twCres => []
  | .twStat => []
  | .twCnt => []
  | .nmoStat => []
  | .lnkDrop => []
  | .lnkStat => []
  | .lnkCnt => []
  | .lnkTime => []
  | .lnkSeq => []
  | .lnkRepl => []
  | .lnkErr => []
  | .lnkLane => []
  | .rngEvtSeq => []
  | .rngEvtLost => []
  | .rngDblDrop => []
  | .rngStat => []
  | .rngIcnt0 => []
  | .rngIcnt1 => []
  | .rngIcnt2 => []
  | .rngSqerr => []
  | .rngCqerr => []
  | .wvlStat => []
  | .tchTstat => []
  | .pcdCntCorr => []
  | .pcdCntBits => []
  | .pcdCntUe => []
  | .pcdStat => []
  | .scbPass => []
  | .scbStat => []
  | .sqcW6 => []
  | .cqcW5 => []
  | .cqcW6 => []
  | .qosStrmW2 => []
  | .tchChstat => []
  | .tchFrzCause => []
  | .tchFrzCmd => []
  | .qosLimW0 => []
  | .qosLimW1 => []
  | .qosLvl => []
  | .pcdRcw => []
  | .pcdRcp => []
  | .scbLog => []
  | .fltHist => []
  | .secKslot => []
  | .dbgChal => []
  | .otpSh => []
  | .otpMarginal => []
  | .tchSub => []

/-- Bits that the store keeps: the RW and RWL fields. -/
def FTyp.stored : FTyp → Bool
  | .rw => true
  | .rwl => true
  | .w1s => false
  | .wo => false

/-- Reset value of the stored fields of a register. -/
def regReset (n : RegName) (i : Nat) : Word :=
  packed (((regFields n i).filter fun f => f.typ.stored).map fun f => (f.rst, f.lo, f.wd))

end Sys2Proof.Machine
end

