-- ==== Sys2Proof/Machine/Ops.lean ====
section
/-! DEFINITION. The named operations every meaning is written over: reading and writing the instanced parts of the state,
configuration fields, error lines, free values and outputs. -/

namespace Sys2Proof.Machine

/-! ## Instances -/

def State.chan (s : State) (i : Nat) : Chan := Tab.get .init s.tch.chans i
def State.setChan (s : State) (i : Nat) (c : Chan) : State :=
  { s with tch := { s.tch with chans := Tab.set .init s.tch.chans i c } }
def State.updChan (s : State) (i : Nat) (f : Chan → Chan) : State := s.setChan i (f (s.chan i))

def State.tier (s : State) (t : Nat) : Tier := Tab.get .init s.tch.tiers t
def State.setTier (s : State) (t : Nat) (x : Tier) : State :=
  { s with tch := { s.tch with tiers := Tab.set .init s.tch.tiers t x } }
def State.updTier (s : State) (t : Nat) (f : Tier → Tier) : State := s.setTier t (f (s.tier t))

def State.port (s : State) (n : Nat) : Port := Tab.get .init s.lnk.ports n
def State.setPort (s : State) (n : Nat) (p : Port) : State :=
  { s with lnk := { s.lnk with ports := Tab.set .init s.lnk.ports n p } }
def State.updPort (s : State) (n : Nat) (f : Port → Port) : State := s.setPort n (f (s.port n))

def Port.lane (p : Port) (k : Nat) : Lane := Tab.get .init p.laneTab k
def Port.updLane (p : Port) (k : Nat) (f : Lane → Lane) : Port :=
  { p with laneTab := Tab.set .init p.laneTab k (f (p.lane k)) }

def State.sq (s : State) (q : Nat) : SqCtx := Tab.get .init s.rng.sqs q
def State.updSq (s : State) (q : Nat) (f : SqCtx → SqCtx) : State :=
  { s with rng := { s.rng with sqs := Tab.set .init s.rng.sqs q (f (s.sq q)) } }

def State.cq (s : State) (q : Nat) : CqCtx := Tab.get .init s.rng.cqs q
def State.updCq (s : State) (q : Nat) (f : CqCtx → CqCtx) : State :=
  { s with rng := { s.rng with cqs := Tab.set .init s.rng.cqs q (f (s.cq q)) } }

def State.window (s : State) (w : Nat) : Window := Tab.get .closed s.pcd.windows w
def State.setWindow (s : State) (w : Nat) (x : Window) : State :=
  { s with pcd := { s.pcd with windows := Tab.set .closed s.pcd.windows w x } }

/-- The command with a fetch number, while it is outstanding (R236). -/
def State.cmd (s : State) (id : Nat) : Option Cmd := s.rng.cmds.find? fun c => c.id == id

/-- Rewrites one outstanding command. -/
def State.updCmd (s : State) (id : Nat) (f : Cmd → Cmd) : State :=
  { s with rng := { s.rng with cmds := s.rng.cmds.map fun c => if c.id == id then f c else c } }

/-- Rewrites every channel of a list of instances. -/
def State.updChans (s : State) (is_ : List Nat) (f : Nat → Chan → Chan) : State :=
  is_.foldl (fun s i => s.updChan i (f i)) s

/-- Instances of the channels of a tier (tier * 32 + channel). -/
def chansOfTier (t : Nat) : List Nat := (List.range 32).map fun c => 32 * t + c

/-- Every channel instance. -/
def allChans : List Nat := List.range 1024
/-- Every tier. -/
def allTiers : List Nat := List.range 32

/-! ## Values for each class -/

/-- The index of R61. -/
def Class.index : Class → Nat
  | .host => 0 | .nmo => 1 | .scarab => 2 | .maint => 3 | .bist => 4 | .cal => 5 | .train => 6 | .repair => 7

/-- The class with an index. -/
def classOf (n : Nat) : Class :=
  match n with
  | 0 => .host | 1 => .nmo | 2 => .scarab | 3 => .maint | 4 => .bist | 5 => .cal | 6 => .train | _ => .repair

def allClasses : List Class := [.host, .nmo, .scarab, .maint, .bist, .cal, .train, .repair]

def ByClass.get {α : Type} (b : ByClass α) : Class → α
  | .host => b.host | .nmo => b.nmo | .scarab => b.scarab | .maint => b.maint
  | .bist => b.bist | .cal => b.cal | .train => b.train | .repair => b.repair

def ByClass.set {α : Type} (b : ByClass α) (c : Class) (x : α) : ByClass α :=
  match c with
  | .host => { b with host := x } | .nmo => { b with nmo := x } | .scarab => { b with scarab := x }
  | .maint => { b with maint := x } | .bist => { b with bist := x } | .cal => { b with cal := x }
  | .train => { b with train := x } | .repair => { b with repair := x }

/-! ## Stored register values -/

/-- The stored word of a register: its RW and RWL fields (R12). -/
def State.cfgWord (s : State) (n : RegName) (i : Nat) : Word := Tab.get (regReset n i) s.regs.cfg (regKey n i)

/-- Stores a word with its parity; storing the reset value removes the entry (R559). -/
def State.setCfg (s : State) (n : RegName) (i : Nat) (w : Word) : State :=
  { s with regs := { s.regs with
    cfg := Tab.set (regReset n i) s.regs.cfg (regKey n i) w, par := Tab.set false s.regs.par (regKey n i) false } }

/-- One stored field. -/
def State.fld (s : State) (n : RegName) (i lo wd : Nat) : Nat := fieldOf (s.cfgWord n i) lo wd

/-- One stored flag. -/
def State.flag (s : State) (n : RegName) (i lo : Nat) : Bool := bitOf (s.cfgWord n i) lo

/-! ## Time, lines, free values, outputs -/

/-- The local cricket-tick count (R47). -/
def State.now (s : State) : Nat := s.tim.count.toNat

/-- Raises an error line: a line raised again before it is sampled keeps the later detail (R493) (log 59). -/
def State.raise (s : State) (src : Nat) (detail : Nat) : State :=
  let l : FaultLine := ⟨BitVec.ofNat 7 src, BitVec.ofNat 64 detail⟩
  { s with flt := { s.flt with lines := (s.flt.lines.filter fun x => x.src != l.src) ++ [l] } }

/-- Records what leaves the die. -/
def State.emit (s : State) (o : Out) : State := { s with out := s.out ++ [o] }

/-- The next word of the random-bit generator, a free value (R127, R469, R488). -/
def State.random (s : State) : Word × State := (Config.randomWord s.free, { s with free := s.free + 1 })

/-- `n` words of the random-bit generator. -/
def State.randoms (s : State) (n : Nat) : List Word × State :=
  ((List.range n).map fun k => Config.randomWord (s.free + k), { s with free := s.free + n })

/-! ## Tier clocks -/

/-- One tier clock cycle in quarters of a nanosecond: 1.0, 0.8, 0.5 and 0.25 GHz (R82, R119). -/
def cycleQ (f : BitVec 2) : Nat :=
  match f.toNat with
  | 0 => 4 | 1 => 5 | 2 => 8 | _ => 16

/-- A tier clock in twentieths of 1.0 GHz. -/
def clock20 (f : BitVec 2) : Nat :=
  match f.toNat with
  | 0 => 20 | 1 => 16 | 2 => 10 | _ => 5

/-- Data burst of a whole row, in cycles (R82). -/
def burstCycles : Nat := 2176

/-- The tier of a channel instance. -/
def tierOf (i : Nat) : Nat := i / 32

/-! ## Temperatures (R375, R382, R385) -/

/-- Model value of a tier, as a code (R374). -/
def State.modelCode (s : State) (t : Nat) : Nat := (Tab.get 0 s.thm.model t / 65536).toNat

/-- Last sample of a tier's sensor, as a code (R372). -/
def State.sampleOf (s : State) (t : Nat) : Nat := Tab.get 0 s.thm.sample t

/-- Last sample of base-die sensor k, as a code (R372). -/
def State.baseOf (s : State) (k : Nat) : Nat := Tab.get 0 s.thm.base k

/-- Effective temperature of a tier (R375). -/
def State.effTemp (s : State) (t : Nat) : Nat :=
  if s.thm.suspect.getLsbD t then s.modelCode t else max (s.sampleOf t) (s.modelCode t)

/-- Notes when, and at which reference temperature, the eye of an entry of the eye quality log was measured (R385). -/
def State.noteEyeAt (s : State) (k time temp : Nat) : State :=
  { s with cal := { s.cal with eyeTime := Tab.set (0, 0) s.cal.eyeTime k (time % 2 ^ 32, temp) } }

/-- An eye measured now. -/
def State.noteEye (s : State) (k temp : Nat) : State := s.noteEyeAt k s.now temp

/-! ## Serving channels (R579) -/

/-- The gates of a tier are open and its nets good (R117, R394). -/
def Tier.powered (t : Tier) : Bool := t.open_ && t.good

/-- A serving channel: trained since its tier was last reset, not retired, on a powered and accepted tier (R579). -/
def State.isServing (s : State) (i : Nat) : Bool :=
  let c := s.chan i
  let t := s.tier (tierOf i)
  c.trained && !c.retired && t.powered && t.accepted

/-- Serving channels: only a channel that the table lists can be trained. -/
def State.servingChans (s : State) : List Nat :=
  (s.tch.chans.map fun e => e.1).filter fun i => s.isServing i && i < 1024

/-- TCH_CHSTATi.STATE (R121): self-refresh and power-down show on a channel that would serve (DESIGN CHOICE, log 127). -/
def State.chanCode (s : State) (i : Nat) : Nat :=
  let c := s.chan i
  let t := s.tier (tierOf i)
  if c.retired then 5
  else match c.st with
  | .untrained => 0
  | .training => 1
  | .frozen => 3
  | .retraining => 4
  | .serving => if t.selfRef then 6 else if t.pwrDown then 7 else 2

/-- The channel carries traffic now: STATE 2. -/
def State.serves (s : State) (i : Nat) : Bool := s.isServing i && s.chanCode i == 2

/-! ## Block numbers (R22) -/

/-- A field of a block number. -/
def lbnBits (l lo wd : Nat) : Nat := l / 2 ^ lo % 2 ^ wd

/-- The physical place of a block: channel instance, bank and data row (R22). -/
def placeOf (mode : BitVec 2) (l : Nat) : Nat × Nat × Nat :=
  match mode.toNat with
  | 0 => (32 * lbnBits l 5 5 + lbnBits l 0 5, lbnBits l 10 4, lbnBits l 14 12)
  | 1 => (32 * lbnBits l 0 5 + lbnBits l 5 5, lbnBits l 10 4, lbnBits l 14 12)
  | 2 => (32 * lbnBits l 9 5 + lbnBits l 4 5, lbnBits l 0 4, lbnBits l 14 12)
  | _ => (32 * lbnBits l 21 5 + lbnBits l 16 5, lbnBits l 12 4, lbnBits l 0 12)

/-- The block of a physical place (R22 read backward). -/
def lbnOf (mode : BitVec 2) (i b r : Nat) : Nat :=
  match mode.toNat with
  | 0 => i % 32 + 2 ^ 5 * (i / 32) + 2 ^ 10 * b + 2 ^ 14 * r
  | 1 => i / 32 + 2 ^ 5 * (i % 32) + 2 ^ 10 * b + 2 ^ 14 * r
  | 2 => b + 2 ^ 4 * (i % 32) + 2 ^ 9 * (i / 32) + 2 ^ 14 * r
  | _ => r + 2 ^ 12 * b + 2 ^ 16 * (i % 32) + 2 ^ 21 * (i / 32)

/-- PCD_INTLV.MODE. -/
def State.intlv (s : State) : BitVec 2 := BitVec.ofNat 2 (s.fld .pcdIntlv 0 0 2)

/-- Region of a block (R132). -/
def regionOf (l : Nat) : Nat := l / 2 ^ 18

/-- The place of a slot in the store. -/
def storeKey (i b phys : Nat) : Nat := (16 * i + b) * 8192 + phys

/-- What a tier row holds; none: arbitrary charge (before R136). -/
def State.slotAt (s : State) (i b phys : Nat) : Option Slot := Tab.get none s.pcd.store (storeKey i b phys)

/-- Writes a tier row. -/
def State.putSlot (s : State) (i b phys : Nat) (x : Option Slot) : State :=
  { s with pcd := { s.pcd with store := Tab.set none s.pcd.store (storeKey i b phys) x } }

/-- Tier rows of a tier lose their contents (R87, R117). -/
def State.loseTier (s : State) (t : Nat) : State :=
  { s with pcd := { s.pcd with store := Tab.keep (fun k => k / (16 * 8192) / 32 != t) s.pcd.store } }

/-! ## Readiness (R136) -/

def State.ready (s : State) (r t : Nat) : Bool := (Tab.get 0 s.pcd.rdy r).getLsbD t

def State.setReady (s : State) (r t : Nat) : State :=
  { s with pcd := { s.pcd with rdy := Tab.upd (0 : Word) s.pcd.rdy r fun w => w ||| ((1 : Word) <<< t) } }

/-- A region that a channel's format walk starts again from its first slot (R138, R139). -/
def FmtPos.forget (p : FmtPos) (r : Nat) : FmtPos :=
  { region := p.region, idx := if p.region = r then 0 else p.idx, fin := p.fin.erase r }

/-- Channels of a tier format from the first slot again (R138). -/
def State.formatAgain (s : State) (t : Nat) : State :=
  let stale (q : Req) : Req := if q.src = .format then { q with off := 2 ^ 20 } else q
  s.updChans (chansOfTier t) fun _ c =>
    { c with active := c.active.map stale, queue := c.queue.map stale, fmt := { region := 0, idx := 0, fin := [] } }

/-- Clears a tier's bit of every region (R137). -/
def State.unready (s : State) (t : Nat) : State :=
  { s with pcd := { s.pcd with rdy := Tab.mapVals (0 : Word) (fun _ w => w &&& ~~~ ((1 : Word) <<< t)) s.pcd.rdy } }

/-! ## Substitution (R113) -/

/-- Key of entry e of a bank's substitution table (R122). -/
def subKey (i b e : Nat) : Nat := 512 * i + 32 * b + e

def State.subAt (s : State) (i b e : Nat) : Option (Nat × Nat) := Tab.get none s.tch.subs (subKey i b e)

/-- The physical row of a data row: a later valid entry overrides an earlier one (R113). -/
def State.physRow (s : State) (i b row : Nat) : Nat :=
  (List.range 32).foldl (fun p e =>
    match s.subAt i b e with
    | some (r, sp) => if r = row then 0x1000 + sp else p
    | none => p) row

/-- Spare indices that no valid entry of the bank names. -/
def State.freeSpares (s : State) (i b : Nat) : List Nat :=
  (List.range 32).filter fun sp =>
    (List.range 32).all fun e =>
      match s.subAt i b e with
      | some (_, x) => x != sp
      | none => true

/-! ## Strength in force (R132, R134) -/

/-- The open window of a region. -/
def State.openWindow (s : State) (r : Nat) : Option Nat :=
  (List.range 4).find? fun w => (s.window w).open_ && (s.window w).region.toNat == r

/-- The strength in force for a block. -/
def State.strengthOf (s : State) (l : Nat) : BitVec 3 :=
  let r := regionOf l
  match s.openWindow r with
  | none => BitVec.ofNat 3 (s.fld .pcdSmap r 0 3)
  | some w =>
    let x := s.window w
    let o := l % 2 ^ 18
    if o < x.pointer ∨ o - x.pointer ∈ x.mask then x.new else x.old

/-- t of a strength code (R130). -/
def tOf (c : BitVec 3) : Nat := 24 * (c.toNat + 1)

/-! ## Keys (R228, R480) -/

/-- The key of a slot as a command with this fetch number sees it. -/
def State.keyFor (s : State) (k id : Nat) : Option (List Byte) :=
  if s.sec.erasing.any fun e => e.1 == k && e.2 < id then none
  else if (Tab.get [] s.sec.slots k).isEmpty then none
  else some (Tab.get [] s.sec.slots k)

/-- The security engine is out of service (R44). -/
def State.secOut (s : State) : Bool :=
  s.bst.memFail.getLsbD 8 || s.sec.isolated || !(s.otp.trusted.getLsbD 2) || s.die.blockBusy.contains 0x06

/-! ## Codecs (R36) -/

/-- The engine that serves a tier: its own, or the working engine of the nearest tier number, the lower on a tie. -/
def State.codecOf (s : State) (t : Nat) : Option Nat :=
  if !(s.pcd.codecOut.getLsbD t) then some t
  else (List.range 32).findSome? fun d =>
    if d ≤ t ∧ !(s.pcd.codecOut.getLsbD (t - d)) then some (t - d)
    else if t + d < 32 ∧ !(s.pcd.codecOut.getLsbD (t + d)) then some (t + d)
    else none

/-- Codec engines in service. -/
def State.workingCodecs (s : State) : Nat := (allTiers.filter fun e => !(s.pcd.codecOut.getLsbD e)).length

end Sys2Proof.Machine
end

