-- ==== Sys2Proof/Machine/Symbols.lean ====
section
/-! DEFINITION. What a lane carries (R292 to R295, R316 to R319, R346): the 8b/10b code, ordered sets, packet framing with its
CRC, and the striping of a packet over lanes. -/

namespace Sys2Proof

/-- XOR of symbols 2 to 14. -/
def TrainSet.sum (t : TrainSet) : Byte :=
  t.lane ^^^ t.rates ^^^ t.lanesOk ^^^ t.role ^^^ t.ctrl ^^^ t.nfts ^^^ t.tag.setWidth 8 ^^^ (t.tag >>> 8).setWidth 8 ^^^
    t.echo.setWidth 8 ^^^ (t.echo >>> 8).setWidth 8 ^^^ t.minLanes ^^^ t.d13 ^^^ t.d14

/-- Symbols 2 to 7 and 12 to 14 are equal. -/
def TrainSet.same (a b : TrainSet) : Bool :=
  a.lane == b.lane && a.rates == b.rates && a.lanesOk == b.lanesOk && a.role == b.role && a.ctrl == b.ctrl && a.nfts == b.nfts &&
    a.minLanes == b.minLanes && a.d13 == b.d13 && a.d14 == b.d14

end Sys2Proof

namespace Sys2Proof.Machine

/-! ## The 8b/10b code of IEEE 802.3 Clause 36 (R292) -/

/-- Codes of bits 4 to 0 at negative running disparity, first bit sent in the highest place. -/
def code6 : List Nat :=
  [0b100111, 0b011101, 0b101101, 0b110001, 0b110101, 0b101001, 0b011001, 0b111000, 0b111001, 0b100101, 0b010101, 0b110100,
   0b001101, 0b101100, 0b011100, 0b010111] ++
  [0b011011, 0b100011, 0b010011, 0b110010, 0b001011, 0b101010, 0b011010, 0b111010, 0b110011, 0b100110, 0b010110, 0b110110,
   0b001110, 0b101110, 0b011110, 0b101011]

/-- Codes of bits 7 to 5 at negative running disparity, of D and of K28 characters. -/
def code4 : List Nat := [0b1011, 0b1001, 0b0101, 0b1100, 0b1101, 0b1010, 0b0110, 0b1110]
def code4K : List Nat := [0b1011, 0b0110, 0b1010, 0b1100, 0b1101, 0b0101, 0b1001, 0b0111]

/-- Ones among the low bits of a number. -/
def onesIn (bits x : Nat) : Nat := (List.range bits).foldl (fun a i => a + x / 2 ^ i % 2) 0

/-- A block of the code at a running disparity (true: positive), and the disparity after it. Blocks that are not balanced, and those
marked, are inverted at positive disparity. -/
def codeBlock (bits x : Nat) (alt plus : Bool) : Nat × Bool :=
  let uneven := onesIn bits x * 2 != bits
  (if plus && (uneven || alt) then 2 ^ bits - 1 - x else x, plus != uneven)

/-- The 10-bit code of a character at a running disparity, and the disparity after it. -/
def encode10 (plus : Bool) (c : Sym) : BitVec 10 × Bool :=
  let b := c.byte.toNat
  let x := b % 32
  let y := b / 32
  let six := codeBlock 6 (if c.k && x == 28 then 0b001111 else code6.getD x 0) (x == 7) plus
  let a7 := y == 7 && (c.k || (!six.2 && (x == 17 || x == 18 || x == 20)) || (six.2 && (x == 11 || x == 13 || x == 14)))
  let low := if c.k && x == 28 then code4K.getD y 0 else if a7 then 0b0111 else code4.getD y 0
  let four := codeBlock 4 low (y == 3 || (c.k && x == 28)) six.2
  (BitVec.ofNat 10 (six.1 * 16 + four.1), four.2)

/-! ## Characters (R292, R294, R316, R317) -/

def symD (b : Byte) : Sym := ⟨false, b⟩
def symK (b : Byte) : Sym := ⟨true, b⟩
def symCom : Sym := symK 0xBC
def symStp : Sym := symK 0xFB
def symEnd : Sym := symK 0xFD
def symEdb : Sym := symK 0xFE

/-- The K characters that are sent (R294). -/
def listedK : List Sym := [0xBC, 0xFB, 0xFD, 0xFE, 0x1C, 0x3C, 0x7C, 0x9C, 0x5C, 0xF7, 0xDC].map symK

/-- A received 10-bit code is a lane error: it is no code of a data character or of a listed K character at this disparity (R292). -/
def codeBad (plus : Bool) (code : BitVec 10) : Bool :=
  !((List.range 256).any fun b => (encode10 plus (symD (BitVec.ofNat 8 b))).1 == code) &&
    !(listedK.any fun c => (encode10 plus c).1 == code)

/-! ## Ordered sets (R294, R295, R346) -/

/-- The data characters of a training set as a lane sends it: LANE and CHK are the lane's. -/
def trainChars (t : TrainSet) (lane : Nat) : List Byte :=
  let t : TrainSet := { t with lane := BitVec.ofNat 8 lane }
  [t.lane, t.rates, t.lanesOk, t.role, t.ctrl, t.nfts] ++ leBytes 2 t.tag.toNat ++ leBytes 2 t.echo.toNat ++
    [t.minLanes, t.d13, t.d14, t.sum]

/-- The characters of an ordered set on a lane. -/
def OrderedSet.syms (x : OrderedSet) (lane : Nat) : List Sym :=
  symCom :: match x with
  | .idle => [symD 0x95, symD 0xB5, symD 0xB5]
  | .skp => [symK 0x1C, symK 0x1C, symK 0x1C]
  | .fts => [symK 0x3C, symK 0x3C, symK 0x3C]
  | .idlE => [symK 0x7C, symK 0x7C, symK 0x7C]
  | .lmk n => [symK 0x9C, symD (BitVec.ofNat 8 lane), symD (BitVec.ofNat 8 n)]
  | .ts1 t => symK 0x5C :: (trainChars t lane).map symD
  | .ts2 t => symK 0xF7 :: (trainChars t lane).map symD
  | .time count corr hops =>
    let d := leBytes 8 count.toNat ++ leBytes 4 corr.toNat ++ [hops]
    symK 0xDC :: (d ++ [d.foldl (fun a b => a ^^^ b) 0]).map symD

/-! ## Packets (R316 to R319) -/

/-- The CRC-32 of a packet's body (R319). -/
def crc32 (l : List Byte) : Word := crcReflected (0xEDB88320 : Word) l

/-- Body characters of a transaction packet and of an ACK or NAK (R318). -/
def packetBody (p : Packet) : List Byte := wordsBytes ([p.w0, p.w1, p.w2, p.w3] ++ p.payload)
def ackBody (w0 w1 : Word) : List Byte := wordsBytes [w0, w1]

/-- The character stream of a body with this CRC, but for what ends it (R316). -/
def framedHead (body : List Byte) (crc : Word) : List Sym := symStp :: (body ++ leBytes 4 crc.toNat).map symD

/-- A whole packet: END ends it (R316). -/
def framed (body : List Byte) (crc : Word) : List Sym := framedHead body crc ++ [symEnd]

/-- An abandoned packet, of which so many characters have gone, at least STP: EDB stands in place of END (R317). -/
def framedCut (body : List Byte) (crc : Word) (chars : Nat) : List Sym := (framedHead body crc).take (chars + 1) ++ [symEdb]

/-- Lanes of a mask, in rising number. -/
def lanesOf (m : Byte) : List Nat := (List.range 8).filter fun k => m.getLsbD k

/-- Stripes a stream over lanes: character k goes to the (k mod W)th lane, and the lanes left over at the last symbol position carry
what ends it too (R293, R316). -/
def stripe (lanes : Byte) (cs : List Sym) : List (Nat × List Sym) :=
  let l := lanesOf lanes
  let w := l.length
  let end_ := cs.getLastD symEnd
  let whole := cs ++ List.replicate (ceilDiv cs.length w * w - cs.length) end_
  (List.range w).map fun j => (l.getD j 0, ((List.range (whole.length / w)).map fun r => whole.getD (r * w + j) end_))

/-- What each lane carries of a thing the die sends on a port. -/
def Out.onLanes : Out → List (Nat × List Sym)
  | .packet _ lanes p crc => stripe lanes (framed (packetBody p) crc)
  | .replay _ lanes p crc => stripe lanes (framed (packetBody p) crc)
  | .ack _ lanes w0 w1 crc => stripe lanes (framed (ackBody w0 w1) crc)
  | .nak _ lanes w0 w1 crc => stripe lanes (framed (ackBody w0 w1) crc)
  | .set _ lanes x => (lanesOf lanes).map fun k => (k, x.syms k)
  | .abandoned _ lanes p crc chars => stripe lanes (framedCut (packetBody p) crc chars)
  | .preamble _ lanes _ => (lanesOf lanes).map fun k => (k, [symD 0x4A])
  | .word _ _ => [] | .regData _ _ => [] | .twByte _ => [] | .twAck _ => [] | .twStart _ => [] | .tdo _ => []

/-- The port that a thing leaves on. -/
def Out.port : Out → Option Nat
  | .packet n _ _ _ => some n
  | .replay n _ _ _ => some n
  | .ack n _ _ _ _ => some n
  | .nak n _ _ _ _ => some n
  | .set n _ _ => some n
  | .abandoned n _ _ _ _ => some n
  | .preamble n _ _ => some n
  | .word _ _ => none | .regData _ _ => none | .twByte _ => none | .twAck _ => none | .twStart _ => none | .tdo _ => none

/-- What has left, newest first, with the packet that a port sent last cut off where it stands in progress: nothing has followed it on
the port, and it is the newest of the replay buffer (R317). None where there is no such packet. -/
def cutLast (n chars : Nat) (x : Packet) : List Out → Option (List Out)
  | [] => none
  | o :: t =>
    if o.port = some n then match o with
      | .packet n lanes p crc => if p = x then some (.abandoned n lanes p crc chars :: t) else none
      | .replay n lanes p crc => if p = x then some (.abandoned n lanes p crc chars :: t) else none
      | .ack _ _ _ _ _ => none | .nak _ _ _ _ _ => none | .set _ _ _ => none | .abandoned _ _ _ _ _ => none | .preamble _ _ _ => none
      | .word _ _ => none | .regData _ _ => none | .twByte _ => none | .twAck _ => none | .twStart _ => none | .tdo _ => none
    else (cutLast n chars x t).map fun l => o :: l

/-! ## Coding what leaves (R292) -/

/-- Codes characters with the running disparity of their lane, which goes on from each to the next. -/
def encodeAll (plus : Bool) : List Sym → List (BitVec 10) × Bool
  | [] => ([], plus)
  | c :: t =>
    let x := encode10 plus c
    let r := encodeAll x.2 t
    (x.1 :: r.1, r.2)

/-- The characters that a lane of a port carries in a list of what left. -/
def laneChars (n k : Nat) (l : List Out) : List Sym :=
  l.flatMap fun o => if o.port = some n then (o.onLanes.filter fun e => e.1 == k).flatMap fun e => e.2 else []

/-- The codes that a lane has sent, and its transmit running disparity now, which every lane keeps of its own; negative before the
first (R292) (log 141). -/
def State.laneCodes (s : State) (n k : Nat) : List (BitVec 10) × Bool := encodeAll false (laneChars n k s.out)

/-- The disparity of a block alone: more ones, more zeros, or a balanced block that fixes it (IEEE 802.3 Clause 36). -/
def blockPlus (bits x : Nat) (plus : Bool) : Bool :=
  let ones := 2 * onesIn bits x
  if bits < ones then true
  else if ones < bits then false
  else if x = 2 ^ (bits / 2) - 1 then true
  else if x = 2 ^ bits - 2 ^ (bits / 2) then false
  else plus

/-- The receiver's running disparity after a code, valid or not (R292) (log 141). -/
def plusAfter (plus : Bool) (code : BitVec 10) : Bool := blockPlus 4 (code.toNat % 16) (blockPlus 6 (code.toNat / 16) plus)

/-! ## Judging what arrives (R325) -/

/-- Characters between STP and END that W0 requires: body and CRC. -/
def wireNeed (w0 : Nat) : Nat :=
  let typ := w0 % 16
  if typ = 8 ∨ typ = 9 then 12
  else if typ = 1 ∨ typ = 5 then 20
  else 20 + 4 * (w0 / 2 ^ 20 % 256)

/-- TYPE of a received packet names an ACK or a NAK. -/
def wireAck (rx : List Byte) : Bool := leVal (rx.take 1) % 16 == 8 || leVal (rx.take 1) % 16 == 9

/-- Fewer characters than W0 requires. -/
def wireShort (rx : List Byte) : Bool := decide (rx.length < 12) || decide (rx.length < wireNeed (leVal (rx.take 4)))

/-- The CRC does not match the body. -/
def wireCrcBad (rx : List Byte) : Bool := leVal (rx.drop (rx.length - 4)) != (crc32 (rx.take (rx.length - 4))).toNat

end Sys2Proof.Machine
end

