-- ==== Sys2Proof/Machine/Wire.lean ====
section
/-! DEFINITION. Sending on a port (R316 to R332, R337): composing packets, the queue of each port, credits, the replay
buffer, and ACK and NAK. -/

namespace Sys2Proof

def Packet.typ (p : Packet) : Nat := Machine.fieldOf p.w0 0 4
def Packet.seq (p : Packet) : Nat := Machine.fieldOf p.w0 8 12
def Packet.len (p : Packet) : Nat := Machine.fieldOf p.w0 20 8
def Packet.dst (p : Packet) : Nat := Machine.fieldOf p.w1 0 6
def Packet.dkind (p : Packet) : Nat := Machine.fieldOf p.w1 6 2
def Packet.tc (p : Packet) : Nat := Machine.fieldOf p.w1 16 3
def Packet.tag (p : Packet) : Nat := Machine.fieldOf p.w1 20 12

/-- Cost in credit units: 1 + ceil(P / 64) (R329). -/
def Packet.cost (p : Packet) : Nat := 1 + Machine.ceilDiv (4 * p.payload.length) 64

/-- Bytes it takes in the replay buffer: body plus 4 (R324). -/
def Packet.replayBytes (p : Packet) : Nat := 16 + 4 * p.payload.length + 4

end Sys2Proof

namespace Sys2Proof.Machine

/-- Packet types (R321). -/
inductive PType where
  | mrd | mwr | cpl | dbl | cfgRd | cfgWr | msg
  deriving DecidableEq, Repr

def PType.code : PType → Nat
  | .mrd => 1 | .mwr => 2 | .cpl => 3 | .dbl => 4 | .cfgRd => 5 | .cfgWr => 6 | .msg => 7

/-- Credit pools: 0 P, 1 NP, 2 CPL (R321, R329). -/
def poolOf (typ : Nat) : Nat :=
  match typ with
  | 1 => 1 | 5 => 1 | 6 => 1 | 3 => 2 | _ => 0

/-- Units the YXB3210 gives in each pool (R329). -/
def poolSize (pool : Nat) : Nat :=
  match pool with
  | 0 => 128 | 1 => 32 | _ => 256

/-- W1 of an ACK or NAK: units freed since UP plus the size of each pool, modulo 1,024 (R331). -/
def Port.limitsWord (p : Port) : Word :=
  packed ((List.range 3).map fun k => (Tab.get 0 p.freed k + poolSize k, 10 * k, 10))

/-- W0 of an ACK or NAK. -/
def Port.ackWord (p : Port) (typ : Nat) : Word := packed [(typ, 0, 4), (p.nextRcv.toNat + 4095, 8, 12)]

/-- FTS sets of a wake burst: the partner's N_FTS for a light exit, four times it for a deep one (R308, R309). -/
def Port.wakeSets (p : Port) (deep : Bool) : Nat := if deep then 4 * p.pNfts.toNat else p.pNfts.toNat

/-- FTS sets, then one SKP, on these lanes (R308). -/
def State.burst (s : State) (n : Nat) (lanes : Byte) (count : Nat) : State :=
  ((List.range count).foldl (fun s _ => s.emit (.set n lanes .fts)) s).emit (.set n lanes .skp)

/-- The lanes that packets are striped over: the agreed ones, or L0 alone while the bulk lanes idle (R307, R316). -/
def Port.sendLanes (p : Port) : Byte := if p.bulkTx = 0 then p.lanes else 1

/-- The lanes that ordered sets go out on: the agreed ones, in LIDLE too, or L0 alone while the bulk lanes are in electrical idle
(R293, R303, R307). -/
def Port.setLanes (p : Port) : Byte := if p.bulkTx.toNat < 2 then p.lanes else 1

/-- Wakes a sleeping L0 transmitter: the service wake burst is sent and the direction is awake; a deep sleeper relocks its
lane PLL first (R308 to R310). -/
def State.wakeL0 (s : State) (n : Nat) : State :=
  let p := s.port n
  if p.svcTx == 0 ∨ p.st ≠ .up then s
  else
    let lock := if p.svcTx = 2 then s.clk.laneLock ||| ((1 : BitVec 4) <<< n) else s.clk.laneLock
    let deep := p.svcTx == 2
    (({ s with clk := { s.clk with laneLock := lock } }.emit (.preamble n 1 (if deep then 4 else 1))).burst n 1 (p.wakeSets deep)).updPort
      n fun p => { p with svcTx := 0, sentAt := s.now }

/-- Sends an ACK, and notes the limits it carries (R328, R331). -/
def State.sendAck (s : State) (n : Nat) : State :=
  let s := s.wakeL0 n
  let p := s.port n
  (s.emit (.ack n p.sendLanes (p.ackWord 8) p.limitsWord (crc32 (ackBody (p.ackWord 8) p.limitsWord)))).updPort n fun p =>
    { p with ackOwed := 0, freedSent := p.freed, sentAt := s.now }

/-- REPLAY_TO of a port in ticks (R357). -/
def State.replayTo (s : State) (n : Nat) : Nat := s.fld .lnkLlc n 8 8

/-- Sends a NAK unless one stands, which it does until a packet is accepted or REPLAY_TO has passed; it is counted (R327). -/
def State.sendNak (s : State) (n : Nat) : State :=
  let s := s.wakeL0 n
  let p := s.port n
  if p.nakSent ∧ s.now < p.nakDue then s
  else (s.emit (.nak n p.sendLanes (p.ackWord 9) p.limitsWord (crc32 (ackBody (p.ackWord 9) p.limitsWord)))).updPort n fun p =>
    { p with nakSent := true, nakDue := s.now + s.replayTo n, ackOwed := 0, freedSent := p.freed, naksSent := satInc p.naksSent 1, sentAt := s.now }

/-- Whether a pool of the port has credit for a cost (R330). -/
def Port.hasCredit (p : Port) (pool cost : Nat) : Bool :=
  let c := (Tab.get 0 p.consumed pool).toNat
  let l := (Tab.get 0 p.limit pool).toNat
  (l + 2048 - c - cost) % 1024 < 512

/-- Whether the replay buffer takes the packet (R324). -/
def Port.hasReplayRoom (p : Port) (x : Packet) : Bool :=
  p.replay.length < 2048 && (p.replay.foldl (fun a y => a + y.replayBytes) 0) + x.replayBytes ≤ 65536

/-- A message between link partners takes no part in the merge toward the host (R321, R337). -/
def linkMsg (p : Packet) : Bool := p.typ == 7 && p.dkind == 3

/-- The next packet among some of a port's queue: the first of its pool in their order, with credit (R332); a message to the link
partner passes no P packet of the whole queue. -/
def Port.nextAmong (p : Port) (mine : List (Nat × Nat × Packet)) : Option (Nat × Nat × Packet) :=
  mine.find? fun e =>
    (mine.find? fun f => f.1 == e.1) == some e && p.hasCredit e.1 e.2.2.cost && p.hasReplayRoom e.2.2 &&
      (!linkMsg e.2.2 || (p.txq.find? fun f => f.1 == e.1) == some e)

/-- The next packet of a source. -/
def Port.nextOf (p : Port) (src : Nat) : Option (Nat × Nat × Packet) := p.nextAmong (p.txq.filter fun e => e.2.1 == src)

/-- The sources in round robin after the one served last. -/
def Port.sourceOrder (p : Port) : List Nat := (List.range 5).map fun k => (p.lastSrc + 1 + k) % 5

/-- The next packet of a port: toward the host one packet of each source in turn, elsewhere in the order they were queued (R332, R337)
(log 119). -/
def Port.nextOut (p : Port) (up : Bool) : Option (Nat × Nat × Packet) :=
  if up then p.sourceOrder.findSome? p.nextOf else p.nextAmong p.txq

/-- The service lane of a port is trained (R45). -/
def Port.laneTrained (p : Port) : Bool := p.st == .up || p.st == .recovery

/-- A port sends while it is in UP and its L0 transmitter is awake (R305, R309). -/
def Port.canSend (p : Port) : Bool := p.st == .up && p.svcTx == 0

/-- The node's own MRD leaves: its timeout runs from now, as LNK_CFG.MRD_TO stands (R340, R356). -/
def State.mrdLeft (s : State) (x : Packet) : State :=
  { s with rng := { s.rng with mrds := s.rng.mrds.map fun m =>
      if m.tag.toNat = x.tag then { m with sent := true, at_ := s.now, limit := s.fld .lnkCfg 0 16 16 } else m } }

/-- Sends what may be sent now; `fuel` bounds the number of packets. -/
def State.pump : Nat → State → Nat → State
  | 0, s, _ => s
  | fuel + 1, s, n =>
    let p := s.port n
    if !p.canSend ∨ s.clk.tripped.contains (34 + n) then s
    else match p.nextOut (n == s.lnk.upPort.toNat) with
    | none => s
    | some e =>
      let x : Packet := { e.2.2 with w0 := withField e.2.2.w0 8 12 p.nextTx.toNat }
      let p' : Port := { p with
        txq := p.txq.erase e, lastSrc := e.2.1, replay := p.replay ++ [x], sentAt := s.now, nextTx := p.nextTx + 1,
        replayDue := if p.replay.isEmpty then s.now + s.replayTo n else p.replayDue
        consumed := Tab.upd 0 p.consumed e.1 fun c => c + BitVec.ofNat 10 x.cost }
      let s := if x.typ = 1 ∧ e.2.1 = 4 then s.mrdLeft x else s
      State.pump fuel ((s.setPort n p').emit (.packet n p.sendLanes x (crc32 (packetBody x)))) n

/-- Queues a packet on a port and sends what may be sent: a port that is not UP or in RECOVERY takes none. -/
def State.enqueue (s : State) (n src : Nat) (x : Packet) : State :=
  let p := s.port n
  if p.st ≠ .up ∧ p.st ≠ .recovery then s
  else
    let s := s.updPort n fun p => { p with txq := p.txq ++ [(poolOf x.typ, src, x)] }
    let s := s.wakeL0 n
    s.pump ((s.port n).txq.length) n

/-! ## The node's own packets -/

/-- SRC and SKIND: an ID once the node has one (R320, R333). -/
def State.srcBits (s : State) : List (Nat × Nat × Nat) :=
  if s.lnk.valid then [(s.lnk.id.toNat, 8, 6), (0, 14, 2)] else [(0, 8, 6), (2, 14, 2)]

/-- W1 of a packet the node originates. -/
def State.ownW1 (s : State) (dst dkind tc tag : Nat) : Word :=
  packed (s.srcBits ++ [(dst, 0, 6), (dkind, 6, 2), (tc, 16, 3), (tag, 20, 12)])

/-- W0 before its SEQ is placed. -/
def headWord (t : PType) (len : Nat) : Word := packed [(t.code, 0, 4), (len, 20, 8)]

/-- A packet of the node to the host, on its upstream port (R333, R336). -/
def State.toHost (s : State) (t : PType) (len tc tag : Nat) (w2 w3 : Word) (payload : List Word) : State :=
  s.enqueue s.lnk.upPort.toNat 4
    { w0 := headWord t len, w1 := s.ownW1 0 1 tc tag, w2 := w2, w3 := w3, payload := payload }

/-- A memory write of at most 512 bytes. -/
def State.mwr (s : State) (tc : Nat) (addr : Nat) (bytes : List Byte) : State :=
  let ws := bytesWords bytes
  s.toHost .mwr ws.length tc 0 (BitVec.ofNat 32 addr) (BitVec.ofNat 32 (addr / 2 ^ 32)) ws

/-- Memory writes of a run of bytes, cut at 512 bytes. -/
def State.mwrAll (s : State) (tc : Nat) (addr : Nat) (bytes : List Byte) : State :=
  ((chunksOf 512 bytes.length bytes).foldl (fun (a : State × Nat) c => (a.1.mwr tc a.2 c, a.2 + c.length)) (s, addr)).1

/-- A tag that no outstanding MRD carries; none while 4,096 are outstanding (R321). -/
def State.freeTag (s : State) : Option (BitVec 12) :=
  ((List.range 4096).find? fun k => s.rng.mrds.all fun m => m.tag != s.rng.nextTag + BitVec.ofNat 12 k).map fun k =>
    s.rng.nextTag + BitVec.ofNat 12 k

/-- Queues an MRD and notes it; its timeout begins as it leaves (R340, R356). -/
def State.sendMrd (s : State) (tag : BitVec 12) (tc addr words : Nat) (use : MrdFor) : State :=
  let m : Mrd := { tag := tag, use := use, words := words, at_ := s.now, sent := false, limit := 0 }
  let s := { s with rng := { s.rng with mrds := s.rng.mrds ++ [m], nextTag := tag + 1 } }
  s.toHost .mrd words tc tag.toNat (BitVec.ofNat 32 addr) (BitVec.ofNat 32 (addr / 2 ^ 32)) []

/-- The oldest MRD that waits is sent once a tag is free (R321). -/
def State.mrdNext (s : State) : State :=
  match s.rng.mrdQ, s.freeTag with
  | x :: t, some tag => { s with rng := { s.rng with mrdQ := t } }.sendMrd tag x.1 x.2.1 x.2.2.1 x.2.2.2
  | _, _ => s

/-- Asks for an MRD: it is sent behind those that wait, at once where a tag is free. -/
def State.mrd (s : State) (tc : Nat) (addr words : Nat) (use : MrdFor) : State :=
  { s with rng := { s.rng with mrdQ := s.rng.mrdQ ++ [(tc, addr, words, use)] } }.mrdNext

/-- The upstream port carries the node's packets; a port in RECOVERY counts as up (R305, log 97). -/
def State.upstreamUp (s : State) : Bool := (s.port s.lnk.upPort.toNat).laneTrained

end Sys2Proof.Machine
end

