-- ==== Sys2Proof/Machine/Flags.lean ====
section
/-! DEFINITION. Status that is computed, not stored: service floors and RST_SERVICE (R40 to R45), the loads of rings
and channels, and the conditions other rules test. -/

namespace Sys2Proof.Machine

/-- The reset of a block is in progress, or waits for a segment of logic BIST to end (R429, R461). -/
def Die.resetting (d : Die) (b : Byte) : Bool := d.blockBusy.contains b || d.blockPend.any fun e => e.1 == b

/-- Some service lane is trained. -/
def State.anyLane (s : State) : Bool := (List.range 4).any fun n => (s.port n).laneTrained

/-- The register file is released and its access paths are served (R421, R512, R379). -/
def State.regsServed (s : State) : Bool :=
  s.die.mgmt && (s.die.mode == .running || s.die.mode == .safe || s.die.mode == .clickHold)

/-- The two-wire target answers its address (R523). -/
def State.twAnswers (s : State) : Bool := s.regsServed && (s.die.mode == .safe || decide (s.pwr.state.toNat < 4))

/-- The management floor (R40). -/
def State.mgmtFloor (s : State) : Bool := s.regsServed && (s.twAnswers || s.anyLane)

/-- The data floor (R41): the ring engine is in service, and no group fails whose failure leaves the management floor only
(R464). -/
def State.dataFloor (s : State) : Bool :=
  s.mgmtFloor && s.die.mode == .running && s.otp.trusted.getLsbD 1 && (s.bst.memFail &&& 0x7207) == 0 && !(s.die.blockBusy.contains 0x04) &&
    decide (0 < s.workingCodecs) && !s.servingChans.isEmpty && s.anyLane

/-- Every codec, the security engine and every non-retired channel of every powered tier are in service (R45). -/
def State.fullService (s : State) : Bool :=
  s.pcd.codecOut == 0 && !s.secOut &&
    allTiers.all fun t => !(s.tier t).powered || (chansOfTier t).all fun i => (s.chan i).retired || s.isServing i

/-- The Hive core's code as a block that can be reset (R429). -/
def blkHive : Byte := 0x0A

/-- The Hive core runs firmware: CK_HIVE stops in P4, until its domain restarts at the exit (R37, R366). -/
def State.hiveOk (s : State) : Bool :=
  s.die.hiveRun && !s.die.hiveHalted && !s.die.blockBusy.contains blkHive && (decide (s.pwr.state.toNat < 4) || !s.pwr.gateA)

/-- A segment of logic BIST is in progress on a partition (R457). -/
def State.testing (s : State) (p : Nat) : Bool := s.bst.inSegment && s.bst.part == p

/-- A segment is in progress on the blocks that a channel needs (R456, R460). -/
def State.underTest (s : State) (i : Nat) : Bool := s.testing (tierOf i / 8) || s.testing 4

/-- While VDD_IO is low the two-wire bus and the pins are undefined: whether the die sees what happens on one is a free value (R392)
(log 9). -/
def State.onPin (s : State) (f : State → State) : State :=
  if !s.die.uvIo then f s
  else
    let t : State := { s with free := s.free + 1 }
    if Config.pinSeen s.free then f t else t

/-- Microseconds since the mark origin, as a mark holds them: never 0, and saturated (R433). -/
def State.mark (s : State) : Word := BitVec.ofNat 32 (min (2 ^ 32 - 1) (max 1 s.die.markUs))

/-- RST_SERVICE.LEVEL (R45). -/
def State.serviceLevel (s : State) : Nat :=
  if !s.mgmtFloor then 0 else if !s.dataFloor then 1 else if s.fullService then 3 else 2

/-- Tiers with at least one serving channel (R579). -/
def State.servingTiers (s : State) : List Nat := allTiers.filter fun t => (chansOfTier t).any s.isServing

/-- RST_SERVICE (R45). -/
def State.rstService (s : State) : Word :=
  packed [(s.serviceLevel, 0, 2), (oneIf s.twAnswers, 2, 1),
    ((List.range 4).foldl (fun a n => a + oneIf (s.port n).laneTrained * 2 ^ n) 0, 3, 4), (oneIf (!s.secOut), 7, 1),
    (s.servingTiers.length, 8, 6), (s.servingChans.length, 16, 11), (min 31 (32 - s.workingCodecs), 27, 5)]

/-! ## Rings -/

def State.sqSize (s : State) (q : Nat) : Nat := 2 ^ s.fld .sqcW2 q 0 5
def State.cqSize (s : State) (q : Nat) : Nat := 2 ^ s.fld .cqcW2 q 0 5
def State.sqCq (s : State) (q : Nat) : Nat := s.fld .sqcW2 q 16 12
def State.sqStream (s : State) (q : Nat) : Bool := s.flag .sqcW3 q 8
def State.sqBase (s : State) (q : Nat) : Nat := s.fld .sqcW0 q 6 26 * 64 + s.fld .sqcW1 q 0 32 * 2 ^ 32
def State.cqBase (s : State) (q : Nat) : Nat := s.fld .cqcW0 q 6 26 * 64 + s.fld .cqcW1 q 0 32 * 2 ^ 32

/-- Distance modulo a ring's size. -/
def ringDist (size a b : Nat) : Nat := (a + size - b % size) % size

/-- Descriptors between HEAD and TAIL (R174). -/
def State.pend (s : State) (q : Nat) : Nat := ringDist (s.sqSize q) (s.sq q).tail.toNat (s.sq q).head.toNat

/-- Entries written and not yet freed by a doorbell. -/
def State.cqUsed (s : State) (q : Nat) : Nat := ringDist (s.cqSize q) (s.cq q).tail.toNat (s.cq q).head.toNat

def State.evtEn (s : State) : Bool := s.flag .rngEvtCq 0 16
def State.evtCq (s : State) : Nat := s.fld .rngEvtCq 0 0 12

/-- Free entries of a CQ beyond RESERVED (R195, R203). -/
def State.cqSpare (s : State) (q : Nat) : Nat := s.cqSize q - 1 - s.cqUsed q - (s.cq q).reserved

/-- An event path exists (R193); the ring engine writes by it while its domain runs (R37, R197). -/
def State.eventPath (s : State) : Bool :=
  s.dataFloor && s.evtEn && (s.cq s.evtCq).st == .active && !s.pwr.gateA && decide (s.pwr.state.toNat < 2)

/-- The event ring is configured: an event that arises in P2 to P4 wakes the node (R197). -/
def State.eventSetUp (s : State) : Bool := s.evtEn && (s.cq s.evtCq).st == .active

/-- The upstream port is in UP (R342). -/
def State.upstreamReady (s : State) : Bool := (s.port s.lnk.upPort.toNat).st == .up

/-- An event message can be sent (R342). -/
def State.messagePath (s : State) : Bool := s.lnk.valid && s.upstreamReady

/-- Enabled SQs that name a CQ (R168): every SQ that is not DISABLED stands in the table. -/
def State.sqsOf (s : State) (q : Nat) : Nat :=
  (s.rng.sqs.filter fun e => e.2.st != .disabled && s.sqCq e.1 == q).length

/-! ## Channel queues -/

/-- Requests of a traffic class in a list. -/
def ofTc (l : List Req) (t : Nat) : Nat := (l.filter fun r => r.tc == some (BitVec.ofNat 3 t)).length

/-- A stream ring's request waits for the channel while the ring is in panic (R278). -/
def State.panicked (s : State) (i : Nat) : Bool :=
  let c := s.chan i
  (c.queue ++ c.ringq).any fun r =>
    match r.cmd.bind s.cmd with
    | some k => (s.sq k.sq).panic
    | none => false

/-- W of R270: the highest traffic class with a waiting HOST or NMO request. -/
def State.topWaiting (s : State) (i : Nat) : Option Nat :=
  let c := s.chan i
  (c.queue ++ c.ringq).foldl (fun a r =>
    match r.tc with
    | some t => some (max t.toNat (a.getD 0))
    | none => a) none

/-- Applied guarantee of a class (R281). -/
def State.applied (s : State) (n : Nat) : Nat := Tab.get 0 s.qos.applied n

/-- The running count of a class is below its quota at this instant (R273). -/
def State.belowQuota (s : State) (n : Nat) : Bool := decide (Tab.get 0 s.qos.bytes n < s.applied n * 102400)

/-- Judges which classes are under guarantee (R273). -/
def State.judgeQuotas (s : State) : State :=
  { s with qos := { s.qos with guar := BitVec.ofNat 8 ((List.range 8).foldl (fun a n => a + oneIf (s.belowQuota n) * 2 ^ n) 0) } }

/-- A class is under guarantee, as last judged (R273). -/
def State.guaranteed (s : State) (n : Nat) : Bool := s.qos.guar.getLsbD n

/-- The limit of a class on a channel; TC7 is held at LIM_MAX while the channel has panic raised (R269, R270). -/
def State.limitOf (s : State) (i n : Nat) : Nat :=
  if n = 7 ∧ s.panicked i then s.fld .qosTc 7 24 6 else Tab.get 2 (s.chan i).lim n

/-! ## Work (R361) -/

/-- A frozen channel holds requests (R110). -/
def State.frozenHolds (s : State) : Bool :=
  s.tch.chans.any fun e => e.2.st == .frozen && !(e.2.queue.isEmpty && e.2.ringq.isEmpty)

/-- A halted Hive core runs again: a recomputation that it owes is still outstanding (R284). -/
def State.hiveResume (s : State) : State :=
  { s with die := { s.die with hiveHalted := false },
           qos := { s.qos with stale := s.qos.stale || (s.die.hiveHalted && s.qos.causes != 0) } }

/-- The pair of region r and tier t is to be formatted (R138). -/
def State.formatPending (s : State) (r t : Nat) : Bool := (s.tier t).accepted && !(s.ready r t)

/-- Some format is pending. -/
def State.formatting (s : State) : Bool :=
  s.flag .scbCfg 0 0 && s.flag .scbCfg 0 1 && allTiers.any fun t => (List.range 256).any fun r => s.formatPending r t

/-- E of R178. -/
def State.evtRoom (s : State) (c : Nat) : Nat := oneIf (s.evtEn && s.evtCq == c)

/-- Commands whose entries a CQ has room for (R178). -/
def State.cqRoom (s : State) (c : Nat) : Nat := (s.cqSize c - 1 - s.evtRoom c - s.cqUsed c - (s.cq c).reserved) / 2

/-- Descriptors asked for and not yet checked. -/
def SqCtx.inFlight (x : SqCtx) : Nat := x.fetch.foldl (fun a e => a + e.2.2.1) 0

/-- Commands held device-wide, with the descriptors in flight. -/
def State.held (s : State) : Nat := s.rng.cmds.length + s.rng.sqs.foldl (fun a e => a + e.2.inFlight) 0

/-- Some ACTIVE SQ has descriptors it may fetch, within its own limits, its CQ's room and the 4,096 of R179, or is fetching them
(R178, R179). -/
def State.mayFetch (s : State) : Bool :=
  s.dataFloor && !s.pwr.gateA && !(s.clk.tripped.contains 0) && !s.testing 4 && s.rng.sqs.any fun e =>
    e.2.st == .active && decide (0 < s.pend e.1) && decide (e.2.out < s.fld .sqcW7 e.1 16 11) &&
      (s.cq (s.sqCq e.1)).st == .active && (!e.2.fetch.isEmpty || (decide (1 ≤ s.cqRoom (s.sqCq e.1)) && decide (s.held < 4096)))

/-- The node is in P0 (R361, first sentence). -/
def State.busyHost (s : State) : Bool :=
  !s.rng.cmds.isEmpty || s.mayFetch || (List.range 4).any fun n => !(s.port n).txq.isEmpty

/-- The node has work (R361). -/
def State.hasWork (s : State) : Bool :=
  s.busyHost || !s.pcd.merge.isEmpty || s.frozenHolds || s.formatting || s.tch.tiers.any (fun e => e.2.wake) ||
    s.tch.chans.any (fun e => e.2.st == .training || e.2.st == .retraining) || s.tch.tiers.any (fun e => e.2.changing) ||
    !s.cal.running.isEmpty || !s.cal.pend.isEmpty || s.bst.state == 1 || s.bst.state == 2 || !s.pwr.openQ.isEmpty || s.pwr.opening.isSome || !s.pwr.closeQ.isEmpty ||
    s.otp.busy.isSome || (s.evtEn && !s.rng.held.isEmpty) || s.rng.cqs.any (fun e => !e.2.held.isEmpty) ||
    (s.flag .scbCfg 0 0 && s.scb.running && decide (s.scb.passStart + 2 * s.fld .scbPace 0 0 16 * 60000000 < s.now))

end Sys2Proof.Machine
end

