-- ==== Sys2Proof/Machine/PowerExit.lean ====
section
/-! DEFINITION. Moving between power states and starting an exit to P0 (R359 to R366, R371). -/

namespace Sys2Proof.Machine

/-! ## The allowance for load changes (R398, R399) (log 116) -/

/-- The load changes that the sliding window of 10 µs holds. -/
def State.drawn (s : State) : Load :=
  (s.pwr.grants.filter fun g => decide (s.pwr.us < g.till)).foldl
    (fun a g => { core := a.core + g.load.core, t := a.t + g.load.t, lnk := a.lnk + g.load.lnk }) ⟨0, 0, 0⟩

/-- What is left of the allowance of 3.8 A on every rail. -/
def State.spare (s : State) : Load :=
  { core := 38000 - s.drawn.core, t := 38000 - s.drawn.t, lnk := 38000 - s.drawn.lnk }

/-- A load change fits in the allowance. -/
def State.loadFits (s : State) (l : Load) : Bool :=
  decide (l.core ≤ s.spare.core) && decide (l.t ≤ s.spare.t) && decide (l.lnk ≤ s.spare.lnk)

/-- Grants a load change that goes on for `span` ticks after its first one. -/
def State.grant (s : State) (l : Load) (span : Nat) : State :=
  { s with pwr := { s.pwr with
    grants := (s.pwr.grants.filter fun g => decide (s.pwr.us < g.till)) ++ [{ load := l, till := s.pwr.us + 10 + span }] } }

/-- A tier gate, a tier clock, and an island of the base die with its clocks (R399). -/
def gateLoad : Load := ⟨0, 5000, 0⟩
def tierLoad : Load := ⟨0, 3000, 0⟩
def islandLoad : Load := ⟨10000, 0, 0⟩

/-- The bulk lanes of a port: 2.49 A is 28 of them (R399). -/
def Port.bulkLoad (p : Port) : Load :=
  ⟨0, 0, 889 * ((List.range 7).filter fun k => p.lanes.getLsbD (k + 1)).length⟩

/-- A movement of the twelve islands starts once it fits in the allowance: one every 12 µs, after those that move already (R398). -/
def State.isleTick (s : State) : State :=
  if !s.pwr.isleWait ∨ !s.loadFits islandLoad then s
  else
    let first := max s.pwr.us s.pwr.isleTo
    let s := s.grant islandLoad (first + 144 - s.pwr.us)
    { s with pwr := { s.pwr with isleTo := first + 144, isleWait := false } }

/-- The twelve islands of the base die open or close (R366, R399, R408). -/
def State.moveIslands (s : State) : State := { s with pwr := { s.pwr with isleWait := true } }.isleTick

/-- No movement of the islands waits or runs. -/
def State.islesDone (s : State) : Bool := !s.pwr.isleWait && decide (s.pwr.isleTo ≤ s.pwr.us)

/-- 32 µs have passed since the last tier took SRX or its clock (R399). -/
def State.srxSpaced (s : State) : Bool :=
  match s.pwr.lastSrx with | some at_ => decide (at_ + 32 ≤ s.pwr.us) | none => true

/-- Bulk transmitter state of a power state (R307). -/
def bulkCode (p : Nat) : BitVec 2 :=
  match p with
  | 0 => 0 | 1 => 1 | 2 => 2 | _ => 3

/-- The bulk lanes of a port follow the node's state: IDL_E on the way down, a Firefly burst on the way up
(R307, R308), and IDLE in LIDLE. What the bulk lanes carry is nothing that L0 sends (R309). Outside UP the change waits (R306), as it does where it does not fit in the allowance (R398). -/
def State.moveBulk (s : State) (n : Nat) (dest : Nat) : State :=
  let p := s.port n
  let wasIdle := decide (2 ≤ p.bulkTx.toNat)
  let moves := wasIdle != decide (2 ≤ dest)
  if p.st ≠ .up ∨ p.bulkTx = bulkCode dest ∨ (moves ∧ !s.loadFits p.bulkLoad) then s
  else
    let s := if moves then s.grant p.bulkLoad 0 else s
    let bulk := p.lanes &&& 0xFE
    let s := if wasIdle ∧ dest < 2 then
        let s := s.wakeL0 n
        (if p.bulkTx = 3 then s.emit (.preamble n bulk 4) else s).burst n bulk (p.wakeSets (p.bulkTx == 3))
      else s
    let s := if !wasIdle ∧ 2 ≤ dest then s.emit (.set n bulk .idlE) else s
    let s := if dest = 1 then s.emit (.set n bulk .idle) else s
    s.updPort n fun p => { p with bulkTx := bulkCode dest }

/-- Every port's bulk lanes. -/
def State.moveAllBulk (s : State) (dest : Nat) : State := (List.range 4).foldl (fun s n => s.moveBulk n dest) s

/-- A change of the power state, with its history entry (R371). -/
def State.setPower (s : State) (dest cause : Nat) : State :=
  if s.pwr.state.toNat = dest then s
  else
    let e : PwrEntry := { time := s.tim.count, from_ := s.pwr.state.setWidth 8, dest := BitVec.ofNat 8 dest,
                          cause := BitVec.ofNat 16 cause, seq := s.pwr.histSeq }
    let h := s.pwr.history ++ [e]
    let s := { s with pwr := { s.pwr with
      state := BitVec.ofNat 3 dest, cause := BitVec.ofNat 4 cause, history := h.drop (h.length - 64), histSeq := s.pwr.histSeq + 1,
      idleSince := if dest = 0 then s.now else s.pwr.idleSince } }
    s.moveAllBulk dest

/-- Powered tiers, in rising order. -/
def State.poweredTiers (s : State) : List Nat := allTiers.filter fun t => (s.tier t).powered

/-- Powered tiers whose clock is stopped: in power-down or self-refresh. -/
def State.parkedTiers (s : State) : List Nat := s.poweredTiers.filter fun t => (s.tier t).selfRef || (s.tier t).pwrDown

/-- Starts a wake pass on a tier, unless SCB_CFG.EN is 0; `judge` is false where the pass judges nothing (R157, R160, R420). -/
def State.startWake (s : State) (t : Nat) (judge : Bool) : State :=
  if !s.flag .scbCfg 0 0 then s
  else
  let s := s.updTier t fun x => { x with wake := true, wakeK := 0, wakeT := 0, wakeBad := false, wakeJudge := judge }
  s.updChans (chansOfTier t) fun _ c => if c.retired then c else { c with wakeAt := some 0 }

/-- The end of an exit from P4: P0 follows the restart of every tier, and a wake pass starts on each tier that held a
multiplier above x1 (R157, R366). -/
def State.endExit (s : State) : State :=
  let s := { s with pwr := { s.pwr with exiting := false } }
  let s := s.setPower 0 s.pwr.exitCause
  s.poweredTiers.foldl (fun s t => if (s.tier t).usedMult = 0 then s else s.startWake t true) s

/-- At an exit the gated domains of a VCO restart once it is locked and their islands stand open: at once from P2, at PLL_LOCK
from P3 and P4 (R39, R359, R366). With them the ring engine may fetch, and an exit from P2 or P3 has reached P0 (R360). -/
def State.ungate (s : State) : State :=
  if (2 ≤ s.pwr.state.toNat ∧ !s.pwr.exiting) ∨ s.clk.parked ∨ !s.islesDone then s
  else
    let s := { s with pwr := { s.pwr with gateA := s.pwr.gateA && !s.clk.fabA, gateB := s.pwr.gateB && !s.clk.fabB } }
    if s.pwr.exiting ∧ s.pwr.state ≠ 4 ∧ !s.pwr.gateA ∧ !s.pwr.gateB then
      { s with pwr := { s.pwr with exiting := false } }.setPower 0 s.pwr.exitCause
    else s

/-- WAKE_N is driven low for 1 ms (R365). -/
def State.pulseWake (s : State) : State := { s with pwr := { s.pwr with wakeLow := true, wakeLeft := 1000 } }

/-- An exit from P2 to P4 begins: the tiers that rest wait for their restart from tick `at_` on. -/
def State.beginExit (s : State) (cause at_ : Nat) : State :=
  { s with pwr := { s.pwr with exiting := true, exitCause := cause, restart := s.parkedTiers, restartAt := some at_ } }

/-- An exit to P0 from P1 to P4 (R360, R365, R366): from P2 and P3 the state is P0 once the fabric runs again, and does not wait
for the tiers; from P4 it follows the restart of every tier, whose SRX begin 200 µs after the cause, and WAKE_N is driven low
(log 64). Every move from P1 to P0 has cause 11 (R371, log 124). -/
def State.startExit (s : State) (cause : Nat) : State :=
  if s.pwr.exiting then s
  else match s.pwr.state.toNat with
  | 1 => s.setPower 0 11
  | 2 => (s.beginExit cause s.now).ungate
  | 3 => (s.beginExit cause s.now).ungate
  | 4 => ({ s with pwr := { s.pwr with p4Stay := s.now - s.pwr.p4Since } }.beginExit cause (s.now + 200)).pulseWake.moveIslands
  | _ => s

end Sys2Proof.Machine
end

