-- ==== Sys2Proof/Machine/Entries.lean ====
section
/-! DEFINITION. Completion and event entries (R183 to R201): writing an entry, notification, and posting events. -/

namespace Sys2Proof.Machine

/-- Kinds of entry (R183). -/
def kindFinal : Nat := 0
def kindProvisional : Nat := 1
def kindConfirm : Nat := 2
def kindRetract : Nat := 3
def kindEvent : Nat := 4

/-- An entry's four words, PHASE not placed (R183). -/
def mkEntry (cid sqid kind status sdetail sqhd : Nat) (res0 : Word) (res1 : Nat) : Entry :=
  { w0 := packed [(cid, 0, 16), (sqid, 16, 12), (kind, 28, 4)], w1 := packed [(status, 0, 8), (sdetail, 8, 8), (sqhd, 16, 16)],
    w2 := res0, w3 := packed [(res1, 0, 31)] }

def Entry.kind (e : Entry) : Nat := fieldOf e.w0 28 4

/-- Sends CQ_NOTIFY and clears what waits for it (R198, R199). -/
def State.notify (s : State) (q : Nat) : State :=
  let s := s.updCq q fun c => { c with unNote := 0, oldest := none }
  s.toHost .msg 1 0 0 2 0 [packed [(q, 0, 12), ((s.cq q).tail.toNat, 16, 16)]]

/-- The conditions of R199 that an entry just written, or a change of COAL_CNT, can meet. -/
def State.judgeNotify (s : State) (q : Nat) (atOnce : Bool) : State :=
  let cnt := s.fld .cqcW3 q 0 8
  if s.flag .cqcW3 q 24 ∧ 0 < (s.cq q).unNote ∧ (atOnce ∨ cnt ≤ (s.cq q).unNote) then s.notify q else s

/-- Writes one entry at TAIL with the phase of the pass, in a packet of its command's class, and judges its notification (R185,
R191, R199, R267, R320). -/
def State.placeEntry (s : State) (q : Nat) (e : Entry) (tc : Nat) (atOnce : Bool) : State :=
  let c := s.cq q
  let size := s.cqSize q
  let w3 := withField e.w3 31 1 (oneIf c.phase)
  let s := s.mwr tc (s.cqBase q + 16 * c.tail.toNat) (wordsBytes [e.w0, e.w1, e.w2, w3])
  let wraps := c.tail.toNat + 1 = size
  let s := s.updCq q fun c => { c with tail := if wraps then 0 else c.tail + 1, phase := if wraps then !c.phase else c.phase }
  let s := if s.flag .cqcW3 q 24 then
      s.updCq q fun c => { c with unNote := c.unNote + 1, oldest := some (c.oldest.getD s.now) } else s
  s.judgeNotify q atOnce

/-- Condition 4 of R199. -/
def Entry.urgent (e : Entry) (urgent : Bool) : Bool :=
  e.kind == kindEvent || e.kind == kindRetract ||
    (decide (e.kind ≠ kindProvisional) && (fieldOf e.w1 0 8 != 0 || urgent))

/-- Remembers the SQ and CID of a final entry: the last 256 device-wide (R236). -/
def State.remember (s : State) (q : Nat) (cid : BitVec 16) : State :=
  let l := s.rng.remembered ++ [(q, cid)]
  { s with rng := { s.rng with remembered := l.drop (l.length - 256) } }

/-- Writes a command's entry within its reservation, with the HEAD its SQ has now, which a rewrite of W5.HEAD may have moved since
(R178, R183, R236, R257, R260; for GEN_MISMATCH of R200 a DESIGN CHOICE, log 132). -/
def State.writeHeld (s : State) (q : Nat) (h : HeldEntry) : State :=
  let e : Entry := { h.entry with w1 := withField h.entry.w1 16 16 (s.sq h.sq).head.toNat }
  let s := (s.placeEntry q e h.tc (e.urgent h.urgent)).updCq q fun c => { c with reserved := c.reserved - 1 }
  match h.use with
  | .plain => s
  | .final _ => s
  | .pair cid => s.remember h.sq cid
  | .prov id =>
    match s.cmd id with
    | none => s
    | some c =>
      let s := s.updCmd id fun c => { c with provOut := true, after := [] }
      c.after.foldl (fun s w => s.mwrAll h.tc w.1 w.2) s

/-- Writes a command's entry; a CQ in ERROR holds it (R201). -/
def State.writeEntry (s : State) (q : Nat) (h : HeldEntry) : State :=
  if (s.cq q).st = .error then s.updCq q fun c => { c with held := c.held ++ [h] } else s.writeHeld q h

/-! ## Events -/

/-- The EVENTS_LOST entry, while entries were lost and one free entry exists (R195). -/
def State.reportLost (s : State) : State :=
  let q := s.evtCq
  if s.eventPath ∧ s.rng.evLost ≠ 0 ∧ 1 ≤ s.cqSpare q then
    let e := mkEntry 0xFF 0 kindEvent 2 s.lnk.id.toNat s.rng.evSeq.toNat (s.rng.evLost.setWidth 32) 0
    let s := { s with rng := { s.rng with evLost := 0, evSeq := s.rng.evSeq + 1 } }
    s.placeEntry q e 0 true
  else s

/-- Counts an event whose entry is lost; where one entry is free, the loss is reported at once (R195). -/
def State.loseEvent (s : State) : State :=
  { s with rng := { s.rng with evLost := satInc s.rng.evLost 1, evTotal := satInc s.rng.evTotal 1 } }.reportLost

/-- Writes an event entry where room allows (R195). -/
def State.eventEntry (s : State) (e : Entry) : State :=
  if 2 ≤ s.cqSpare s.evtCq then s.placeEntry s.evtCq e 0 true else s.loseEvent

/-- Sends an event message, PHASE 0 (R341, R342). -/
def State.eventMessage (s : State) (e : Entry) : State := s.toHost .msg 4 0 0 1 0 [e.w0, e.w1, e.w2, e.w3]

/-- The message of an event may go now: it does not wait for the data floor, or the floor is reached (R46, R342). -/
def State.messageMayGo (s : State) (h : HeldEvent) : Bool := s.messagePath && (!h.atFloor || s.dataFloor)

/-- Delivers what the present paths allow of one held event; none when nothing is left to do. -/
def State.deliver (s : State) (h : HeldEvent) : State × Option HeldEvent :=
  let ent := h.needEnt && s.eventPath
  let s := if ent then s.eventEntry h.entry else s
  let msg := h.needMsg && s.messageMayGo h
  let s := if msg then s.eventMessage h.entry else s
  let h' : HeldEvent := { h with needMsg := h.needMsg && !msg, needEnt := h.needEnt && !ent }
  (s, if h'.needMsg || h'.needEnt then some h' else none)

/-- Once an event path exists, lost events are reported first; then held events are written in the order they arose, and their
messages sent once those have a path (R193, R195, R342). -/
def State.flushHeld (s : State) : State :=
  let s := s.reportLost
  let r := s.rng.held.foldl (fun (a : State × List HeldEvent) h =>
    let d := a.1.deliver h
    (d.1, a.2 ++ d.2.toList)) (s, [])
  { r.1 with rng := { r.1.rng with held := r.2 } }

/-- Posts an event (R193 to R197, R342): it takes the next sequence number, wakes a node in P2 to P4 that has an event path
configured, is written as an entry and sent as a message, and what of it has no path yet is held. An event that finds no event
path and 16 held is lost and sends no message. One whose entry was written and whose message finds 16 held sends none
(DESIGN CHOICE, log 103). `atFloor` holds its message until the data floor is met (R46). -/
def State.postAs (s : State) (atFloor : Bool) (code sqid sev : Nat) (res0 : Word) (res1 : Nat) : State :=
  let s := if 2 ≤ s.pwr.state.toNat ∧ s.eventSetUp then s.startExit 5 else s
  let s := s.flushHeld
  let e := mkEntry code sqid kindEvent sev s.lnk.id.toNat s.rng.evSeq.toNat res0 res1
  let s := { s with rng := { s.rng with evSeq := s.rng.evSeq + 1 } }
  let room := decide (s.rng.held.length < 16)
  if !room ∧ !s.eventPath then s.loseEvent
  else
    let d := s.deliver ⟨e, atFloor, true, true⟩
    if room then { d.1 with rng := { d.1.rng with held := d.1.rng.held ++ d.2.toList } } else d.1

/-- Posts an event whose message waits for nothing but its path. -/
def State.postEvent (s : State) (code sqid sev : Nat) (res0 : Word) (res1 : Nat) : State := s.postAs false code sqid sev res0 res1

/-- Keeps what arrives for a block that sleeps, and wakes the node for it (R37 to R39, R310, R365). -/
def State.park (s : State) (x : Parked) : State := { s with lnk := { s.lnk with parked := s.lnk.parked ++ [x] } }.startExit 2

/-! ## The fault history (R501) -/

/-- The history with room for one more entry, and how many it replaces. -/
def roomIn (h : List FltEntry) (shadowed : Bool) : List FltEntry × Nat :=
  if shadowed ∧ 4 ≤ (h.filter fun e => e.shadowed).length then
    match h.find? fun e => e.shadowed with
    | some e => (h.erase e, 1)
    | none => (h, 0)
  else if 16 ≤ h.length then (h.drop 1, 1)
  else (h, 0)

/-- Enters an event in the history under the next sequence number. -/
def Flt.entered (f : Flt) (e : FltEntry) : Flt :=
  let room := roomIn f.hist e.shadowed
  { f with hist := room.1 ++ [{ e with seq := f.next }], lost := satInc f.lost room.2, next := f.next + 1, made := f.made + 1 }

/-! ## Service level (R46) -/

/-- The history entry of a change below the data floor: R46 asks for it, and no rule gives its source, class and detail (log 78). -/
def State.levelEntry (s : State) : FltEntry :=
  { time := s.tim.count, seq := 0, source := Config.levelSource, cls := Config.levelClass, react := 0, shadowed := false, same := false,
    injected := false, safe := s.die.mode == DieMode.safe, count := 0, detail := Config.levelDetail s.rstService }

/-- Notes a change of RST_SERVICE.LEVEL and posts it; below the data floor it is recorded in the fault history, and its entry and
its message wait until the floor is reached. -/
def State.noteLevel (s : State) : State :=
  let l := s.serviceLevel
  if l = s.die.lastLevel then s
  else
    let s := { s with die := { s.die with lastLevel := l } }
    let s := if s.dataFloor then s else { s with flt := s.flt.entered s.levelEntry }
    s.postAs (!s.dataFloor) 0x0001 0 1 s.rstService 0

end Sys2Proof.Machine
end

