-- ==== Sys2Proof/Machine/Budget.lean ====
section
/-! DEFINITION. Activity budgets, places and the load-slew governor (R60 to R77). Channel time is counted in quarters of
a nanosecond, so that a cycle of every tier clock is whole. -/

namespace Sys2Proof.Machine

/-- A microsecond of channel time. -/
def microQ : Nat := 4000

/-- Charge of a number of tier clock cycles on a channel (R60). -/
def State.cyclesQ (s : State) (i n : Nat) : Nat := n * cycleQ (s.tier (tierOf i)).freqNow

/-- Cycles of one slot transfer: ACT, RD or WR, and the burst (R60). -/
def slotCycles : Nat := 2 + burstCycles

/-- Cycles of tRFCpb and tRFCnb in a timing set (R82). -/
def refCycles (f : BitVec 2) : Nat := match f.toNat with | 0 => 240 | 1 => 192 | 2 => 120 | _ => 60
def nrefCycles (f : BitVec 2) : Nat := match f.toNat with | 0 => 120 | 1 => 96 | 2 => 60 | _ => 30

/-- Charge of a slot transfer, of a REF and of an NREF: the command cycle and the time it takes (R60). -/
def State.slotQ (s : State) (i : Nat) : Nat := s.cyclesQ i slotCycles
def State.refQ (s : State) (i : Nat) : Nat := s.cyclesQ i (1 + refCycles (s.tier (tierOf i)).freqNow)
def State.nrefQ (s : State) (i : Nat) : Nat := s.cyclesQ i (1 + nrefCycles (s.tier (tierOf i)).freqNow)

/-- Floors in force, in µs (R61, R66). -/
def State.maintFloor (s : State) : Nat := s.fld .budClass 3 16 11
def State.scarabFloor (s : State) : Nat := s.fld .budClass 2 16 11

/-- Ceiling of a class in µs, under the throttle cut (R65, R66). -/
def State.ceilOf (s : State) (c : Class) : Nat :=
  let v := s.fld .budClass c.index 0 11
  match c with
  | .host => if s.bud.throttled then v * s.fld .thmThrot 0 16 7 / 100 else v
  | .nmo => if s.bud.throttled then v * s.fld .thmThrot 0 16 7 / 100 else v
  | .scarab => max v s.scarabFloor
  | .maint => 0
  | .bist => v
  | .cal => v
  | .train => v
  | .repair => v

/-- Unspent floor of MAINT or SCARAB on a channel (R62). -/
def State.unspentMaint (s : State) (i : Nat) : Nat := s.maintFloor * microQ - (s.chan i).charged.maint
def State.unspentScarab (s : State) (i : Nat) : Nat := s.scarabFloor * microQ - (s.chan i).charged.scarab

/-- An unspent floor above zero holds room for one whole request (R62). -/
def roomFor (unspent req : Nat) : Nat := if unspent = 0 then 0 else max unspent req

/-- Channel time left in the node epoch (R52, R62). -/
def State.epochLeftQ (s : State) : Nat := (s.tim.epochEnd - s.now) * microQ

/-- A class may issue a charge on a channel: neither case of R62 stops it. Neither stops SCARAB from using its own floor, and
MAINT is never stopped (R63) (log 96). -/
def State.mayIssue (s : State) (i : Nat) (c : Class) (q : Nat) : Bool :=
  match c with
  | .maint => true
  | .scarab =>
    let room := roomFor (s.unspentMaint i) (s.refQ i)
    decide (0 < s.unspentScarab i) || (decide ((q : Int) ≤ (s.chan i).remain.scarab) && decide (q + room ≤ s.epochLeftQ))
  | c =>
    let room := roomFor (s.unspentMaint i) (s.refQ i) + roomFor (s.unspentScarab i) (s.slotQ i)
    decide ((q : Int) ≤ (s.chan i).remain.get c) && decide (q + room ≤ s.epochLeftQ)

/-- Takes MAINT time beyond the floor from the other classes, each down to zero before the next (R63); answers what no
budget covered. -/
def takeFrom : List Class → ByClass Int → Int → ByClass Int × Int
  | [], b, x => (b, x)
  | c :: t, b, x =>
    let have_ := max 0 (b.get c)
    let cut := min have_ x
    takeFrom t (b.set c (b.get c - cut)) (x - cut)

/-- Charges a class on a channel (R34, R53, R60, R63). -/
def State.charge (s : State) (i : Nat) (c : Class) (q : Nat) : State :=
  let ch := s.chan i
  let before := ch.charged.get c
  let ch1 : Chan := { ch with charged := ch.charged.set c (before + q) }
  let s := { s with bud := { s.bud with used := s.bud.used.set c (s.bud.used.get c + q) } }
  match c with
  | .maint =>
    let fl := s.maintFloor * microQ
    let beyond : Nat := (before + q - fl) - (before - fl)
    let r := takeFrom [.bist, .cal, .scarab, .nmo, .host] ch1.remain beyond
    { s with bud := { s.bud with overQ := s.bud.overQ + r.2.toNat } }.setChan i { ch1 with remain := r.1 }
  | c => s.setChan i { ch1 with remain := ch1.remain.set c (ch1.remain.get c - q) }

/-- Budgets of a channel at a node-epoch boundary (R64): carry what is left, at most one ceiling; an excess is subtracted. -/
def State.reloadChan (s : State) (c : Chan) : Chan :=
  let next (k : Class) : Int × Int :=
    let ceil : Int := s.ceilOf k * microQ
    let left := c.remain.get k
    let carry := if left < 0 then left else min left ceil
    (ceil + carry, max 0 carry)
  let carry := allClasses.foldl (fun b k => b.set k (next k).2) c.carry
  let remain := allClasses.foldl (fun b k => b.set k (next k).1) c.remain
  { c with carry := carry, remain := { remain with maint := 0 }, charged := .all 0 }

/-- A ceiling that changes at once: the new ceiling plus carry, minus all charged this epoch, not below zero (R65, R66). -/
def State.recutClass (s : State) (k : Class) : State :=
  let ceil : Int := s.ceilOf k * microQ
  s.updChans allChans fun _ c =>
    { c with remain := c.remain.set k (max 0 (ceil + c.carry.get k - c.charged.get k)) }

/-! ## The power cap (R68, R69) -/

def State.baseMw (s : State) : Nat := s.fld .budPwr0 0 0 16
def State.tierMw (s : State) : Nat := s.fld .budPwr0 0 16 16
def State.laneMw (s : State) : Nat := s.fld .budPwr1 0 0 8
def State.chMw (s : State) : Nat := s.fld .budPwr1 0 8 8
def State.clMw (s : State) : Nat := s.fld .budPwr1 0 16 8
def State.guardMw (s : State) : Nat := 10 * s.fld .budPwr1 0 24 8

/-- Counted lanes of a port: its agreed lanes but for the lanes idle in both directions (R68). -/
def Port.countedLanes (p : Port) : Nat :=
  if p.st ≠ .up ∧ p.st ≠ .recovery then 0
  else
    let bulkIdle := decide (2 ≤ p.bulkTx.toNat) && decide (2 ≤ p.bulkRx.toNat)
    let l0Idle := p.svcTx != 0 && p.svcRx != 0
    (List.range 8).foldl (fun a k =>
      if !(p.lanes.getLsbD k) then a
      else if k = 0 then a + oneIf (!l0Idle) else a + oneIf (!bulkIdle)) 0

/-- FIXED in twentieths of a milliwatt (R68). -/
def State.fixed20 (s : State) : Nat :=
  20 * s.baseMw + s.poweredTiers.foldl (fun a t => a + s.tierMw * clock20 (s.tier t).freqNow) 0 +
    20 * s.laneMw * (List.range 4).foldl (fun a n => a + (s.port n).countedLanes) 0

/-- The highest clock of the powered tiers, in twentieths of 1.0 GHz; 1.0 GHz where none is powered (R68; DESIGN CHOICE,
log 125). -/
def State.topClock20 (s : State) : Nat :=
  if s.poweredTiers.isEmpty then 20 else maxOf (s.poweredTiers.map fun t => clock20 (s.tier t).freqNow)

/-- Power of N active channels and their lanes, in twentieths of a milliwatt (R68). -/
def State.load20 (s : State) (n : Nat) : Nat := n * s.chMw * s.topClock20 + 20 * s.clMw * min 128 (ceilDiv n 5)

/-- BUD_CAP_MIN in twentieths of a milliwatt: the power at N_ch = 32 (R69). -/
def State.capMin20 (s : State) : Nat := s.fixed20 + 20 * s.guardMw + s.load20 32

/-- BUD_CAP_MIN and FIXED as read, rounded up to whole milliwatts (log 13). -/
def State.capMin (s : State) : Nat := ceilDiv s.capMin20 20
def State.fixedMw (s : State) : Nat := ceilDiv s.fixed20 20

/-- The largest N up to a bound whose load fits the headroom. -/
def largestFit (fits : Nat → Bool) : Nat → Nat
  | 0 => 0
  | n + 1 => if fits (n + 1) then n + 1 else largestFit fits n

/-- N_ch (R68), under BUD_CAP_MIN where that lies above the cap (R69). -/
def State.nCh (s : State) : Nat :=
  let cap20 := max (20 * s.fld .budCap 0 0 16) s.capMin20
  largestFit (fun n => s.fixed20 + 20 * s.guardMw + s.load20 n ≤ cap20) s.servingChans.length

/-- N_cl (R68). -/
def State.nCl (s : State) : Nat := min 128 (ceilDiv s.nCh 5)

/-- BUD_STAT.CAP_RAISED: BUD_CAP_MIN is in use as the cap (R69, R77). -/
def State.capRaisedNow (s : State) : Bool := decide (20 * s.fld .budCap 0 0 16 < s.capMin20)

/-- Follows a change of the inputs of R68: a raised cap is reported (R69), and a change of a target starts admission (R71). -/
def State.retarget (s : State) : State :=
  let raised := s.capRaisedNow
  let rises := raised && !s.bud.capRaised
  let n := s.nCh
  let l := s.nCl
  let moved := n != s.bud.lastCh || l != s.bud.lastCl
  let s := { s with bud := { s.bud with capRaised := raised, lastCh := n, lastCl := l },
                    qos := { s.qos with causes := if moved then s.qos.causes ||| 4 else s.qos.causes } }
  if rises then s.postEvent 0x0003 0 1 (BitVec.ofNat 32 s.capMin) (s.fld .budCap 0 0 16) else s

/-! ## Places and lanes (R70) -/

/-- Channels that hold a place, and those of them that hold a reserved one. -/
def State.placesHeld (s : State) : Nat := (s.tch.chans.filter fun e => e.2.place).length
def State.resvHeld (s : State) : Nat := (s.tch.chans.filter fun e => e.2.resv).length

/-- Places that are reserved for MAINT (R70, R280). -/
def State.reservedPlaces (s : State) : Nat := ceilDiv (s.nCh * s.maintFloor) 1024

/-- A channel holds a place or finds one that it may take, for MAINT or for another class (R70). -/
def State.placeOpen (s : State) (i : Nat) (maint : Bool) : Bool :=
  (s.chan i).place ||
    if maint then decide (s.placesHeld < s.bud.limCh)
    else decide (s.placesHeld - s.resvHeld < s.bud.limCh - s.reservedPlaces)

/-- A request of a channel issues its first command: the channel takes a place unless it holds one, and keeps it at least until the
charge ends, in whole ticks. The first free place of MAINT is a reserved one while there is one. What issues without waiting for a
place (owed REF before SRE, a segment of logic BIST) takes one only where one is open (R68, R70) (log 14). -/
def State.takePlace (s : State) (i : Nat) (maint : Bool) (q : Nat) : State :=
  let resv := maint && decide (s.resvHeld < s.reservedPlaces)
  let open_ := s.placeOpen i maint
  s.updChan i fun c => { c with
    place := open_, resv := if c.place then c.resv else resv, busyTo := max c.busyTo (s.now + ceilDiv q microQ) }

/-- A channel whose charges have ended holds no place (R68, R70). -/
def Chan.released (c : Chan) (now : Nat) : Chan :=
  if c.active.isEmpty ∧ c.busyTo ≤ now then { c with place := false, resv := false } else c

/-- Releases a channel's place when the charge of its last request has ended. -/
def State.releasePlace (s : State) (i : Nat) : State := s.updChan i fun c => c.released s.now

/-- Releases every place whose charges have ended. -/
def State.releasePlaces (s : State) : State :=
  { s with tch := { s.tch with chans := Tab.mapVals .init (fun _ c => c.released s.now) s.tch.chans } }

/-- Channels with bursts in progress, and those of the tiers that one codec engine serves (R36). -/
def State.streaming (s : State) : Nat := (s.tch.chans.filter fun e => !e.2.active.isEmpty).length
def State.engineLoad (s : State) (e : Nat) : Nat :=
  (s.tch.chans.filter fun x => !x.2.active.isEmpty && s.codecOf (tierOf x.1) == some e).length

/-- The codec lane of a channel is free: each lane carries five channels (R70) (log 14). -/
def State.laneFree (s : State) (i : Nat) : Bool :=
  !(s.chan i).active.isEmpty ||
    (decide (s.streaming < 5 * s.bud.limCl) &&
      match s.codecOf (tierOf i) with
      | some e => decide (s.engineLoad e < 20)
      | none => false)

/-- Probes of a calibration round that a channel still has to issue (R383). -/
def State.probesLeft (s : State) (i : Nat) : Nat × Nat := Tab.get (0, 0) s.cal.probes i

/-- A channel with demand: requests waiting or running, a training, refresh owed, or probes of a round. -/
def State.demands (s : State) (i : Nat) (c : Chan) : Bool :=
  !(c.queue.isEmpty && c.active.isEmpty && c.nrefQ.isEmpty) || c.sweep.isSome || decide (0 < c.debt) || s.probesLeft i != (0, 0) ||
    decide (s.now < c.busyTo)

/-- Channels with demand. -/
def State.demand (s : State) : Nat := (s.tch.chans.filter fun e => s.demands e.1 e.2).length

/-- Where the governor goes: the targets, but no more than demand and the reserve need (R73, R74, log 15). -/
def State.goals (s : State) : Nat × Nat :=
  let d := s.demand
  if d = 0 ∨ s.die.mode ≠ .running ∨ 2 ≤ s.pwr.state.toNat ∨ s.pwr.offStage ≠ 0 then (0, 0)
  else
    let n := min s.nCh (d + ceilDiv (s.nCh * s.maintFloor) 1024)
    (n, min s.nCl (ceilDiv n 5))

/-- One step toward a goal. -/
def stepToward (x goal step : Nat) : Nat := if x ≤ goal then min goal (x + step) else max goal (x - step)

/-- Steps in force: BUD_SLEW, and its reset values during a Click (R73, R76). -/
def State.slewSteps (s : State) : Nat × Nat :=
  if s.thm.hold then (6, 1) else (s.fld .budSlew 0 0 4, s.fld .budSlew 0 8 2)

/-- The load that steps of the limits change (R399). -/
def stepLoad (ch cl : Nat) : Load := ⟨133 * ch + 1000 * cl, 190 * ch, 0⟩

/-- Steps reduced until they fit in the allowance: the lanes' first, then the channels' (R398) (log 116). -/
def State.fitSteps (s : State) (st : Nat × Nat) : Nat × Nat :=
  let cl := largestFit (fun n => s.loadFits (stepLoad 0 n)) st.2
  (largestFit (fun n => s.loadFits (stepLoad n cl)) st.1, cl)

/-- The governor's work of one tick (R73, R74): ballast is what the limit holds beyond the goal and beyond the channels at work. -/
def State.governor (s : State) : State :=
  let g := s.goals
  let st := s.fitSteps s.slewSteps
  let ch := stepToward s.bud.limCh g.1 st.1
  let cl := stepToward s.bud.limCl g.2 st.2
  let moved := stepLoad ((ch - s.bud.limCh) + (s.bud.limCh - ch)) ((cl - s.bud.limCl) + (s.bud.limCl - cl))
  let s := if moved = stepLoad 0 0 then s else s.grant moved 0
  { s with bud := { s.bud with
      limCh := ch, limCl := cl, ballast := s.bud.ballast + (ch - max g.1 s.placesHeld) } }

/-- The budget unit's part of a node-epoch boundary: snapshots, carry-over and reload (R51 steps 1 to 3, R67). -/
def State.budgetBoundary (s : State) : State :=
  let s := { s with bud := { s.bud with
    usedSnap := s.bud.used, overSnap := s.bud.overQ, ballastSnap := s.bud.ballast, used := .all 0, overQ := 0, ballast := 0 } }
  s.updChans allChans fun _ c => s.reloadChan c

end Sys2Proof.Machine
end

