-- ==== Sys2Proof/Machine/Code.lean ====
section
/-! DEFINITION. The page code (R123 to R131): the slot's bytes, the binary BCH code, and how a decode ends. A code word
is held as a number whose bit e is the coefficient of x^e. -/

namespace Sys2Proof.Machine

/-- Reads a number's bit. -/
def natBit (a i : Nat) : Bool := a / 2 ^ i % 2 == 1

/-- Product in GF(2^16) modulo x^16 + x^12 + x^3 + x + 1 (R128). -/
def gfMul (a b : Nat) : Nat :=
  ((List.range 16).foldl (fun (acc : Nat × Nat) i =>
    let r := if natBit b i then acc.1 ^^^ acc.2 else acc.1
    let x := acc.2 * 2
    (r, if x ≥ 0x10000 then x ^^^ 0x1100B else x)) (0, a)).1

/-- A power in GF(2^16), by the bits of the exponent. -/
def gfPow (a n : Nat) : Nat :=
  ((List.range 17).foldl (fun (acc : Nat × Nat) i =>
    (if natBit n i then gfMul acc.1 acc.2 else acc.1, gfMul acc.2 acc.2)) (1, a)).1

/-- Product of a polynomial (coefficients from x^0) with (x + b). -/
def mulRoot (b : Nat) (p : List Nat) : List Nat :=
  ((0 :: p).zip (p.map (gfMul b) ++ [0])).map fun e => e.1 ^^^ e.2

/-- Minimal polynomial of α^j: the product of (x + conjugate) over its sixteen conjugates. -/
def minPoly (j : Nat) : Nat :=
  let conj := (List.range 16).map fun k => gfPow 2 (j * 2 ^ k % 65535)
  let p := conj.foldl (fun p b => mulRoot b p) [1]
  ((List.range p.length).zip p).foldl (fun a e => a + e.2 * 2 ^ e.1) 0

/-- Product of binary polynomials, the second of degree 16 or less. -/
def polyMul (a b : Nat) : Nat :=
  (List.range 17).foldl (fun r i => if natBit b i then r ^^^ (a * 2 ^ i) else r) 0

/-- The generator polynomial: the minimal polynomials of α, α^3, up to α^(2t-1), all different, multiplied (R128). -/
def genPoly (t : Nat) : Nat := (List.range t).foldl (fun g k => polyMul g (minPoly (2 * k + 1))) 1

/-- Message bits of a slot: data and metadata (R129). -/
def messageBits : Nat := 32896

/-- Flags of the metadata (R125). -/
def Slot.flagsWord (x : Sys2Proof.Slot) : Nat :=
  oneIf x.enc + 2 * oneIf x.zero + 4 * oneIf x.san + 8 * x.strength.toNat + 64 * oneIf x.fmt

/-- Data and metadata bytes (R123, R124). -/
def Slot.bytes (x : Sys2Proof.Slot) : List Byte :=
  padTo 4096 x.data ++ leBytes 4 x.crc.toNat ++ leBytes 4 x.gen.toNat ++ leBytes 2 x.key.toNat ++
    leBytes 2 (Slot.flagsWord x) ++ leBytes 4 x.owner.toNat

/-- The message as a number: bit i of the slot is the coefficient of x^(32,895 - i) (R129). -/
def messageOf (l : List Byte) : Nat :=
  l.foldl (fun a b => (List.range 8).foldl (fun a k => 2 * a + oneIf (b.getLsbD k)) a) 0

/-- Remainder of m(x) * x^d modulo g(x) of degree d, fed bit by bit from the highest. -/
def polyRem (g d : Nat) (l : List Byte) : Nat :=
  l.foldl (fun a b => (List.range 8).foldl (fun a k =>
    let top := natBit a (d - 1) != b.getLsbD k
    let x := a * 2 % 2 ^ d
    if top then x ^^^ (g % 2 ^ d) else x) a) 0

/-- The code word of a slot at its strength (R129). -/
def codeWord (x : Sys2Proof.Slot) : Nat :=
  let t := tOf x.strength
  messageOf (Slot.bytes x) * 2 ^ (16 * t) + polyRem (genPoly t) (16 * t) (Slot.bytes x)

/-- Parity bytes of a slot: 2t bytes, then zero bytes up to 240 (R123, R129). -/
def parityBytes (x : Sys2Proof.Slot) : List Byte :=
  let t := tOf x.strength
  let r := polyRem (genPoly t) (16 * t) (Slot.bytes x)
  padTo 240 ((List.range (2 * t)).map fun p =>
    BitVec.ofNat 8 ((List.range 8).foldl (fun a b => a + oneIf (natBit r (16 * t - 1 - (8 * p + b))) * 2 ^ b) 0))

/-- Bits of a code word at a strength (R130). -/
def codeBits (c : BitVec 3) : Nat := messageBits + 16 * tOf c

/-- The mask of failed bits, numbered in slot order: message bits, then parity bits. -/
def errorMask (c : BitVec 3) (errs : List Nat) : Nat :=
  errs.foldl (fun a i => if i < codeBits c then a ^^^ 2 ^ (codeBits c - 1 - i) else a) 0

/-- Ones among the low bits of a number. -/
def onesOf (n a : Nat) : Nat := (List.range n).foldl (fun k i => k + oneIf (natBit a i)) 0

/-- Distinct failed bits inside the code word: a repeated or outside position fails nothing (R131). -/
def failedBits (c : BitVec 3) (errs : List Nat) : List Nat := (errs.filter fun i => i < codeBits c).eraseDups

/-! ### The decoder (R131): positions are bits of the slot, and bit i of a word of n bits is the coefficient of x^(n-1-i) -/

/-- A power of α. -/
def alphaPow (n : Nat) : Nat := gfPow 2 (n % 65535)

/-- Inverse of a non-zero element of GF(2^16). -/
def gfInv (a : Nat) : Nat := gfPow a 65534

/-- Syndromes S_1 to S_2t of a word whose coefficients of these degrees are 1, all others 0. -/
def syndromes (t : Nat) (degs : List Nat) : List Nat :=
  (List.range (2 * t)).map fun j => degs.foldl (fun a d => a ^^^ alphaPow ((j + 1) * d)) 0

/-- Sum of two polynomials over GF(2^16), coefficients from x^0. -/
def polyAdd : List Nat → List Nat → List Nat
  | [], q => q
  | p, [] => p
  | a :: p, b :: q => (a ^^^ b) :: polyAdd p q

/-- Where the search for the error locator stands: the locator, the last one before its length changed with its discrepancy, the
length, and the steps since. -/
structure Locator where
  sigma : List Nat
  prev  : List Nat
  disc  : Nat
  len   : Nat
  gap   : Nat

/-- One syndrome of Berlekamp and Massey's search; `n` of them came before. -/
def Locator.next (l : Locator) (syn : List Nat) (n : Nat) : Locator :=
  let d := (List.range (l.len + 1)).foldl (fun a i => if i ≤ n then a ^^^ gfMul (l.sigma.getD i 0) (syn.getD (n - i) 0) else a) 0
  if d = 0 then { l with gap := l.gap + 1 }
  else
    let s := polyAdd l.sigma (List.replicate l.gap 0 ++ l.prev.map (gfMul (gfMul d (gfInv l.disc))))
    if 2 * l.len ≤ n then { sigma := s, prev := l.sigma, disc := d, len := n + 1 - l.len, gap := 1 }
    else { l with sigma := s, gap := l.gap + 1 }

/-- The error locator of a list of syndromes. -/
def locator (syn : List Nat) : Locator :=
  (List.range syn.length).foldl (fun l n => l.next syn n) { sigma := [1], prev := [1], disc := 1, len := 0, gap := 1 }

/-- Value of a polynomial over GF(2^16). -/
def polyAt (p : List Nat) (x : Nat) : Nat := p.foldr (fun a v => a ^^^ gfMul v x) 0

/-- The positions that the locator of a word of n bits names; none where its degree exceeds t, or where its roots in the
shortened word are fewer than its degree. -/
def located (t n : Nat) (syn : List Nat) : Option (List Nat) :=
  let l := locator syn
  let at_ := (List.range n).filter fun i => polyAt l.sigma (alphaPow (65535 - (n - 1 - i))) == 0
  if l.len ≤ t ∧ at_.length = l.len then some at_ else none

/-- Flips bits of a list of bytes. -/
def flipBits (l : List Byte) (bits : List Nat) : List Byte :=
  bits.foldl (fun l i => l.modify (i / 8) fun b => b ^^^ BitVec.ofNat 8 (2 ^ (i % 8))) l

/-- The contents that data and metadata bytes spell (R123 to R125). -/
def Slot.ofBytes (l : List Byte) : Sys2Proof.Slot :=
  let m := l.drop 4096
  let v (at_ n : Nat) : Nat := leVal ((m.drop at_).take n)
  { data := l.take 4096, crc := BitVec.ofNat 32 (v 0 4), gen := BitVec.ofNat 32 (v 4 4), key := BitVec.ofNat 10 (v 8 2),
    enc := natBit (v 10 2) 0, zero := natBit (v 10 2) 1, san := natBit (v 10 2) 2, fmt := natBit (v 10 2) 6,
    strength := BitVec.ofNat 3 (v 10 2 / 8), owner := BitVec.ofNat 32 (v 12 4) }

/-- Positions of the bits that are 1 in the first n bits of a slot. -/
def slotOnes (x : Sys2Proof.Slot) (n : Nat) : List Nat :=
  let l := Slot.bytes x ++ parityBytes x
  (List.range n).filter fun i => (l.getD (i / 8) 0).getLsbD (i % 8)

/-- The decode of a word by its syndromes: a stored code word of the same strength adds nothing to them. -/
def decodeWord (x : Sys2Proof.Slot) (c : BitVec 3) (bad : List Nat) : Decode × Option Sys2Proof.Slot :=
  let n := codeBits c
  let ones := (if x.strength = c then [] else slotOnes x n) ++ bad
  match located (tOf c) n (syndromes (tOf c) (ones.map fun i => n - 1 - i)) with
  | none => (.uncorrectable, none)
  | some ds =>
    let y := Slot.ofBytes (flipBits (Slot.bytes x) (bad ++ ds))
    if y.strength ≠ c then (.uncorrectable, none) else ((if ds.isEmpty then .clean else .corrected ds.length), some y)

/-- The word that a row delivers lies within t bits of the code word of these contents: no other code word does. -/
def landsOn (x : Sys2Proof.Slot) (c : BitVec 3) (errs : List Nat) (y : Sys2Proof.Slot) : Option Nat :=
  let d := onesOf (codeBits c) (codeWord x ^^^ errorMask c errs ^^^ codeWord y)
  if x.strength = c ∧ y.strength = c ∧ d ≤ tOf c then some d else none

/-- How a decode ends, and the contents it yields (R131). A row that holds no code word is UNCORRECTABLE. Up to t failed bits of a
code word of the strength in force are corrected; any other word goes where its syndromes lead. `mis` may name the contents of
the code word it lands on, which spares the search and changes nothing. -/
def decodeOutcome (stored : Option Sys2Proof.Slot) (c : BitVec 3) (errs : List Nat) (mis : Option Sys2Proof.Slot) :
    Decode × Option Sys2Proof.Slot :=
  match stored with
  | none => (.uncorrectable, none)
  | some x =>
    let bad := failedBits c errs
    if x.strength = c ∧ bad.length ≤ tOf c then ((if bad.isEmpty then .clean else .corrected bad.length), some x)
    else match mis.bind fun y => (landsOn x c errs y).map fun d => (d, y) with
    | some (d, y) => ((if d = 0 then .clean else .corrected d), some y)
    | none => decodeWord x c bad

/-- Stored data with failed bits flipped: what leaves the codec before the decode ends (R256). -/
def flipData (data : List Byte) (errs : List Nat) : List Byte :=
  (List.range data.length).zip data |>.map fun e =>
    (failedBits 4 errs).foldl (fun b i => if i / 8 = e.1 then b ^^^ BitVec.ofNat 8 (2 ^ (i % 8)) else b) e.2

/-- CRC-32C of R124. -/
def crc32c (l : List Byte) : Word := crcReflected (0x82F63B78 : Word) l

/-- One byte of the region check value (R251). -/
def crc64Byte (r : BitVec 64) (b : Byte) : BitVec 64 :=
  (List.range 8).foldl (fun x _ => if x.getLsbD 63 then (x <<< 1) ^^^ 0x42F0E1EBA9EA3693 else x <<< 1)
    (r ^^^ (b.setWidth 64 <<< 56))

/-- The region check value continued over bytes (R251). -/
def crc64 (seed : BitVec 64) (l : List Byte) : BitVec 64 := l.foldl crc64Byte seed

/-- Data bytes of the granules g0 to g1. -/
def granules (g0 g1 : Nat) (l : List Byte) : List Byte := (l.drop (64 * g0)).take (64 * (g1 + 1 - g0))

end Sys2Proof.Machine
end

