-- ==== Sys2Proof/Machine/Crypto.lean ====
section
/-! DEFINITION. The security engine's arithmetic (16): SHA-256 and SHA-384, HMAC and HKDF, AES-256 with XTS and GCM, and
P-384. The spec names the standards; their definitions are taken from them (PRESUMED, log 16). -/

namespace Sys2Proof.Machine

/-! ## SHA-2 (FIPS 180-4) -/

/-- The first n primes. -/
def primesTo (n : Nat) : List Nat :=
  ((List.range 420).filter fun p => 2 ≤ p ∧ (List.range p).all fun d => d < 2 ∨ p % d ≠ 0).take n

/-- Integer k-th root by bits, the result below 2^b. -/
def rootBits (k x : Nat) : Nat → Nat
  | b => (List.range b).foldl (fun r i => if (r + 2 ^ (b - 1 - i)) ^ k ≤ x then r + 2 ^ (b - 1 - i) else r) 0

/-- Fraction bits of the k-th root of a prime, `w` of them. -/
def rootFraction (k w p : Nat) : Nat := rootBits k (p * 2 ^ (k * w)) (w + 6) % 2 ^ w

def sha256K : List Nat := (primesTo 64).map (rootFraction 3 32)
def sha512K : List Nat := (primesTo 80).map (rootFraction 3 64)
def sha256Init : List Nat := (primesTo 8).map (rootFraction 2 32)
/-- SHA-384 starts from the square roots of the ninth to sixteenth primes. -/
def sha384Init : List Nat := ((primesTo 16).drop 8).map (rootFraction 2 64)

/-- Rotation amounts of a SHA-2 function: Σ0, Σ1, σ0, σ1. -/
structure ShaParams where
  bits   : Nat
  rounds : Nat
  s0 : Nat × Nat × Nat
  s1 : Nat × Nat × Nat
  g0 : Nat × Nat × Nat
  g1 : Nat × Nat × Nat

def sha256Params : ShaParams := ⟨32, 64, (2, 13, 22), (6, 11, 25), (7, 18, 3), (17, 19, 10)⟩
def sha512Params : ShaParams := ⟨64, 80, (28, 34, 39), (14, 18, 41), (1, 8, 7), (19, 61, 6)⟩

def rotr (w x n : Nat) : Nat := x / 2 ^ n + x % 2 ^ n * 2 ^ (w - n)
def bigSigma (w : Nat) (r : Nat × Nat × Nat) (x : Nat) : Nat := rotr w x r.1 ^^^ rotr w x r.2.1 ^^^ rotr w x r.2.2
def smallSigma (w : Nat) (r : Nat × Nat × Nat) (x : Nat) : Nat := rotr w x r.1 ^^^ rotr w x r.2.1 ^^^ (x / 2 ^ r.2.2)

/-- Message schedule, newest first; each step adds one word. -/
def shaSchedule (P : ShaParams) : Nat → List Nat → List Nat
  | 0, l => l
  | n + 1, l =>
    let x := smallSigma P.bits P.g1 (l.getD 1 0) + l.getD 6 0 + smallSigma P.bits P.g0 (l.getD 14 0) + l.getD 15 0
    shaSchedule P n (x % 2 ^ P.bits :: l)

/-- One round on the eight working words. -/
def shaRound (P : ShaParams) (v : List Nat) (kw : Nat × Nat) : List Nat :=
  match v with
  | [a, b, c, d, e, f, g, h] =>
    let m := 2 ^ P.bits
    let ch := (e &&& f) ^^^ ((m - 1 - e) &&& g)
    let t1 := h + bigSigma P.bits P.s1 e + ch + kw.1 + kw.2
    let maj := (a &&& b) ^^^ (a &&& c) ^^^ (b &&& c)
    let t2 := bigSigma P.bits P.s0 a + maj
    [(t1 + t2) % m, a, b, c, (d + t1) % m, e, f, g]
  | l => l

/-- One block. -/
def shaBlock (P : ShaParams) (k : List Nat) (h : List Nat) (block : List Byte) : List Nat :=
  let w0 := ((chunksOf (P.bits / 8) 16 block).map beVal).reverse
  let w := (shaSchedule P (P.rounds - 16) w0).reverse
  let v := (k.zip w).foldl (shaRound P) h
  (h.zip v).map fun e => (e.1 + e.2) % 2 ^ P.bits

/-- Padding: a one bit, zeros, and the length in bits. -/
def shaPad (P : ShaParams) (l : List Byte) : List Byte :=
  let blk := 2 * P.bits
  let lenB := P.bits / 4
  let z := (2 * blk - (l.length + 1 + lenB) % blk) % blk
  l ++ [0x80] ++ List.replicate z 0 ++ beBytes lenB (8 * l.length)

def shaWith (P : ShaParams) (k init : List Nat) (out : Nat) (l : List Byte) : List Byte :=
  let p := shaPad P l
  let h := (chunksOf (2 * P.bits) p.length p).foldl (shaBlock P k) init
  (h.flatMap (beBytes (P.bits / 8))).take out

def sha256 (l : List Byte) : List Byte := shaWith sha256Params sha256K sha256Init 32 l
def sha384 (l : List Byte) : List Byte := shaWith sha512Params sha512K sha384Init 48 l

/-! ## HMAC and HKDF over SHA-384 (RFC 2104, RFC 5869) -/

def hmac384 (key msg : List Byte) : List Byte :=
  let k := padTo 128 (if key.length > 128 then sha384 key else key)
  sha384 (k.map (· ^^^ 0x5C) ++ sha384 (k.map (· ^^^ 0x36) ++ msg))

/-- At most 48 bytes, all that the spec asks for. -/
def hkdf384 (salt ikm info : List Byte) (n : Nat) : List Byte :=
  (hmac384 (hmac384 (padTo 48 salt) ikm) (info ++ [1])).take n

/-! ## AES-256 (FIPS 197) -/

/-- Product in GF(2^8). -/
def aesMul (a b : Nat) : Nat :=
  ((List.range 8).foldl (fun (acc : Nat × Nat) i =>
    let r := if natBit b i then acc.1 ^^^ acc.2 else acc.1
    let x := acc.2 * 2
    (r, if x ≥ 256 then x ^^^ 0x11B else x)) (0, a)).1

/-- The inverse in GF(2^8): the 254th power. -/
def aesInv (a : Nat) : Nat :=
  ((List.range 8).foldl (fun (acc : Nat × Nat) i =>
    (if i = 0 then acc.1 else aesMul acc.1 acc.2, aesMul acc.2 acc.2)) (1, a)).1

def aesSboxVal (a : Nat) : Nat :=
  let x := aesInv a
  let rotl (n : Nat) : Nat := x * 2 ^ n % 256 + x / 2 ^ (8 - n)
  x ^^^ rotl 1 ^^^ rotl 2 ^^^ rotl 3 ^^^ rotl 4 ^^^ 0x63

def aesSbox : Array Nat := ((List.range 256).map aesSboxVal).toArray
def aesInvSbox : Array Nat := ((List.range 256).map fun y => (aesSbox.toList.findIdx fun v => v == y)).toArray

/-- The key schedule, four-byte words newest first. -/
def aesExpand : Nat → Nat → List (List Nat) → List (List Nat)
  | 0, _, l => l
  | n + 1, i, l =>
    let t := l.getD 0 []
    let t := if i % 8 = 0 then
        let r := (t.drop 1 ++ t.take 1).map fun b => aesSbox.getD b 0
        match r with
        | b :: bs => (b ^^^ (List.range (i / 8 - 1)).foldl (fun x _ => aesMul x 2) 1) :: bs
        | [] => []
      else if i % 8 = 4 then t.map fun b => aesSbox.getD b 0 else t
    aesExpand n (i + 1) (((l.getD 7 []).zip t).map (fun e => e.1 ^^^ e.2) :: l)

/-- The fifteen round keys of sixteen bytes. -/
def aesKeys (key : List Byte) : List (List Nat) :=
  let w := (chunksOf 4 8 (key.map fun b => b.toNat)).reverse
  chunksOf 16 15 ((aesExpand 52 8 w).reverse.flatten)

def aesXor (a b : List Nat) : List Nat := (a.zip b).map fun e => e.1 ^^^ e.2
def aesShift (l : List Nat) : List Nat := (List.range 16).map fun i => l.getD ((i + 4 * (i % 4)) % 16) 0
def aesUnshift (l : List Nat) : List Nat := (List.range 16).map fun i => l.getD ((i + 12 * (i % 4)) % 16) 0

/-- MixColumns with a row of coefficients. -/
def aesMix (co : List Nat) (l : List Nat) : List Nat :=
  (List.range 16).map fun i =>
    (List.range 4).foldl (fun a k => a ^^^ aesMul (l.getD (4 * (i / 4) + k) 0) (co.getD ((k + 4 - i % 4) % 4) 0)) 0

def aesEnc (key blk : List Byte) : List Byte :=
  let ks := aesKeys key
  let s := aesXor (blk.map fun b => b.toNat) (ks.getD 0 [])
  let sub (l : List Nat) := aesShift (l.map fun b => aesSbox.getD b 0)
  let s := (ks.drop 1 |>.take 13).foldl (fun s k => aesXor (aesMix [2, 3, 1, 1] (sub s)) k) s
  (aesXor (sub s) (ks.getD 14 [])).map (BitVec.ofNat 8)

def aesDec (key blk : List Byte) : List Byte :=
  let ks := aesKeys key
  let s := aesXor (blk.map fun b => b.toNat) (ks.getD 14 [])
  let unsub (l : List Nat) := (aesUnshift l).map fun b => aesInvSbox.getD b 0
  let s := (ks.drop 1 |>.take 13).reverse.foldl (fun s k => aesMix [14, 11, 13, 9] (aesXor (unsub s) k)) s
  (aesXor (unsub s) (ks.getD 0 [])).map (BitVec.ofNat 8)

/-! ## XTS (IEEE 1619, R481) -/

def xorBytes (a b : List Byte) : List Byte := (a.zip b).map fun e => e.1 ^^^ e.2

/-- The tweak times α, least significant byte first. -/
def xtsDouble (t : Nat) : Nat := if t * 2 ≥ 2 ^ 128 then (t * 2 % 2 ^ 128) ^^^ 0x87 else t * 2

/-- XTS over the sixteen-byte units of a block, the tweak being the LBN; key: K1 then K2. -/
def xts (dec : Bool) (key : List Byte) (lbn : Nat) (data : List Byte) : List Byte :=
  let k1 := key.take 32
  let t0 := leVal (aesEnc (key.drop 32) (leBytes 16 lbn))
  ((chunksOf 16 256 data).foldl (fun (a : Nat × List (List Byte)) u =>
    let t := leBytes 16 a.1
    let x := xorBytes u t
    (xtsDouble a.1, xorBytes (if dec then aesDec k1 x else aesEnc k1 x) t :: a.2)) (t0, [])).2.reverse.flatten

/-! ## GCM (SP 800-38D) -/

/-- Product in GF(2^128), bit 0 of a block being its most significant bit. -/
def ghashMul (x y : Nat) : Nat :=
  ((List.range 128).foldl (fun (a : Nat × Nat) i =>
    let z := if natBit x (127 - i) then a.1 ^^^ a.2 else a.1
    (z, if a.2 % 2 = 1 then (a.2 / 2) ^^^ (0xE1 * 2 ^ 120) else a.2 / 2)) (0, y)).1

def ghash (h : Nat) (l : List Byte) : Nat :=
  (chunksOf 16 l.length l).foldl (fun a b => ghashMul (a ^^^ beVal (padTo 16 b)) h) 0

def pad16 (l : List Byte) : List Byte := l ++ List.replicate ((16 - l.length % 16) % 16) 0

/-- Counter mode from counter block 2 on, with a 12-byte IV. -/
def gcmCrypt (key iv data : List Byte) : List Byte :=
  let cs := chunksOf 16 data.length data
  ((List.range cs.length).zip cs).flatMap fun e => xorBytes e.2 (aesEnc key (iv ++ beBytes 4 (e.1 + 2)))

def gcmTag (key iv aad ct : List Byte) : List Byte :=
  let h := beVal (aesEnc key (List.replicate 16 0))
  let s := ghash h (pad16 aad ++ pad16 ct ++ beBytes 8 (8 * aad.length) ++ beBytes 8 (8 * ct.length))
  xorBytes (beBytes 16 s) (aesEnc key (iv ++ beBytes 4 1))

/-! ## P-384 (FIPS 186-4) -/

def p384 : Nat := 2 ^ 384 - 2 ^ 128 - 2 ^ 96 + 2 ^ 32 - 1
def n384 : Nat := 0xFFFFFFFFFFFFFFFFFFFFFFFFFFFFFFFFFFFFFFFFFFFFFFFFC7634D81F4372DDF581A0DB248B0A77AECEC196ACCC52973
def b384 : Nat := 0xB3312FA7E23EE7E4988E056BE3F82D19181D9C6EFE8141120314088F5013875AC656398D8A2ED19D2A85C8EDD3EC2AEF
def gx384 : Nat := 0xAA87CA22BE8B05378EB1C71EF320AD746E1D3B628BA79B9859F741E082542A385502F25DBF55296C3A545E3872760AB7
def gy384 : Nat := 0x3617DE4A96262C6F5D9E98BF9292DC29F8F41DBD289A147CE9DA3113B5F0B8C00A60B1CE1D7E819D7A431D7C90EA0E5F

/-- A power modulo m over the bits of a 384-bit exponent. -/
def powMod (m a e : Nat) : Nat :=
  ((List.range 384).foldl (fun (r : Nat × Nat) i =>
    (if natBit e i then r.1 * r.2 % m else r.1, r.2 * r.2 % m)) (1, a % m)).1

def invMod (m a : Nat) : Nat := powMod m a (m - 2)

/-- A point; none is the point at infinity. -/
abbrev Point := Option (Nat × Nat)

/-- The affine sum. -/
def ecAdd : Point → Point → Point
  | none, q => q
  | p, none => p
  | some (x1, y1), some (x2, y2) =>
    if x1 = x2 ∧ (y1 + y2) % p384 = 0 then none
    else
      let l := if x1 = x2 then (3 * x1 * x1 + p384 - 3) * invMod p384 (2 * y1) % p384
               else (y2 + p384 - y1) * invMod p384 (x2 + p384 - x1) % p384
      let x3 := (l * l + 2 * p384 - x1 - x2) % p384
      some (x3, (l * (x1 + p384 - x3) + p384 - y1) % p384)

def ecMul (k : Nat) (q : Point) : Point :=
  ((List.range 384).foldl (fun (a : Point × Point) i =>
    (if natBit k i then ecAdd a.1 a.2 else a.1, ecAdd a.2 a.2)) (none, q)).1

def base384 : Point := some (gx384, gy384)

/-- A point from 96 big-endian bytes, x then y. -/
def pointOf (l : List Byte) : Nat × Nat := (beVal (l.take 48), beVal ((l.drop 48).take 48))

def pointBytes : Point → List Byte
  | none => List.replicate 96 0
  | some (x, y) => beBytes 48 x ++ beBytes 48 y

/-- A pair of coordinates lies on the curve. -/
def onCurve (q : Nat × Nat) : Bool :=
  q.1 < p384 && q.2 < p384 && q.2 * q.2 % p384 == (q.1 * q.1 * q.1 + (p384 - 3) * q.1 + b384) % p384

/-- ECDSA over SHA-384 with the nonce k: r then s. -/
def ecdsaSign (d k : Nat) (msg : List Byte) : List Byte :=
  let r := (match ecMul k base384 with | some (x, _) => x | none => 0) % n384
  beBytes 48 r ++ beBytes 48 (invMod n384 k * (beVal (sha384 msg) + r * d) % n384)

def ecdsaVerify (pub : Nat × Nat) (msg sig : List Byte) : Bool :=
  let r := beVal (sig.take 48)
  let s := beVal ((sig.drop 48).take 48)
  if r = 0 ∨ n384 ≤ r ∨ s = 0 ∨ n384 ≤ s ∨ !onCurve pub then false
  else
    let w := invMod n384 s
    match ecAdd (ecMul (beVal (sha384 msg) * w % n384) base384) (ecMul (r * w % n384) (some pub)) with
    | none => false
    | some (x, _) => x % n384 == r

end Sys2Proof.Machine
end

