-- ==== Sys2Proof/Machine/Blocks.lean ====
section
/-! DEFINITION. Outstanding commands (R187 to R191, R204 to R218): their ranges and results, requests to channels, the
end of a block, and the writing of a final entry. -/

namespace Sys2Proof.Machine

/-! ## Opcodes (R204) -/

def opOfCode (n : Nat) : Option Op :=
  match n with
  | 0x00 => some .nop | 0x01 => some .read | 0x02 => some .write | 0x03 => some .flush | 0x10 => some .fill
  | 0x11 => some .copy | 0x12 => some .compare | 0x13 => some .check | 0x14 => some .verify | 0x15 => some .recode
  | 0x16 => some .sanitize | 0x20 => some .keyLoad | 0x21 => some .keyDestroy | 0x22 => some .attest | 0x30 => some .repair
  | 0x31 => some .getLog | 0x32 => some .setLatency | 0x3F => some .abort | _ => none

def Op.code : Op → Nat
  | .nop => 0x00 | .read => 0x01 | .write => 0x02 | .flush => 0x03 | .fill => 0x10 | .copy => 0x11 | .compare => 0x12
  | .check => 0x13 | .verify => 0x14 | .recode => 0x15 | .sanitize => 0x16 | .keyLoad => 0x20 | .keyDestroy => 0x21
  | .attest => 0x22 | .repair => 0x30 | .getLog => 0x31 | .setLatency => 0x32 | .abort => 0x3F

/-- Activity class of an opcode's requests (R204). -/
def Op.cls : Op → Class
  | .read => .host | .write => .host | .repair => .repair | _ => .nmo

/-- Operations that go on after a failing block (R204, R210). -/
def Op.continues : Op → Bool
  | .check => true | .verify => true | .sanitize => true | _ => false

/-- Commands that can write a slot (R218). -/
def Op.writesSlots : Op → Bool
  | .write => true | .fill => true | .copy => true | .recode => true | .sanitize => true | .repair => true | _ => false

/-- Operations of the near-memory engine, which write a result record (R213). -/
def Op.nmo : Op → Bool
  | .fill => true | .copy => true | .compare => true | .check => true | .verify => true | .recode => true
  | .sanitize => true | _ => false

/-! ## Ranges (R205, R206) -/

/-- The block count an opcode takes from a descriptor (R205). -/
def blocksOf (op : Op) (d : Desc) : Nat :=
  let n := d.nblk.toNat + 1
  let wide := n + 65536 * fieldOf d.opnd4 0 10
  match op with
  | .read => n | .write => n | .fill => wide | .copy => wide | .compare => wide | .check => wide | .verify => wide
  | .recode => 2 ^ 18 | .sanitize => wide | .repair => 1
  | .nop => 0 | .flush => 0 | .keyLoad => 0 | .keyDestroy => 0 | .attest => 0 | .getLog => 0 | .setLatency => 0 | .abort => 0

def Cmd.count (c : Cmd) : Nat := blocksOf c.op c.desc

/-- First block of the range. -/
def Cmd.base (c : Cmd) : Nat := if c.op = .recode then fieldOf c.desc.opnd0 0 8 * 2 ^ 18 else c.desc.lbn.toNat

/-- First block of the second range: COPY's destination, COMPARE's second side in mode 1 (R220, R221). -/
def Cmd.second (c : Cmd) : Option Nat :=
  match c.op with
  | .copy => some (c.desc.addr2.toNat % 2 ^ 26)
  | .compare => if c.desc.opnd0.getLsbD 0 then some (c.desc.addr2.toNat % 2 ^ 26) else none
  | _ => none

/-- A block of the range has not ended: it runs, or it may still start. -/
def Cmd.openAt (c : Cmd) (o : Nat) : Bool :=
  decide (o < c.count) && (c.running.contains o || (decide (c.next ≤ o) && !c.stopped && !c.aborted))

/-- The command has an unended block at a block number. -/
def Cmd.openBlock (c : Cmd) (l : Nat) : Bool :=
  (decide (c.base ≤ l) && c.openAt (l - c.base)) ||
    (match c.second with | some b => decide (b ≤ l) && c.openAt (l - b) | none => false)

/-- The ranges of two commands share a block (R189). -/
def rangesMeet (a b : Cmd) : Bool :=
  let ra := (a.base, a.count) :: (a.second.map fun x => (x, a.count)).toList
  let rb := (b.base, b.count) :: (b.second.map fun x => (x, b.count)).toList
  ra.any fun x => rb.any fun y => decide (x.1 < y.1 + y.2) && decide (y.1 < x.1 + x.2)

/-- Covered granules of a block (R206). -/
def Cmd.gFirst (c : Cmd) (o : Nat) : Nat := if o = 0 then c.desc.gstart.toNat else 0
def Cmd.gLast (c : Cmd) (o : Nat) : Nat := if o + 1 = c.count then c.desc.gend.toNat else 63

/-- Granules of a READ or WRITE before block o, and in all (R206). -/
def Cmd.gBefore (c : Cmd) (o : Nat) : Nat := if o = 0 then 0 else (64 - c.desc.gstart.toNat) + 64 * (o - 1)
def Cmd.gTotal (c : Cmd) : Nat := c.gBefore (c.count - 1) + (c.gLast (c.count - 1) + 1 - c.gFirst (c.count - 1))

/-- Host address of a block's data and of its trailer value (R207). -/
def Cmd.dataAddr (c : Cmd) (o : Nat) : Nat := c.desc.addr.toNat + 64 * c.gBefore o
def Cmd.trailerAddr (c : Cmd) (o : Nat) : Nat := c.desc.addr.toNat + 64 * c.gTotal + 4 * o

/-- The block is written or read whole. -/
def Cmd.full (c : Cmd) (o : Nat) : Bool := decide (c.gFirst o = 0) && decide (c.gLast o = 63)

/-! ## Order (R30, R189, R190) -/

/-- A command may start: no fence stands before it, and its own fence is met (R190). -/
def State.mayStart (s : State) (c : Cmd) : Bool :=
  c.op == .abort || s.rng.cmds.all fun x => !(decide (x.id < c.id) && x.sq == c.sq && (c.desc.fence || x.desc.fence))

/-- An older command still has an unended block at a physical place (R30). -/
def State.olderCmd (s : State) (ord i b row : Nat) : Bool :=
  s.rng.cmds.any fun c => decide (c.id < ord) && c.openBlock (lbnOf c.intlv i b row)

/-- An older request for the same slot has not ended, or another holder has the block in the merge buffer
(R30, R147). -/
def State.reqBlocked (s : State) (r : Req) : Bool :=
  let c := s.chan r.inst
  let same (x : Req) : Bool := x.bank == r.bank && x.lbn == r.lbn && decide (x.ord < r.ord)
  (c.queue ++ c.ringq ++ c.active ++ c.dec).any same || (decide (r.row < 0x1000) && s.olderCmd r.ord r.inst r.bank r.row) ||
    s.pcd.merge.any fun e => match e.2 with
      | some m => m.lbn == r.lbn && r.merge != some e.1
      | none => false

/-- An ABORT that matched the command was checked more than 2 µs ago: no block of it starts any more (R237). -/
def State.abortedLate (s : State) (c : Cmd) : Bool :=
  s.rng.cmds.any fun x => x.op == .abort && x.waitIds.contains c.id && (x.due.elim false fun t => decide (t < s.now))

/-- A request of a block that no longer starts; a RECODE's write follows a read that has issued (R237). -/
def State.tooLate (s : State) (r : Req) : Bool :=
  (r.cmd.bind s.cmd).any fun c => s.abortedLate c && !(c.op == .recode && r.wr)

/-! ## Merge buffer (R142, R143) -/

/-- Slots held for internal activities (R142). -/
def State.internalHeld (s : State) : Nat :=
  (s.pcd.merge.filter fun e => match e.2 with | some m => m.internal | none => false).length

/-- A free merge-buffer slot that the request may take. -/
def State.mergeFree (s : State) (internal : Bool) : Option Nat :=
  if internal ∧ s.fld .pcdMrg 0 16 8 ≤ s.internalHeld then none
  else (List.range 256).find? fun k => (Tab.get none s.pcd.merge k).isNone

def State.setMerge (s : State) (k : Nat) (m : Option Merge) : State :=
  { s with pcd := { s.pcd with merge := Tab.set none s.pcd.merge k m } }

/-- Moves a held slot to its next state. -/
def State.mergeTo (s : State) (k : Option Nat) (st : MergeSt) : State :=
  match k with
  | none => s
  | some k => match Tab.get none s.pcd.merge k with
    | none => s
    | some m => s.setMerge k (some { m with st := st })

/-- Frees a held slot. -/
def State.mergeRelease (s : State) (k : Option Nat) : State :=
  match k with
  | none => s
  | some k => s.setMerge k none

/-! ## Requests -/

/-- Why a block cannot be performed now: retired, not serving, not ready, frozen (R24, R108, R136, R212, R579). -/
def State.refuses (s : State) (mode : BitVec 2) (l : Nat) : Option (Nat × Nat) :=
  let i := (placeOf mode l).1
  if (s.chan i).retired then some (0x10, 0x01)
  else if !s.isServing i then some (0x10, 0x08)
  else if !s.ready (regionOf l) (tierOf i) then some (0x10, 0x02)
  else if (s.chan i).st = .frozen then some (0x11, 0)
  else none

/-- The same for a block whose operation needs the security engine (R44, R212): 0x03 comes after the other causes. -/
def State.refusesFor (s : State) (mode : BitVec 2) (l : Nat) (engine : Bool) : Option (Nat × Nat) :=
  match s.refuses mode l with
  | some (0x10, sd) => some (0x10, sd)
  | x => if engine ∧ s.secOut then some (0x10, 0x03) else x

/-- A channel takes requests into its queue (R104, R109, R116). -/
def State.takesRequests (s : State) (i : Nat) : Bool :=
  let c := s.chan i
  (c.st == .serving) && !c.retrain && !(s.tier (tierOf i)).changing && !c.retired

/-! ## The encode (R127, R132, R134, R140) -/

/-- The opcode of the command a request belongs to. -/
def State.opOf (s : State) (r : Req) : Option Op := (r.cmd.bind s.cmd).map fun c => c.op

/-- The strength an encode uses: RECODE writes at the NEW of its window, all others at the strength in force (R132, R134). -/
def State.encodeStrength (s : State) (r : Req) : BitVec 3 :=
  match r.cmd.bind s.cmd with
  | some c => if c.op = .recode then BitVec.ofNat 3 (fieldOf c.desc.opnd0 12 3) else s.strengthOf r.lbn
  | none => s.strengthOf r.lbn

/-- The contents as encoded, with GEN taken from PCD_GEN where the write is a fresh one. -/
def State.encode (s : State) (r : Req) : State × Option Slot :=
  match r.slot with
  | none => (s, none)
  | some x =>
    let g := if r.fresh then s.pcd.gen else x.gen
    let s' := if r.fresh then { s with pcd := { s.pcd with gen := s.pcd.gen + 1 } } else s
    (s', some { x with gen := g, strength := s.encodeStrength r })

/-! ## The channel queue (R89, R269) -/

/-- A request may leave the ring engine's queue: the scheduler has room, its class is below its limit, and no older request for
its block and no merge-buffer slot holds it back (R30, R89, R147, R269) (log 72). -/
def State.fits (s : State) (i : Nat) (r : Req) : Bool :=
  let q := (s.chan i).queue
  decide (q.length < 32) && !s.reqBlocked r && match r.tc with
    | some c => decide (ofTc q c.toNat < s.limitOf i c.toNat)
    | none => true

/-- Hands a request to the scheduler; a write is encoded first (R140). -/
def State.enter (s : State) (i : Nat) (r : Req) : State :=
  let e := if r.wr then s.encode r else (s, r.slot)
  let s := if r.wr then e.1.mergeTo r.merge .write else e.1
  s.updChan i fun c => { c with queue := c.queue ++ [{ r with slot := e.2 }], ringq := c.ringq.filter fun x => x.age != r.age }

/-- Requests enter the channel queue in order of arrival. -/
def State.letIn (s : State) (i : Nat) : State :=
  if s.takesRequests i then (s.chan i).ringq.foldl (fun s r => if s.fits i r then s.enter i r else s) s else s

/-- Every channel with requests in the ring engine's queue lets in what it can. -/
def State.letInAll (s : State) : State :=
  ((s.tch.chans.filter fun e => !e.2.ringq.isEmpty).map fun e => e.1).foldl State.letIn s

/-- A request before it is numbered. -/
def mkReq (src : ReqSrc) (cmd : Option Nat) (off lbn : Nat) (pl : Nat × Nat × Nat) (wr : Bool) (cls : Class)
    (tc : Option (BitVec 3)) (ord : Nat) : Req :=
  { src := src, cmd := cmd, off := off, lbn := lbn, inst := pl.1, bank := pl.2.1, row := pl.2.2, phys := pl.2.2, wr := wr,
    cls := cls, tc := tc, age := 0, ord := ord, slot := none, fresh := false, merge := none, at_ := 0, sawForced := false,
    errs := [], dstr := 0, scb := 0, missed := false }

/-- A command's request for a block of its range. -/
def Cmd.req (c : Cmd) (src : ReqSrc) (o l : Nat) (wr : Bool) : Req :=
  mkReq src (some c.id) o l (placeOf c.intlv l) wr c.op.cls
    (match c.op.cls with | .host => some c.tc | .nmo => some c.tc | _ => none) c.id

/-- Hands a request to its channel: it arrives behind the others and enters the queue as R269 allows. -/
def State.submit (s : State) (r : Req) : State :=
  let r := { r with age := s.rng.nextAge, at_ := s.now }
  let s := { s with rng := { s.rng with nextAge := s.rng.nextAge + 1 } }
  (s.updChan r.inst fun c => { c with ringq := c.ringq ++ [r] }).letIn r.inst

/-! ## Final entries -/

def State.sec0 (s : State) (c : Cmd) : Nat := match s.openWindow (fieldOf c.desc.opnd0 0 8) with
  | some w => (s.window w).pointer
  | none => 2 ^ 18

/-- RES1 of a successful READ (R216). -/
def Cmd.readRes1 (c : Cmd) : Nat :=
  c.count + 2 ^ 27 * oneIf c.zero0 + 2 ^ 28 * oneIf c.san0 + 2 ^ 29 * oneIf c.anyCorr

/-- The final entry of a command with blocks (R211, R215 to R226, R230, R237, R259). -/
def State.blockFinal (s : State) (c : Cmd) : Final :=
  let early := c.early && c.provis
  if c.aborted then
    { kind := 0, status := 0x20, sdetail := 0, res0 := 0xFFFFFFFF, res1 := BitVec.ofNat 32 c.done }
  else match c.fail with
  | some f =>
    let kind : Nat := if !early then (if c.early ∧ c.sent = 0 then 0 else if c.early then 2 else 0)
                      else if 0 < c.aux then kindRetract else kindConfirm
    let res0 : Word := if f.status = 0x17 then c.gen0
                       else if c.op = .recode then BitVec.ofNat 32 (s.sec0 c) else BitVec.ofNat 32 f.lbn
    let res1 : Nat := if f.status = 0x17 then 0 else c.done - c.passed
    let am := if kind = kindConfirm then 2 ^ 30 * oneIf c.amended else 0
    { kind := BitVec.ofNat 4 kind, status := f.status, sdetail := f.sdetail, res0 := res0, res1 := BitVec.ofNat 32 (res1 + am) }
  | none =>
    match c.op with
    | .read =>
      let kind := if early then kindConfirm else kindFinal
      let am := if early then 2 ^ 30 * oneIf c.amended else 0
      { kind := BitVec.ofNat 4 kind, status := 0, sdetail := 0, res0 := c.gen0, res1 := BitVec.ofNat 32 (c.readRes1 + am) }
    | .write => { kind := 0, status := 0, sdetail := 0, res0 := c.gen0, res1 := BitVec.ofNat 32 c.count }
    | .recode => { kind := 0, status := 0, sdetail := 0, res0 := BitVec.ofNat 32 (s.sec0 c), res1 := BitVec.ofNat 32 (c.done - c.passed) }
    | .repair =>
      let pl := placeOf c.intlv c.base
      { kind := 0, status := 0, sdetail := 0, res0 := BitVec.ofNat 32 c.aux,
        res1 := BitVec.ofNat 32 (s.freeSpares pl.1 pl.2.1).length }
    | _ => { kind := 0, status := 0, sdetail := 0, res0 := 0xFFFFFFFF, res1 := BitVec.ofNat 32 c.done }

/-- A saturating counter of the result record. -/
def sat32 (n : Nat) : Nat := min n (2 ^ 32 - 1)

/-- VALUE of a CHECK: the per-block values combined in block order (R222, R252, R253). -/
def Cmd.checkValue (c : Cmd) : Option (BitVec 64) :=
  if c.op = .check ∧ c.fail.isNone ∧ !c.aborted ∧ c.done = c.count then
    let seed := BitVec.ofNat 64 (c.desc.opnd0.toNat + 2 ^ 32 * c.desc.opnd1.toNat)
    let zeros : List Byte := List.replicate 4096 0
    some ((List.range c.count).foldl (fun v o => crc64 v zeros ^^^ Tab.get 0 c.vals o) seed)
  else none

/-- The result record (R213). START of a command that ended before any block started is 0 (DESIGN CHOICE, log 113). -/
def State.recordOf (s : State) (c : Cmd) : List Byte :=
  let v := c.checkValue
  let t := c.tally
  let f := c.fail
  leBytes 8 ((v.getD 0).toNat) ++ leBytes 4 (sat32 t.examined) ++ leBytes 4 (sat32 t.clean) ++ leBytes 4 (sat32 t.corrected) ++
    leBytes 4 (sat32 t.bits) ++ leBytes 4 (sat32 t.uncorr) ++ leBytes 4 (sat32 t.integrity) ++ leBytes 4 (sat32 t.marked) ++
    leBytes 4 (sat32 t.skipped) ++ leBytes 4 (match f with | some f => f.lbn | none => 0xFFFFFFFF) ++
    leBytes 1 (match f with | some f => f.status.toNat | none => 0) ++ leBytes 1 (oneIf v.isSome + 2 * oneIf c.aborted) ++
    leBytes 2 (min t.maxCorr 65535) ++ leBytes 8 (c.startAt.getD 0) ++ leBytes 8 s.now

/-- A final entry waits for older commands of its SQ that share a block, for the commands it waits for, and for the
merge-buffer slots it waits for (R189, R218, R238). -/
def State.canFinish (s : State) (c : Cmd) : Bool :=
  c.final.isSome && (c.waitIds.all fun id => (s.cmd id).isNone) &&
    (c.waitMrg.all fun n => s.pcd.merge.all fun e => e.2.all fun m => m.no != n) &&
    !c.inCq && s.rng.cmds.all fun x => !(decide (x.id < c.id) && x.sq == c.sq && rangesMeet x c)

/-- A change of a stream ring's fill: panic is judged against PANIC and RELEASE as they stand (R278, R289). -/
def State.setFill (s : State) (q fill : Nat) : State :=
  s.updSq q fun x => { x with
    fill := fill
    panic := decide (s.fld .qosStrmW0 q 8 7 ≤ fill) || (x.panic && decide (s.fld .qosStrmW0 q 16 7 < fill)) }

/-- Releases stream-buffer entries (R275). -/
def State.streamRelease (s : State) (q n : Nat) : State :=
  if !s.sqStream q ∨ n = 0 then s
  else
    let k := min n (s.sq q).fill
    { s with qos := { s.qos with poolFree := min 1024 (s.qos.poolFree + k) } }.setFill q ((s.sq q).fill - k)

/-- Takes stream-buffer entries (R275). -/
def State.streamTake (s : State) (q n : Nat) : State :=
  if !s.sqStream q ∨ n = 0 then s
  else { s with qos := { s.qos with poolFree := s.qos.poolFree - n } }.setFill q ((s.sq q).fill + n)

/-- Writes the final entry of a command and ends it (R187, R191): the result record goes first; then what takes effect with
the entry (R227, R233, R234, R247), the ring's count, and the remembered pair of R236. The power state follows a new tolerance at the
next tick (DESIGN CHOICE, log 144). -/
def State.writeFinal (s : State) (c : Cmd) (f : Final) : State :=
  let s := if c.op.nmo ∧ c.desc.opnd3 ≠ 0 then s.mwrAll c.tc.toNat c.desc.opnd3.toNat (s.recordOf c) else s
  let f := match c.op with
    | .abort => if 0 < c.abOk then { f with status := 0, res0 := BitVec.ofNat 32 c.abOk, res1 := BitVec.ofNat 32 c.abNo }
                else if c.waitIds.isEmpty then f
                else { f with status := 0x21, res0 := 0, res1 := BitVec.ofNat 32 c.abNo }
    | .nop => if c.phase = 1 then { f with res1 := BitVec.ofNat 32 (s.now % 2 ^ 31) } else f
    | _ => f
  -- RES0 of SET_LATENCY is the value that its write replaces (R233)
  let wide := c.desc.opnd0.getLsbD 16
  let f := if c.op = .setLatency ∧ c.phase = 1 then
      { f with res0 := BitVec.ofNat 32 (if wide then s.fld .pwrLatTol 0 0 16 else s.fld .sqcW4 c.sq 0 16) }
    else f
  -- late data of an early READ that got no PROVISIONAL entry (R258, R260)
  let s := if c.provOut then s else c.after.foldl (fun s w => s.mwrAll c.tc.toNat w.1 w.2) s
  -- what a register write would do, and a loaded key (R227, R233)
  let s := match c.op with
    | .setLatency =>
      if c.phase ≠ 1 then s
      else if wide then s.setCfg .pwrLatTol 0 (c.desc.opnd0 &&& 0xFFFF)
      else s.setCfg .sqcW4 c.sq (withField (s.cfgWord .sqcW4 c.sq) 0 16 (fieldOf c.desc.opnd0 0 16))
    | .keyLoad =>
      match (Tab.get none c.bufs 0).bind fun b => b.plain with
      | some k => if f.status = 0 then { s with sec := { s.sec with slots := Tab.set [] s.sec.slots c.key.toNat k } } else s
      | none => s
    | _ => s
  let e := mkEntry c.desc.cid.toNat c.sq f.kind.toNat f.status.toNat f.sdetail.toNat 0 f.res0 f.res1.toNat
  let s : State := s.writeHeld c.cq { entry := e, sq := c.sq, urgent := c.desc.urgent, tc := c.tc.toNat, use := .pair c.desc.cid }
  let s : State := if c.op = .read ∨ c.op = .write then s.streamRelease c.sq (c.count - c.ended) else s
  let s : State := if c.early ∧ !c.provis then s.updCq c.cq fun q => { q with reserved := q.reserved - 1 } else s
  let s := { s with rng := { s.rng with
    cmds := (s.rng.cmds.filter fun (x : Cmd) => x.id != c.id).map fun (x : Cmd) =>
      if x.op = Op.abort ∧ x.waitIds.contains c.id then
        (if f.status = 0x20 then { x with abOk := x.abOk + 1 } else { x with abNo := x.abNo + 1 }) else x,
    cntAmend := if f.kind.toNat = kindConfirm ∧ c.amended then satInc s.rng.cntAmend 1 else s.rng.cntAmend,
    cntRetr := if f.kind.toNat = kindRetract then satInc s.rng.cntRetr 1 else s.rng.cntRetr } }
  let s := s.updSq c.sq fun (q : SqCtx) =>
    { q with out := q.out - 1, usedAt := some s.now, st := if q.st = SqSt.draining ∧ q.out ≤ 1 then .disabled else q.st }
  match c.integ with
  | some (l, stored) => s.postEvent 0x000D 0 2 (BitVec.ofNat 32 l) stored.toNat
  | none => s

/-- Ends a command whose final entry no longer waits. A CQ in ERROR holds the entry: the command stays outstanding, and all that
comes with its final entry comes when RESUME writes it (R187, R201). A command stopped under R353 ends without a trace. -/
def State.complete (s : State) (c : Cmd) (f : Final) : State :=
  if c.silent then { s with rng := { s.rng with cmds := s.rng.cmds.filter fun (x : Cmd) => x.id != c.id } }
  else if (s.cq c.cq).st = .error then
    (s.updCmd c.id fun c => { c with inCq := true }).writeEntry c.cq
      { entry := mkEntry 0 0 0 0 0 0 0 0, sq := c.sq, urgent := c.desc.urgent, tc := c.tc.toNat, use := .final c.id }
  else s.writeFinal c f

/-- Writes an entry that a CQ has held, a final one as the command has it now. -/
def State.releaseEntry (s : State) (q : Nat) (h : HeldEntry) : State :=
  match h.use with
  | .final id =>
    match (s.cmd id).bind fun c => c.final.map fun f => (c, f) with
    | some (c, f) => s.writeFinal c f
    | none => s
  | .plain => s.writeHeld q h
  | .pair _ => s.writeHeld q h
  | .prov _ => s.writeHeld q h

/-- Writes every final entry that no longer waits, oldest command first; `fuel` bounds their number. -/
def State.settleN : Nat → State → State
  | 0, s => s
  | fuel + 1, s =>
    match s.rng.cmds.find? s.canFinish with
    | none => s
    | some c => match c.final with
      | none => s
      | some f => State.settleN fuel (s.complete c f)

def State.settle (s : State) : State := s.settleN s.rng.cmds.length

/-- Fixes a command's final entry and writes it when it may be written. -/
def State.finish (s : State) (id : Nat) (f : Final) : State := (s.updCmd id fun c => { c with final := some f }).settle

/-- A final entry with a status and no result. -/
def plainFinal (status sdetail : Nat) (res0 : Word) (res1 : Nat) : Final :=
  { kind := 0, status := BitVec.ofNat 8 status, sdetail := BitVec.ofNat 8 sdetail, res0 := res0, res1 := BitVec.ofNat 32 res1 }

/-- Writes the PROVISIONAL entry of an early READ once the blocks it started have had all their data sent, and sends what
waited for it (R257, R260). -/
def State.judgeProvisional (s : State) (id : Nat) : State :=
  match s.cmd id with
  | none => s
  | some c =>
    let toStart := decide (c.next < c.count) && !c.stopped && !c.aborted
    let unsent := c.running.any fun o => match Tab.get none c.bufs o with | some b => b.sent.isNone | none => true
    if !c.early ∨ c.provis ∨ c.sent = 0 ∨ toStart ∨ unsent then s
    else
      let e := mkEntry c.desc.cid.toNat c.sq kindProvisional 0 0 0 0 c.sent
      (s.updCmd id fun c => { c with provis := true }).writeEntry c.cq
        { entry := e, sq := c.sq, urgent := false, tc := c.tc.toNat, use := .prov id }

/-- A command whose blocks have all ended, and that starts no more, gets its final entry (R187). -/
def State.tryFinish (s : State) (id : Nat) : State :=
  let s := s.judgeProvisional id
  match s.cmd id with
  | none => s
  | some c =>
    if c.running.isEmpty ∧ c.final.isNone ∧ (c.count ≤ c.next ∨ c.stopped ∨ c.aborted) then s.finish id (s.blockFinal c) else s

/-- Judges a block against its stream deadline, when it is done (R277). -/
def State.judgeMiss (s : State) (c : Cmd) (forced : Bool) : State :=
  match c.due with
  | none => s
  | some due =>
    if s.now ≤ due then s
    else
      let s := s.updSq c.sq fun q => { q with miss := satInc q.miss 1 }
      { s with qos := { s.qos with
        missTotal := satInc s.qos.missTotal 1, missForced := if forced then satInc s.qos.missForced 1 else s.qos.missForced } }

/-- Counts in SKIPPED a block that was not examined (R213). -/
def isSkip (status : Nat) : Bool := status == 0x10 || status == 0x11 || status == 0x15 || status == 0x16

/-- Operations whose blocks pass their point of no return when their slot read issues: a block of theirs that fails by what was
read has passed it (R237). -/
def Op.endsOnRead : Op → Bool
  | .read => true | .compare => true | .check => true | .verify => true | .recode => true | _ => false

/-- Ends a block: done or failed (R209 to R211). A failing block stops an operation marked "Stops", but an
INTEGRITY_MISMATCH does not stop a READ (R210). -/
def State.endBlock (s : State) (id o : Nat) (done : Bool) (fail : Option (Nat × Nat)) (forced : Bool) : State :=
  match s.cmd id with
  | none => s
  | some c =>
    if !c.running.contains o then s
    else
      let s := if done then s.judgeMiss c forced else s
      let s := s.updCmd id fun c =>
        let lower := match c.fail with | some f => decide (o < f.off) | none => true
        let stop := match fail with
          | some (st, _) => !c.op.continues && !(c.op == .read && st == 0x13)
          | none => false
        { c with
          running := c.running.erase o
          done := c.done + oneIf done
          short := c.short || (match fail with
            | some (st, sd) => !c.op.endsOnRead || (st == 0x10 && sd != 0x03) || st == 0x11
            | none => false)
          ended := c.ended + 1
          bufs := Tab.set none c.bufs o none
          stopped := c.stopped || stop
          aux := if c.op = .read ∧ !done ∧ ((Tab.get none c.bufs o).bind fun b => b.sent).isSome then c.aux + 1 else c.aux
          tally := match fail with
            | some (st, _) => if isSkip st then { c.tally with skipped := c.tally.skipped + 1 } else c.tally
            | none => c.tally
          fail := match fail with
            | some (st, sd) => if lower then some { off := o, status := BitVec.ofNat 8 st, sdetail := BitVec.ofNat 8 sd, lbn := c.base + o }
                               else c.fail
            | none => c.fail }
      let s := if c.op = .read ∨ (c.op = .write ∧ fail.isSome) then s.streamRelease c.sq 1 else s
      s.tryFinish id

/-- Operations whose blocks are done when their WR burst issues (R209). -/
def doneAtIssue (op : Op) : Bool := op == .write || op == .fill || op == .copy || op == .sanitize

/-- A block is done as its WR burst issues: it is counted, judged against its deadline, and its stream-buffer entry is free
(R209, R275, R277). -/
def State.doneIssued (s : State) (r : Req) (gen : Word) : State :=
  match r.cmd.bind s.cmd with
  | none => s
  | some c =>
    if doneAtIssue c.op ∧ c.running.contains r.off then
      let s := if r.missed then s else s.judgeMiss c r.sawForced
      let s := if c.op = .write then s.streamRelease c.sq 1 else s
      s.updCmd c.id fun c => { c with
        done := c.done + 1
        gen0 := if r.off = 0 ∧ c.op = .write then gen else c.gen0
        tally := if c.op = .sanitize then { c.tally with marked := c.tally.marked + 1 } else c.tally }
    else s

/-- A block whose WR burst the tier has discarded is not done: it holds its stream-buffer entry again, which may raise panic (R107,
R269). -/
def State.undone (s : State) (r : Req) : State :=
  match r.cmd.bind s.cmd with
  | none => s
  | some c =>
    if r.wr ∧ doneAtIssue c.op ∧ c.running.contains r.off then
      let s := (if c.op = .write then s.streamTake c.sq 1 else s).updCmd c.id fun c => { c with
        done := c.done - 1
        tally := if c.op = .sanitize then { c.tally with marked := c.tally.marked - 1 } else c.tally }
      s.letInAll
    else s

/-- A command error returns an issued request to the queue, not started: the merge-buffer slot that its fetch took at the issue
is free again (R107, R142). -/
def State.unissue (s : State) (r : Req) : State × Req :=
  let late := match r.cmd.bind s.cmd with
    | some c => r.wr && c.due.elim false fun d => decide (d < s.now)
    | none => false
  let s := s.undone r
  let r : Req := { r with missed := r.missed || late }
  if r.wr then (s, r) else (s.mergeRelease r.merge, { r with merge := none })

/-- POINTER passes every block whose done-mask bit is set; `fuel` bounds the run (R134). -/
def Window.advance : Nat → Window → Window
  | 0, w => w
  | fuel + 1, w =>
    if w.mask.contains 0 then
      Window.advance fuel { w with pointer := w.pointer + 1, mask := (w.mask.filter (· ≠ 0)).map (· - 1) }
    else w

/-- Sets the done-mask bit of a block of a region; at 2^18 the map entry takes NEW and the window closes
(R134); PCD_RCW and PCD_RCP of a closed window read 0 (DESIGN CHOICE, log 130). -/
def State.recodeMark (s : State) (l : Nat) : State :=
  match s.openWindow (regionOf l) with
  | none => s
  | some k =>
    let w := s.window k
    let o := l % 2 ^ 18
    if o < w.pointer then s
    else
      let w := Window.advance 257 { w with mask := insertSorted (o - w.pointer) w.mask }
      if w.pointer < 2 ^ 18 then s.setWindow k w
      else (s.setWindow k .closed).setCfg .pcdSmap (regionOf l) (BitVec.ofNat 32 w.new.toNat)

/-- A RECODE passes over a block on a retired channel or in a tier where the region is not ready, whose channel may also answer
that it does not serve (R225, R579). -/
def State.recodeSkips (s : State) (op : Op) (r : Req) (st sd : Nat) : Bool :=
  op == .recode && st == 0x10 && (sd == 1 || sd == 2 || (sd == 8 && !s.ready (regionOf r.lbn) (tierOf r.inst)))

/-- Notes that a block has started. -/
def State.openBlock (s : State) (id o : Nat) (b : BlockBuf) : State :=
  s.updCmd id fun c =>
    { c with next := max c.next (o + 1), running := c.running ++ [o], bufs := Tab.set none c.bufs o (some b),
             startAt := some (c.startAt.getD s.now) }

/-- Rewrites the gathering buffer of a block. -/
def State.updBuf (s : State) (id o : Nat) (f : BlockBuf → BlockBuf) : State :=
  s.updCmd id fun c => { c with bufs := Tab.set none c.bufs o ((Tab.get none c.bufs o).map f) }

def Cmd.buf (c : Cmd) (o : Nat) : BlockBuf := (Tab.get none c.bufs o).getD .empty

/-- Updates the tally of a command. -/
def State.tally (s : State) (id : Nat) (f : Tally → Tally) : State := s.updCmd id fun c => { c with tally := f c.tally }

/-- Counts a decode in the command's tally (R213). -/
def Tally.decoded (t : Tally) : Decode → Tally
  | .clean => { t with clean := t.clean + 1 }
  | .corrected k => { t with corrected := t.corrected + 1, bits := t.bits + k, maxCorr := max t.maxCorr k }
  | .uncorrectable => { t with uncorr := t.uncorr + 1 }

/-! ## Plaintext and its check (R208, R244 to R248) -/

/-- The plaintext of a stored block under the key rule of R208, or the failure that decides. -/
def State.plainOf (s : State) (c : Cmd) (l : Nat) (x : Slot) : Except (Nat × Nat) (List Byte) :=
  if x.zero then .ok (List.replicate 4096 0)
  else if x.key ≠ 0 ∧ s.secOut then .error (0x10, 0x03)
  else if x.key ≠ c.key then .error (0x15, 0x01)
  else if x.key = 0 then .ok x.data
  else match s.keyFor x.key.toNat c.id with
  | none => .error (0x16, 0)
  | some k => .ok (xts true k l x.data)

/-- The plaintext under the stored key, for VERIFY with DEEP (R208, R223). -/
def State.plainStored (s : State) (c : Cmd) (l : Nat) (x : Slot) : Except (Nat × Nat) (List Byte) :=
  if x.zero then .ok (List.replicate 4096 0)
  else if x.key = 0 then .ok x.data
  else if s.secOut then .error (0x10, 0x03)
  else match s.keyFor x.key.toNat c.id with
  | none => .error (0x16, 0)
  | some k => .ok (xts true k l x.data)

/-- Stored form of plaintext under the command's key slot (R28 step 5). -/
def State.storedForm (s : State) (c : Cmd) (l : Nat) (p : List Byte) : Except (Nat × Nat) (List Byte) :=
  if c.key = 0 then .ok p
  else if s.secOut then .error (0x10, 0x03)
  else match s.keyFor c.key.toNat c.id with
  | none => .error (0x16, 0)
  | some k => .ok (xts false k l p)

/-- Bits corrected in a decode. -/
def Decode.bits : Decode → Nat
  | .corrected k => k
  | .clean => 0
  | .uncorrectable => 0

/-- Enters an INTEGRITY_MISMATCH in the integrity log and counts it (R247, R248, R264). -/
def State.logIntegrity (s : State) (l : Nat) (x : Slot) (computed : Word) (source sq cid : Nat) (d : Decode) : State :=
  let e : IntegEntry :=
    { seq := s.rng.integSeq, lbn := BitVec.ofNat 32 l, stored := x.crc, computed := computed, gen := x.gen, key := x.key.setWidth 16,
      source := BitVec.ofNat 8 source, dec := BitVec.ofNat 8 d.bits, sqid := BitVec.ofNat 16 sq, cid := BitVec.ofNat 16 cid,
      time := BitVec.ofNat 32 s.now }
  let log := s.rng.integ ++ [e]
  { s with rng := { s.rng with
    integ := log.drop (log.length - 64), integSeq := s.rng.integSeq + 1, cntInteg := satInc s.rng.cntInteg 1 } }

/-- A command's INTEGRITY_MISMATCH: the lowest LBN is kept for the event of its final entry (R247). -/
def State.cmdIntegrity (s : State) (c : Cmd) (l : Nat) (x : Slot) (computed : Word) (d : Decode) : State :=
  let s := s.logIntegrity l x computed c.op.code c.sq c.desc.cid.toNat d
  s.updCmd c.id fun c => { c with integ := match c.integ with
    | some (m, v) => if l < m then some (l, x.crc) else some (m, v)
    | none => some (l, x.crc) }

/-- The contents a command writes, before the encode fixes GEN and STRENGTH (R126, R140). -/
def newSlot (data : List Byte) (crc : Word) (key : BitVec 10) (zero san fmt : Bool) (owner : Word) : Slot :=
  { data := data, crc := crc, gen := 0, key := key, enc := key != 0, zero := zero, san := san, fmt := fmt, strength := 0,
    owner := owner }

/-- A block of zeros stored in clear. -/
def zeroSlot (san fmt : Bool) (owner : Word) : Slot :=
  let z : List Byte := List.replicate 4096 0
  newSlot z (crc32c z) 0 true san fmt owner

/-! ## Host data (R340) -/

/-- Asks for one part of a block's data from the host: at most 512 bytes for each MRD. -/
def State.askParts (s : State) (c : Cmd) (o : Nat) (parts : List (Nat × Nat × Nat)) : State :=
  parts.foldl (fun s p => s.mrd c.tc.toNat p.2.1 p.2.2 (.block c.id o p.1)) s

/-- The parts of a run of bytes: part number, address and words. -/
def partsOf (addr bytes : Nat) : List (Nat × Nat × Nat) :=
  (List.range (ceilDiv bytes 512)).map fun k => (k, addr + 512 * k, ceilDiv (min 512 (bytes - 512 * k)) 4)

/-- The bytes gathered, in part order, from a part number on. -/
def BlockBuf.bytes (b : BlockBuf) (n : Nat) : List Byte :=
  (List.range n).flatMap fun k => match b.parts.find? fun p => p.1 == k with | some p => p.2 | none => []

/-! ## Sides of a COMPARE or a VERIFY, and requests that fail (R108, R210, R221, R223, R245) -/

/-- Checks plaintext against the stored CRC-32C (R244): a disagreement is counted, logged and kept for the event. -/
def State.checkPlain (s : State) (c : Cmd) (l : Nat) (x : Slot) (d : Decode) (p : List Byte) : State × Bool :=
  let sum := crc32c p
  if sum = x.crc then (s, true)
  else ((s.cmdIntegrity c l x sum d).tally c.id fun t => { t with integrity := t.integrity + 1 }, false)

/-- The decode of a stored side, as its number of corrected bits tells it. -/
def decodeOf (k : Nat) : Decode := if k = 0 then .clean else .corrected k

/-- The lowest granule in which two blocks differ. -/
def firstDiff (a b : List Byte) : Option Nat := (List.range 64).find? fun g => granules g g a != granules g g b

/-- The order of R245 among failures of a block. -/
def failRank (f : Nat × Nat) : Nat :=
  match f.1 with
  | 0x10 => 1 | 0x11 => 2 | 0x12 => 3 | 0x17 => 4 | 0x15 => 5 | 0x16 => 5 | 0x13 => 6 | _ => 0

/-- The failure that decides: the first of those that come first in the order of R245. -/
def worstOf : List (Nat × Nat) → Option (Nat × Nat)
  | [] => none
  | f :: t => match worstOf t with
    | some g => some (if failRank g < failRank f then g else f)
    | none => some f

/-- Forms and checks one stored side of a COMPARE: its plaintext, or its failure (R244, R247). -/
def State.judgeSide (s : State) (c : Cmd) (l : Nat) (y : Slot × Nat) : State × Except (Nat × Nat) (List Byte) :=
  match s.plainOf c l y.1 with
  | .error f => (s, .error f)
  | .ok p =>
    let k := s.checkPlain c l y.1 (decodeOf y.2) p
    (k.1, if k.2 then .ok p else .error (0x13, 0))

/-- Judges a block of COMPARE once both sides are there: every side that was read is checked, and the failure that comes first in
the order of R245 decides (R221, R244, R245, R247) (log 74). -/
def State.judgeCompare (s : State) (c : Cmd) (o : Nat) : State :=
  let b := c.buf o
  if b.rdLeft ≠ 0 ∨ (b.rdFail.isNone ∧ !b.bad ∧ !b.waits.isEmpty) ∨ !c.running.contains o then s
  else
    let sides := (b.side1.map fun y => (c.base + o, y)).toList ++ (b.side2.map fun y => ((c.second.getD 0) + o, y)).toList
    let a := sides.foldl (fun (a : State × List (Nat × Nat) × List (List Byte)) y =>
      let k := a.1.judgeSide c y.1 y.2
      (k.1, match k.2 with | .error f => (a.2.1 ++ [f], a.2.2) | .ok p => (a.2.1, a.2.2 ++ [p])))
      (s, (if b.bad then [(0x05, 0)] else []) ++ b.rdFail.toList, if c.second.isNone then [b.bytes 8] else [])
    match worstOf a.2.1 with
    | some f => a.1.endBlock c.id o false (some f) false
    | none =>
      match firstDiff (a.2.2.getD 0 []) (a.2.2.getD 1 []) with
      | none => a.1.endBlock c.id o true none false
      | some g =>
        (a.1.tally c.id fun t => { t with marked := t.marked + 1 }).endBlock c.id o true (some (0x18, g)) false

/-- Judges a block of VERIFY once its decode has ended and its array value has come: plaintext that is there is checked whatever
the array's MRD did, and the failures decide as for COMPARE (R223, R244, R245) (log 74). -/
def State.judgeVerify (s : State) (c : Cmd) (o : Nat) : State :=
  let b := c.buf o
  if b.rdLeft ≠ 0 ∨ (b.rdFail.isNone ∧ !b.bad ∧ !b.waits.isEmpty) ∨ !c.running.contains o then s
  else
    let before := (if b.bad then [(0x05, 0)] else []) ++ b.rdFail.toList
    let a : State × List (Nat × Nat) × Bool := match b.side1 with
      | some (x, k) =>
        if !c.desc.opnd2.getLsbD 0 then (s, before, true)
        else match s.plainStored c (c.base + o) x with
        | .error f => (s, before ++ [f], true)
        | .ok p =>
          let k := s.checkPlain c (c.base + o) x (decodeOf k) p
          (k.1, before, k.2)
      | none => (s, before, true)
    match worstOf a.2.1, b.side1 with
    | some f, _ => a.1.endBlock c.id o false (some f) false
    | none, none => a.1
    | none, some (x, _) =>
      let differs := c.desc.addr != 0 && (bytesWords (b.bytes 1)).headD 0 != x.crc
      let s := if differs then a.1.tally c.id fun t => { t with marked := t.marked + 1 } else a.1
      let fail : Option (Nat × Nat) := if !a.2.2 then some (0x13, 0) else if differs then some (0x18, 0) else none
      s.endBlock c.id o true fail false

/-- Notes that one read of a COMPARE or VERIFY block has ended. -/
def State.sideDone (s : State) (c : Cmd) (r : Req) (y : Option (Slot × Nat)) (f : Option (Nat × Nat)) : State :=
  let s := s.updBuf c.id r.off fun b => { b with
    rdLeft := b.rdLeft - 1, side1 := if r.src = .cmdRead then y else b.side1, side2 := if r.src = .cmdRead2 then y else b.side2,
    rdFail := b.rdFail <|> f }
  match s.cmd c.id with
  | none => s
  | some c => if c.op = .verify then s.judgeVerify c r.off else s.judgeCompare c r.off

/-- Ends a request that was not carried out: its merge slot is freed and its block fails, or is passed over by a RECODE; a side of a
COMPARE or a VERIFY waits for what else its block reads (R108, R109, R111, R225, R244) (log 69). -/
def State.failReq (s : State) (r : Req) (st sd : Nat) : State :=
  let s := s.mergeRelease r.merge
  match r.cmd with
  | none => s.settle
  | some id =>
    match s.cmd id with
    | none => s.settle
    | some c =>
      if s.recodeSkips c.op r st sd ∧ c.running.contains r.off then
        ((s.recodeMark r.lbn).updCmd id fun c => { c with
          passed := c.passed + 1, tally := { c.tally with skipped := c.tally.skipped + 1 } }).endBlock id r.off true none false
      else if c.op = .compare ∨ c.op = .verify then s.sideDone c r none (some (st, sd))
      else s.endBlock id r.off false (some (st, sd)) r.sawForced

/-- Sends a block's request unless its channel refuses it (R24, R108, R212). -/
def State.trySubmit (s : State) (c : Cmd) (r : Req) : State :=
  match s.refuses c.intlv r.lbn with
  | some (st, sd) => s.failReq r st sd
  | none => s.submit r

/-- Sends the second half of a pair that the channel already held: a freeze does not end it (R107, R226). -/
def State.submitHeld (s : State) (c : Cmd) (r : Req) : State :=
  match s.refuses c.intlv r.lbn with
  | some (0x11, _) => s.submit r
  | some (st, sd) => s.failReq r st sd
  | none => s.submit r

end Sys2Proof.Machine
end

