-- ==== Sys2Proof/Machine/Otp.lean ====
section
/-! DEFINITION. The fuses (R434 to R453): the word code, sensing, regions and their digests, counters, repair records, and
the starting of a command. -/

namespace Sys2Proof.Machine

/-! ## The word code (R435) -/

/-- Code positions of the 32 data bits: 1 to 38 without the powers of two. -/
def fusePositions : List Nat := ((List.range 38).map (· + 1)).filter fun p => !([1, 2, 4, 8, 16, 32].contains p)

/-- XOR of the positions of the data bits that are set: check bits 0 to 5. -/
def fuseSyndrome (w : Word) : Nat :=
  ((List.range 32).zip fusePositions).foldl (fun a e => if bitOf w e.1 then a ^^^ e.2 else a) 0

/-- The 39 bits of a word: data, check bits 0 to 5, and the overall parity. -/
def fuseCode (w : Word) : BitVec 39 :=
  let c := BitVec.ofNat 6 (fuseSyndrome w)
  let p := oddOnes w ^^ oddOnes c
  BitVec.ofNat 39 (w.toNat + c.toNat * 2 ^ 32 + oneIf p * 2 ^ 38)

/-- Decode of 39 bits: the data and whether a bit was corrected; none where uncorrectable. -/
def fuseDecode (x : BitVec 39) : Option (Word × Bool) :=
  let w : Word := x.setWidth 32
  let c := x.toNat / 2 ^ 32 % 64
  let syn := fuseSyndrome w ^^^ c
  if !oddOnes x then (if syn = 0 then some (w, false) else none)
  else if syn = 0 ∨ [1, 2, 4, 8, 16, 32].contains syn then some (w, true)
  else match fusePositions.findIdx? (· == syn) with
  | some i => some (w ^^^ ((1 : Word) <<< i), true)
  | none => none

/-! ## Sensing (R438, R439) -/

/-- What sensing makes of one word. -/
structure SenseOf where
  shadow    : Word
  marginal  : Bool
  bad       : Bool
  corrected : Bool
  zeroed    : Bool
  deriving DecidableEq, Repr

/-- The table of R439. -/
def senseWord (n st : BitVec 39) : SenseOf :=
  let marg := n != st
  match fuseDecode n with
  | none => { shadow := 0, marginal := marg, bad := true, corrected := false, zeroed := true }
  | some (w, false) => { shadow := w, marginal := marg, bad := false, corrected := false, zeroed := false }
  | some (w, true) =>
    if marg then { shadow := 0, marginal := true, bad := true, corrected := false, zeroed := true }
    else { shadow := w, marginal := false, bad := false, corrected := true, zeroed := false }

def Otp.sh (o : Otp) (a : Nat) : Word := Tab.get 0 o.shadow a
def Otp.isUsed (o : Otp) (a : Nat) : Bool := Tab.get false o.used a
def Otp.isBad (o : Otp) (a : Nat) : Bool := Tab.get false o.bad a || Tab.get false o.marginal a

/-- Puts one word as sensed into the shadows. -/
def Otp.place (o : Otp) (a : Nat) : Otp :=
  let n := Tab.get 0 o.normal a
  let st := Tab.get 0 o.strict a
  let x := senseWord n st
  { o with
    shadow := Tab.set 0 o.shadow a x.shadow, marginal := Tab.set false o.marginal a x.marginal,
    bad := Tab.set false o.bad a x.bad, used := Tab.set false o.used a (n != 0 || st != 0),
    corrected := o.corrected + oneIf x.corrected, uncorr := o.uncorr + oneIf x.zeroed }

/-- Senses every word: one that no fuse table lists is blank (R438, R439). -/
def Otp.senseAll (o : Otp) (decay : List FuseRead) : Otp :=
  let o := decay.foldl (fun (o : Otp) r =>
    { o with normal := Tab.set 0 o.normal r.word.toNat r.normal, strict := Tab.set 0 o.strict r.word.toNat r.strict }) o
  let keys := ((o.normal.map (·.1)) ++ (o.strict.map (·.1))).eraseDups
  keys.foldl Otp.place { o with shadow := [], marginal := [], bad := [], used := [], corrected := 0, uncorr := 0 }

/-! ## Counters (R446) -/

/-- First word and count of a counter: 0 LIFECYCLE, 1 ARB, 2 KEY_REV, 3 REPAIR_GEN. -/
def counterRun (c : Nat) : Nat × Nat :=
  match c with
  | 0 => (0x640, 4) | 1 => (0x644, 256) | 2 => (0x744, 252) | _ => (0x840, 512)

/-- Value of a counter: one more than the offset of its highest word that is not blank. -/
def Otp.counter (o : Otp) (c : Nat) : Nat :=
  let r := counterRun c
  o.used.foldl (fun v e => if e.2 ∧ r.1 ≤ e.1 ∧ e.1 < r.1 + r.2 then max v (e.1 - r.1 + 1) else v) 0

/-- Lifecycle state: 0 FACTORY, 1 PROVISIONED, 2 DEPLOYED, 3 RETIRED. -/
def Otp.lifecycle (o : Otp) : Nat := min 3 (o.counter 0)

/-! ## Regions (R436, R440) -/

/-- First word and count of a lockable region. -/
def regionRun (r : Nat) : Nat × Nat :=
  match r with
  | 0 => (0x000, 256) | 1 => (0x100, 1024) | 2 => (0x500, 64) | _ => (0x540, 256)

/-- Lockable region that holds a word. -/
def regionAt (a : Nat) : Option Nat :=
  (List.range 4).find? fun r => decide ((regionRun r).1 ≤ a) && decide (a < (regionRun r).1 + (regionRun r).2)

/-- Digest of a region over the shadows. -/
def Otp.digest (o : Otp) (r : Nat) : List Byte :=
  sha256 (wordsBytes (Tab.getList 0 o.shadow (regionRun r).1 (regionRun r).2))

/-- A region is locked: its lock word is not blank (R440, R445). -/
def Otp.isLocked (o : Otp) (r : Nat) : Bool := o.isUsed (0xFC0 + r)

/-- Trust of a region (R440). -/
def Otp.isTrusted (o : Otp) (r : Nat) : Bool :=
  if !o.isLocked r then o.lifecycle == 0
  else
    let run := regionRun r
    let d := 0xFC8 + 8 * r
    let spoilt := (o.bad ++ o.marginal).any fun e => (run.1 ≤ e.1 && e.1 < run.1 + run.2) || (d ≤ e.1 && e.1 < d + 8)
    !spoilt && o.digest r == wordsBytes (Tab.getList 0 o.shadow d 8)

/-- Notes which regions are locked and trusted. -/
def Otp.judge (o : Otp) : Otp :=
  let mask (p : Nat → Bool) : BitVec 4 := BitVec.ofNat 4 ((List.range 4).foldl (fun a r => a + oneIf (p r) * 2 ^ r) 0)
  { o with lockedReg := mask o.isLocked, trusted := mask o.isTrusted }

def State.lifecycle (s : State) : Nat := s.otp.lifecycle

/-- The lifecycle state as the fuses hold it, sensed or not: no reset changes it (R427, R486). -/
def Otp.fuseLifecycle (o : Otp) : Nat :=
  min 3 ((List.range 4).foldl (fun v k =>
    if Tab.get 0 o.normal (0x640 + k) ≠ 0 ∨ Tab.get 0 o.strict (0x640 + k) ≠ 0 then k + 1 else v) 0)

/-- A region that was trusted and is so no longer raises the OTP controller's source (R441). -/
def State.raiseUntrusted (s : State) (was : BitVec 4) : State :=
  (List.range 4).foldl (fun (s : State) r =>
    if was.getLsbD r && !(s.otp.trusted.getLsbD r) then s.raise 82 (1 + 2 ^ 8 * r) else s) s

/-! ## Repair records (R448, R449) -/

/-- W0 of a record. -/
def recordW0 (i bank row spare : Nat) : Word :=
  packed [(i / 32, 0, 5), (i % 32, 5, 5), (bank, 10, 4), (row, 14, 12), (spare, 26, 5)]

/-- W1 of a record: its kind and the check over W0 and byte 0 of W1. -/
def recordW1 (w0 : Word) (kind : Nat) : Word :=
  packed [(kind, 0, 2), ((crc32c (leBytes 4 w0.toNat ++ [BitVec.ofNat 8 kind])).toNat, 8, 24)]

/-- A valid record at position k: its kind and W0. -/
def Otp.record (o : Otp) (k : Nat) : Option (Nat × Word) :=
  let a := 0xA40 + 2 * k
  let w1 := o.sh (a + 1)
  let kind := fieldOf w1 0 2
  if o.isUsed (a + 1) ∧ !o.isBad a ∧ !o.isBad (a + 1) ∧ (kind = 1 ∨ kind = 2) ∧
      fieldOf w1 8 24 = (crc32c (leBytes 4 (o.sh a).toNat ++ [BitVec.ofNat 8 (fieldOf w1 0 8)])).toNat % 2 ^ 24 then
    some (kind, o.sh a)
  else none

/-- The valid records, in log order. -/
def Otp.records (o : Otp) : List (Nat × Word) :=
  if o.used.any fun e => 0xA40 ≤ e.1 && e.1 < 0xE40 then (List.range 512).filterMap o.record else []

/-- The lowest free place of the log. -/
def Otp.freeRecord (o : Otp) : Option Nat :=
  (List.range 512).find? fun k => !o.isUsed (0xA40 + 2 * k) && !o.isUsed (0xA41 + 2 * k)

/-- The lowest entry of a bank's table that is not valid. -/
def State.freeSub (s : State) (i b : Nat) : Option Nat := (List.range 32).find? fun e => (s.subAt i b e).isNone

/-- Loads a substitution entry (R113). -/
def State.loadSub (s : State) (i b row spare : Nat) : State :=
  match s.freeSub i b with
  | some e => { s with tch := { s.tch with subs := Tab.set none s.tch.subs (subKey i b e) (some (row, spare)) } }
  | none => s

/-! ## Commands (R450 to R452) -/

/-- The word the next step of a counter programs; none when it is full (R447). -/
def Otp.stepAddr (o : Otp) (c : Nat) : Option Nat :=
  let r := counterRun c
  if o.counter c < r.2 then some (r.1 + o.counter c) else none

/-- An internal command before its addresses are chosen. -/
def otpCmd (why who : Nat) (data : Word) : OtpCmd :=
  { lock := false, region := 0, addr := 0, data := data, rest := [], why := why, who := who }

/-- Removes the repair candidates of the rows that have stood for a data row (R154). -/
def State.dropCandidates (s : State) (i b row : Nat) : State :=
  let rows := row :: (List.range 32).filterMap fun e => match s.subAt i b e with
    | some (r, sp) => if r = row then some (0x1000 + sp) else none
    | none => none
  let hit (x : ScbEntry) : Bool := x.cand && x.tier == i / 32 && x.chan == i % 32 && x.bank == b && rows.contains x.row
  let keep (v : Option ScbEntry) : Option ScbEntry := match v with
    | some x => if hit x then none else some x
    | none => none
  { s with scb := { s.scb with log := Tab.mapVals none (fun _ v => keep v) s.scb.log } }

/-- The end of an append (R114, R112, R230, R449): on success the entry of a REPAIR is loaded and its block is done; a
failure ends a REPAIR with UNAVAILABLE, and raises the source of a retirement. -/
def State.appendEnd (s : State) (c : OtpCmd) (ok : Bool) : State :=
  if c.why = 3 then
    match s.cmd c.who with
    | none => s
    | some k =>
      let pl := placeOf k.intlv k.base
      if ok then
        let s := s.dropCandidates pl.1 pl.2.1 pl.2.2
        let s := s.loadSub pl.1 pl.2.1 pl.2.2 k.aux
        s.endBlock k.id 0 true none false
      else s.endBlock k.id 0 false (some (0x10, 0x05)) false
  else if c.why = 4 ∧ !ok then s.raise (c.who / 32) (3 + 2 ^ 8 * c.who)
  else s

/-- The Hive core issues the command, and switches VQPS on and off for it (R451). -/
def OtpCmd.fromHive (c : OtpCmd) : Bool := decide (1 ≤ c.why) || c.who == 0

/-- The next switching of VQPS starts once the two-wire controller is free: a two-byte write to the regulator that BOOT word 0x002
names, made as any transaction of the register file is (R533, R535). -/
def State.vqpsNext (s : State) : State :=
  match s.tw.vqpsQ with
  | [] => s
  | on :: t =>
    if s.tw.busy ∨ !s.hiveOk then s
    else
      let w := s.otp.sh 0x002
      let target := max 8 (min 0x77 (fieldOf w 0 7))
      let data := fieldOf w 8 8 + 2 ^ 8 * (if on then fieldOf w 16 8 else fieldOf w 24 8)
      let s := s.setCfg .twCbuf 0 (withField (s.cfgWord .twCbuf 0) 0 16 data)
      let s := s.setCfg .twCcmd 0 (packed [(target, 0, 7), (2, 8, 6)])
      { s with tw := { s.tw with
        busy := true, bootRead := false, vqpsQ := t, vqps := some on, result := 0, doneN := 0, asked := (2, 0), losses := 0 }
      }.emit (.twStart (BitVec.ofNat 8 target))

/-- Asks for a switching of VQPS. -/
def State.vqpsAsk (s : State) (on : Bool) : State :=
  { s with tw := { s.tw with vqpsQ := s.tw.vqpsQ ++ [on] }, otp := { s.otp with pulseAt := none } }.vqpsNext

/-- A command starts: BUSY is 1, and VQPS is switched on where the Hive core issues it. -/
def State.otpGo (s : State) (c : OtpCmd) : State :=
  let s := { s with otp := { s.otp with busy := some c, err := 0, locked := false } }
  if c.fromHive then s.vqpsAsk true else s

/-- Pulses may be applied: VQPS has been on for a millisecond, or is not the Hive core's to switch (R451). -/
def State.pulsing (s : State) (c : OtpCmd) : Bool :=
  !c.fromHive || match s.otp.pulseAt with
    | some t => decide (t ≤ s.now)
    | none => false

/-- Starts an internal command: an append takes the lowest free place of the log, and a step the next word of its counter. Only blank
words are programmed (R435): the step that an append ends with names the last word of a full run, and is refused there (R447). -/
def State.otpBegin (s : State) (c : OtpCmd) : State :=
  if c.why = 3 ∨ c.why = 4 then
    match s.otp.freeRecord with
    | none => s.appendEnd c false
    | some k =>
      let w1 := recordW1 c.data (if c.why = 3 then 1 else 2)
      let step : BitVec 12 × Word := (BitVec.ofNat 12 ((s.otp.stepAddr 3).getD 0xA3F), 0xFFFFFFFF)
      s.otpGo { c with addr := BitVec.ofNat 12 (0xA40 + 2 * k), rest := [(BitVec.ofNat 12 (0xA41 + 2 * k), w1), step] }
  else if c.why = 2 ∨ c.why = 5 ∨ c.why = 6 then
    match s.otp.stepAddr c.who with
    | none => { s with otp := { s.otp with err := 2, locked := false } }
    | some a => s.otpGo { c with addr := BitVec.ofNat 12 a, data := 0xFFFFFFFF }
  else if s.otp.isUsed c.addr.toNat ∨ c.rest.any (fun e => s.otp.isUsed e.1.toNat) then
    { s with otp := { s.otp with err := 2, locked := false }, sec := { s.sec with busy := 0, err := 2 } }
  else s.otpGo c

/-- Starts waiting internal commands while none runs; those of the Hive core wait while it does not run (R26, R452). `fuel`
bounds their number. -/
def State.otpPump : Nat → State → State
  | 0, s => s
  | fuel + 1, s =>
    match s.otp.busy, s.otp.queue with
    | none, c :: t => if 1 ≤ c.why ∧ !s.hiveOk then s else State.otpPump fuel ({ s with otp := { s.otp with queue := t } }.otpBegin c)
    | _, _ => s

/-- Asks for an internal command: one runs at a time (R452). -/
def State.otpAsk (s : State) (c : OtpCmd) : State :=
  let s := { s with otp := { s.otp with queue := s.otp.queue ++ [c] } }
  s.otpPump s.otp.queue.length

/-- A reset or a loss of supply stops a command: the word stays partly programmed and is no longer blank; its lowest bit has blown at
normal margin alone, which makes it a marginal word, and a lock word counts (R445, R453) (log 17). A command whose VQPS is not on
yet has pulsed no bit. -/
def State.otpInterrupt (s : State) : State :=
  match s.otp.busy with
  | none => { s with otp := { s.otp with queue := [] } }
  | some c =>
    if !s.pulsing c then { s with otp := { s.otp with busy := none, queue := [], pulseAt := none } }
    else
    let a := c.addr.toNat
    let code := fuseCode c.data
    let low : BitVec 39 := code &&& (0 - code)
    let n := (code &&& Config.partlyBlown s.free) ||| low
    let st := code &&& Config.partlyBlown (s.free + 1) &&& ~~~ low
    let was := s.otp.trusted
    let x := senseWord n st
    { s with
      free := s.free + 2
      otp := { s.otp with
        normal := Tab.set 0 s.otp.normal a n, strict := Tab.set 0 s.otp.strict a st, used := Tab.set false s.otp.used a (n != 0 || st != 0),
        marginal := Tab.set false s.otp.marginal a x.marginal, bad := Tab.set false s.otp.bad a x.bad,
        busy := none, queue := [], pulseAt := none }.judge }.raiseUntrusted was

end Sys2Proof.Machine
end

