-- ==== Sys2Proof/Machine/Channels.lean ====
section
/-! DEFINITION. Channels and tiers (R79 to R117): command words, refresh, Weevil tables, training, freeze, retirement and
frequency changes, as operations that the commands share (log 66). -/

namespace Sys2Proof.Machine

/-! ## Command words (R79, R80) -/

/-- A command word: OP, BANK, OPERAND and the parity that makes the count of ones even. -/
def cmdWord (op bank operand : Nat) : BitVec 24 :=
  let w := op % 16 + bank % 16 * 2 ^ 4 + operand % 2 ^ 15 * 2 ^ 8
  BitVec.ofNat 24 (w + oneIf (oddOnes (BitVec.ofNat 23 w)) * 2 ^ 23)

/-- Sends a word on a channel; the last 64, and all sent since TALERT_N fell, are kept for the suspect window of R107. -/
def State.word (s : State) (i op bank operand : Nat) : State :=
  let w := cmdWord op bank operand
  (s.emit (.word i w)).updChan i fun c =>
    let l := c.words ++ [w]
    if c.parWait then { c with words := l, alertN := c.alertN + 1 } else { c with words := l.drop (l.length - 64) }

def opDes : Nat := 0x0
def opAct : Nat := 0x1
def opRd : Nat := 0x2
def opWr : Nat := 0x3
def opPrea : Nat := 0x5
def opRef : Nat := 0x6
def opNref : Nat := 0x7
def opSre : Nat := 0x8
def opSrx : Nat := 0x9
def opMrw : Nat := 0xA
def opMrr : Nat := 0xB

/-- Operand of an MRW. -/
def mrwOperand (ma data : Nat) : Nat := ma * 2 ^ 8 + data

/-! ## Refresh and Weevil (R91 to R99) -/

/-- The bank that a channel's next REF goes to: the retention step of a stack test stops REF to the bank it tests (R91, R466). -/
def State.refBank (s : State) (i : Nat) : BitVec 4 :=
  let b := (s.chan i).bank
  match s.bst.retain with
  | some r => if r.at_.isSome ∧ r.bank = b.toNat then b + 1 else b
  | none => b

/-- Issues one REF to the channel's next bank: charged to MAINT, and the debt falls by 1; requests that wait meanwhile
remember a forced one (R93, R94, R277). -/
def State.issueRef (s : State) (i : Nat) : State :=
  let s := ((s.takePlace i true (s.refQ i)).charge i .maint (s.refQ i)).word i opRef (s.refBank i).toNat 0
  let s := s.updTier (tierOf i) fun t => { t with nRef := t.nRef + 1 }
  let b := s.refBank i
  s.updChan i fun c =>
    let mark (r : Req) : Req := if c.forced then { r with sawForced := true } else r
    { c with bank := b + 1, debt := c.debt - 1, queue := c.queue.map mark, ringq := c.ringq.map mark,
             forced := c.forced && decide (1 < c.debt) }

/-- Issues `n` REF. -/
def State.issueRefs : Nat → State → Nat → State
  | 0, s, _ => s
  | n + 1, s, i => State.issueRefs n (s.issueRef i) i

/-- Refresh of a channel is postponed: TC7 panic and a debt below +8 (R93). -/
def State.postponed (s : State) (i : Nat) : Bool := s.panicked i && decide ((s.chan i).debt < 8) && !(s.chan i).forced

/-- Issues the REF that the debt asks for: all owed, unless postponed, and once the channel has a place (R70, R93, R94). -/
def State.issueOwed (s : State) (i : Nat) : State :=
  let s := s.updChan i fun c => { c with forced := c.forced || decide (8 ≤ c.debt) }
  if s.postponed i ∨ s.underTest i ∨ !s.placeOpen i true then s else s.issueRefs (s.chan i).debt.toNat i

/-- Issues the neighbour refreshes that are queued on a channel (R70, R98). -/
def State.issueNrefs (s : State) (i : Nat) : State :=
  if s.underTest i ∨ !s.placeOpen i true then s
  else
  let s := (s.chan i).nrefQ.foldl (fun s e =>
    let s := ((s.takePlace i true (s.nrefQ i)).charge i .maint (s.nrefQ i)).word i opNref e.1 (e.2 + (s.fld .wvlCfg 0 12 3 - 1) * 2 ^ 13)
    { s with tch := { s.tch with nref := satAdd (2 ^ 20 - 1) s.tch.nref 1 } }.updTier (tierOf i) fun t => { t with nRef := t.nRef + 1 }) s
  s.updChan i fun c => { c with nrefQ := [] }

/-- The tier is powered, out of TRST_N and clocked. -/
def State.tierClocked (s : State) (t : Nat) : Bool :=
  let x := s.tier t
  x.powered && !x.trstLow && !x.selfRef && !x.pwrDown

/-- The base die drives refresh on a channel: its tier is clocked, trained or not (R91, R95), and the tier's PLL runs (R407). -/
def State.refreshes (s : State) (i : Nat) : Bool :=
  !(s.chan i).retired && s.tierClocked (tierOf i) && !(s.clk.tripped.contains (2 + tierOf i))

/-- tREFI_C of a tier in ticks (R91, R92). -/
def State.refreshTicks (s : State) (t : Nat) : Nat := if (s.tier t).hot then 4 else 8

/-- The first due instant of a channel from now: those of the 1,024 channels are spread evenly within tREFI_C, in whole ticks (R91,
R95) (log 117). -/
def State.firstDue (s : State) (i : Nat) : Nat :=
  let n := s.refreshTicks (tierOf i)
  s.now + 1 + (i * n / 1024 + n - (s.now + 1) % n) % n

/-- Empties a Weevil table; the next due instant starts a window (R99). -/
def Chan.clearWeevil (c : Chan) : Chan := { c with weevil := [], floorF := 0, dueCount := 0 }

/-- Counts an activate (R97) and answers whether the row's count reached the threshold (R98). -/
def Chan.countAct (c : Chan) (thresh bank row : Nat) : Chan :=
  let bump (l : List WvlEntry) (f : Nat) : Chan :=
    let hit := l.any fun e => e.bank == bank && e.row == row && decide (thresh ≤ e.count)
    let l := l.map fun e => if e.bank = bank ∧ e.row = row ∧ thresh ≤ e.count then { e with count := f } else e
    { c with weevil := l, floorF := f, nrefQ := if hit then c.nrefQ ++ [(bank, row)] else c.nrefQ }
  if c.weevil.any fun e => e.bank == bank && e.row == row then
    bump (c.weevil.map fun e => if e.bank = bank ∧ e.row = row then { e with count := e.count + 1 } else e) c.floorF
  else if c.weevil.length < 64 then
    bump (c.weevil ++ [{ bank := bank, row := row, count := c.floorF + 1 }]) c.floorF
  else
    let low := c.weevil.foldl (fun a e => min a e.count) (c.weevil.head?.elim 0 (·.count))
    match c.weevil.findIdx? fun e => e.count == low with
    | some k => bump (c.weevil.set k { bank := bank, row := row, count := low + 1 }) low
    | none => c

/-- A channel after SRX or a clock restart: no debt and an empty Weevil table (R95, R99). -/
def Chan.restarted (c : Chan) : Chan := { c.clearWeevil with debt := 0, forced := false }

/-! ## Limits (R271) -/

/-- LIM_MIN of each class: what a channel's limits hold after a reset, a freeze or a retraining. -/
def State.minLimits (s : State) : Tab Nat := Tab.setList 2 [] 0 ((List.range 8).map fun n => s.fld .qosTc n 16 6)

/-! ## Training (R101 to R105) -/

def Sweep.fresh : Sweep :=
  { eyeMin := 77, which := 0, code := 0, runAt := 0, runLen := 0, bestAt := 0, bestLen := 0, caOk := false, rdAt := 0, rdLen := 0, caAt := 0, todo := [] }

/-- Training may issue a charge on a channel: it has or finds a place that is not reserved, R62 allows it, MAINT has nothing ready
there (R61), and no segment of logic BIST tests the channel (R460). -/
def State.mayTrain (s : State) (i q : Nat) : Bool :=
  let c := s.chan i
  s.placeOpen i false && s.mayIssue i .train q && s.refreshes i && !s.underTest i && c.nrefQ.isEmpty &&
    (decide (c.debt ≤ 0) || s.postponed i)

/-- Refreshes that wait on a channel go before its training (R61). -/
def State.maintFirst (s : State) (i : Nat) : State := if s.refreshes i then (s.issueOwed i).issueNrefs i else s

/-- An MRW of training, charged to TRAIN (R60, R101). -/
def State.trainMrw (s : State) (i ma data : Nat) : State :=
  let q := s.cyclesQ i 1
  let s := ((s.takePlace i false q).charge i .train q).word i opMrw 0 (mrwOperand ma data)
  if ma = 8 then s.updChan i fun c => { c with caTrn := data == 1 } else s

/-- The next mode-register write of a sweep issues, once it may (R62, R101). -/
def State.trainWrite (s : State) (i : Nat) : State :=
  match (s.chan i).sweep with
  | none => s
  | some w => match w.todo with
    | [] => s
    | x :: t =>
      let s := s.maintFirst i
      if s.mayTrain i (s.cyclesQ i 1) then
        (s.trainMrw i x.1 x.2).updChan i fun c => { c with sweep := some { w with todo := t } }
      else s

/-- The writes that a sweep waits for, at most three. -/
def State.trainWrites (s : State) (i : Nat) : State := ((s.trainWrite i).trainWrite i).trainWrite i

/-- Starts a training: a CA sweep needs CA_TRN at 1, which a TRST_N pulse leaves and the end of a sweep clears; EYE_MIN is the value
at its start (R101, R118). -/
def State.startTraining (s : State) (i : Nat) (st : ChanSt) : State :=
  let todo := if (s.chan i).caTrn then [] else [(8, 1)]
  (s.updChan i fun c => { c with st := st, sweep := some { Sweep.fresh with todo := todo, eyeMin := s.fld .tchCfg 0 4 8 } }).trainWrites i

/-- Writes between the CA sweep and the read sweep: CA_TRN 0 and the SEED of the pattern (R101). -/
def endCaWrites : List (Nat × Nat) :=
  [(8, 0), (9, Config.trainingSeed.toNat % 256), (10, Config.trainingSeed.toNat / 256)]

/-- A retraining that waits starts once the channel's requests have finished and its tier is clocked (R104, R116). -/
def State.judgeRetrain (s : State) (i : Nat) : State :=
  let c := s.chan i
  if c.retrain ∧ s.chanCode i = 2 ∧ c.queue.isEmpty ∧ c.active.isEmpty ∧ c.dec.isEmpty ∧ !(s.tier (tierOf i)).changing ∧ !s.testing (tierOf i / 8) then
    s.startTraining i .retraining
  else s

/-- Centre of a run of codes, the lower one of two (R102). -/
def centre (a len : Nat) : Nat := a + (len - 1) / 2

/-- Eye width of a run in 1/256 UI, at most 255 (R102). -/
def eyeOf (len : Nat) : Byte := BitVec.ofNat 8 (min 255 (4 * len))

/-- One more judged code in a sweep: the present and the longest run. Of two longest runs of one length the first is taken
(DESIGN CHOICE, log 105). -/
def Sweep.judge (w : Sweep) (pass : Bool) : Sweep :=
  if !pass then { w with runLen := 0, code := w.code + 1 }
  else
    let a := if w.runLen = 0 then w.code else w.runAt
    let n := w.runLen + 1
    let best := decide (w.bestLen < n)
    { w with runAt := a, runLen := n, bestAt := if best then a else w.bestAt, bestLen := if best then n else w.bestLen,
             code := w.code + 1 }

/-- Codes of a sweep. -/
def Sweep.codes (w : Sweep) : Nat := if w.which = 0 then 64 else 128

/-- Cycles charged for a probe: its commands and its data (R60, R101, log 18). -/
def probeCycles (which : BitVec 2) (res : ProbeEnd) : Nat :=
  match which.toNat with
  | 0 => 64 + 1 + 8 + oneIf (res == .parErr)
  | 1 => 1 + 128
  | _ => 2 + 256

/-- The DES words of a CA probe, with alternating operand patterns (DESIGN CHOICE, log 115). -/
def desWords : List (BitVec 24) := (List.range 64).map fun k => cmdWord opDes 0 (if k % 2 = 0 then 0x5555 else 0x2AAA)

/-- Sends the words of a probe. PAR_ERR is cleared where it read 1. -/
def State.probeWords (s : State) (i : Nat) (which : BitVec 2) (res : ProbeEnd) : State :=
  match which.toNat with
  | 0 =>
    let s := (desWords.foldl (fun s w => s.emit (.word i w)) s).word i opMrr 0 (mrwOperand 6 0)
    if res = .parErr then s.word i opMrw 0 (mrwOperand 6 0) else s
  | 1 => s.word i opRd 0 2
  | _ => (s.word i opWr 0 2).word i opRd 0 2

/-- What follows a change of the serving channels, of a tier clock or of the powered tiers: the targets and an admission
(R68, R71, R281). -/
def State.inputChange (s : State) (cause : Nat) : State :=
  { s with qos := { s.qos with causes := s.qos.causes ||| BitVec.ofNat 16 cause } }.retarget

/-! ## Ending held requests -/

/-- Ends requests that are not carried out, in their order. -/
def State.failAll (s : State) (rs : List Req) (st sd : Nat) : State := rs.foldl (fun s r => s.failReq r st sd) s

/-! ## Freeze (R106 to R109) -/

/-- Freezes a channel: its cause, bank, row, queue count and word are recorded, its tier's source is raised and the event
posted. A frozen channel does not freeze again, and a retired one has nothing to freeze. -/
def State.freeze (s : State) (i cause bank row : Nat) (word : BitVec 24) : State :=
  let c := s.chan i
  if c.st = .frozen ∨ c.retired then s
  else
    let w := packed [(cause, 0, 2), (min 32 c.queue.length, 2, 6), (bank, 8, 4), (row, 12, 13)]
    let s := s.setChan i { c with
      st := .frozen, frzCause := w, frzCmd := word.setWidth 32, sweep := none, parWait := false, uncWait := none }
    let s := s.raise (tierOf i) (1 + 2 ^ 8 * i + 2 ^ 32 * w.toNat)
    s.postEvent 0x000A 0 2 (BitVec.ofNat 32 i) w.toNat

/-- Inserts a request at its place of age. -/
def insertReq (r : Req) : List Req → List Req
  | [] => [r]
  | x :: t => if r.age < x.age then r :: x :: t else x :: insertReq r t

/-- The ACT or burst command of an issued request stands among these words (R107). -/
def Req.wordIn (r : Req) (ws : List (BitVec 24)) : Bool :=
  ws.contains (cmdWord opAct r.bank r.phys) || ws.contains (cmdWord (if r.wr then opWr else opRd) r.bank 1)

/-- The overwrite of a SANITIZE's block that was read first: one pair with its read, held with it (R226). -/
def State.pairHalf (s : State) (r : Req) : Bool :=
  r.wr && match r.cmd.bind s.cmd with
    | some c => c.op == .sanitize && !(c.desc.opnd0.getLsbD 0)
    | none => false

/-- Requests that arrived since a channel froze, as it proves now, found it frozen (R108). -/
def State.failLate (s : State) (i age : Nat) : State :=
  let c := s.chan i
  let late (r : Req) : Bool := decide (age ≤ r.age) && !s.pairHalf r
  let gone := (c.queue ++ c.ringq).filter late
  (s.setChan i { c with queue := c.queue.filter (fun r => !late r), ringq := c.ringq.filter fun r => !late r }).failAll gone 0x11 0

/-- A command error: requests with a word in the suspect window or later go back to their place in the queue, the channel
freezes with the window's oldest word, and PAR_ERR is cleared before every bank is closed. `win` counts the words but DES sent
from tALERT before TALERT_N was sampled low; `idle` says that the oldest word of the window is a DES (R107). A REF that the tier
discarded is owed. -/
def State.freezeParity (s : State) (i win : Nat) (idle : Bool) : State :=
  let s := s.failLate i (s.chan i).alertAge
  let c := s.chan i
  let ws := c.words.drop (c.words.length - (win + c.alertN))
  let lost := (ws.filter fun w => w.toNat % 16 == opRef).length
  let s := s.setChan i { c with active := c.active.filter (fun r => !r.wordIn ws), debt := min 8 (c.debt + lost) }
  let s := (c.active.filter fun r => r.wordIn ws).foldl (fun s r =>
    let a := s.unissue r
    a.1.updChan i fun c => { c with queue := insertReq a.2 c.queue }) s
  let w := if idle then 0 else ws.headD 0
  let s := s.freeze i 2 (w.toNat / 16 % 16) 0 w
  (((s.word i opMrw 0 (mrwOperand 6 0)).word i opPrea 0 0).releasePlace i).issueOwed i

/-- Reopens a channel after a freeze: it is trained first where its tier changed frequency meanwhile (R109, R271). -/
def State.reopen (s : State) (i : Nat) : State :=
  if (s.chan i).freqChg then s.startTraining i .retraining
  else
    let s := s.updChan i fun c => { c with st := .serving, resume := false, discard := false, lim := s.minLimits }
    (s.letIn i).judgeRetrain i

/-- RESUME and DISCARD end a freeze once the tier controller runs: while its clock is stopped, a segment of logic BIST tests it
or its block reset runs, the bit reads 1 and waits (R39, R109, R429, R460). DISCARD ends every held request FROZEN first. -/
def State.judgeFreeze (s : State) (i : Nat) : State :=
  let c := s.chan i
  let t := tierOf i
  if c.st ≠ .frozen ∨ c.retired ∨ !(c.resume || c.discard) ∨ !(s.tierClocked t) ∨ s.testing (t / 8) ∨
      s.die.blockBusy.contains (BitVec.ofNat 8 (0x20 + t)) then s
  else if c.discard then
    let held := c.queue ++ c.ringq
    ((s.setChan i { c with queue := [], ringq := [] }).failAll held 0x11 0).reopen i
  else s.reopen i

/-! ## Retirement (R111, R112) -/

/-- Channels of a tier that are not retired. -/
def State.liveChans (s : State) (t : Nat) : List Nat := (chansOfTier t).filter fun i => !(s.chan i).retired

/-- Sets the pair's bit once every channel of the tier that is not retired has written its last slot (R138). -/
def State.judgePair (s : State) (r t : Nat) : State :=
  let live := s.liveChans t
  if !live.isEmpty ∧ s.formatPending r t ∧ live.all (fun i => (s.chan i).fmt.fin.contains r) then
    (s.setReady r t).updChans (chansOfTier t) fun _ c => { c with fmt := { c.fmt with fin := c.fmt.fin.erase r } }
  else s

/-- A retired channel no longer holds the pairs of its tier back (R138). -/
def State.judgePairs (s : State) (t : Nat) : State :=
  ((s.liveChans t).head?.elim [] fun i => (s.chan i).fmt.fin).foldl (fun s r => s.judgePair r t) s

/-- Retires a channel: bursts already issued finish, every other held request ends UNAVAILABLE, the retirement is
recorded in the repair log, and admission follows. -/
def State.retire (s : State) (i : Nat) : State :=
  let c := s.chan i
  if c.retired then s
  else
    let held := c.queue ++ c.ringq
    let s := s.setChan i { c with
      retired := true, queue := [], ringq := [], sweep := none, nrefQ := [], resume := false, discard := false, retrain := false,
      parWait := false, uncWait := none }
    let s := (if s.tierClocked (tierOf i) then s.word i opPrea 0 0 else s).releasePlace i
    let s := s.failAll held 0x10 0x01
    let s := s.raise (tierOf i) (2 + 2 ^ 8 * i)
    let s := s.postEvent 0x000B 0 2 (BitVec.ofNat 32 i) 0
    let s := s.otpAsk (otpCmd 4 i (recordW0 i 0 0 0))
    ((s.inputChange 16).noteLevel).judgePairs (tierOf i)

/-! ## The end of a training (R102, R105) -/

/-- Judges a finished training: the channel serves, tries again, or is retired after RETRY failures in a row. -/
def State.endTraining (s : State) (i : Nat) (w : Sweep) : State :=
  let c := s.chan i
  let passes := w.caOk && decide (w.eyeMin ≤ (eyeOf w.rdLen).toNat) && decide (w.eyeMin ≤ (eyeOf w.bestLen).toNat)
  let c1 : Chan := { c with eyeRd := eyeOf w.rdLen, eyeWr := eyeOf w.bestLen, sweep := none }
  let s := s.noteEye (32 + i) (s.effTemp (tierOf i))
  if passes then
    let s := s.setChan i { c1 with
      st := .serving, trained := true, ever := true, fails := 0, caCode := w.caAt, rdCode := centre w.rdAt w.rdLen,
      wrCode := centre w.bestAt w.bestLen, retrain := false, freqChg := false, resume := false, discard := false,
      lim := if c.st = .retraining then s.minLimits else c.lim, words := (s.chan i).words }
    (((s.releasePlace i).letIn i).retarget).noteLevel
  else
    let n := c.fails + 1
    let s := s.setChan i { c1 with fails := n, words := (s.chan i).words }
    let s := s.releasePlace i
    if s.fld .tchCfg 0 1 3 ≤ n then s.retire i else s.startTraining i c.st

/-- A probe of the sweep in progress ends: it is charged to TRAIN in the epoch that has room for it, its code passes or
fails, and the sweep moves on (R101). -/
def State.trainProbe (s : State) (i : Nat) (res : ProbeEnd) : State :=
  let s := (s.trainWrites i).maintFirst i
  match (s.chan i).sweep with
  | none => s
  | some w =>
    let q := s.cyclesQ i (probeCycles w.which res)
    if !w.todo.isEmpty ∨ !s.mayTrain i q then s
    else
      let s := ((s.takePlace i false q).charge i .train q).probeWords i w.which res
      let w := w.judge (res == .pass)
      if w.code < w.codes then s.updChan i fun c => { c with sweep := some w }
      else match w.which.toNat with
      | 0 =>
        let at_ := if w.bestLen = 0 then (s.chan i).caCode else centre w.bestAt w.bestLen
        (s.updChan i fun c => { c with
          caCode := at_
          sweep := some { Sweep.fresh with eyeMin := w.eyeMin, which := 1, caOk := decide (8 ≤ w.bestLen), caAt := at_, todo := endCaWrites } }).trainWrites i
      | 1 => s.updChan i fun c => { c with
          sweep := some { Sweep.fresh with eyeMin := w.eyeMin, which := 2, caOk := w.caOk, caAt := w.caAt, rdAt := w.bestAt, rdLen := w.bestLen } }
      | _ => s.endTraining i w

/-! ## Tiers as a whole -/

/-- A tier is in no burst: no request of it is issued. -/
def State.tierQuiet (s : State) (t : Nat) : Bool := (chansOfTier t).all fun i => (s.chan i).active.isEmpty

/-- Closes every bank of a tier and settles refresh: PREA, then owed REF (R95, R116). -/
def State.settleTier (s : State) (t : Nat) : State :=
  (s.liveChans t).foldl (fun s i =>
    let s := s.word i opPrea 0 0
    let s := if s.refreshes i then s.issueRefs (s.chan i).debt.toNat i else s
    s.updChan i fun c => { c with forced := false }) s

/-- Writes mode register 4 with HOT_SR set, and puts a tier into self-refresh at a multiplier (R86, R95, R156). -/
def State.sreTier (s : State) (t mult : Nat) : State :=
  let s := (s.liveChans t).foldl (fun s i => (s.word i opMrw 0 (mrwOperand 4 (mult + 4))).word i opSre 0 0) s
  s.updTier t fun x => { x with
    selfRef := true, pwrDown := false, usedMult := BitVec.ofNat 2 mult, passMult := x.passMult || decide (0 < mult) }

/-- Puts a clocked tier into self-refresh: refresh is settled and every bank closed first (R95). -/
def State.selfRefresh (s : State) (t mult : Nat) : State := (s.settleTier t).sreTier t mult

/-- The quiesce of a tier controller's block reset: the tier alone rests, once its bursts have ended (R417, R429). -/
def State.judgeTierReset (s : State) (t : Nat) : State :=
  if s.die.blockBusy.contains (BitVec.ofNat 8 (0x20 + t)) ∧ (s.tier t).powered ∧ !(s.tier t).selfRef ∧ s.tierQuiet t then
    ((s.liveChans t).foldl (fun s i => s.word i opPrea 0 0) s).sreTier t 0
  else s

/-- The first quiet moment of a frequency change: the tier goes into self-refresh and its PLL relocks (R116 steps 2, 3). -/
def State.judgeFreq (s : State) (t : Nat) : State :=
  let x := s.tier t
  if x.changing ∧ !x.selfRef ∧ s.tierQuiet t ∧ !s.testing (t / 8) then
    let s := s.selfRefresh t 0
    { s with clk := { s.clk with tierLock := s.clk.tierLock &&& ~~~ ((1 : Word) <<< t) } }
  else s

/-- Starts a frequency change; a write during a change takes effect when that one ends, and a write while the tier controller or
its tier cannot act waits (R39, R116, R429, R460). -/
def State.startFreq (s : State) (t : Nat) (f : BitVec 2) : State :=
  let x := s.tier t
  if x.changing then s.updTier t fun x => { x with freqNext := some f }
  else if !(s.tierClocked t) ∨ s.testing (t / 8) ∨ s.die.blockBusy.contains (BitVec.ofNat 8 (0x20 + t)) then s.updTier t fun x => { x with freqNext := some f }
  else (s.updTier t fun x => { x with changing := true, freqTo := f, freqNext := none }).judgeFreq t

/-- A retraining that was held while the tier's clock rested comes before the channel serves; its sweep waits for the end of a
segment of logic BIST (R121, R460). -/
def State.retrainFirst (s : State) (i : Nat) : State :=
  let c := s.chan i
  if c.retrain ∧ s.chanCode i = 2 ∧ !(s.tier (tierOf i)).changing then s.startTraining i .retraining
  else s

/-- A tier leaves self-refresh or power-down: its channels start with debt 0 and an empty table, and retrainings that
waited for its clock start (R95, R99, R121). -/
def State.clockTier (s : State) (t : Nat) : State :=
  let s := if (s.tier t).selfRef then (s.liveChans t).foldl (fun s i => s.word i opSrx 0 0) s else s
  let s := s.updTier t fun x => { x with selfRef := false, pwrDown := false }
  let s := s.updChans (chansOfTier t) fun i c => { c.restarted with dueAt := s.firstDue i }
  let s := s.grant tierLoad 0
  let s := { s with pwr := { s.pwr with lastSrx := some s.pwr.us } }
  (s.liveChans t).foldl (fun s i => ((s.judgeFreeze i).retrainFirst i).letIn i) s

/-- A frequency written while the tier's clock was stopped acts when it restarts (R39). -/
def State.heldFreq (s : State) (t : Nat) : State :=
  match (s.tier t).freqNext with
  | some f => if (s.tier t).changing then s else s.startFreq t f
  | none => s

/-- Every channel of a clocked tier is trained again; a frozen one when its freeze ends (R104, R116 step 5, R429). -/
def State.retrainTier (s : State) (t : Nat) : State :=
  (s.liveChans t).foldl (fun s i =>
    match (s.chan i).st with
    | .frozen => s.updChan i fun c => { c with freqChg := true }
    | .serving => s.startTraining i .retraining
    | .retraining => s.startTraining i .retraining
    | .training => s.startTraining i .training
    | .untrained => s) s

/-- The tier PLL has relocked: the new clock is in use, channels that are neither retired nor frozen are retrained, and a
frozen one is trained when its freeze ends (R116 steps 3 to 5). -/
def State.endFreq (s : State) (t : Nat) : State :=
  let f := (s.tier t).freqTo
  let s := s.updTier t fun x => { x with changing := false, freqNow := f }
  let s := (s.liveChans t).foldl (fun s i => s.word i opMrw 0 (mrwOperand 3 f.toNat)) s
  let s := s.clockTier t
  let s := s.retrainTier t
  (s.inputChange 32).heldFreq t

/-- A frequency change goes on once the tier's PLL has relocked, its SRX fits in the allowance, and the last tier's was 32 µs
ago (R116, R398, R399). -/
def State.judgeLocked (s : State) (t : Nat) : State :=
  let x := s.tier t
  if x.changing ∧ x.selfRef ∧ bitOf s.clk.tierLock t ∧ s.loadFits tierLoad ∧ s.srxSpaced then s.endFreq t else s

/-- A tier whose TRST_N is asserted: its rows are lost and its channels untrained; what they held is gone (R87, R137).
FREQ_NOW stays (DESIGN CHOICE, log 126). -/
def State.resetTier (s : State) (t : Nat) : State :=
  let s := (s.loseTier t).unready t
  let s := s.updChans (chansOfTier t) fun _ c =>
    { Chan.init with
      retired := c.retired, ever := c.ever, caCode := c.caCode, frzCause := c.frzCause, frzCmd := c.frzCmd, lim := c.lim, eyeRd := c.eyeRd, eyeWr := c.eyeWr,
      remain := c.remain, carry := c.carry, charged := c.charged, place := c.place, resv := c.resv, busyTo := c.busyTo }
  s.updTier t fun x => { x with trstLow := true, trstAt := s.now, accepted := false, awaitId := false, selfRef := false, pwrDown := false, changing := false, wake := false }

end Sys2Proof.Machine
end

