-- ==== Sys2Proof/Machine/Operands.lean ====
section
/-! DEFINITION. The descriptor and its checks (R180 to R182, R205, R206, R214): every operand form the command set gives. -/

namespace Sys2Proof.Machine

/-! ## The descriptor (R181) -/

/-- Reads the sixteen words of a descriptor. -/
def parseDesc (ws : List Word) : Desc :=
  let w (k : Nat) : Word := ws.getD k 0
  let f (k lo wd : Nat) : Nat := fieldOf (w k) lo wd
  let pair (k : Nat) : BitVec 64 := BitVec.ofNat 64 ((w k).toNat + (w (k + 1)).toNat * 2 ^ 32)
  { opcode := BitVec.ofNat 8 (f 0 0 8), fence := bitOf (w 0) 8, urgent := bitOf (w 0) 9, dmode := BitVec.ofNat 2 (f 0 10 2),
    raw := bitOf (w 0) 12, tcSet := bitOf (w 0) 13, tc := BitVec.ofNat 3 (f 0 14 3), keySet := bitOf (w 0) 17,
    key := BitVec.ofNat 10 (f 0 18 10), zero0 := BitVec.ofNat 4 (f 0 28 4), cid := BitVec.ofNat 16 (f 1 0 16),
    gen := BitVec.ofNat 16 (f 1 16 16), lbn := BitVec.ofNat 26 (f 2 0 26), zero1 := BitVec.ofNat 6 (f 2 26 6),
    nblk := BitVec.ofNat 16 (f 3 0 16), gstart := BitVec.ofNat 6 (f 3 16 6), gend := BitVec.ofNat 6 (f 3 22 6),
    zero2 := BitVec.ofNat 4 (f 3 28 4), addr := pair 4, addr2 := pair 6, opnd0 := w 8, opnd1 := w 9, owner := w 10,
    opnd2 := w 11, opnd3 := pair 12, opnd4 := w 14, zero3 := w 15 }

/-- The key slot K that a descriptor resolves to on its ring (R182). -/
def State.resolvedKey (s : State) (q : Nat) (d : Desc) : BitVec 10 :=
  if d.keySet then d.key else BitVec.ofNat 10 (s.fld .sqcW3 q 16 10)

/-- The traffic class (R182). -/
def State.resolvedTc (s : State) (q : Nat) (d : Desc) : BitVec 3 :=
  if d.tcSet then d.tc else BitVec.ofNat 3 (s.fld .sqcW3 q 0 3)

/-- READ delivery is early (R182, R215, R255 first case). -/
def State.resolvedEarly (s : State) (q : Nat) (op : Op) (d : Desc) : Bool :=
  let m := if d.dmode = 0 then s.fld .sqcW3 q 5 2 else d.dmode.toNat
  op == .read && m == 2 && !(d.opnd1.getLsbD 0)

/-- Raw mode (R182). -/
def State.resolvedRaw (s : State) (q : Nat) (d : Desc) : Bool := d.raw || s.flag .sqcW3 q 7

/-! ## Ranges of fields (R180 step 3, R205, R206, R214) -/

/-- What an operand may hold. -/
inductive OpndForm where
  /-- Unused: zero. -/
  | unused
  /-- Any value. -/
  | anyVal
  /-- Only the bits of this mask. -/
  | bits (mask : Nat)
  deriving DecidableEq, Repr

def OpndForm.bad (f : OpndForm) (v : Nat) : Bool :=
  match f with
  | .unused => v != 0
  | .anyVal => false
  | .bits m => v &&& m != v

/-- The opcode has a block range. -/
def Op.ranged (op : Op) : Bool :=
  match op with
  | .read => true | .write => true | .fill => true | .copy => true | .compare => true | .check => true | .verify => true
  | .sanitize => true | .repair => true | .recode => false
  | .nop => false | .flush => false | .keyLoad => false | .keyDestroy => false | .attest => false | .getLog => false
  | .setLatency => false | .abort => false

/-- COMPARE against a second range. -/
def Desc.mode1 (d : Desc) : Bool := d.opnd0.getLsbD 0

/-- ADDR of an opcode: an address, or unused. -/
def Op.usesAddr (op : Op) (d : Desc) : Bool :=
  match op with
  | .read => true | .write => true | .compare => !d.mode1 | .verify => true | .keyLoad => true | .attest => true
  | .getLog => true | _ => false

/-- OPND0 to OPND4, and OWNER, of an opcode (R214). -/
def Op.form0 (op : Op) : OpndForm :=
  match op with
  | .nop => .anyVal | .read => .anyVal | .write => .unused | .flush => .bits 1 | .fill => .anyVal | .copy => .unused
  | .compare => .bits 1 | .check => .anyVal | .verify => .unused | .recode => .bits 0x77FF | .sanitize => .bits 1
  | .keyLoad => .unused | .keyDestroy => .unused | .attest => .bits 0xFFFF | .repair => .unused | .getLog => .bits 0xFF
  | .setLatency => .bits 0x1FFFF | .abort => .bits 0xFFF

def Op.form1 (op : Op) : OpndForm :=
  match op with
  | .read => .bits 1 | .check => .anyVal | .getLog => .bits 0x1FFFFF | .abort => .bits 0xFFFF | _ => .unused

def Op.form2 (op : Op) : OpndForm :=
  match op with
  | .check => .bits 1 | .verify => .bits 1 | .getLog => .anyVal | _ => .unused

def Op.formOwner (op : Op) : OpndForm :=
  match op with
  | .write => .anyVal | .fill => .anyVal | _ => .unused

/-- NBLK_HI may be used (R205). -/
def Op.wide (op : Op) (d : Desc) : Bool :=
  match op with
  | .fill => true | .copy => true | .check => true | .verify => true | .sanitize => true | .compare => d.mode1 | _ => false

def isLogCode (n : Nat) : Bool := decide (1 ≤ n) && decide (n ≤ 9)

/-- A RECODE's strengths and region agree with the map or an open window (R224). -/
def State.recodeFits (s : State) (d : Desc) : Bool :=
  let r := fieldOf d.opnd0 0 8
  let old := fieldOf d.opnd0 8 3
  let new := fieldOf d.opnd0 12 3
  decide (old ≤ 4) && decide (new ≤ 4) && old != new &&
    match s.openWindow r with
    | some w => (s.window w).old.toNat == old && (s.window w).new.toNat == new
    | none => s.fld .pcdSmap r 0 3 == old || s.fld .pcdSmap r 0 3 == new

/-- Two ranges overlap. -/
def rangesOverlap (a b n : Nat) : Bool := decide (a < b + n) && decide (b < a + n)

/-- The failing fields of a descriptor: for each, its byte offset and whether it fails. -/
def State.fieldFaults (s : State) (q : Nat) (op : Op) (d : Desc) : List (Nat × Bool) :=
  let n := blocksOf op d
  let k := (s.resolvedKey q d).toNat
  let al (v : Nat) : Bool := v % 64 != 0
  let rec0 := op.nmo
  let wd := op.wide d
  let g := if n = 1 then d.gend.toNat + 1 - d.gstart.toNat else (64 - d.gstart.toNat) + 64 * (n - 2) + d.gend.toNat + 1
  let bytes := 64 * g + (if s.resolvedRaw q d then 0 else 4 * n)
  let isRw := op == .read || op == .write
  [ (0x00, d.zero0 != 0 || (op == .read && d.dmode == 3) || (op == .abort && d.fence) ||
      ((op == .keyLoad || op == .keyDestroy) && k == 0)),
    (0x08, d.zero1 != 0 || (!op.ranged && d.lbn != 0)),
    (0x0C, d.zero2 != 0 || (!op.ranged && d.nblk != 0) || (op == .repair && d.nblk != 0) ||
      (!isRw && (d.gstart != 0 || d.gend != 0)) || (isRw && n == 1 && decide (d.gend.toNat < d.gstart.toNat)) ||
      (op.ranged && decide (2 ^ 26 < d.lbn.toNat + n)) ||
      (isRw && s.sqStream q && decide (s.fld .qosStrmW0 q 0 7 < n))),
    (0x10, if op.usesAddr d then al d.addr.toNat || (isRw && decide (2 ^ 64 < d.addr.toNat + bytes)) else d.addr != 0),
    (0x18, match op with
      | .copy => decide (2 ^ 26 ≤ d.addr2.toNat) || decide (2 ^ 26 < d.addr2.toNat + n) || rangesOverlap d.lbn.toNat d.addr2.toNat n
      | .compare => if d.mode1 then decide (2 ^ 26 ≤ d.addr2.toNat) || decide (2 ^ 26 < d.addr2.toNat + n) else d.addr2 != 0
      | .attest => al d.addr2.toNat
      | _ => d.addr2 != 0),
    (0x20, op.form0.bad d.opnd0.toNat || (op == .attest && decide (d.opnd0.toNat < 4096)) ||
      (op == .getLog && !isLogCode d.opnd0.toNat) || (op == .recode && !s.recodeFits d)),
    (0x24, op.form1.bad d.opnd1.toNat || (op == .read && d.opnd1.getLsbD 0 && n != 1) ||
      (op == .getLog && (decide (d.opnd1.toNat < 64) || decide (1048576 < d.opnd1.toNat) || d.opnd1.toNat % 16 != 0))),
    (0x28, op.formOwner.bad d.owner.toNat),
    (0x2C, op.form2.bad d.opnd2.toNat),
    (0x30, if rec0 then al d.opnd3.toNat || (op == .check && d.opnd3 == 0) else d.opnd3 != 0),
    (0x38, if wd then decide (1024 ≤ d.opnd4.toNat) else d.opnd4 != 0),
    (0x3C, d.zero3 != 0) ]

/-- The lowest failing field, if any. -/
def State.badField (s : State) (q : Nat) (op : Op) (d : Desc) : Option Nat :=
  ((s.fieldFaults q op d).find? fun e => e.2).map (·.1)

/-! ## Permissions (R180 step 4, R182, R236, R485) -/

/-- The lifecycle and debug state refuses an opcode (R485). -/
def State.lifeRefuses (s : State) (op : Op) : Bool :=
  match op with
  | .keyLoad => s.lifecycle == 0 || s.lifecycle == 3 || (s.lifecycle == 2 && s.dbg.level == 2)
  | .write => s.lifecycle == 3
  | .copy => s.lifecycle == 3
  | .recode => s.lifecycle == 3
  | .repair => s.lifecycle == 3
  | _ => false

/-- Byte offset of a refused field, 0 for the ring's overrides and the lifecycle. -/
def State.notPermitted (s : State) (q : Nat) (op : Op) (d : Desc) : Option Nat :=
  if d.tcSet ∧ (!s.flag .sqcW3 q 3 ∨ s.sqStream q) then some 0
  else if d.keySet ∧ !s.flag .sqcW3 q 4 then some 0
  else if s.lifeRefuses op then some 0
  else if op = .abort ∧ s.sqCq (fieldOf d.opnd0 0 12) ≠ s.sqCq q then some 0x20
  else none

/-- The check of R180 steps 2 to 4: the opcode, or the status and detail of the first failing step. -/
def State.checkDesc (s : State) (q : Nat) (d : Desc) : Except (Nat × Nat) Op :=
  match opOfCode d.opcode.toNat with
  | none => .error (0x01, 0)
  | some op =>
    match s.badField q op d with
    | some o => .error (0x02, o)
    | none =>
      match s.notPermitted q op d with
      | some o => .error (0x04, o)
      | none => .ok op

end Sys2Proof.Machine
end

