-- ==== Sys2Proof/Machine/Packets.lean ====
section
/-! DEFINITION. Receiving packets (R322 to R341): acceptance by sequence number, malformed packets, routing, and the answer
to a CFG request. -/

namespace Sys2Proof.Machine

/-! ## Fields (R320, R321) -/

def typeOf (c : Nat) : Option PType :=
  match c with
  | 1 => some .mrd | 2 => some .mwr | 3 => some .cpl | 4 => some .dbl | 5 => some .cfgRd | 6 => some .cfgWr | 7 => some .msg
  | _ => none

/-- PLEN and PORTS of a path (R334). -/
def pathLen (p : Packet) : Nat := fieldOf p.w3 12 3
def pathPort (p : Packet) : Nat := fieldOf p.w3 0 2

/-- A request that a node may have to answer. -/
def isCfg (p : Packet) : Bool := p.typ == 5 || p.typ == 6

/-- LEN a message must have (R341). -/
def msgLenOk (code len : Nat) : Bool :=
  match code with
  | 0x01 => len == 4 | 0x02 => len == 1 | 0x10 => len == 2 | _ => true

/-- Fields of a message that are zero (R341). -/
def msgZerosOk (code : Nat) (ws : List Word) : Bool :=
  match code with
  | 0x01 => fieldOf (ws.getD 3 0) 31 1 == 0 | 0x02 => fieldOf (ws.getD 0 0) 12 4 == 0 | 0x10 => fieldOf (ws.getD 0 0) 16 16 == 0 | _ => true

/-- The packet breaks R322, but for the case of an MRD or MWR that the node would consume. -/
def illFormed (p : Packet) : Bool :=
  let w2 := p.w2.toNat
  let len := p.len
  let inRange := decide (1 ≤ len) && decide (len ≤ 128)
  fieldOf p.w0 4 4 != 0 || fieldOf p.w0 28 4 != 0 || fieldOf p.w1 19 1 != 0 ||
    match typeOf p.typ with
    | none => true
    | some .mrd => w2 % 4 != 0 || !inRange || p.payload.length != 0 || p.dkind == 3
    | some .mwr => w2 % 4 != 0 || !inRange || p.payload.length != len || p.dkind == 3
    | some .cpl => decide (8 ≤ w2) || (w2 != 0 && len != 0) || p.w3 != 0 || decide (128 < len) || p.payload.length != len || p.dkind == 3
    | some .dbl => w2 != 0 || p.w3 != 0 || len != 1 || p.payload.length != len || p.dkind == 3
    | some .cfgRd => decide (65536 ≤ w2) || !inRange || p.payload.length != 0 || p.dkind == 3 ||
        (if p.dkind = 2 then decide (2 ^ 15 ≤ p.w3.toNat) || decide (5 < pathLen p) else p.w3 != 0)
    | some .cfgWr => decide (65536 ≤ w2) || !inRange || p.payload.length != len || p.dkind == 3 ||
        (if p.dkind = 2 then decide (2 ^ 15 ≤ p.w3.toNat) || decide (5 < pathLen p) else p.w3 != 0)
    | some .msg => decide (256 ≤ w2) || p.w3 != 0 || decide (128 < len) || p.payload.length != len || !msgLenOk w2 len || !msgZerosOk w2 p.payload

/-! ## Counters -/

def State.countUnroutable (s : State) : State := { s with lnk := { s.lnk with unroutable := satInc s.lnk.unroutable 1 } }
def State.countBadMsg (s : State) : State := { s with lnk := { s.lnk with badMsg := satInc s.lnk.badMsg 1 } }
def State.countMalformed (s : State) (n : Nat) : State := s.updPort n fun p => { p with malformed := satInc p.malformed 1 }
def State.dropDoorbell (s : State) : State := { s with rng := { s.rng with dblDrop := satInc s.rng.dblDrop 1 } }

/-! ## Acceptance (R325, R328, R331) -/

/-- Sends an ACK at once when 16 packets wait for one or 8 units have been freed in some pool (R328, R331). -/
def State.judgeAck (s : State) (n : Nat) : State :=
  let p := s.port n
  let freed := (List.range 3).any fun k => decide (8 ≤ Tab.get 0 p.freed k - Tab.get 0 p.freedSent k)
  if 16 ≤ p.ackOwed ∨ freed then s.sendAck n else s

/-- Judges a packet's sequence number; true when it is accepted (log 82). -/
def State.acceptSeq (s : State) (n : Nat) (p : Packet) : State × Bool :=
  let q := s.port n
  let back := (q.nextRcv.toNat + 4096 - p.seq) % 4096
  if back = 0 then
    let s := s.updPort n fun q => { q with
      nextRcv := q.nextRcv + 1, ackOwed := q.ackOwed + 1, nakSent := false,
      ackDue := if q.ackOwed = 0 then 10 * s.now + s.fld .lnkLlc n 0 8 else q.ackDue,
      freed := Tab.upd 0 q.freed (poolOf p.typ) fun x => x + p.cost }
    (s.judgeAck n, true)
  else if back ≤ 2048 then (s.sendAck n, false)
  else (s.sendNak n, false)

/-! ## Answers (R338, R339) -/

/-- Status codes of a CPL. -/
def cplOk : Nat := 0
def cplUr : Nat := 1
def cplErr : Nat := 2
def cplClamped : Nat := 3
def cplDenied : Nat := 4

/-- Answers a CFG request: a CPL with its tag and class, on the upstream port. -/
def State.answer (s : State) (p : Packet) (status : Nat) (ws : List Word) : State :=
  s.toHost .cpl ws.length p.tc p.tag (BitVec.ofNat 32 status) 0 ws

/-! ## Routing (R333 to R336) -/

/-- Drops a packet: it is counted, and a CFG request is answered UR. -/
def State.dropPacket (s : State) (p : Packet) : State :=
  let s := s.countUnroutable
  if isCfg p then s.answer p cplUr [] else s

/-- A port's range holds a node ID. -/
def State.rangeHolds (s : State) (n id : Nat) : Bool :=
  s.flag .lnkRange n 16 && decide (s.fld .lnkRange n 0 6 ≤ id) && decide (id ≤ s.fld .lnkRange n 8 6)

/-- Where an accepted, well-formed packet goes: true when the node, or the port's link layer, consumes it.
A port in RECOVERY counts as up and holds what is queued for it (R305, log 97) (log 80) (log 81). -/
def State.route (s : State) (n : Nat) (p : Packet) : State × Bool :=
  if p.dkind = 3 then (s, true)
  else if !s.lnk.valid then
    if isCfg p ∧ p.dkind = 2 then
      let s : State := { s with lnk := { s.lnk with upPort := BitVec.ofNat 2 n } }
      if pathLen p = 0 then (s, true)
      else (s.countUnroutable.answer p cplUr [], false)
    else (s.countUnroutable, false)
  else
    let up := s.lnk.upPort.toNat
    if n = up then
      if p.dkind = 0 then
        if p.dst = s.lnk.id.toNat then (s, true)
        else match (List.range 4).find? fun k => s.rangeHolds k p.dst with
          | some k => if (s.port k).laneTrained then (s.enqueue k n p, false) else (s.dropPacket p, false)
          | none => (s.dropPacket p, false)
      else if p.dkind = 2 ∧ isCfg p then
        if pathLen p = 0 then (s, true)
        else
          let k := pathPort p
          if k ≠ up ∧ (s.port k).laneTrained then
            let w3 := packed [(fieldOf p.w3 2 10, 0, 12), (pathLen p - 1, 12, 3)]
            (s.enqueue k n { p with w3 := w3 }, false)
          else (s.answer p cplUr [], false)
      else (s.dropPacket p, false)
    else if p.dkind = 1 then
      if s.upstreamUp then (s.enqueue up n p, false) else (s.dropPacket p, false)
    else (s.dropPacket p, false)

/-- Whether the node would consume the packet, for R322: only a CFG request is routed by a path (R333, R334, R336). -/
def State.wouldConsume (s : State) (n : Nat) (p : Packet) : Bool :=
  if !s.lnk.valid then isCfg p && p.dkind == 2 && pathLen p == 0
  else n == s.lnk.upPort.toNat && ((p.dkind == 0 && p.dst == s.lnk.id.toNat) || (isCfg p && p.dkind == 2 && pathLen p == 0))

/-- Discards a malformed packet; a CFG request that the node consumes is answered UR (R322). -/
def State.discardMalformed (s : State) (n : Nat) (p : Packet) : State :=
  let s := s.countMalformed n
  if isCfg p ∧ s.wouldConsume n p then
    let s := if s.lnk.valid then s else { s with lnk := { s.lnk with upPort := BitVec.ofNat 2 n } }
    s.answer p cplUr []
  else s

/-- CK_FAB is slower than a port's link clock: an accepted packet may be lost in the crossing, a free value (R412, log 7). -/
def State.crossingLoses (s : State) (n : Nat) : State × Bool :=
  let fab := s.fld .clkDiv 0 0 2
  let rate := (s.port n).rate.toNat
  if (fab = 1 ∧ 4 < rate) ∨ (fab = 2 ∧ 3 < rate) then ({ s with free := s.free + 1 }, Config.losesPacket s.free) else (s, false)

/-- A packet with a good CRC arrives on a port in UP: it is judged, and true is answered when the node consumes it. -/
def State.arrive (s : State) (n : Nat) (p : Packet) : State × Bool :=
  if (s.port n).st ≠ .up then (s, false)
  else
    let a := s.acceptSeq n p
    if !a.2 then (a.1, false)
    else
      let k := a.1.crossingLoses n
      let s := k.1
      if k.2 then (s, false)
      else if illFormed p ∨ ((p.typ = 1 ∨ p.typ = 2) ∧ s.wouldConsume n p) then (s.discardMalformed n p, false)
      else
        let r := s.route n p
        if r.2 ∧ p.typ = 7 ∧ (p.dkind ≠ 3 ∨ p.w2 ≠ 0x10) then (r.1.countBadMsg, false) else r

end Sys2Proof.Machine
end

