-- ==== Sys2Proof/Machine/Rings.lean ====
section
/-! DEFINITION. Rings (R163 to R203): enabling and disabling, doorbells, descriptor fetch, the checking of a fetched
descriptor, ring errors, and notification by time. -/

namespace Sys2Proof.Machine

/-! ## Ring errors (R200, R201) -/

/-- An SQ enters ERROR: it fetches nothing more, and SQ_ERROR is posted. -/
def State.sqError (s : State) (q err : Nat) : State :=
  let n := (s.sq q).fetch.foldl (fun a e => a + e.2.2.1) 0
  let s := s.updCq (s.sqCq q) fun c => { c with reserved := c.reserved - 2 * n }
  let s := s.updSq q fun x => { x with st := .error, err := BitVec.ofNat 3 err, fetch := [] }
  s.postEvent 0x000E q 2 (BitVec.ofNat 32 err) (s.sq q).head.toNat

/-- A CQ enters ERROR and CQ_ERROR is posted; the doorbell's VALUE is reported. -/
def State.cqError (s : State) (q value : Nat) : State :=
  let s := s.updCq q fun c => { c with st := .error }
  s.postEvent 0x000F 0 2 (BitVec.ofNat 32 q) value

/-! ## Doorbells (R173 to R176) -/

/-- A doorbell for an SQ. -/
def State.sqBell (s : State) (q value : Nat) : State :=
  let x := s.sq q
  if !s.dataFloor ∨ x.st ≠ .active then s.dropDoorbell
  else
    let size := s.sqSize q
    if size ≤ value then s.sqError q 2
    else if size - 1 < ringDist size value x.tail.toNat + s.pend q then s.sqError q 3
    else s.updSq q fun x => { x with tail := BitVec.ofNat 16 value }

/-- A doorbell for a CQ. -/
def State.cqBell (s : State) (q value : Nat) : State :=
  let x := s.cq q
  if !s.dataFloor ∨ x.st ≠ .active then s.dropDoorbell
  else
    let size := s.cqSize q
    if size ≤ value ∨ s.cqUsed q < ringDist size value x.head.toNat then s.cqError q value
    else
      let s := s.updCq q fun x => { x with head := BitVec.ofNat 16 value, accepted := BitVec.ofNat 16 value }
      if s.evtEn ∧ s.evtCq = q then s.reportLost else s

/-- The payload word of a DBL (R173). -/
def State.bell (s : State) (w : Word) : State :=
  if fieldOf w 29 3 ≠ 0 then s.dropDoorbell
  else if bitOf w 28 then s.cqBell (fieldOf w 16 12) (fieldOf w 0 16)
  else s.sqBell (fieldOf w 16 12) (fieldOf w 0 16)

/-- A doorbell waits for the ring engine's clock. -/
def Parked.isBell : Parked → Bool
  | .packet _ p => p.typ != 5 && p.typ != 6
  | .access .. => false

/-- A consumed doorbell: while the ring engine's domain is gated, or an earlier doorbell waits, it waits, and wakes the node; doorbells
are handled in the order they arrive (R37, R173, R310). -/
def State.ringBell (s : State) (n : Nat) (p : Packet) : State :=
  if s.pwr.gateA ∨ s.lnk.parked.any Parked.isBell then s.park (.packet n p) else s.bell (p.payload.headD 0)

/-! ## Enabling and disabling (R170 to R172, R201): none where the write is ignored -/

def State.enableSq (s : State) (q : Nat) : Option State :=
  let x := s.sq q
  if x.st = .disabled ∧ (s.cq (s.sqCq q)).st = .active ∧ (!s.sqStream q ∨ s.fld .sqcW3 q 0 3 = 7) ∧ x.head.toNat < s.sqSize q ∧
      !(s.sqStream q && s.bst.memFail.getLsbD 3) then
    some (s.updSq q fun x => { x with st := .active, tail := x.head, fetch := [] })
  else none

def State.disableSq (s : State) (q : Nat) : Option State :=
  let x := s.sq q
  if x.st = .active ∨ x.st = .error then
    let n := x.fetch.foldl (fun a e => a + e.2.2.1) 0
    let s := s.updCq (s.sqCq q) fun c => { c with reserved := c.reserved - 2 * n }
    some (s.updSq q fun x => { x with st := if x.out = 0 then .disabled else .draining, fetch := [] })
  else none

def State.enableCq (s : State) (q : Nat) : Option State :=
  if (s.cq q).st = .disabled then
    let s := s.updCq q fun c => { c with
      st := .active, head := 0, accepted := 0, tail := 0, phase := true, unNote := 0, oldest := none, reserved := 0, held := [] }
    some s.flushHeld
  else none

/-- CQ_CTL.DISABLE; none where it is ignored, as on a CQ that is DISABLED already (R172; DESIGN CHOICE, log 133). -/
def State.disableCq (s : State) (q : Nat) : Option State :=
  let c := s.cq q
  if c.st ≠ .disabled ∧ s.sqsOf q = 0 ∧ c.reserved = 0 ∧ !(s.evtEn && s.evtCq == q) then
    some (s.updCq q fun c => { c with st := .disabled })
  else none

/-- RESUME of a CQ in ERROR: the held entries are written in the order they arose, within their reservations. -/
def State.resumeCq (s : State) (q : Nat) : Option State :=
  let c := s.cq q
  let size := s.cqSize q
  let used := ringDist size c.tail.toNat c.accepted.toNat
  if c.st = .error ∧ c.head.toNat < size ∧ ringDist size c.head.toNat c.accepted.toNat ≤ used then
    let s := s.updCq q fun c => { c with st := .active, accepted := c.head, held := [] }
    let s := c.held.foldl (fun s h => s.releaseEntry q h) s
    some s.settle.flushHeld
  else none

/-! ## Fetch (R178, R179) -/

/-- A fetched READ or WRITE of a stream ring waits for entries: fetching from the ring waits with it (R276). -/
def SqCtx.waits (x : SqCtx) : Bool :=
  match x.fetch with
  | (_, _, n, some _) :: _ => n != 0
  | _ => false

/-- How many descriptors an SQ may fetch now (R178, R179, R276). -/
def State.fetchCount (s : State) (q : Nat) : Nat :=
  let x := s.sq q
  let c := s.sqCq q
  if x.waits then 0
  else if !s.dataFloor ∨ x.st ≠ .active ∨ (s.cq c).st ≠ .active ∨ 2 ≤ s.pwr.state.toNat ∨ s.pwr.gateA ∨ s.testing 4 ∨
      s.clk.tripped.contains 0 then 0
  else
    let w := s.fld .sqcW3 q 12 4
    min (min w (s.pend q - x.inFlight)) (min (s.fld .sqcW7 q 16 11 - x.out - x.inFlight) (min (s.cqRoom c) (4096 - s.held)))

/-- The SQ whose turn it is: stream rings first, each kind in round robin (R179). -/
def State.nextSq (s : State) : Option Nat :=
  let can := (s.rng.sqs.map (·.1)).filter fun q => 0 < s.fetchCount q
  let strm := can.filter s.sqStream
  let after (l : List Nat) (last : Nat) : Option Nat := (l.find? fun q => decide (last < q)) <|> l.head?
  if strm.isEmpty then after can s.rng.lastSq else after strm s.rng.lastStrm

/-- Asks for `n` descriptors from an index: one MRD, or two where the run crosses the end of the ring. -/
def State.askDescs (s : State) (q i n : Nat) : State :=
  let size := s.sqSize q
  let first := min n (size - i)
  let one (s : State) (i n : Nat) : State :=
    if n = 0 then s
    else
      let id := s.rng.nextId
      let s : State := { s with rng := { s.rng with nextId := id + 1 } }
      let s := s.updSq q fun x => { x with fetch := x.fetch ++ [(id, i, n, none)] }
      s.mrd (s.fld .sqcW3 q 0 3) (s.sqBase q + 64 * i) (16 * n) (.descs q id n)
  one (one s i first) 0 (n - first)

/-- One turn of an SQ: two entries are reserved for each descriptor asked for. -/
def State.turnOf (s : State) (q : Nat) : State :=
  let n := s.fetchCount q
  if n = 0 then s
  else
    let x := s.sq q
    let s := s.updCq (s.sqCq q) fun c => { c with reserved := c.reserved + 2 * n }
    let s := s.updSq q fun x => { x with usedAt := some s.now }
    let s := { s with rng := if s.sqStream q then { s.rng with lastStrm := q } else { s.rng with lastSq := q } }
    s.askDescs q ((x.head.toNat + x.inFlight) % s.sqSize q) n

/-! ## A fetched descriptor (R180, R187, R200, R217, R224, R227 to R229, R236, R276) -/

/-- HEAD, and GEN where it wraps, pass the descriptor at HEAD. -/
def State.advanceHead (s : State) (q : Nat) : State :=
  let wraps := (s.sq q).head.toNat + 1 = s.sqSize q
  s.updSq q fun x => { x with head := if wraps then 0 else x.head + 1, gen := if wraps then x.gen + 1 else x.gen }

/-- A command as it stands when its descriptor has been fetched. -/
def State.newCmd (s : State) (q : Nat) (op : Op) (d : Desc) : Cmd :=
  { id := s.rng.nextId, sq := q, cq := s.sqCq q, op := op, desc := d, key := s.resolvedKey q d, tc := s.resolvedTc q d,
    intlv := s.intlv, early := s.resolvedEarly q op d, raw := s.resolvedRaw q d, started := false, next := 0, running := [],
    done := 0, passed := 0, ended := 0, fail := none, stopped := false, aborted := false, tally := .zero, vals := [], bufs := [], gen0 := 0, zero0 := false,
    san0 := false, anyCorr := false, amended := false, sent := 0, provis := false, provOut := false, after := [], integ := none, startAt := none, due := none,
    waitIds := [], waitMrg := [], abOk := 0, abNo := 0, phase := 0, aux := 0, final := none, inCq := false, short := false, silent := false }

/-- Commands an ABORT matches: none is an ABORT, one that failed its check included (R236). -/
def State.abortMatches (s : State) (d : Desc) : List Cmd :=
  s.rng.cmds.filter fun c =>
    c.sq == fieldOf d.opnd0 0 12 && c.desc.cid.toNat == fieldOf d.opnd1 0 16 && opOfCode c.desc.opcode.toNat != some .abort

/-- Outstanding commands older than this one that an erasure of slot K waits for (R228). -/
def State.keyUsers (s : State) (k id : Nat) : List Nat :=
  (s.rng.cmds.filter fun c =>
    decide (c.id < id) && (c.key.toNat == k || (c.op == .verify && c.desc.opnd2.getLsbD 0))).map (·.id)

/-- What the check of a command at its fetch already decides: what a FLUSH waits for, an erasure begun, a KEY_LOAD that
waits for an erasure, and the commands an ABORT matches. -/
def State.judgeAtFetch (s : State) (c : Cmd) : State :=
  match c.op with
  | .flush =>
    let wide := c.desc.opnd0.getLsbD 0
    let ids := (s.rng.cmds.filter fun x => decide (x.id < c.id) && x.op.writesSlots && (wide || x.sq == c.sq)).map (·.id)
    let mrg := s.pcd.merge.filterMap fun e => e.2.bind fun m => if m.internal then some m.no else none
    s.updCmd c.id fun c => { c with waitIds := ids, waitMrg := mrg, aux := ids.length }
  | .sanitize =>
    if c.key = 0 ∨ s.secOut then s
    else
      let s := { s with sec := { s.sec with erasing := s.sec.erasing ++ [(c.key.toNat, c.id)] } }
      s.updCmd c.id fun c => { c with phase := 1 }
  | .keyDestroy =>
    if s.secOut then s
    else
      let s := { s with sec := { s.sec with erasing := s.sec.erasing ++ [(c.key.toNat, c.id)] } }
      s.updCmd c.id fun c => { c with phase := 1 }
  | .abort =>
    let known := s.rng.remembered.contains (fieldOf c.desc.opnd0 0 12, BitVec.ofNat 16 (fieldOf c.desc.opnd1 0 16))
    s.updCmd c.id fun c => { c with waitIds := (s.abortMatches c.desc).map (·.id), aux := oneIf known, due := some (s.now + 2) }
  | _ => s

/-- Takes one fetched descriptor: its checks, its reservation and its place among the outstanding commands. The answer is
false where a stream ring has no room for it and fetching waits (R276). -/
def State.takeDesc (s : State) (q : Nat) (d : Desc) : State × Bool :=
  let x := s.sq q
  let cq := s.sqCq q
  if d.gen ≠ x.gen then
    let e := mkEntry d.cid.toNat q kindFinal 0x03 0 0 (BitVec.ofNat 32 d.gen.toNat) x.gen.toNat
    let s := s.writeEntry cq { entry := e, sq := q, urgent := d.urgent, tc := (s.resolvedTc q d).toNat, use := .pair d.cid }
    let s := s.updCq cq fun c => { c with reserved := c.reserved - 1 }
    let s := s.updSq q fun x => { x with fetch := match x.fetch with
      | (t, i, n, a) :: r => (t, i, n - 1, a) :: r
      | [] => [] }
    (s.sqError q 1, true)
  else match s.checkDesc q d with
  | .error (st, sd) =>
    let s := s.advanceHead q
    let c := { s.newCmd q .nop d with key := 0 }
    let s := { s with rng := { s.rng with cmds := s.rng.cmds ++ [c], nextId := s.rng.nextId + 1 } }
    let s := s.updSq q fun x => { x with out := x.out + 1 }
    let s := s.updCq cq fun k => { k with reserved := k.reserved - 1 }
    (s.finish c.id (plainFinal st sd 0 0), true)
  | .ok op =>
    let n := blocksOf op d
    let isRw := op == .read || op == .write
    if s.sqStream q ∧ isRw ∧ (s.fld .qosStrmW0 q 0 7 < x.fill + n ∨ s.qos.poolFree < n) then (s, false)
    else
      let c := s.newCmd q op d
      let s := s.advanceHead q
      let s := { s with rng := { s.rng with cmds := s.rng.cmds ++ [c], nextId := s.rng.nextId + 1 } }
      let s := s.updSq q fun x => { x with out := x.out + 1 }
      let s := if c.early then s else s.updCq cq fun k => { k with reserved := k.reserved - 1 }
      let s := if s.sqStream q ∧ isRw then
          ((s.updCmd c.id fun c => { c with due := some (s.now + s.fld .qosStrmW1 q 0 16) }).streamTake q n).letInAll
        else s
      (s.judgeAtFetch c, true)

/-- Takes the descriptors that have been answered, in ring order, as long as none waits; `fuel` bounds their number. -/
def State.takeDescs : Nat → State → Nat → State
  | 0, s, _ => s
  | fuel + 1, s, q =>
    match (s.sq q).fetch with
    | (id, i, n, some ws) :: rest =>
      if n = 0 then State.takeDescs fuel (s.updSq q fun x => { x with fetch := rest }) q
      else
        let r := s.takeDesc q (parseDesc (ws.take 16))
        if !r.2 then s
        else
          let s := r.1.updSq q fun x => { x with fetch := match x.fetch with
            | [] => []
            | _ => if n = 1 then rest else (id, i + 1, n - 1, some (ws.drop 16)) :: rest }
          State.takeDescs fuel s q
    | _ => s

/-- Notes the answer to a descriptor MRD and takes what can be taken. -/
def State.descsArrived (s : State) (q id : Nat) (ws : List Word) : State :=
  let s := s.updSq q fun x => { x with fetch := x.fetch.map fun e => if e.1 = id ∧ e.2.2.2.isNone then (e.1, e.2.1, e.2.2.1, some ws) else e }
  (s.takeDescs 32 q).reportLost

/-! ## Commands -/

/-- DESCRIPTOR_FETCH (R179): descriptors that waited for stream entries are taken; then the SQ has its turn, if it is its. -/
def execDescriptorFetch (q : BitVec 12) (s : State) : Host.Outcome State Fault Refusal :=
  let s := (s.takeDescs 32 q.toNat).reportLost
  .next (if s.nextSq = some q.toNat then s.turnOf q.toNat else s)

/-- SQ_DOORBELL (R174). -/
def execSqDoorbell (n : BitVec 2) (pkt : Packet) (s : State) : Host.Outcome State Fault Refusal :=
  let a := s.arrive n.toNat pkt
  .next (if a.2 ∧ pkt.typ = 4 then a.1.ringBell n.toNat pkt else a.1)

/-- CQ_DOORBELL (R175). -/
def execCqDoorbell (n : BitVec 2) (pkt : Packet) (s : State) : Host.Outcome State Fault Refusal :=
  let a := s.arrive n.toNat pkt
  .next (if a.2 ∧ pkt.typ = 4 then a.1.ringBell n.toNat pkt else a.1)

/-- COAL_TIMEOUT (R199 condition 3): COAL_US have passed since the oldest entry not yet notified. -/
def execCoalTimeout (q : BitVec 12) (s : State) : Host.Outcome State Fault Refusal :=
  let us := s.fld .cqcW3 q.toNat 8 16
  let c := s.cq q.toNat
  let due := us ≠ 0 ∧ 0 < c.unNote ∧ c.oldest.getD s.now + us ≤ s.now ∧ s.flag .cqcW3 q.toNat 24 = true
  .next (if due then s.notify q.toNat else s)

/-- DATA_FLOOR_REACHED (R42, R193): the level is noted, held events are written, and fetching takes each SQ's tail from its
context. -/
def execDataFloorReached (s : State) : Host.Outcome State Fault Refusal :=
  .next (if s.dataFloor then s.noteLevel.flushHeld else s)

end Sys2Proof.Machine
end

