-- ==== Sys2Proof/Machine/Scarab.lean ====
section
/-! DEFINITION. Scarab (R136 to R139, R150 to R158): the correctable log, findings, the format walk, passes and seasons. -/

namespace Sys2Proof.Machine

/-! ## The correctable log (R153, R154) -/

/-- The entry of a physical row, with its index. -/
def State.logFor (s : State) (i b row : Nat) : Option (Nat × ScbEntry) :=
  s.scb.log.findSome? fun e => match e.2 with
    | some x => if x.tier = i / 32 ∧ x.chan = i % 32 ∧ x.bank = b ∧ x.row = row then some (e.1, x) else none
    | none => none

/-- The index a new finding takes: a free one, else the non-candidate with the oldest TIME, else none. -/
def State.logPlace (s : State) : Option Nat :=
  match (List.range 64).find? fun k => (Tab.get none s.scb.log k).isNone with
  | some k => some k
  | none =>
    (s.scb.log.foldl (fun (a : Option (Nat × Nat)) e => match e.2 with
      | some x =>
        if x.cand then a
        else match a with
          | some (k, t) => if x.time.toNat < t then some (e.1, x.time.toNat) else some (k, t)
          | none => some (e.1, x.time.toNat)
      | none => a) none).map (·.1)

def State.setLog (s : State) (k : Nat) (x : Option ScbEntry) : State :=
  { s with scb := { s.scb with log := Tab.set none s.scb.log k x } }

/-- Enters a finding: `other` for a reader other than Scarab, `hiRw` for a Scarab finding with k at or above RW, `second`
for the second read of R152. A row that becomes a candidate posts REPAIR_CANDIDATE. An entry of KIND 4 or 5 keeps it through a
finding of KIND 1 or 2 (DESIGN CHOICE, log 111). -/
def State.finding (s : State) (i b row kind l : Nat) (code : BitVec 3) (other : Bool) (k : Nat) (hiRw second : Bool) : State :=
  let pass := BitVec.ofNat 8 s.scb.pass.toNat
  match s.logFor i b row with
  | some (j, x) =>
    let cand := x.cand || second || (hiRw && x.hadRw && x.pass != pass)
    let kind1 := if cand ∧ !x.cand ∧ kind ≠ 5 then 3 else if 3 ≤ x.kind.toNat ∧ kind < 3 then x.kind.toNat else kind
    let s := s.setLog j (some { x with
      kind := BitVec.ofNat 3 kind1, cand := cand, lbn := BitVec.ofNat 26 l, tcode := code, src := other,
      maxCorr := BitVec.ofNat 8 (max x.maxCorr.toNat k), pass := if hiRw then pass else x.pass, hadRw := x.hadRw || hiRw,
      hits := satInc x.hits 1, time := s.tim.count })
    if cand ∧ !x.cand then s.postEvent 0x000C 0 1 (BitVec.ofNat 32 j) l else s
  | none =>
    match s.logPlace with
    | none => { s with scb := { s.scb with logDrop := satInc s.scb.logDrop 1 } }
    | some j =>
      let s := s.setLog j (some
        { tier := i / 32, chan := i % 32, bank := b, row := row, kind := BitVec.ofNat 3 kind, cand := second,
          lbn := BitVec.ofNat 26 l, tcode := code, src := other, maxCorr := BitVec.ofNat 8 k, pass := if hiRw then pass else 0,
          hadRw := hiRw, hits := 1, time := s.tim.count })
      if second then s.postEvent 0x000C 0 1 (BitVec.ofNat 32 j) l else s

/-- RW of R152, with RW_PCT as it stood when the decode started. -/
def Req.rewriteAt (r : Req) : Nat := ceilDiv (tOf r.dstr * fieldOf r.scb 16 7) 100

/-- Bits corrected before a decode is logged. -/
def Req.logT (r : Req) : Nat := fieldOf r.scb 8 7

/-- The log entry of a decode for a reader other than Scarab (R153, R106). -/
def State.logOther (s : State) (r : Req) (d : Decode) : State :=
  match d with
  | .clean => s
  | .corrected k => if r.logT ≤ k then s.finding r.inst r.bank r.phys 1 r.lbn r.dstr true k false false else s
  | .uncorrectable => s.finding r.inst r.bank r.phys 4 r.lbn r.dstr true 0 false false

/-- The largest k / t of a tier's wake pass (R157). -/
def Tier.noteWake (t : Tier) (k tt : Nat) : Tier :=
  if t.wake ∧ t.wakeK * tt < k * t.wakeT ∨ (t.wake ∧ t.wakeT = 0) then { t with wakeK := k, wakeT := tt } else t

/-- A number of its own in the order of R30. -/
def State.takeOrd (s : State) : Nat × State := (s.rng.nextId, { s with rng := { s.rng with nextId := s.rng.nextId + 1 } })

/-- A slot of a walk has been read: the pass, or the wake pass whose reads are numbered from 65,536 on, has done it (R151). -/
def Chan.readDone (c : Chan) (o : Nat) : Chan :=
  if 65536 ≤ o then { c with wakeAt := c.wakeAt.map fun k => max k (o - 65536 + 1) } else { c with done := max c.done (o + 1) }

/-- Queues a request that Scarab makes of a slot it has read, SCB_CFG.EN 0 or not (DESIGN CHOICE, log 131); a channel that has frozen or retired meanwhile takes none, and a
merge-buffer slot held for it is free again (R108, R111). -/
def State.scarabGoes (s : State) (r : Req) : State :=
  let c := s.chan r.inst
  if c.retired ∨ c.st = .frozen then s.mergeRelease r.merge else s.submit r

/-- What Scarab does with its own read (R152): log, or report, or have the slot rewritten. Where both CORRECTED rows match, a
k at or above RW rewrites; a CRC-32C mismatch rewrites nothing whatever k is (DESIGN CHOICE, log 108). -/
def State.scarabRead (s : State) (r : Req) (d : Decode) (x : Option Slot) : State :=
  let rw := r.rewriteAt
  match x, d with
  | some _, .uncorrectable => s.finding r.inst r.bank r.phys 4 r.lbn r.dstr false 0 false false
  | none, _ => s.finding r.inst r.bank r.phys 4 r.lbn r.dstr false 0 false false
  | some x, d =>
    let k := d.bits
    let again := r.src == .scarabAgain
    let high := decide (rw ≤ k) && d != .clean
    let s := s.updTier (tierOf r.inst) fun t => t.noteWake k (tOf r.dstr)
    if bitOf r.scb 2 ∧ !x.enc ∧ crc32c x.data ≠ x.crc then
      let s := s.finding r.inst r.bank r.phys 5 r.lbn r.dstr false k high (again && high)
      let s := s.logIntegrity r.lbn x (crc32c x.data) 0x80 0 0 d
      s.postEvent 0x000D 0 2 (BitVec.ofNat 32 r.lbn) x.crc.toNat
    else if high then
      if again then s.finding r.inst r.bank r.phys 3 r.lbn r.dstr false k true true
      else
        let s := s.finding r.inst r.bank r.phys 2 r.lbn r.dstr false k true false
        s.scarabGoes (mkReq .scarabRewrite none r.off r.lbn (r.inst, r.bank, r.row) false .scarab none r.ord)
    else if d = .clean ∨ k < r.logT then s
    else s.finding r.inst r.bank r.phys 1 r.lbn r.dstr false k false false

/-- The fetch of a Scarab rewrite has decoded: its corrected contents, as they stand, are written back from the merge-buffer slot
(R126, R143). -/
def State.scarabMerge (s : State) (r : Req) (d : Decode) (x : Option Slot) : State :=
  match x, d with
  | some _, .uncorrectable => (s.finding r.inst r.bank r.phys 4 r.lbn r.dstr false 0 false false).mergeRelease r.merge
  | none, _ => (s.finding r.inst r.bank r.phys 4 r.lbn r.dstr false 0 false false).mergeRelease r.merge
  | some x, _ =>
    ((s.mergeTo r.merge .merge).mergeTo r.merge .encode).scarabGoes
      { mkReq .scarabRewrite none r.off r.lbn (r.inst, r.bank, r.row) true .scarab none r.ord with slot := some x, merge := r.merge }

/-- The decode of a read of Scarab's has ended. -/
def State.scarabDecoded (s : State) (r : Req) (d : Decode) (x : Option Slot) : State :=
  let s := if r.src = .scarab then s.updChan r.inst fun c => c.readDone r.off else s
  if r.src = .scarabRewrite then s.scarabMerge r d x else s.scarabRead r d x

/-! ## The format walk (R138, R139) -/

/-- Slots of a region that a channel holds. -/
def fmtSlots (mode : BitVec 2) (i r : Nat) : Nat :=
  if mode = 3 then (if r = i / 4 then 65536 else 0) else 256

/-- Bank and row of the k-th of them. -/
def fmtPlace (mode : BitVec 2) (r k : Nat) : Nat × Nat := if mode = 3 then (k % 16, k / 16) else (k % 16, 16 * r + k / 16)

/-- The region a channel formats next. -/
def State.fmtRegion (s : State) (i : Nat) : Option Nat :=
  (List.range 256).find? fun r => s.formatPending r (tierOf i) && !((s.chan i).fmt.fin.contains r)

/-- The channel has written its last slot of a region. -/
def State.fmtFinish (s : State) (i r : Nat) : State :=
  (s.updChan i fun c => { c with fmt := { region := 0, idx := 0, fin := insertSorted r c.fmt.fin } }).judgePair r (tierOf i)

/-- A format write has completed: the walk moves on, unless it was restarted meanwhile. -/
def State.fmtWritten (s : State) (r : Req) : State :=
  let f := (s.chan r.inst).fmt
  let reg := regionOf r.lbn
  if f.region = reg ∧ f.idx = r.off ∧ s.formatPending reg (tierOf r.inst) then
    if r.off + 1 = fmtSlots s.intlv r.inst reg then s.fmtFinish r.inst reg
    else s.updChan r.inst fun c => { c with fmt := { c.fmt with idx := r.off + 1 } }
  else s

/-- Requests of a source that a channel holds or runs. -/
def Chan.hasSrc (c : Chan) (p : ReqSrc → Bool) : Bool := (c.queue ++ c.ringq ++ c.active ++ c.dec).any fun r => p r.src

/-- Queues the next format write of a channel; regions of which it holds nothing are passed over. -/
def State.fmtNext : Nat → State → Nat → State
  | 0, s, _ => s
  | fuel + 1, s, i =>
    match s.fmtRegion i with
    | none => s
    | some r =>
      if fmtSlots s.intlv i r = 0 then State.fmtNext fuel (s.fmtFinish i r) i
      else
        let s := s.updChan i fun c => if c.fmt.region = r then c else { c with fmt := { c.fmt with region := r, idx := 0 } }
        let k := (s.chan i).fmt.idx
        let pl := fmtPlace s.intlv r k
        let o := s.takeOrd
        o.2.submit { mkReq .format none k (lbnOf s.intlv i pl.1 pl.2) (i, pl.1, pl.2) true .scarab none o.1 with
          slot := some (zeroSlot false true 0), fresh := true }

/-- A map write restarts the format of its region where the bit is clear (R133, R138): channels that have written any slot
of it write them again from the first. -/
def State.fmtRestart (s : State) (r : Nat) : State :=
  s.updChans (s.tch.chans.map (·.1)) fun i c =>
    if s.ready r (tierOf i) then c
    else
      let stale (q : Req) : Req := if q.src = .format ∧ regionOf q.lbn = r then { q with off := 2 ^ 20 } else q
      { c with active := c.active.map stale, queue := c.queue.map stale, fmt := c.fmt.forget r }

/-- SCB_CFG.EN written 0 ends every wake pass, which then judges nothing (R160; DESIGN CHOICE, log 128). -/
def State.wakeHalt (s : State) : State :=
  let s := allTiers.foldl (fun s t => s.updTier t fun x => { x with wake := false, wakeK := 0, wakeT := 0, wakeBad := false, wakeJudge := false }) s
  s.updChans (s.tch.chans.map fun e => e.1) fun _ c => { c with wakeAt := none }

/-- FORMAT written 0 stops every format after the slot it is writing: the one whose WR burst has issued, as for R139
(DESIGN CHOICE, log 112). -/
def State.fmtHalt (s : State) : State :=
  s.updChans (s.tch.chans.map fun e => e.1) fun _ c =>
    { c with queue := c.queue.filter fun q => q.src != .format, ringq := c.ringq.filter fun q => q.src != .format }

/-- A readiness bit that software sets stops the pair's format after the slot it is writing (R139). -/
def State.fmtStop (s : State) (r t : Nat) : State :=
  let mine (q : Req) : Bool := q.src == .format && regionOf q.lbn == r
  (s.setReady r t).updChans (chansOfTier t) fun _ c =>
    { c with queue := c.queue.filter (fun q => !mine q), ringq := c.ringq.filter (fun q => !mine q), fmt := c.fmt.forget r }

/-! ## Passes (R150, R151, R155, R157, R158) -/

/-- Slots of a channel that should have been read by now in the pass (R151). -/
def State.scarabDue (s : State) : Nat :=
  (s.now - s.scb.passStart) * 65536 / (s.fld .scbPace 0 0 16 * 60000000) + 1

/-- The next slot index of a walk that lies in a ready pair; 65,536 when none is left. -/
def State.walkFrom (s : State) (i k : Nat) : Nat :=
  match s.intlv.toNat with
  | 3 => if s.ready (i / 4) (tierOf i) then k else 65536
  | _ =>
    -- one region is sixteen rows of a channel: 256 slots of the walk
    if k % 256 ≠ 0 ∧ s.ready (k / 256) (tierOf i) then k
    else match (List.range 256).find? fun r => decide (k ≤ 256 * r + 255) && s.ready r (tierOf i) with
      | some r => max k (256 * r)
      | none => 65536

/-- Queues one Scarab read; `o` names it in its walk. -/
def State.queueScarab (s : State) (i k off : Nat) : State :=
  let b := k % 16
  let row := k / 16
  let o := s.takeOrd
  o.2.submit (mkReq .scarab none off (lbnOf s.intlv i b row) (i, b, row) false .scarab none o.1)

/-- SCB_STAT.BEHIND: at a node-epoch boundary some serving channel has read fewer slots than are due (R151). -/
def State.scarabBoundary (s : State) : State :=
  let due := min 65536 s.scarabDue
  { s with scb := { s.scb with
    behind := s.scb.running && s.servingChans.any fun i => decide (s.walkFrom i (s.chan i).done < due) } }

def isScarab (x : ReqSrc) : Bool := x == .scarab || x == .scarabAgain || x == .scarabRewrite

/-- Scarab's part of a channel's work: the next slot of its wake pass, or of the pass where it is behind (R151, R157). Slots of
pairs that are not ready count as done when the walk passes them (DESIGN CHOICE, log 109). -/
def State.scarabNext (s : State) (i : Nat) : State :=
  let c := s.chan i
  if !s.flag .scbCfg 0 0 ∨ !s.serves i ∨ 2 ≤ s.pwr.state.toNat ∨ c.hasSrc isScarab then s
  else match c.wakeAt with
  | some k =>
    let k := s.walkFrom i k
    if 65536 ≤ k then s.updChan i fun c => { c with wakeAt := some 65536 }
    else (s.updChan i fun c => { c with wakeAt := some k }).queueScarab i k (65536 + k)
  | none =>
    if !s.scb.running ∨ s.scarabDue ≤ c.done then s
    else
      let k := s.walkFrom i c.done
      if 65536 ≤ k then s.updChan i fun c => { c with done := 65536 }
      else (s.updChan i fun c => { c with done := k }).queueScarab i k k

/-- Every channel of a list has ended its walk and has no Scarab request left. -/
def State.walked (s : State) (is_ : List Nat) (pos : Chan → Nat) : Bool :=
  is_.all fun i => decide (65536 ≤ pos (s.chan i)) && !(s.chan i).hasSrc isScarab

/-- A pass has ended on a tier: its marks wait for the Hive core, and the next pass starts with new ones (R155). -/
def Tier.passEnd (t : Tier) : Tier :=
  { t with ended := t.ended ++ [(t.passBad, t.passMult)], passBad := false, passMult := decide (t.usedMult ≠ 0 ∧ t.selfRef) }

/-- The season after an ordinary pass with these marks (R155, R158). A pass ends clean for HOLD when no UNCORRECTABLE came,
whatever multiplier was held (DESIGN CHOICE, log 110). -/
def Tier.judgePass (maxMult : Nat) (t : Tier) (m : Bool × Bool) : Tier :=
  let clean1 := !m.1 && !m.2
  match t.season.toNat with
  | 0 => if clean1 then { t with season := 1 } else t
  | 1 => if clean1 then { t with season := 2, trial := BitVec.ofNat 2 (min 1 maxMult) } else { t with season := 0 }
  | _ =>
    if !m.1 ∧ t.hold ≠ 0 then
      let h := t.hold - 1
      { t with hold := h, trial := if h = 0 then BitVec.ofNat 2 (min (t.acceptedM.toNat + 1) maxMult) else t.trial }
    else t

/-- MAX_MULT of a tier. -/
def State.maxMult (s : State) (t : Nat) : Nat := s.fld .scbSeason t 6 2

/-- The judgement of a wake pass (R157). -/
def State.judgeWake (s : State) (t : Nat) : State :=
  let x := s.tier t
  let used := x.usedMult.toNat
  let tooMany := decide (s.fld .scbSeasonCfg 0 16 7 * x.wakeT < 100 * x.wakeK)
  let retry := BitVec.ofNat 8 (s.fld .scbSeasonCfg 0 24 8)
  let trying := decide (used = x.trial.toNat) && decide (x.acceptedM.toNat < x.trial.toNat)
  let stayed := decide (s.fld .scbSeasonCfg 0 0 16 * 60000000 ≤ s.pwr.p4Stay)
  s.updTier t fun x =>
    if x.wakeBad then { x with season := 0, acceptedM := 0, trial := 0 }
    else if tooMany ∧ trying then { x with trial := x.acceptedM, hold := retry }
    else if tooMany ∧ used = x.acceptedM.toNat ∧ 0 < used then
      { x with acceptedM := x.acceptedM - 1, trial := x.acceptedM - 1, hold := retry }
    else if !tooMany ∧ stayed ∧ trying then
      { x with acceptedM := x.trial, trial := BitVec.ofNat 2 (min (x.trial.toNat + 1) (s.maxMult t)) }
    else x

/-- SCB_SEASONn as read. -/
def State.seasonWord (s : State) (t : Nat) : Word :=
  let x := s.tier t
  packed [(x.season.toNat, 0, 2), (x.acceptedM.toNat, 2, 2), (x.trial.toNat, 4, 2), (s.maxMult t, 6, 2), (x.hold.toNat, 8, 8)]

/-- The Hive core judges what waits: passes that have ended, and wake passes, whose seasons are reported (R26, R155, R157). -/
def State.judgeSeasons (s : State) : State :=
  if !s.hiveOk then s
  else allTiers.foldl (fun s t =>
    let x := s.tier t
    let s := if x.ended.isEmpty then s
      else s.updTier t fun x => { x.ended.foldl (Tier.judgePass (s.maxMult t)) x with ended := [] }
    if x.wakeJudge ∧ !x.wake then
      let s := (s.judgeWake t).updTier t fun x => { x with wakeK := 0, wakeT := 0, wakeBad := false, wakeJudge := false }
      s.postEvent 0x0011 0 0 (BitVec.ofNat 32 t) (s.seasonWord t).toNat
    else s) s

/-! ## Commands -/

/-- SCARAB_READ (R151). -/
def execScarabRead (i : BitVec 10) (s : State) : Host.Outcome State Fault Refusal := .next (s.scarabNext i.toNat)

/-- FORMAT_WRITE (R138): the channel's next format write is queued, at the SCARAB ceiling's pace. -/
def execFormatWrite (i : BitVec 10) (s : State) : Host.Outcome State Fault Refusal :=
  let ok := s.flag .scbCfg 0 0 && s.flag .scbCfg 0 1 && s.serves i.toNat && decide (s.pwr.state.toNat < 2) &&
    !(s.chan i.toNat).hasSrc (· == .format)
  .next (if ok then s.fmtNext 257 i.toNat else s)

/-- SCARAB_PASS_END (R150, R155, R158): the pass has ended on every channel; the Hive core judges the tiers and the next pass
starts. -/
def execScarabPassEnd (s : State) : Host.Outcome State Fault Refusal :=
  if s.scb.running ∧ s.walked s.servingChans Chan.done then
    let s := s.updChans (s.tch.chans.map (·.1)) fun _ c => { c with done := 0 }
    let s := allTiers.foldl (fun s t => s.updTier t Tier.passEnd) s
    .next { s with scb := { s.scb with pass := s.scb.pass + 1, passStart := s.now } }.judgeSeasons
  else .next s

/-- WAKE_PASS_END (R157, R420): the Hive core judges the tier as soon as it runs, and the season is reported. -/
def execWakePassEnd (t : BitVec 5) (s : State) : Host.Outcome State Fault Refusal :=
  let n := t.toNat
  let live := (chansOfTier n).filter s.isServing
  if (s.tier n).wake ∧ s.walked live (fun c => c.wakeAt.getD 65536) then
    let s := s.updTier n fun x => { x with wake := false }
    let s := s.updChans (chansOfTier n) fun _ c => { c with wakeAt := none }
    .next (if (s.tier n).wakeJudge then s.judgeSeasons
      else s.postEvent 0x0011 0 0 (BitVec.ofNat 32 n) (s.seasonWord n).toNat)
  else .next s

end Sys2Proof.Machine
end

