-- ==== Sys2Proof/Machine/Requests.lean ====
section
/-! DEFINITION. Slot transfers (R28 to R34, R89, R90, R131, R141 to R148): choosing and issuing a request, the end of its
burst, the end of its decode, and what each operation does with the contents. -/

namespace Sys2Proof.Machine

/-! ## The order on a channel (R61, R62, R268) -/

/-- Priority of a request's class (R61). -/
def State.classRank (s : State) (i : Nat) (c : Class) : Nat :=
  match c with
  | .maint => 1 | .train => 2 | .repair => 3 | .cal => 4 | .host => 6 | .nmo => 6 | .bist => 8
  | .scarab => if 0 < s.unspentScarab i then 5 else 7

/-- Rank of a HOST or NMO request (R268). -/
def State.tcRank (s : State) (i : Nat) (r : Req) : Nat :=
  match r.tc with
  | none => 0
  | some t => if t = 7 ∧ s.panicked i then 1 else if s.guaranteed t.toNat then 2 else 3

/-- The order in which requests issue: class priority, rank, traffic class, age. -/
def State.urgency (s : State) (i : Nat) (r : Req) : Nat :=
  (s.classRank i r.cls * 4 + s.tcRank i r) * 8 + (7 - (r.tc.getD 0).toNat)

/-- The request takes a merge-buffer slot when it issues: for an internal rewrite (true) or a partial WRITE (R142). -/
def State.mergeKind (s : State) (r : Req) : Option Bool :=
  match r.src with
  | .mergeFetch => some false
  | .scarabRewrite => if r.wr then none else some true
  | .cmdRead => if s.opOf r = some .recode ∨ s.opOf r = some .repair then some true else none
  | .cmdRead2 => none | .cmdWrite => none | .scarab => none | .scarabAgain => none | .format => none

/-- A request of a command whose slot K is not 0: it needs the security engine. -/
def State.keyedReq (s : State) (r : Req) : Bool := (r.cmd.bind s.cmd).any fun c => c.key != 0

/-- The request may issue now (R62, R70, R90, R142, R237). -/
def State.issuable (s : State) (i : Nat) (r : Req) : Bool :=
  !s.reqBlocked r && !s.tooLate r && (s.chan i).active.all (fun x => x.bank != r.bank) && s.mayIssue i r.cls (s.slotQ i) && s.placeOpen i false && s.laneFree i &&
    (s.codecOf (tierOf i)).isSome && !(s.testing 5 && (r.cls == .nmo || r.cls == .scarab || s.keyedReq r)) &&
    match s.mergeKind r with
    | some internal => (s.mergeFree internal).isSome
    | none => true

/-- The request that issues next on a channel. -/
def State.nextReq (s : State) (i : Nat) : Option Req :=
  ((s.chan i).queue.filter (s.issuable i)).foldl (fun a r =>
    match a with
    | none => some r
    | some b =>
      let u := s.urgency i r
      let v := s.urgency i b
      if u < v ∨ (u = v ∧ r.age < b.age) then some r else some b) none

/-! ## Issue (R60, R70, R79, R97, R113, R142, R272) -/

/-- Issues a request: ACT, then RD or WR with AP. -/
def State.issue (s : State) (i : Nat) (r : Req) : State :=
  let phys := if 0x1000 ≤ r.row then r.row else s.physRow i r.bank r.row
  let k := match s.mergeKind r with
    | some internal => s.mergeFree internal
    | none => none
  let s := match k, s.mergeKind r with
    | some k, some internal => s.setMerge k (some { st := .fetch, no := r.age, lbn := r.lbn, internal := internal })
    | _, _ => s
  let r : Req := { r with phys := phys, merge := k <|> r.merge, scb := s.cfgWord .scbCfg 0 }
  let s := ((s.takePlace i false (s.slotQ i)).charge i r.cls (s.slotQ i)).word i opAct r.bank phys
  let s := s.word i (if r.wr then opWr else opRd) r.bank 1
  let s := s.updTier (tierOf i) fun t => { t with nAct := t.nAct + 1, nRd := t.nRd + oneIf (!r.wr), nWr := t.nWr + oneIf r.wr }
  let s := match r.tc with
    | some t => { s with qos := { s.qos with bytes := Tab.upd 0 s.qos.bytes t.toNat fun b => b + 4096 } }
    | none => s
  let s := s.updChan i fun c => { c.countAct (s.fld .wvlCfg 0 0 12) r.bank phys with
    queue := c.queue.filter (fun q => q.age != r.age), active := c.active ++ [r] }
  let s := if r.wr then s.doneIssued r ((r.slot.map fun x => x.gen).getD 0) else s
  (s.issueNrefs i).letIn i

/-! ## What a block's contents go into -/

/-- The request goes to its channel unless the channel refuses it; a held merge slot is in ENCODE meanwhile. -/
def State.submitWrite (s : State) (c : Cmd) (r : Req) : State := (s.mergeTo r.merge .encode).trySubmit c r

/-- Data of an early READ that wait for the PROVISIONAL entry, or go out at once behind it (R260). -/
def State.sendLate (s : State) (id : Nat) (addr : Nat) (bytes : List Byte) : State :=
  match s.cmd id with
  | none => s
  | some c =>
    if c.provOut then s.mwrAll c.tc.toNat addr bytes
    else s.updCmd id fun c => { c with after := c.after ++ [(addr, bytes)] }

/-- Sends the data of an early READ's block as they leave the codec (R256). -/
def State.sendEarly (s : State) (c : Cmd) (r : Req) : State :=
  let raw := s.slotAt r.inst r.bank r.phys
  let stored := match raw with
    | some x => flipData x.data r.errs
    | none => (List.range 4096).map fun k => Config.undefinedByte (s.free + k)
  let s : State := if raw.isNone then { s with free := s.free + 4096 } else s
  let plain := if c.key = 0 then some stored else (s.keyFor c.key.toNat c.id).map fun k => xts true k r.lbn stored
  match plain with
  | none => s
  | some p =>
    let s := s.mwrAll c.tc.toNat (c.dataAddr r.off) (granules (c.gFirst r.off) (c.gLast r.off) p)
    let s := s.updBuf c.id r.off fun b => { b with sent := some stored }
    (s.updCmd c.id fun c => { c with sent := c.sent + 1 }).judgeProvisional c.id

/-- Amending writes of a block: every covered granule whose stored bytes were corrected, or all of them where a ZERO block
was decrypted, or where no key let its data leave early (R258). -/
def State.amend (s : State) (c : Cmd) (o : Nat) (x : Slot) (p : List Byte) : State :=
  let gs := (List.range 64).filter fun g => decide (c.gFirst o ≤ g) && decide (g ≤ c.gLast o)
  let bad := gs.filter fun g => (x.zero && c.key != 0) || (c.buf o).sent.elim true fun old => granules g g old != granules g g x.data
  let s := bad.foldl (fun s g => s.sendLate c.id (c.dataAddr o + 64 * (g - c.gFirst o)) (granules g g p)) s
  if bad.isEmpty then s else s.updCmd c.id fun c => { c with amended := true }

/-- The outcome of a READ's block (R215, R216, R242, R245, R250, R258). -/
def State.readDone (s : State) (c : Cmd) (r : Req) (d : Decode) (x : Slot) : State :=
  let o := r.off
  let s := s.updCmd c.id fun c => { c with
    gen0 := if o = 0 then x.gen else c.gen0, zero0 := if o = 0 then x.zero else c.zero0,
    san0 := if o = 0 then x.san else c.san0, anyCorr := c.anyCorr || d.bits != 0 }
  if !x.zero ∧ x.key ≠ 0 ∧ s.secOut then s.endBlock c.id o false (some (0x10, 0x03)) r.sawForced
  else if c.desc.opnd1.getLsbD 0 ∧ x.gen ≠ c.desc.opnd0 then
    { s with rng := { s.rng with cntGen := satInc s.rng.cntGen 1 } }.endBlock c.id o false (some (0x17, 0)) r.sawForced
  else match s.plainOf c r.lbn x with
  | .error f => s.endBlock c.id o false (some f) r.sawForced
  | .ok p =>
    let a := s.checkPlain c r.lbn x d p
    let part := granules (c.gFirst o) (c.gLast o) p
    let sum := wordsBytes [crc32c part]
    let s := if c.early then a.1.amend c o x p else a.1.mwrAll c.tc.toNat (c.dataAddr o) part
    let s := if c.raw then s
      else if c.early then s.sendLate c.id (c.trailerAddr o) sum else s.mwrAll c.tc.toNat (c.trailerAddr o) sum
    s.endBlock c.id o true (if a.2 then none else some (0x13, 0)) r.sawForced

/-- Bytes of host data that a block takes. -/
def Cmd.blockBytes (c : Cmd) (o : Nat) : Nat := 64 * (c.gLast o + 1 - c.gFirst o)

/-- The part number of a block's trailer value. -/
def trailerPart : Nat := 100

/-- The contents a WRITE stores for merged or whole plaintext, handed to the channel. -/
def State.writeSlot (s : State) (c : Cmd) (r : Req) (p : List Byte) : State :=
  match s.storedForm c r.lbn p with
  | .error (st, sd) => s.failReq r st sd
  | .ok x =>
    s.submitWrite c { c.req .cmdWrite r.off r.lbn true with
      slot := some (newSlot x (crc32c p) c.key false false false c.desc.owner), fresh := true, merge := r.merge,
      sawForced := r.sawForced }

/-- The fetch of a partial WRITE has decoded (R143 to R146). -/
def State.mergeDone (s : State) (c : Cmd) (r : Req) (d : Decode) (x : Slot) : State :=
  match s.plainOf c r.lbn x with
  | .error (st, sd) => s.failReq r st sd
  | .ok p =>
    let a := s.checkPlain c r.lbn x d p
    if !a.2 then a.1.failReq r 0x13 0
    else
      let o := r.off
      let new := (c.buf o).bytes 8
      let merged := p.take (64 * c.gFirst o) ++ new ++ p.drop (64 * (c.gLast o + 1))
      (a.1.mergeTo r.merge .merge).writeSlot c r merged

/-- A source block of COPY has decoded (R220). -/
def State.copyDone (s : State) (c : Cmd) (r : Req) (d : Decode) (x : Slot) : State :=
  match s.plainOf c r.lbn x with
  | .error (st, sd) => s.failReq r st sd
  | .ok p =>
    let a := s.checkPlain c r.lbn x d p
    let l := (c.second.getD 0) + r.off
    if !a.2 then a.1.failReq r 0x13 0
    else
      let put (y : Slot) : State := a.1.trySubmit c { c.req .cmdWrite r.off l true with slot := some y, fresh := true }
      if x.zero then put { zeroSlot false false x.owner with crc := x.crc }
      else match a.1.storedForm c l p with
      | .error (st, sd) => a.1.failReq r st sd
      | .ok y => put (newSlot y x.crc x.key false false false x.owner)

/-- Feeds a block of CHECK (R222, R251). -/
def State.checkDone (s : State) (c : Cmd) (r : Req) (d : Decode) (x : Slot) : State :=
  let feed (s : State) (p : List Byte) : State :=
    (s.updCmd c.id fun c => { c with vals := Tab.set 0 c.vals r.off (crc64 0 p) }).endBlock c.id r.off true none r.sawForced
  if !c.desc.opnd2.getLsbD 0 then feed s x.data
  else match s.plainOf c r.lbn x with
  | .error (st, sd) => s.failReq r st sd
  | .ok p =>
    let a := s.checkPlain c r.lbn x d p
    if a.2 then feed a.1 p else a.1.failReq r 0x13 0

/-- A block of RECODE has decoded: its contents go back at NEW (R225). -/
def State.recodeDone (s : State) (c : Cmd) (r : Req) (x : Slot) : State :=
  (s.mergeTo r.merge .merge).submitWrite c { c.req .cmdWrite r.off r.lbn true with slot := some x, merge := r.merge }

/-- Overwrites a block with the contents of R226. -/
def State.sanitizeWrite (s : State) (c : Cmd) (o l : Nat) : State :=
  s.trySubmit c { c.req .cmdWrite o l true with slot := some (zeroSlot true false 0), fresh := true }

/-- A block of SANITIZE with ALL 0 has decoded (R226). -/
def State.sanitizeDone (s : State) (c : Cmd) (r : Req) (x : Slot) : State :=
  if x.key = c.key then
    s.submitHeld c { c.req .cmdWrite r.off r.lbn true with slot := some (zeroSlot true false 0), fresh := true }
  else s.endBlock c.id r.off true none r.sawForced

/-- The row of a REPAIR has decoded: the lowest free spare takes its contents (R114 step 4, R115). -/
def State.repairDone (s : State) (c : Cmd) (r : Req) (x : Slot) : State :=
  match s.freeSpares r.inst r.bank with
  | [] => s.failReq r 0x10 0x04
  | sp :: _ =>
    let s := (s.updCmd c.id fun c => { c with aux := sp }).mergeTo r.merge .merge
    s.submitWrite c { c.req .cmdWrite r.off r.lbn true with row := 0x1000 + sp, phys := 0x1000 + sp, slot := some x, merge := r.merge }

/-- What a command does with a block it has read, once the decode has ended. -/
def State.contentsRead (s : State) (c : Cmd) (r : Req) (d : Decode) (x : Option Slot) : State :=
  let two := c.op == .compare || c.op == .verify
  match x, d with
  | none, _ => if two then s.sideDone c r none (some (0x12, 0)) else s.failReq r 0x12 0
  | some _, .uncorrectable => if two then s.sideDone c r none (some (0x12, 0)) else s.failReq r 0x12 0
  | some x, d =>
    match c.op with
    | .read => s.readDone c r d x
    | .write => s.mergeDone c r d x
    | .copy => s.copyDone c r d x
    | .check => s.checkDone c r d x
    | .compare => s.sideDone c r (some (x, d.bits)) none
    | .verify => s.sideDone c r (some (x, d.bits)) none
    | .recode => s.recodeDone c r x
    | .sanitize => s.sanitizeDone c r x
    | .repair => s.repairDone c r x
    | .nop => s | .flush => s | .fill => s | .keyLoad => s | .keyDestroy => s | .attest => s | .getLog => s
    | .setLatency => s | .abort => s

/-! ## The end of a burst -/

/-- The request of a block of a command is the first to touch its slot: it counts in EXAMINED (R213). -/
def Cmd.firstTouch (c : Cmd) (r : Req) : Bool :=
  match r.src with
  | .cmdRead => true
  | .cmdWrite => c.op == .fill || (c.op == .sanitize && c.desc.opnd0.getLsbD 0)
  | .cmdRead2 => false | .mergeFetch => false | .scarab => false | .scarabAgain => false | .scarabRewrite => false
  | .format => false

/-- Counts a block as examined. -/
def State.examine (s : State) (r : Req) : State :=
  match r.cmd.bind s.cmd with
  | some c => if c.firstTouch r then s.tally c.id fun t => { t with examined := t.examined + 1 } else s
  | none => s

/-- A WR burst of a command has ended. -/
def State.cmdWritten (s : State) (r : Req) : State :=
  match r.cmd.bind s.cmd with
  | none => s
  | some c =>
    if !c.running.contains r.off then s
    else match c.op with
    | .recode =>
      ((s.recodeMark r.lbn).updCmd c.id fun c => { c with done := c.done + 1 }).endBlock c.id r.off false none r.sawForced
    | .repair =>
      let pl := placeOf c.intlv c.base
      (s.updCmd c.id fun c => { c with phase := 2 }).otpAsk (otpCmd 3 c.id (recordW0 pl.1 pl.2.1 pl.2.2 c.aux))
    | _ => s.endBlock c.id r.off false none r.sawForced

/-- CK_CODEC is too slow for a tier: its rows decode UNCORRECTABLE, and what is written to it does so later (R412) (log 73). -/
def State.codecSlow (s : State) (t : Nat) : Bool := s.flag .clkDiv 0 4 && decide ((s.tier t).freqNow.toNat < 2)

/-- What follows a WR burst. -/
def State.written (s : State) (r : Req) : State :=
  let s := (s.putSlot r.inst r.bank r.phys (if s.codecSlow (tierOf r.inst) then none else r.slot)).mergeRelease r.merge
  match r.src with
  | .cmdWrite => s.cmdWritten r
  | .scarabRewrite => s.scarabGoes (mkReq .scarabAgain none r.off r.lbn (r.inst, r.bank, r.row) false .scarab none r.ord)
  | .format => s.fmtWritten r
  | .cmdRead => s | .cmdRead2 => s | .mergeFetch => s | .scarab => s | .scarabAgain => s

/-- What follows a RD burst: the slot is in the codec, whose strength is fixed now (R132); early data leave. -/
def State.streamed (s : State) (r : Req) (errs : List Nat) : State :=
  let cfg := s.cfgWord .scbCfg 0
  let r : Req := { r with errs := errs, dstr := s.strengthOf r.lbn, scb := withField cfg 2 1 (fieldOf r.scb 2 1) }
  let s := s.updChan r.inst fun c => { c with dec := c.dec ++ [r] }
  match r.cmd.bind s.cmd with
  | some c => if c.early ∧ c.running.contains r.off then s.sendEarly c r else s
  | none => s

/-- What a channel may do once a burst or a decode of it has ended. -/
def State.afterTransfer (s : State) (i : Nat) : State := 
  (((((s.releasePlace i).judgeTierReset (tierOf i)).judgeFreq (tierOf i)).judgeRetrain i).letIn i).settle

/-- BURST_COMPLETE (R29, R143, R209): bursts of a channel end in the order they were issued (log 92). -/
def execBurstComplete (i : BitVec 10) (errs : List Nat) (s : State) : Host.Outcome State Fault Refusal :=
  match (s.chan i.toNat).active with
  | [] => .next s
  | r :: rest =>
    let s := (s.updChan i.toNat fun c => { c with active := rest }).examine r
    let s := if r.wr then s.written r else s.streamed r errs
    .next (s.afterTransfer i.toNat)

/-! ## The end of a decode -/

/-- Page-code counters of the node epoch (R159), the tier's pass and wake marks (R155, R157). -/
def State.countDecode (s : State) (t : Nat) (d : Decode) : State :=
  match d with
  | .clean => s
  | .corrected k => { s with pcd := { s.pcd with corr := s.pcd.corr + 1, bits := s.pcd.bits + k } }
  | .uncorrectable =>
    let s := { s with pcd := { s.pcd with ue := s.pcd.ue + 1 } }
    s.updTier t fun x => { x with passBad := true, wakeBad := x.wakeBad || x.wake }

/-- An uncorrectable read freezes its channel; while the channel's mode register 6 is being read, that is settled first: a command
error froze it earlier (R106). -/
def State.freezeRead (s : State) (i bank row : Nat) : State :=
  let c := s.chan i
  let w := c.words.getLastD 0
  if !c.parWait then s.freeze i 1 bank row w
  else if c.uncWait.isSome then s
  else s.updChan i fun c => { c with uncWait := some { bank := bank, row := row, word := w, age := s.rng.nextAge } }

/-- DECODE_END (R131, R106, R152, R153, R245): slots of one channel leave the codec in the order they entered it. -/
def execDecodeEnd (i : BitVec 10) (mis : Option Slot) (s : State) : Host.Outcome State Fault Refusal :=
  match (s.chan i.toNat).dec with
  | [] => .next s
  | r :: rest =>
    let s := s.updChan i.toNat fun c => { c with dec := rest }
    let held := if s.codecSlow (tierOf i.toNat) then none else s.slotAt r.inst r.bank r.phys
    let a := decodeOutcome held r.dstr r.errs mis
    let s := s.countDecode (tierOf i.toNat) a.1
    let own := isScarab r.src
    let s := if own then s.scarabDecoded r a.1 a.2 else s.logOther r a.1
    let s := match r.cmd with
      | some id => s.tally id fun t => t.decoded a.1
      | none => s
    let s := if a.1 = .uncorrectable then s.freezeRead i.toNat r.bank r.phys else s
    let s := match r.cmd.bind s.cmd with
      | some c => if c.running.contains r.off then s.contentsRead c r a.1 a.2 else s.mergeRelease r.merge
      | none => if own then s else s.mergeRelease r.merge
    .next (s.afterTransfer i.toNat)

/-- A probe of a calibration round issues on a channel (R61, R383): a RD with TRN set for a read code, a WR and a RD for a write
code, charged to CAL in the epoch in which it issues (R53); none where it may not issue (R62, R70). -/
def State.calProbe (s : State) (i : Nat) : Option State :=
  let p := s.probesLeft i
  let rd := decide (0 < p.1)
  let q := s.cyclesQ i (if rd then 129 else 258)
  if p = (0, 0) ∨ !s.mayIssue i .cal q ∨ !s.placeOpen i false then none
  else
    let s := (s.takePlace i false q).charge i .cal q
    let s := if rd then s else s.word i opWr 0 2
    let s := s.word i opRd 0 2
    some { s with cal := { s.cal with probes := Tab.set (0, 0) s.cal.probes i (if rd then (p.1 - 1, p.2) else (p.1, p.2 - 1)) } }

/-- REQUEST_ISSUE (R61, R90): owed refreshes go first; then the channel's next request issues, if one may, or a probe of a
calibration round where no request of a class before CAL may. -/
def execRequestIssue (i : BitVec 10) (s : State) : Host.Outcome State Fault Refusal :=
  let n := i.toNat
  if !s.serves n ∨ !s.refreshes n ∨ (s.chan n).parWait ∨ (s.tier (tierOf n)).changing ∨ s.bst.state = 2 ∨ 2 ≤ s.pwr.state.toNat ∨ s.pwr.gateA ∨ s.pwr.gateB ∨
      s.pwr.closeQ.contains (tierOf n) ∨ s.clk.tripped.contains 0 ∨ s.clk.tripped.contains 1 ∨ s.underTest n ∨
      s.die.blockBusy.contains (BitVec.ofNat 8 (0x20 + tierOf n)) then .next s
  else
    let s := ((s.issueOwed n).issueNrefs n).letIn n
    match s.nextReq n with
    | some r =>
      if s.classRank n r.cls < s.classRank n .cal then .next (s.issue n r) else .next ((s.calProbe n).getD (s.issue n r))
    | none => .next ((s.calProbe n).getD s)

/-! ## Refresh and command errors -/

/-- REFRESH_DUE (R91 to R94, R99): a due instant that has come, after which the next follows at the interval in force; with
`ahead`, a REF that the controller issues ahead of time. -/
def execRefreshDue (i : BitVec 10) (ahead : Bool) (s : State) : Host.Outcome State Fault Refusal :=
  let n := i.toNat
  if !s.refreshes n then .next s
  else if ahead then
    if s.underTest n then .next s
    else if 0 < (s.chan n).debt then .next (s.issueOwed n)
    else if (s.chan n).queue.isEmpty ∧ -8 < (s.chan n).debt ∧ s.placeOpen n true then .next (s.issueRef n)
    else .next s
  else if s.now < (s.chan n).dueAt then .next s
  else
    let step := s.refreshTicks (tierOf n)
    let s := s.updChan n fun c =>
      let c := if c.dueCount = 0 then c.clearWeevil else c
      { c with dueCount := (c.dueCount + 1) % 4128, debt := min 8 (c.debt + 1), dueAt := c.dueAt + step }
    .next ((s.issueOwed n).issueNrefs n)

/-- TALERT_LOW (R106): every serving channel of the tier stops issuing until its mode register 6 has been read. -/
def execTalertLow (t : BitVec 5) (s : State) : Host.Outcome State Fault Refusal :=
  let live := (chansOfTier t.toNat).filter s.serves
  .next (live.foldl (fun s i =>
    (s.updChan i fun c => { c with
      parWait := true, alertN := if c.parWait then c.alertN else 0
      alertAge := if c.parWait then c.alertAge else s.rng.nextAge }).word i opMrr 0 (mrwOperand 6 0)) s)

/-- MR6_READ_DONE (R106, R107): a channel that reads PAR_ERR freezes, with the words of its suspect window; another goes
on at once, unless a read of it has decoded uncorrectable meanwhile (log 95). -/
def execMr6ReadDone (i : BitVec 10) (parErr : Bool) (win : Nat) (idle : Bool) (s : State) : Host.Outcome State Fault Refusal :=
  let n := i.toNat
  if !(s.chan n).parWait then .next s
  else
    let u := (s.chan n).uncWait
    let s := s.updChan n fun c => { c with parWait := false, uncWait := none }
    .next (if parErr then s.freezeParity n win idle
      else match u with
      | some f => (s.failLate n f.age).freeze n 1 f.bank f.row f.word
      | none => s)

/-- TRAINING_PROBE_DONE (R101). -/
def execTrainingProbeDone (i : BitVec 10) (res : ProbeEnd) (s : State) : Host.Outcome State Fault Refusal :=
  .next (s.trainProbe i.toNat res)

/-! ## Channel control (R104, R109, R121): none where the bit is ignored -/

/-! RESUME or DISCARD written while the same bit reads 1 is ignored and reported too (DESIGN CHOICE, log 106). -/

def State.resumeChan (s : State) (i : Nat) : Option State :=
  let c := s.chan i
  if c.retired ∨ c.st ≠ .frozen ∨ c.resume ∨ c.discard then none
  else some ((s.updChan i fun c => { c with resume := true }).judgeFreeze i)

def State.discardChan (s : State) (i : Nat) : Option State :=
  let c := s.chan i
  if c.retired ∨ c.st ≠ .frozen ∨ c.resume ∨ c.discard then none
  else some ((s.updChan i fun c => { c with discard := true }).judgeFreeze i)

def State.retrainChan (s : State) (i : Nat) : Option State :=
  let k := s.chanCode i
  if !(s.tier (tierOf i)).powered ∨ (k ≠ 2 ∧ k ≠ 6 ∧ k ≠ 7) then none
  else some ((s.updChan i fun c => { c with retrain := true }).judgeRetrain i)

end Sys2Proof.Machine
end

