-- ==== Sys2Proof/Machine/Identity.lean ====
section
/-! DEFINITION. Identity and keys (R469 to R481, R227, R229): the device key pair, the key-wrapping key, key records, the image's
digest and the attestation report; KEY_LOAD and ATTEST once their host data have come. -/

namespace Sys2Proof.Machine

/-! ## The Oluist image (R472, R473) -/

/-- A field of an image. -/
def imageField (im : List Byte) (at_ n : Nat) : Nat := leVal ((im.drop at_).take n)

def imageLength (im : List Byte) : Nat := imageField im 4 4
def imageVersion (im : List Byte) : Nat := imageField im 8 4
def imageArb (im : List Byte) : Nat := imageField im 0xC 2

/-- LENGTH lies in the range of R473 (log 67). -/
def lengthFits (n : Nat) : Bool := decide (1024 ≤ n) && decide (n ≤ 131072)

/-- The image in Hive core memory, with what a FULL debugger has written over it (R486) (log 65). -/
def Die.held (d : Die) : List Byte :=
  d.hiveMem.foldl (fun im c => if c.1 < im.length then im.set c.1 (c.2.getD 0) else im) d.image

/-- SHA-384 of an image without its signature (R472, R474). -/
def imageDigest (im : List Byte) : List Byte := sha384 (im.take (im.length - 96))

/-! ## The device key pair (R469 to R471) -/

/-- Bytes of fuse words as the shadows hold them, the first byte in bits 7:0 of the first word. -/
def Otp.bytesAt (o : Otp) (a n : Nat) : List Byte := wordsBytes (Tab.getList 0 o.shadow a n)

/-- Words of a run are all not blank. -/
def Otp.allUsed (o : Otp) (a n : Nat) : Bool := (List.range n).all fun k => o.isUsed (a + k)

/-- SEC_STAT.KEYPAIR (R471). -/
def State.keyPair (s : State) : Bool := s.otp.trusted.getLsbD 2 && s.otp.allUsed 0x500 20

/-- The device private scalar, least significant bytes first (R469). -/
def State.deviceD (s : State) : Nat := leVal (s.otp.bytesAt 0x500 12)

/-- The key-agreement scalar (R470); the 48 bytes are read most significant first (log 16). -/
def kxScalar (seed : List Byte) : Nat :=
  beVal (hkdf384 [] seed ("Yaxiath-KX384".toList.map fun c => BitVec.ofNat 8 c.toNat) 48) % n384 + 1

def State.kxD (s : State) : Nat := kxScalar (s.otp.bytesAt 0x50C 8)

/-- SERIAL (R436). -/
def State.serial (s : State) : List Byte := s.otp.bytesAt 0x100 2

/-- KEY_REV as two bytes. -/
def State.keyRev (s : State) : List Byte := leBytes 2 (s.otp.counter 2)

/-- The key-wrapping key that a point agrees on (R476). -/
def State.agreeKwk (s : State) (q : Nat × Nat) : List Byte :=
  let z := (pointBytes (ecMul s.kxD (some q))).take 48
  hkdf384 s.serial z (("Yaxiath-KWK".toList.map fun c => BitVec.ofNat 8 c.toNat) ++ s.keyRev) 32

/-! ## Key records (R478, R479) -/

/-- The pair K1, K2 that a record of 128 bytes unwraps to; none where the unwrap check fails. -/
def State.unwrap (s : State) (slot : Nat) (r : List Byte) : Option (List Byte) :=
  let f (a n : Nat) : List Byte := (r.drop a).take n
  let zeros (l : List Byte) : Bool := l.all fun b => b == 0
  match s.sec.kwk with
  | none => none
  | some kwk =>
    let ct := f 0x30 64
    let plain := gcmCrypt kwk (f 0x20 12) ct
    if f 0 2 = leBytes 2 1 ∧ f 2 2 = leBytes 2 slot ∧ f 4 2 = s.keyRev ∧ f 0x10 8 = s.serial ∧ zeros (f 6 10) ∧ zeros (f 0x18 8) ∧
        zeros (f 0x2C 4) ∧ gcmTag kwk (f 0x20 12) (f 0 0x30) ct = f 0x70 16 ∧ plain.take 32 ≠ plain.drop 32 then some plain
    else none

/-! ## Erasing every slot (R228, R482, R484, R488) -/

/-- Erasures of every slot that holds a key, or that a KEY_LOAD in progress is to fill, as one command of the number `id` would make
them; the key-wrapping key is discarded. -/
def State.eraseAs (s : State) (id : Nat) : State :=
  let loads := (s.rng.cmds.filter fun c => c.op == .keyLoad && decide (c.id < id)).map fun c => c.key.toNat
  let ks := ((s.sec.slots.map fun e => e.1) ++ loads).eraseDups
  { s with sec := { s.sec with kwk := none, erasing := s.sec.erasing ++ ks.map fun k => (k, id) } }

/-- Takes the number that a command fetched now would have. -/
def State.takeId (s : State) : State := { s with rng := { s.rng with nextId := s.rng.nextId + 1 } }

/-- The erasures as one command fetched now would make them. -/
def State.eraseAll (s : State) : State := s.takeId.eraseAs s.rng.nextId

/-- An erasure that no command asked for is still to be done. -/
def State.erasingAll (s : State) : Bool := s.sec.erasing.any fun e => (s.cmd e.2).isNone

/-- A debug level takes effect: a session is open (R488, R492) (log 50). -/
def State.openSession (s : State) (level : BitVec 2) (left : Option Nat) : State :=
  { s with dbg := { s.dbg with
    level := level, max := if s.dbg.max.toNat < level.toNat then level else s.dbg.max, sessions := satInc s.dbg.sessions 1,
    left := left, checking := none, erasing := false } }

/-- Session length of a token, in microseconds; 0 lasts until ended (R487). -/
def sessionLeft (seconds : Nat) : Option Nat := if seconds = 0 then none else some (seconds * 1000000)

/-- FULL in DEPLOYED takes effect once the last erasure is done (R488 step 3), with no key-wrapping key held (R477). -/
def State.fullWhenErased (s : State) : State :=
  if s.dbg.erasing ∧ !s.erasingAll then
    { s with sec := { s.sec with kwk := none } }.openSession 2 (sessionLeft s.dbg.chkDur)
  else s

/-! ## The attestation report (R472) -/

/-- A power-state history entry (R371). -/
def PwrEntry.bytes (e : PwrEntry) : List Byte :=
  leBytes 8 e.time.toNat ++ [e.from_, e.dest] ++ leBytes 2 e.cause.toNat ++ leBytes 4 e.seq.toNat

/-- The certificate's bytes (R471). -/
def State.certificate (s : State) : List Byte := (s.otp.bytesAt 0x11B 997).take (s.otp.sh 0x11A).toNat

/-- The report before its signature. -/
def State.reportBody (s : State) (nonce : List Byte) : List Byte :=
  let h := s.pwr.history
  let im := s.die.held
  let flags := oneIf (s.otp.trusted.getLsbD 1) + 2 * oneIf (s.otp.trusted.getLsbD 2) + 4 * oneIf (s.flag .pwrCfg 0 19) +
    8 * oneIf s.die.imageKept + 16 * oneIf s.sec.kwk.isSome
  leBytes 4 1 ++ leBytes 4 (0x170 + 16 * h.length + 96) ++ nonce ++ s.serial ++ s.otp.bytesAt 0x102 24 ++
    pointBytes (ecMul s.kxD base384) ++ sha384 s.certificate ++
    [BitVec.ofNat 8 s.lifecycle, s.dbg.level.setWidth 8, s.dbg.max.setWidth 8, BitVec.ofNat 8 flags] ++
    leBytes 4 (imageVersion im) ++ leBytes 2 (s.otp.counter 1) ++ leBytes 2 (imageArb im) ++ leBytes 2 (s.otp.counter 2) ++
    leBytes 2 h.length ++ imageDigest im ++ leBytes 8 s.tim.count.toNat ++ leBytes 4 s.dbg.sessions.toNat ++ leBytes 4 0 ++
    h.flatMap PwrEntry.bytes

/-- A scalar from the random-bit generator, between 1 and the group order less 1 (R469). -/
def State.randomScalar (s : State) : Nat × State :=
  let r := s.randoms 12
  (leVal (wordsBytes r.1) % (n384 - 1) + 1, r.2)

/-- The signed report. -/
def State.report (s : State) (nonce : List Byte) : List Byte × State :=
  let body := s.reportBody nonce
  let k := s.randomScalar
  (body ++ ecdsaSign s.deviceD k.1 body, k.2)

/-! ## KEY_LOAD and ATTEST (R227, R229) -/

/-- The checks of R227 that need no record: status and detail of the first that fails. -/
def State.loadRefused (s : State) (k : Nat) : Option (Nat × Nat) :=
  if s.secOut then some (0x10, 0x03)
  else if !s.keyPair then some (0x10, 0x07)
  else if !(Tab.get [] s.sec.slots k).isEmpty then some (0x15, 0x02)
  else none

/-- Gathers host data for a command that has no blocks. -/
def State.gather (s : State) (c : Cmd) (addr bytes : Nat) : State :=
  let parts := partsOf addr bytes
  let b : BlockBuf := { BlockBuf.empty with waits := parts.map fun p => p.1 }
  (s.updCmd c.id fun c => { c with bufs := Tab.set none c.bufs 0 (some b), startAt := some (c.startAt.getD s.now) }).askParts c 0 parts

/-- The start of a KEY_LOAD: it waits for an older erasure of its slot. -/
def State.startLoad (c : Cmd) (s : State) : State :=
  let k := c.key.toNat
  if s.sec.erasing.any fun e => e.1 == k && decide (e.2 < c.id) then s
  else
    let s := s.updCmd c.id fun c => { c with started := true }
    match s.loadRefused k with
    | some f => s.finish c.id (plainFinal f.1 f.2 0 0)
    | none => s.gather c c.desc.addr.toNat 128

/-- The key record has come: it is unwrapped, and the key waits for the final entry. -/
def State.loadArrived (s : State) (c : Cmd) : State :=
  if (c.buf 0).bad then s.finish c.id (plainFinal 0x05 0 0 0)
  else match s.loadRefused c.key.toNat with
  | some f => s.finish c.id (plainFinal f.1 f.2 0 0)
  | none =>
    match s.unwrap c.key.toNat ((c.buf 0).bytes 1) with
    | none => s.finish c.id (plainFinal 0x15 0x03 0 0)
    | some key => (s.updBuf c.id 0 fun b => { b with plain := some key }).finish c.id (plainFinal 0 0 0 0)

/-- The start of an ATTEST, which waits while the Hive core does not run (R26). -/
def State.startAttest (c : Cmd) (s : State) : State :=
  if !s.hiveOk then s
  else
  let s := s.updCmd c.id fun c => { c with started := true }
  if s.secOut then s.finish c.id (plainFinal 0x10 0x03 0 0)
  else if !s.keyPair then s.finish c.id (plainFinal 0x10 0x07 0 0)
  else s.gather c c.desc.addr2.toNat 32

/-- The nonce has come: the Hive core builds the report in one pass once it runs, signs it and writes it (R26). -/
def State.attestArrived (s : State) (c : Cmd) : State :=
  if !s.hiveOk ∨ s.testing 5 then s
  else if (c.buf 0).bad then s.finish c.id (plainFinal 0x05 0 0 0)
  else if s.secOut then s.finish c.id (plainFinal 0x10 0x03 0 0)
  else
    let r := s.report ((c.buf 0).bytes 1)
    (r.2.mwrAll c.tc.toNat c.desc.addr.toNat r.1).finish c.id (plainFinal 0 0 (BitVec.ofNat 32 r.1.length) 0)

end Sys2Proof.Machine
end

