-- ==== Sys2Proof/Machine/Commands.lean ====
section
/-! DEFINITION. The commands of the rings (R204 to R238, R255): their start checks, the start of each block, the arrival of
host data, key erasure and ABORT. -/

namespace Sys2Proof.Machine

/-! ## Turns -/

/-- A segment of logic BIST tests the ring engine, or the NMO or security engine that a command needs (R456, R460). -/
def State.engineTested (s : State) (c : Cmd) : Bool :=
  s.testing 4 || (s.testing 5 && (c.op.nmo || c.key != 0 || c.op == .keyLoad || c.op == .keyDestroy || c.op == .attest))

/-- One turn of a command, unless a block that it needs is under test (R460): it starts once no fence holds it, and then starts one block after the other (R190, R209, R210). -/
def State.turn (s : State) (id : Nat) (op : Op) (start : Cmd → State → State) (block : Cmd → Nat → State → State) : State :=
  match s.cmd id with
  | none => s
  | some c =>
    if c.op ≠ op ∨ c.final.isSome ∨ s.engineTested c then s
    else if !c.started then (if s.mayStart c then start c s else s)
    else if c.next < c.count ∧ !c.stopped ∧ !c.aborted ∧ !s.abortedLate c then block c c.next s
    else s

/-- The command has passed its start checks. -/
def State.begin_ (s : State) (c : Cmd) : State := s.updCmd c.id fun c => { c with started := true }

/-- Starts a block that waits for nothing but its requests. -/
def State.startBlock (s : State) (c : Cmd) (o : Nat) : State := s.openBlock c.id o .empty

/-- Starts a block and fails it at once. -/
def State.refuseBlock (s : State) (c : Cmd) (o : Nat) (f : Nat × Nat) : State :=
  (s.startBlock c o).failReq (c.req .cmdRead o (c.base + o) false) f.1 f.2

/-- Starts a block that begins with a read of its slot. -/
def State.readBlock (c : Cmd) (o : Nat) (s : State) : State :=
  (s.startBlock c o).trySubmit c (c.req .cmdRead o (c.base + o) false)

/-- Slot K is named and holds no key, while the engine is in service (R217, R219). -/
def State.keyEmpty (s : State) (c : Cmd) : Bool := c.key != 0 && !s.secOut && (s.keyFor c.key.toNat c.id).isNone

/-! ## READ and WRITE (R215 to R217, R255) -/

/-- The start of a READ: its mode is settled, and a second entry it will not write is released (R178, R255). -/
def State.startRead (c : Cmd) (s : State) : State :=
  let late := c.early && c.key != 0 && ((s.keyFor c.key.toNat c.id).isNone || s.secOut)
  let s := if late then
      (s.updCmd c.id fun c => { c with early := false }).updCq c.cq fun q => { q with reserved := q.reserved - 1 }
    else s
  s.begin_ c

/-- A command that checks slot K first. -/
def State.startKeyed (needs : Cmd → Bool) (c : Cmd) (s : State) : State :=
  if needs c ∧ s.keyEmpty c then s.finish c.id (plainFinal 0x16 0 0 0) else s.begin_ c

/-- A block of a WRITE: its data, and its trailer value unless raw, are fetched (R28 step 4, R243). -/
def State.writeBlock (c : Cmd) (o : Nat) (s : State) : State :=
  match s.refusesFor c.intlv (c.base + o) (c.key != 0) with
  | some f => s.refuseBlock c o f
  | none =>
    let data := partsOf (c.dataAddr o) (c.blockBytes o)
    let parts := if c.raw then data else data ++ [(trailerPart, c.trailerAddr o, 1)]
    (s.openBlock c.id o { BlockBuf.empty with waits := parts.map fun p => p.1 }).askParts c o parts

/-- All host data of a WRITE's block have come: the check, and the write or the merge fetch (R28 steps 4 to 6, R241). -/
def State.writeData (s : State) (c : Cmd) (o : Nat) : State :=
  let b := c.buf o
  let data := b.bytes 8
  let sum := (bytesWords ((b.parts.find? fun p => p.1 == trailerPart).elim [] fun p => p.2)).headD 0
  if !c.raw ∧ crc32c data ≠ sum then
    { s with rng := { s.rng with cntCrc := satInc s.rng.cntCrc 1 } }.endBlock c.id o false (some (0x14, 0)) false
  else if c.full o then s.writeSlot c (c.req .cmdWrite o (c.base + o) true) data
  else s.trySubmit c (c.req .mergeFetch o (c.base + o) false)

/-! ## FILL, COPY, COMPARE, CHECK, VERIFY (R219 to R223) -/

/-- A FILL stores a non-zero pattern under a key. -/
def fillKeyed (c : Cmd) : Bool := c.desc.opnd0 != 0 && c.key != 0

def State.fillBlock (c : Cmd) (o : Nat) (s : State) : State :=
  let l := c.base + o
  match s.refusesFor c.intlv l (fillKeyed c) with
  | some f => s.refuseBlock c o f
  | none =>
    let s := s.startBlock c o
    let r := c.req .cmdWrite o l true
    if c.desc.opnd0 = 0 then s.trySubmit c { r with slot := some (zeroSlot false false c.desc.owner), fresh := true }
    else s.writeSlot c r (wordsBytes (List.replicate 1024 c.desc.opnd0))

/-- A block of COPY: of two blocks refused the first cause in the order of R245 decides (R220, R245; DESIGN CHOICE, log 129). -/
def State.copyBlock (c : Cmd) (o : Nat) (s : State) : State :=
  match worstOf ((s.refuses c.intlv (c.base + o)).toList ++ (s.refuses c.intlv (c.second.getD 0 + o)).toList) with
  | some f => s.refuseBlock c o f
  | none => s.readBlock c o

/-- A block of COMPARE, in mode 1 of two ranges as for COPY (R221; DESIGN CHOICE, log 129). -/
def State.compareBlock (c : Cmd) (o : Nat) (s : State) : State :=
  let l := c.base + o
  match c.second with
  | some b =>
    match worstOf ((s.refuses c.intlv l).toList ++ (s.refuses c.intlv (b + o)).toList) with
    | some f => s.refuseBlock c o f
    | none =>
      let s := s.openBlock c.id o { BlockBuf.empty with rdLeft := 2 }
      (s.trySubmit c (c.req .cmdRead o l false)).trySubmit c (c.req .cmdRead2 o (b + o) false)
  | none =>
    match s.refuses c.intlv l with
    | some f => s.refuseBlock c o f
    | none =>
      let parts := partsOf (c.desc.addr.toNat + 4096 * o) 4096
      let s := (s.openBlock c.id o { BlockBuf.empty with rdLeft := 1, waits := parts.map fun p => p.1 }).askParts c o parts
      s.trySubmit c (c.req .cmdRead o l false)

/-- A block of a VERIFY (log 70). -/
def State.verifyBlock (c : Cmd) (o : Nat) (s : State) : State :=
  match s.refuses c.intlv (c.base + o) with
  | some f => s.refuseBlock c o f
  | none =>
    let parts : List (Nat × Nat × Nat) := if c.desc.addr = 0 then [] else [(0, c.desc.addr.toNat + 4 * o, 1)]
    let s := (s.openBlock c.id o { BlockBuf.empty with rdLeft := 1, waits := parts.map fun p => p.1 }).askParts c o parts
    s.trySubmit c (c.req .cmdRead o (c.base + o) false)

/-! ## RECODE (R224, R225) -/

def Cmd.region (c : Cmd) : Nat := fieldOf c.desc.opnd0 0 8

/-- The five steps of R224. -/
def State.startRecode (c : Cmd) (s : State) : State :=
  let others := s.rng.cmds.filter fun x => x.id != c.id && x.op == .recode && x.started
  let old := fieldOf c.desc.opnd0 8 3
  let new := fieldOf c.desc.opnd0 12 3
  if others.any fun x => x.region == c.region then s
  else match s.openWindow c.region with
  | some k =>
    let w := s.window k
    if w.old.toNat = old ∧ w.new.toNat = new then
      s.updCmd c.id fun c => { c with started := true, next := w.pointer }
    else s.finish c.id (plainFinal 0x02 0x20 0 0)
  | none =>
    let map := s.fld .pcdSmap c.region 0 3
    if map = new then s.finish c.id (plainFinal 0 0 (BitVec.ofNat 32 (2 ^ 18)) 0)
    else if map ≠ old then s.finish c.id (plainFinal 0x02 0x20 0 0)
    else match (List.range 4).find? fun k => !(s.window k).open_ with
    | some k =>
      let w : Window := { open_ := true, region := BitVec.ofNat 8 c.region, old := BitVec.ofNat 3 old, new := BitVec.ofNat 3 new,
                          pointer := 0, mask := [] }
      (s.setWindow k w).begin_ c
    | none => if others.isEmpty then s.finish c.id (plainFinal 0x10 0x06 0 0) else s

/-- The next block of a RECODE: at most 256 above POINTER, passing blocks already recoded; none once the window has closed
(R134). -/
def State.recodeBlock (c : Cmd) (o : Nat) (s : State) : State :=
  match s.openWindow c.region with
  | none => (s.updCmd c.id fun c => { c with next := c.count }).tryFinish c.id
  | some k =>
    let w := s.window k
    if w.pointer + 256 ≤ o then s
    else if o < w.pointer ∨ w.mask.contains (o - w.pointer) then
      (s.updCmd c.id fun c => { c with next := o + 1 }).tryFinish c.id
    else match s.refuses c.intlv (c.base + o) with
    | some f => s.refuseBlock c o f
    | none => s.readBlock c o

/-! ## SANITIZE, KEY_DESTROY and key erasure (R226, R228) -/

/-- A command with an erasure waits for it; one that found the engine out of service at its fetch ends (R44). -/
def State.startErasing (c : Cmd) (s : State) (go : State) : State :=
  if c.phase = 0 then s.finish c.id (plainFinal 0x10 0x03 0 0)
  else if c.phase = 2 then go
  else s

def State.startSanitize (c : Cmd) (s : State) : State :=
  if c.key = 0 then s.begin_ c else s.startErasing c (s.begin_ c)

def State.sanitizeBlock (c : Cmd) (o : Nat) (s : State) : State :=
  let l := c.base + o
  match s.refuses c.intlv l with
  | some f => s.refuseBlock c o f
  | none => if c.desc.opnd0.getLsbD 0 then (s.startBlock c o).sanitizeWrite c o l else s.readBlock c o

/-- An erasure that waits while the security engine goes out of service is not carried out: its command ends UNAVAILABLE (R44). -/
def State.failErasure (s : State) (e : Nat × Nat) : State :=
  { s with sec := { s.sec with erasing := s.sec.erasing.erase e } }.finish e.2 (plainFinal 0x10 0x03 0 0)

/-- Overwrites a key slot: the oldest erasure of it that no command holds back is done (R228 steps 2 and 3). -/
def State.eraseKey (s : State) (k : Nat) : State :=
  match s.sec.erasing.find? fun e => e.1 == k && (s.keyUsers k e.2).isEmpty with
  | none => s
  | some e =>
    if s.secOut then s.failErasure e
    else
    let held := oneIf !(Tab.get [] s.sec.slots k).isEmpty
    let s := { s with sec := { s.sec with slots := Tab.set [] s.sec.slots k [], erasing := s.sec.erasing.erase e } }
    s.updCmd e.2 fun c => { c with phase := 2, aux := held }

/-! ## Commands without blocks (R218, R233, R234) -/

def State.startNop (c : Cmd) (s : State) : State :=
  (s.updCmd c.id fun c => { c with started := true, phase := 1 }).finish c.id (plainFinal 0 0 c.desc.opnd0 0)

def State.startFlush (c : Cmd) (s : State) : State := (s.begin_ c).finish c.id (plainFinal 0 0 (BitVec.ofNat 32 c.aux) 0)

def State.startLatency (c : Cmd) (s : State) : State :=
  (s.updCmd c.id fun c => { c with started := true, phase := 1 }).finish c.id (plainFinal 0 0 0 0)

/-! ## REPAIR (R114, R230) -/

def State.repairBlock (c : Cmd) (o : Nat) (s : State) : State :=
  match s.refuses c.intlv (c.base + o) with
  | some f => s.refuseBlock c o f
  | none => s.readBlock c o

/-! ## ABORT (R236 to R238) -/

/-- A request belongs to a block of a command. -/
def Req.ofBlock (r : Req) (id o : Nat) : Bool := r.cmd == some id && r.off == o

/-- A started block has passed its point of no return (R237). -/
def State.pastReturn (s : State) (c : Cmd) (o : Nat) : Bool :=
  let b := c.buf o
  let issued (p : Req → Bool) : Bool := s.tch.chans.any fun e => (e.2.active ++ e.2.dec).any fun r => r.ofBlock c.id o && p r
  let queued (p : Req → Bool) : Bool := s.tch.chans.any fun e => (e.2.queue ++ e.2.ringq).any fun r => r.ofBlock c.id o && p r
  match c.op with
  | .write => issued fun r => r.wr
  | .fill => issued fun r => r.wr
  | .copy => issued fun r => r.wr
  | .sanitize => issued fun r => r.wr
  | .repair => c.phase == 2
  | .recode => issued (fun _ => true) || queued fun r => r.wr
  | _ => issued (fun _ => true) || b.side1.isSome || b.side2.isSome || b.rdFail.isSome

/-- Drops a block: its requests that wait are withdrawn, and a merge-buffer slot it holds is freed. -/
def State.dropBlock (s : State) (id o : Nat) : State :=
  let mine (r : Req) : Bool := r.ofBlock id o
  let held := s.tch.chans.flatMap fun e => (e.2.queue ++ e.2.ringq ++ e.2.active ++ e.2.dec).filterMap fun r =>
    if mine r then r.merge else none
  let s := held.foldl (fun s k => s.mergeRelease (some k)) s
  let forget (r : Req) : Req := if mine r then { r with merge := none } else r
  let s := s.updChans (s.tch.chans.map fun e => e.1) fun _ c => { c with
    queue := c.queue.filter (fun r => !mine r), ringq := c.ringq.filter (fun r => !mine r),
    active := c.active.map forget, dec := c.dec.map forget }
  (s.updCmd id fun c => { c with running := c.running.erase o, bufs := Tab.set none c.bufs o none }).letInAll

/-- Applies an ABORT to one matched command. -/
def State.abortCmd (s : State) (id : Nat) : State :=
  match s.cmd id with
  | none => s
  | some c =>
    let away (s : State) : State := (s.updCmd id fun c => { c with aborted := true, final := none, waitIds := [], waitMrg := [] }).tryFinish id
    match c.op with
    | .nop => s | .setLatency => s | .keyDestroy => s | .abort => s
    | .flush => away s
    | _ =>
      if c.op = .repair ∧ c.phase = 2 then s
      else if c.final.isSome then (if c.count ≤ c.next ∧ !c.short then s else if 0 < c.count then away s else s)
      else
        let drop := c.running.filter fun o => !s.pastReturn c o
        let blocks := decide (0 < c.count)
        if blocks ∧ drop.isEmpty ∧ c.count ≤ c.next ∧ !c.short then s
        else away (drop.foldl (fun s o => s.dropBlock id o) s)

/-- The ABORT itself: it ends after every command it matched (log 71). -/
def State.startAbort (c : Cmd) (s : State) : State :=
  let s := s.begin_ c
  if c.waitIds.isEmpty then
    s.finish c.id (plainFinal (if c.aux = 1 then 0x21 else 0x22) 0 0 0)
  else
    let s := c.waitIds.foldl State.abortCmd s
    s.finish c.id (plainFinal 0 0 0 0)

/-! ## Host data -/

/-- A part of a block's host data has come, or its MRD has failed (R217, R340) (log 68). -/
def State.partArrived (s : State) (id o part : Nat) (bytes : Option (List Byte)) : State :=
  let s := s.updBuf id o fun b => { b with
    waits := b.waits.erase part, parts := b.parts ++ (bytes.map fun x => (part, x)).toList, bad := b.bad || bytes.isNone }
  match s.cmd id with
  | none => s
  | some c =>
    let ready := c.final.isNone && !c.aborted && ((c.buf o).bad || (c.buf o).waits.isEmpty)
    if c.op = .keyLoad then (if ready then s.loadArrived c else s)
    else if c.op = .attest then (if ready then s.attestArrived c else s)
    else if !c.running.contains o then s
    else match c.op with
    | .write =>
      if (c.buf o).bad then s.endBlock id o false (some (0x05, 0)) false
      else if (c.buf o).waits.isEmpty then s.writeData c o else s
    | .compare => s.judgeCompare c o
    | .verify => s.judgeVerify c o
    | _ => s

/-! ## Commands -/

def noBlock (_ : Cmd) (_ : Nat) (s : State) : State := s
def startPlain (c : Cmd) (s : State) : State := s.begin_ c

/-- NOP (R234). -/
def execNop (id : Nat) (s : State) : Host.Outcome State Fault Refusal := .next (s.turn id .nop State.startNop noBlock)
/-- READ (R215). -/
def execRead (id : Nat) (s : State) : Host.Outcome State Fault Refusal := .next (s.turn id .read State.startRead State.readBlock)
/-- WRITE (R217). -/
def execWrite (id : Nat) (s : State) : Host.Outcome State Fault Refusal :=
  .next (s.turn id .write (State.startKeyed fun _ => true) State.writeBlock)
/-- FLUSH (R218). -/
def execFlush (id : Nat) (s : State) : Host.Outcome State Fault Refusal := .next (s.turn id .flush State.startFlush noBlock)
/-- FILL (R219). -/
def execFill (id : Nat) (s : State) : Host.Outcome State Fault Refusal :=
  .next (s.turn id .fill (State.startKeyed fillKeyed) State.fillBlock)
/-- COPY (R220). -/
def execCopy (id : Nat) (s : State) : Host.Outcome State Fault Refusal := .next (s.turn id .copy startPlain State.copyBlock)
/-- COMPARE (R221). -/
def execCompare (id : Nat) (s : State) : Host.Outcome State Fault Refusal :=
  .next (s.turn id .compare startPlain State.compareBlock)
/-- CHECK (R222). -/
def execCheck (id : Nat) (s : State) : Host.Outcome State Fault Refusal := .next (s.turn id .check startPlain State.readBlock)
/-- VERIFY (R223). -/
def execVerify (id : Nat) (s : State) : Host.Outcome State Fault Refusal :=
  .next (s.turn id .verify startPlain State.verifyBlock)
/-- RECODE (R224). -/
def execRecode (id : Nat) (s : State) : Host.Outcome State Fault Refusal :=
  .next (s.turn id .recode State.startRecode State.recodeBlock)
/-- SANITIZE (R226). -/
def execSanitize (id : Nat) (s : State) : Host.Outcome State Fault Refusal :=
  .next (s.turn id .sanitize State.startSanitize State.sanitizeBlock)
/-- REPAIR (R230). -/
def execRepair (id : Nat) (s : State) : Host.Outcome State Fault Refusal :=
  .next (s.turn id .repair startPlain State.repairBlock)
/-- SET_LATENCY (R233). -/
def execSetLatency (id : Nat) (s : State) : Host.Outcome State Fault Refusal :=
  .next (s.turn id .setLatency State.startLatency noBlock)
/-- ABORT (R236). -/
def execAbort (id : Nat) (s : State) : Host.Outcome State Fault Refusal := .next (s.turn id .abort State.startAbort noBlock)
/-- KEY_ERASE (R228): the slot is overwritten once no older command needs it, and KEY_DESTROY or SANITIZE goes on. -/
def execKeyErase (k : BitVec 10) (s : State) : Host.Outcome State Fault Refusal := .next (s.eraseKey k.toNat).fullWhenErased
/-- KEY_LOAD (R227). -/
def execKeyLoad (id : Nat) (s : State) : Host.Outcome State Fault Refusal := .next (s.turn id .keyLoad State.startLoad noBlock)
/-- An ATTEST whose nonce came while the Hive core did not run goes on (R26). -/
def State.attestGo (s : State) (id : Nat) : State :=
  match s.cmd id with
  | none => s
  | some c =>
    match Tab.get none c.bufs 0 with
    | some b => if c.op = .attest ∧ c.started ∧ c.final.isNone ∧ !c.aborted ∧ (b.bad ∨ b.waits.isEmpty) then s.attestArrived c else s
    | none => s

/-- ATTEST (R229). -/
def execAttest (id : Nat) (s : State) : Host.Outcome State Fault Refusal :=
  .next ((s.turn id .attest State.startAttest noBlock).attestGo id)
/-- KEY_DESTROY (R228). -/
def execKeyDestroy (id : Nat) (s : State) : Host.Outcome State Fault Refusal :=
  .next (s.turn id .keyDestroy
    (fun c s => s.startErasing c ((s.begin_ c).finish c.id (plainFinal 0 0 (BitVec.ofNat 32 c.aux) 0))) noBlock)

end Sys2Proof.Machine
end

