-- ==== Sys2Proof/Machine/Qos.lean ====
section
/-! DEFINITION. Regulation and admission (08): the adaptation step of the class limits, the byte counts of an epoch, and the
admission computation. -/

namespace Sys2Proof.Machine

/-! ## The adaptation step (R270) -/

/-- The limits of one channel after a step. -/
def State.adaptChan (s : State) (i : Nat) : Tab Nat :=
  let c := s.chan i
  let level := c.queue.length
  let lwm := s.fld .qosCfg 0 0 6
  let hwm := s.fld .qosCfg 0 8 6
  let dec := s.fld .qosCfg 0 24 4
  let w := s.topWaiting i
  (List.range 8).foldl (fun t n =>
    let l := Tab.get 2 t n
    let below : Bool := match w with | some w => decide (n < w) | none => false
    let x :=
      if hwm ≤ level then (if below && !s.belowQuota n then max (s.fld .qosTc n 16 6) (l - dec) else l)
      else if level ≤ lwm then max l (min (s.fld .qosTc n 24 6) (l + 1))
      else l
    Tab.set 2 t n x) c.lim

/-- QOS_ADAPT_STEP (R270): every STEP_US ticks the limits of every channel move, and requests enter as they allow; in P2 to P4
they keep their values (R271). -/
def execQosAdaptStep (s : State) : Host.Outcome State Fault Refusal :=
  if s.now < s.qos.lastStep + s.fld .qosCfg 0 16 6 ∨ 2 ≤ s.pwr.state.toNat then .next s
  else
    let s' := allChans.foldl (fun a i => a.updChan i fun c => { c with lim := s.adaptChan i }) s
    .next { s' with qos := { s'.qos with lastStep := s.now } }.letInAll

/-! ## The epoch boundary (R272, R274) -/

/-- A class has a request waiting in some queue. -/
def State.tcWaits (s : State) (n : Nat) : Bool := s.tch.chans.any fun e => decide (0 < ofTc (e.2.queue ++ e.2.ringq) n)

/-- Step 4 of R51: short classes are counted, the byte counts roll over, and the quotas are judged against the new ones (R273). -/
def State.qosBoundary (s : State) : State :=
  let short := (List.range 8).foldl (fun t n =>
    if s.guaranteed n ∧ s.tcWaits n then Tab.upd 0 t n fun x => min 65535 (x + 1) else t) s.qos.short
  { s with qos := { s.qos with short := short, bytesSnap := s.qos.bytes, bytes := [] } }.judgeQuotas

/-! ## Admission (R280 to R284, R290) -/

/-- The tier clock of r: that of the slowest powered tier with a serving channel. -/
def State.slowClock (s : State) : BitVec 2 := s.servingTiers.foldl (fun f t => if f.toNat < (s.tier t).freqNow.toNat then (s.tier t).freqNow else f) 0

/-- The quantities of R280. -/
structure Admission where
  d     : Nat
  a     : Nat
  m     : Nat
  sc    : Nat
  t     : Nat
  pool  : Nat
  sum   : Nat
  scale : Nat
  app   : List Nat
  deriving DecidableEq, Repr

def State.guars (s : State) : List Nat := (List.range 8).map fun n => s.fld .qosTc n 0 16

/-- The table of R280. -/
def State.admission (s : State) : Admission :=
  let f := s.slowClock
  let r := clock20 f
  let nch := s.nCh
  let d := min (nch * r) (s.nCl * 100)
  let a := d * 16 / 17
  let pm := ceilDiv (nch * s.maintFloor) 1024
  let m := ceilDiv (pm * r * 16) 17
  let q := slotCycles * cycleQ f
  let reads := ceilDiv (s.scarabFloor * microQ) q
  let sc := ceilDiv (s.servingChans.length * r * reads * q * 16) (microQ * 1024 * 17)
  let t := if s.bud.throttled then s.fld .thmThrot 0 16 7 else 100
  let pool := (a - m - sc) * t / 100
  let sum := s.guars.foldl (· + ·) 0
  let scale := if sum ≤ pool then 4096 else 4096 * pool / sum
  { d := d, a := a, m := m, sc := sc, t := t, pool := pool, sum := sum, scale := scale, app := s.guars.map fun g => g * scale / 4096 }

/-- Writes the results of a recomputation, its report entry, and the event of R283; the new quotas are judged in the same cycle
(R281). -/
def State.admitNow (s : State) : State :=
  let x := s.admission
  let e : AdmEntry :=
    { seq := s.qos.repSeq, time := BitVec.ofNat 32 s.now, cause := s.qos.causes, scale := x.scale, d := x.d, a := x.a, m := x.m, s := x.sc,
      pool := x.pool, sum := x.sum, nch := s.nCh, ncl := s.nCl, t := x.t, req := s.guars, app := x.app }
  let log := s.qos.report ++ [e]
  let old := s.qos.scale
  let s := { s with qos := { s.qos with
    applied := Tab.setList 0 [] 0 x.app, scale := x.scale, pool := x.pool, stale := false, causes := 0,
    report := log.drop (log.length - 16), repSeq := s.qos.repSeq + 1 } }
  let s := s.judgeQuotas
  if (x.scale < 4096 ∧ x.scale ≠ old) ∨ (x.scale = 4096 ∧ old < 4096) then
    s.postEvent 0x0004 0 1 (BitVec.ofNat 32 x.scale) 0
  else s

/-- ADMISSION_RECOMPUTE (R281, R284): after a change of an input, unless the Hive core is halted or faulty. -/
def execAdmissionRecompute (s : State) : Host.Outcome State Fault Refusal :=
  if s.qos.causes = 0 ∧ !s.qos.stale then .next s
  else if s.hiveOk then .next s.admitNow
  else .next { s with qos := { s.qos with stale := true } }

/-- The limits follow a change of LIM_MIN or LIM_MAX at once (R286). -/
def State.clampLimits (s : State) (n : Nat) : State :=
  let lo := s.fld .qosTc n 16 6
  let hi := s.fld .qosTc n 24 6
  (s.updChans allChans fun _ c => { c with lim := Tab.upd 2 c.lim n fun l => max lo (min hi l) }).letInAll

end Sys2Proof.Machine
end

