-- ==== Sys2Proof/Machine/ShelfTime.lean ====
section
/-! DEFINITION. Shelf time (R47 to R59, R348, R349): changes of the timeline, orphaning, and the TIME sets of the upstream
port. -/

namespace Sys2Proof.Machine

/-! ## The timeline (R50, R52) -/

/-- Phase point of the node, as a count modulo 1,024. -/
def State.phase (s : State) : Nat := 16 * s.fld .timCfg 0 0 6

/-- The first phase point at or after a count. -/
def State.phaseFrom (s : State) (c : Nat) : Nat := c + (s.phase + 1024 - c % 1024) % 1024

/-- A change of the timeline: the node epoch ends at the first phase point at least 256 ticks away. -/
def State.irregular (s : State) : State :=
  { s with tim := { s.tim with epochEnd := s.phaseFrom (s.now + 256), irreg := true } }

/-- A stored tick after a step of the count. -/
def shifted (d : Int) (n : Nat) : Nat := (n + d).toNat

/-- Running timers keep their length over a step of the count: their start ticks move with it (R55, log 20). -/
def State.shiftTimers (s : State) (d : Int) : State :=
  let f := shifted d
  { s with
    tim := { s.tim with lastSetAt := f s.tim.lastSetAt, epochStart := f s.tim.epochStart }
    lnk := { s.lnk with ports := Tab.mapVals .init (fun _ p => { p with
      sentAt := f p.sentAt, phaseAt := f p.phaseAt, recAt := f p.recAt, replayDue := f p.replayDue, nakDue := f p.nakDue,
      ackDue := shifted (10 * d) p.ackDue }) s.lnk.ports }
    qos := { s.qos with lastStep := f s.qos.lastStep }
    rng := { s.rng with
      sqs := Tab.mapVals .init (fun _ x => { x with usedAt := x.usedAt.map f }) s.rng.sqs,
      cqs := Tab.mapVals .init (fun _ x => { x with oldest := x.oldest.map f }) s.rng.cqs,
      cmds := s.rng.cmds.map (fun c => { c with due := c.due.map f }), mrds := s.rng.mrds.map fun m => { m with at_ := f m.at_ } }
    tch := { s.tch with
      tiers := Tab.mapVals .init (fun _ x => { x with trstAt := f x.trstAt }) s.tch.tiers
      chans := Tab.mapVals .init (fun _ c => { c with dueAt := f c.dueAt, busyTo := f c.busyTo }) s.tch.chans }
    scb := { s.scb with passStart := f s.scb.passStart }
    pwr := { s.pwr with
      restartAt := s.pwr.restartAt.map f, idleSince := f s.pwr.idleSince, p4Since := f s.pwr.p4Since }
    thm := { s.thm with graceAt := s.thm.graceAt.map f, latchAt := f s.thm.latchAt, clickAt := s.thm.clickAt.map fun t => t + d }
    otp := { s.otp with pulseAt := s.otp.pulseAt.map f }
    bst := { s.bst with
      retain := s.bst.retain.map fun r => { r with at_ := r.at_.map f }
      lastStart := f s.bst.lastStart, startAt := f s.bst.startAt }
    flt := { s.flt with window := Tab.mapVals none (fun _ x => x.map f) s.flt.window } }

/-- A step of the count by `d` ticks, recorded in TIM_STEP (R57). -/
def State.stepCount (s : State) (d : Int) : State :=
  let top : Int := 2 ^ 31 - 1
  let s := s.shiftTimers d
  let s := { s with tim := { s.tim with
    count := BitVec.ofNat 64 (shifted d s.now), step := BitVec.ofInt 32 (max (-top) (min top d)), slew := 0 } }
  s.irregular

/-! ## Orphaned and locked (R49, R54, R57) -/

/-- The node becomes time-orphaned: free running starts, the change is recorded and posted. -/
def State.goOrphan (s : State) : State :=
  let s := { s with tim := { s.tim with locked := false, prevDiff := none, slew := 0 } }
  if s.tim.orphan then s
  else
    let s := { s with tim := { s.tim with orphan := true } }
    let s := s.irregular.raise 90 1
    s.postEvent 0x0002 0 1 1 s.tim.step.toNat

/-- Check byte of a TIME set (R346). -/
def TimeSet.sum (ts : TimeSet) : Byte :=
  (leBytes 8 ts.count.toNat ++ leBytes 4 ts.corr.toNat ++ [ts.hops]).foldl (fun a b => a ^^^ b) 0

/-- A TIME set is valid (R348); before an ID is assigned no port is the upstream port (log 21). -/
def State.timeValid (s : State) (n : Nat) (ts : TimeSet) : Bool :=
  let p := s.port n
  s.lnk.valid && n == s.lnk.upPort.toNat && p.st == .up && p.dvalid && ts.chk == TimeSet.sum ts && !ts.laneErr &&
    decide (ts.hops.toNat ≤ 5)

/-- CK_EPOCH cycles to slew for a difference in sixteenths of a nanosecond: below 10 ns none (R48, R348). -/
def slewCycles (diff : Int) : Int := if diff < 0 then -((-diff + 160) / 320) else (diff + 160) / 320

/-- A valid set meets the local count (R48, R49, R57). -/
def State.takeTime (s : State) (n : Nat) (ts : TimeSet) : State :=
  let shelf : Int := ts.count.toNat * 16000 + ts.corr.toNat + (s.port n).delay.toNat
  let here : Int := s.now * 16000 + ts.frac
  let diff := shelf - here
  let agrees : Bool := match s.tim.prevDiff with
    | some d => decide ((diff - d).natAbs ≤ 16000)
    | none => false
  let far := decide (16000 < diff.natAbs)
  if agrees && (s.tim.orphan || far) then
    let k := shelf / 16000 - s.now
    let was := s.tim.orphan
    let s := s.stepCount k
    let s := { s with tim := { s.tim with
      prevDiff := some (diff - k * 16000), lastSetAt := s.now, orphan := false, locked := true, everLocked := true } }
    if was then (s.raise 90 (2 + 2 ^ 32 * s.tim.step.toNat)).postEvent 0x0002 0 1 0 s.tim.step.toNat else s
  else
    let s := { s with tim := { s.tim with prevDiff := some diff, lastSetAt := s.now } }
    if s.tim.orphan ∨ far then s else { s with tim := { s.tim with slew := slewCycles diff } }

/-- Forwards a valid set on every downstream port that is UP with L0 awake, on all its active lanes, straight after what the port is
sending, so that each has a residence of its own (R293, R349). -/
def State.forwardTime (s : State) (n : Nat) (ts : TimeSet) (delay : Nat) : State :=
  (List.range 4).foldl (fun s k =>
    let corr := BitVec.ofNat 32 (ts.corr.toNat + delay + ts.residence.getD k 0)
    if k ≠ n ∧ (s.port k).canSend then
      (s.emit (.set k (s.port k).setLanes (.time ts.count corr (ts.hops + 1)))).updPort k fun p => { p with sentAt := s.now }
    else s) s

/-! ## Commands -/

/-- TIME_SET_RECEIVED (R348). -/
def execTimeSetReceived (n : BitVec 2) (ts : TimeSet) (s : State) : Host.Outcome State Fault Refusal :=
  if s.timeValid n.toNat ts then
    let s := { s with lnk := { s.lnk with depth := BitVec.ofNat 3 (ts.hops.toNat + 1) } }
    .next ((s.takeTime n.toNat ts).forwardTime n.toNat ts (s.port n.toNat).delay.toNat)
  else .next s

/-- ORPHAN_TIMEOUT (R54): no valid TIME set for ORPHAN_TO. -/
def execOrphanTimeout (s : State) : Host.Outcome State Fault Refusal :=
  .next (if !s.tim.orphan ∧ s.tim.lastSetAt + s.fld .timCfg 0 16 16 ≤ s.now then s.goOrphan else s)

end Sys2Proof.Machine
end

