-- ==== Sys2Proof/Machine/Ports.lean ====
section
/-! DEFINITION. Ports (R291 to R345, R351 to R355): bring-up, recovery, sleep, acknowledgement and replay, hop delay, and
what follows when a port goes DOWN. -/

namespace Sys2Proof.Machine

/-! ## Stopping the rings (R353 steps 3 to 6) -/

/-- Stops one command at its points of no return: blocks before them are dropped, and it ends without an entry. -/
def State.stopCmd (s : State) (id : Nat) : State :=
  match s.cmd id with
  | none => s
  | some c =>
    let s := (c.running.filter fun o => !s.pastReturn c o).foldl (fun s o => s.dropBlock id o) s
    let s := s.updCmd id fun c => { c with
      silent := true, aborted := true, early := false, final := none, inCq := false, waitIds := [], waitMrg := [], integ := none }
    s.tryFinish id

/-- Stops fetching and every command, frees the stream buffer, and disables every ring, whose configuration stays. -/
def State.stopRings (s : State) : State :=
  let s := { s with rng := { s.rng with
    mrds := [], mrdQ := [], sqs := Tab.mapVals .init (fun _ x => { x with fetch := [] }) s.rng.sqs } }
  let s := (s.rng.cmds.map fun c => c.id).foldl State.stopCmd s
  { s with
    qos := { s.qos with poolFree := 1024 }
    rng := { s.rng with
      sqs := Tab.mapVals .init (fun _ x => { x with st := .disabled, fetch := [], out := 0, fill := 0, panic := false }) s.rng.sqs
      cqs := Tab.mapVals .init (fun _ x => { x with st := .disabled, reserved := 0, held := [], unNote := 0, oldest := none }) s.rng.cqs } }

/-! ## Lanes -/

/-- Lanes that pass a test, as a mask. -/
def Port.laneMask (p : Port) (f : Lane → Bool) : Byte :=
  BitVec.ofNat 8 ((List.range 8).foldl (fun a k => a + oneIf (f (p.lane k)) * 2 ^ k) 0)

/-- Rewrites every lane. -/
def Port.mapLanes (p : Port) (f : Nat → Lane → Lane) : Port := (List.range 8).foldl (fun p k => p.updLane k (f k)) p

/-- Lanes of a mask. -/
def laneCount (m : Byte) : Nat := (List.range 8).foldl (fun a k => a + oneIf (m.getLsbD k)) 0

/-- The step a port is in: within RECOVERY, the one it repeats (R304). -/
def Port.phase (p : Port) : PortSt := if p.st = .recovery then p.recStep else p.st

/-- Moves to a step. -/
def Port.toPhase (p : Port) (x : PortSt) (now : Nat) : Port :=
  let p : Port := { p with runLen := 0, runSet := none, tsSent := 0, runFull := false, phaseAt := now }
  if p.st = .recovery then { p with recStep := x } else { p with st := x }

/-- LNK_PHY0n.EN. -/
def State.portEn (s : State) (n : Nat) : Bool := s.flag .lnkPhy0 n 0

/-- Something keeps a port in DOWN (R298, R392, R429, R464, R506). -/
def State.portHeld (s : State) (n : Nat) : Bool :=
  (s.port n).isolated || s.die.uvLnk || s.bst.memFail.getLsbD (4 + n) || s.die.blockBusy.contains (BitVec.ofNat 8 n) ||
    !(s.die.mode == .running || s.die.mode == .restarting) || !s.die.rcReady || s.clk.back != 0 || s.pwr.offStage != 0

/-! ## DOWN (R305, R312, R353, R355) -/

/-- A port in DOWN: lanes off, nothing agreed, the hop delay not valid. -/
def Port.turnedOff (p : Port) : Port :=
  { p.mapLanes fun _ l => { l with locked := false, enabled := false, passed := false, aligned := false, eyeDone := false } with
    st := .down, rate := 0, lanes := 0, rateCap := 6, chosen := 0, runLen := 0, runSet := none, tsSent := 0, runFull := false, cfgTs2 := false, cut := false,
    fbIdle := false, recPend := false, retPend := false, svcTx := 0, svcRx := 0, bulkTx := 0, bulkRx := 0, stamps := [],
    lastTs2 := none, echoed := none, turnWait := false, dvalid := false, txq := [], elastic := 0,
    downs := if p.laneTrained then satInc p.downs 1 else p.downs }

/-- A port goes DOWN. Upstream: its rings stop, so that its events wait for the next event path, and the node orphans (R193, R353).
Downstream: packets routed to it are dropped
(R355) (log 75). -/
def State.portDown (s : State) (n : Nat) : State :=
  let p := s.port n
  if p.st = .down then s
  else
    let up := decide (n = s.lnk.upPort.toNat)
    let s := s.setPort n (if up then { p.turnedOff with replay := [] } else p.turnedOff)
    let s := if up then s else p.txq.foldl (fun s e => if e.2.1 = 4 then s else s.dropPacket e.2.2) s
    let s := if up then s.stopRings else s
    let s := if p.laneTrained then s.raise (64 + n) 3 else s
    let s := s.postEvent 0x0012 0 1 (BitVec.ofNat 32 n) 0
    let s := if up then s.goOrphan else s
    s.retarget.noteLevel

/-! ## Bring-up (R297 to R300) -/

/-- Highest rate code the port offers (R297). -/
def State.topOffer (s : State) (n : Nat) : Nat :=
  if s.clk.laneLock.getLsbD n then min (s.fld .lnkPhy0 n 1 3) ((s.port n).rateCap - 1) else 0

/-- The training set that the port sends next (R295): L0's, since LANE and CHK differ from lane to lane. The rates offered stand from
CONFIG on (R313). -/
def State.trainSet (s : State) (n : Nat) (lanesOk ctrl : Byte) : TrainSet :=
  let p := s.port n
  let top := if p.st = .detect ∨ p.st = .align then s.topOffer n else p.offer
  let min_ : Byte := if p.phase = .confirm then p.myMin else BitVec.ofNat 8 (s.fld .lnkPhy0 n 12 4)
  let t : TrainSet :=
    { lane := 0, rates := BitVec.ofNat 8 (2 ^ (top + 1) - 1), lanesOk := lanesOk, role := 1, ctrl := ctrl,
      nfts := BitVec.ofNat 8 (s.fld .lnkPhy1 n 0 8), tag := p.myTag, echo := p.lastTag, minLanes := min_, d13 := 0, d14 := 0, chk := 0 }
  { t with chk := t.sum }

/-- TS1 begin on these lanes: they carry the lanes enabled. -/
def State.sendTs1 (s : State) (n : Nat) (lanes ctrl : Byte) : State :=
  s.emit (.set n lanes (.ts1 (s.trainSet n ((s.port n).laneMask fun l => l.enabled) ctrl)))

/-- TS2 begin on these lanes. -/
def State.sendTs2 (s : State) (n : Nat) (lanes lanesOk : Byte) : State := s.emit (.set n lanes (.ts2 (s.trainSet n lanesOk 0)))

/-- CONFIG is entered: the offer is fixed, and L0 sends TS1. -/
def State.toConfig (s : State) (n : Nat) : State :=
  let top := s.topOffer n
  (s.updPort n fun p => { p.toPhase .config s.now with cfgTs2 := false, chosen := BitVec.ofNat 3 top, offer := top }).sendTs1 n 1 0

/-- LANE_TRAIN is entered: the enabled lanes transmit TS1 and gain lock afresh. -/
def State.toLaneTrain (s : State) (n : Nat) : State :=
  let s := s.updPort n fun p => (p.toPhase .laneTrain s.now).mapLanes fun _ l =>
    { l with locked := false, passed := false, aligned := false, eyeDone := false, errAt := [] }
  s.sendTs1 n ((s.port n).laneMask fun l => l.enabled) (if (s.port n).st = .recovery then 1 else 0)

/-- CONFIRM is entered: TS2 carry the lanes that passed LANE_TRAIN and DESKEW, and MIN_LANES as it stands (R298, R313, R343). -/
def State.toConfirm (s : State) (n : Nat) : State :=
  let min_ : Byte := BitVec.ofNat 8 (s.fld .lnkPhy0 n 12 4)
  let s := s.updPort n fun p => { p.toPhase .confirm s.now with stamps := [], lastTs2 := none, echoed := none, myMin := min_ }
  let ok := (s.port n).laneMask fun l => l.passed && l.aligned
  s.sendTs2 n ok ok

/-- DESKEW ends once every passing lane is aligned. -/
def State.judgeDeskew (s : State) (n : Nat) : State :=
  let p := s.port n
  if p.phase = .deskew ∧ p.laneMask (fun l => l.passed && !l.aligned) = 0 then s.toConfirm n else s

/-- DESKEW is entered: 16 markers on every passing lane. -/
def State.toDeskew (s : State) (n : Nat) : State :=
  let s := s.updPort n fun p => p.toPhase .deskew s.now
  let lanes := (s.port n).laneMask fun l => l.passed
  ((List.range 16).foldl (fun s k => s.emit (.set n lanes (.lmk k))) s).judgeDeskew n

/-- DETECT is entered again. -/
def State.toDetect (s : State) (n : Nat) : State :=
  (s.updPort n fun p => { p.toPhase .detect s.now with rate := 0 }).sendTs1 n 1 0

/-- Fallback: electrical idle while the PLLs relock at 1.25 Gbit/s (R300). -/
def State.fallback (s : State) (n : Nat) : State :=
  let p := s.port n
  (s.emit (.set n (p.laneMask fun l => l.enabled) .idlE)).updPort n fun p =>
    { p.toPhase .rateSwitch s.now with fbIdle := true, rateCap := p.rate.toNat, fallbacks := satInc p.fallbacks 1 }

/-- The TURN message for the last TS2 sent in CONFIRM (R341, R343). -/
def State.sendTurn (s : State) (n : Nat) : State :=
  match (s.port n).echoed with
  | none => s
  | some (x, t) => s.enqueue n 4
      { w0 := headWord .msg 2, w1 := s.ownW1 0 3 0 0, w2 := 0x10, w3 := 0, payload := [x.setWidth 32, BitVec.ofNat 32 t] }

/-- Puts a packet of the replay buffer on the wire again. -/
def State.resend (s : State) (n : Nat) (x : Packet) : State :=
  (s.emit (.replay n (s.port n).sendLanes x (crc32 (packetBody x)))).updPort n fun p => { p with sentAt := s.now }

/-- The packet that RECOVERY cut off is sent again (R317). -/
def State.replayCut (s : State) (n : Nat) : State :=
  let s := s.updPort n fun p => { p with cut := false }
  match (s.port n).replay.getLast? with
  | some x => s.resend n x
  | none => s

/-- Entry to UP on an agreed lane set: from DOWN the link layer starts afresh and limits are sent at once; from RECOVERY it
carries on, first with the packet cut off (R305, R312, R317, R323, R330, R343, R354) (log 76). The lanes carry IDLE until then (R293). -/
def State.linkUp (s : State) (n : Nat) (agreed : Byte) : State :=
  let p := s.port n
  let again := p.st == .recovery
  let p1 : Port := { p with
    st := .up, lanes := agreed, svcTx := 0, svcRx := 0, bulkTx := 0, bulkRx := 0, recPend := false, turnWait := true, dvalid := false,
    sentAt := s.now, phaseAt := s.now }
  let p2 : Port := if again then { p1 with recoveries := satInc p1.recoveries 1 }
    else { p1 with replay := [], nextTx := 0, nextRcv := 0, consumed := [], limit := [], freed := [], freedSent := [], ackOwed := 0,
                   nakSent := false, replays := 0, cut := false }
  let s := (s.setPort n p2).emit (.set n agreed .idle)
  let s := if again ∧ p.cut then s.replayCut n else s
  let s := if again then s else s.sendAck n
  let s := s.sendTurn n
  let s := if !again ∨ agreed ≠ p.lanes then s.postEvent 0x0012 0 1 (BitVec.ofNat 32 n) agreed.toNat else s
  let s := if s.die.mark1 = 0 then { s with die := { s.die with mark1 := s.mark } } else s
  let s := (s.moveBulk n s.pwr.state.toNat).retarget.noteLevel
  let s := if n = s.lnk.upPort.toNat then s.flushHeld else s
  s.pump (s.port n).txq.length n

/-- The end of CONFIRM (R299, R300, R304). -/
def State.endConfirm (s : State) (n : Nat) : State :=
  let p := s.port n
  let agreed := (p.laneMask fun l => l.passed && l.aligned) &&& p.pLanesOk
  let need := max p.myMin.toNat p.pMin.toNat
  if p.st = .recovery then (if agreed.getLsbD 0 then s.linkUp n agreed else s.portDown n)
  else if agreed.getLsbD 0 ∧ (p.rate = 0 ∨ need ≤ laneCount agreed) then s.linkUp n agreed
  else if p.rate = 0 then s.toDetect n
  else s.fallback n

/-! ## Training sets (R295, R298) -/

/-- The port has sent more training sets, each with the next TAG (R295). -/
def Port.setsSent (p : Port) (k : Nat) : Port := { p with tsSent := p.tsSent + k, myTag := p.myTag + BitVec.ofNat 16 k }

/-- Counts a set received toward a run of eight identical ones of the type the step waits for; a run that has its eight stands, and a
set of another kind breaks one that has not (R298). The sets sent count from the first of the run in CONFIG, and from entry in CONFIRM. -/
def Port.countSet (p : Port) (ts : TrainSet) (two want : Bool) : Port :=
  let sent := if p.phase = .confirm then p.tsSent else 0
  if p.runFull then p
  else if two ≠ want then { p with runLen := 0, runSet := none, tsSent := sent }
  else
    let same := p.runSet.elim false fun r => r.same ts
    let q : Port := if same then { p with runLen := p.runLen + 1 } else { p with runLen := 1, runSet := some ts, tsSent := sent }
    { q with runFull := decide (8 ≤ q.runLen) }

/-- Eight identical sets received, and sixteen sent. -/
def Port.runDone (p : Port) : Bool := p.runFull && decide (16 ≤ p.tsSent)

/-- The end of CONFIG: the chosen rate is the highest offered by both (R297). -/
def State.endConfig (s : State) (n : Nat) : State :=
  let p := s.port n
  let c := maxOf ((List.range (p.chosen.toNat + 1)).filter fun k => p.pRates.getLsbD k)
  let s := s.updPort n fun p => { p with chosen := BitVec.ofNat 3 c }
  if c = 0 then s.toLaneTrain n else (s.emit (.set n 1 .idlE)).updPort n fun p => p.toPhase .rateSwitch s.now

/-- The run of a step is complete: CONFIG goes on to TS2 and then ends, and CONFIRM ends. -/
def State.judgeRun (s : State) (n : Nat) : State :=
  let p := s.port n
  if !p.runDone then s
  else if p.st = .config ∧ !p.cfgTs2 then
    (s.setPort n { p with cfgTs2 := true, runLen := 0, runSet := none, tsSent := 0, runFull := false }).sendTs2 n 1
      (p.laneMask fun l => l.enabled)
  else if p.st = .config then s.endConfig n
  else if p.phase = .confirm then s.endConfirm n
  else s

/-- A training set counted in CONFIG and in CONFIRM (R298). -/
def State.countTrain (s : State) (n : Nat) (ts : TrainSet) (two : Bool) : State :=
  let p := s.port n
  if p.st = .config then (s.setPort n (p.countSet ts two p.cfgTs2)).judgeRun n
  else if p.phase = .confirm then (s.setPort n (p.countSet ts two true)).judgeRun n
  else s

/-- What a port notes of every TS2 on L0. -/
def Port.notePartner (p : Port) (ts : TrainSet) : Port :=
  { p with pRole := ts.role, pNfts := ts.nfts, pMin := ts.minLanes, pLanesOk := ts.lanesOk, pRates := ts.rates, lastTag := ts.tag }

/-- The stamp of a TS2 sent in CONFIRM, which echoes the last set received (R343). -/
def Port.stampSent (p : Port) (at_ : Nat) : Port :=
  let l := p.stamps ++ [(p.myTag, at_)]
  { p.setsSent 1 with stamps := l.drop (l.length - 64), echoed := p.lastTs2.map fun x => (x.2.2, at_ - x.2.1) }

/-- Stamps of CONFIRM: the sets sent since the last set received, and the set received (R343). -/
def Port.stamp (p : Port) (ts : TrainSet) (got : Nat) (sent : List Nat) : Port :=
  { sent.foldl Port.stampSent p with lastTs2 := some (ts.echo, got, ts.tag) }

/-- Training sets that the port has sent since the last one received, with their stamps, which CONFIRM records (R295, R343). -/
def Port.sentSets (p : Port) (sent : List Nat) : Port :=
  if p.phase = .confirm then sent.foldl Port.stampSent p else p.setsSent sent.length

/-- What has left, with the port's last packet cut off where it stands in progress (R317). -/
def State.cutOut (s : State) (n : Nat) (p : Port) : Option (List Out) :=
  match p.replay.getLast? with
  | some x => (cutLast n (Config.cutChars s.free) x s.out.reverse).map List.reverse
  | none => none

/-- A port in UP enters RECOVERY: its agreed lanes wake and train again at the current rate (R304). Whether that cuts off the packet
sent last, on its way for 5 µs at most, and after how many characters, no rule says: free values (R317) (log 120). -/
def State.recover (s : State) (n : Nat) : State :=
  let p := s.port n
  if p.st ≠ .up then s
  else
    let cutOff := if s.now ≤ p.sentAt + 5 ∧ Config.cutsPacket s.free then s.cutOut n p else none
    let cut := cutOff.isSome
    let s : State := { s with free := s.free + 1, out := cutOff.getD s.out }
    let s := s.wakeL0 n
    let s := s.updPort n fun p => { p.mapLanes fun k l => { l with enabled := p.lanes.getLsbD k } with
      st := .recovery, recAt := s.now, cut := cut, dvalid := false, turnWait := false, svcTx := 0, svcRx := 0, bulkTx := 0, bulkRx := 0, replays := 0 }
    (s.toLaneTrain n).retarget

/-! ## Acknowledgement and replay (R326 to R328) -/

/-- Takes the acknowledgement and the limits of an ACK or NAK; none for a packet not yet sent (log 77). -/
def State.takeAck (s : State) (n : Nat) (ackseq : BitVec 12) (w1 : Word) : Option State :=
  let p := s.port n
  if p.st ≠ .up ∨ (ackseq.toNat + 4096 - p.nextTx.toNat) % 4096 < 2048 then none
  else
    let left := (p.nextTx.toNat + 4095 - ackseq.toNat) % 4096
    let freed := p.replay.length - left
    let lim : Tab (BitVec 10) := Tab.setList 0 [] 0 [BitVec.ofNat 10 (fieldOf w1 0 10), BitVec.ofNat 10 (fieldOf w1 10 10),
      BitVec.ofNat 10 (fieldOf w1 20 10)]
    some (s.setPort n { p with
      replay := p.replay.drop freed, replays := if freed = 0 then p.replays else 0, limit := lim
      replayDue := if freed = 0 then p.replayDue else s.now + s.replayTo n })

/-- Sends every unacknowledged packet again, which restarts the timer; once REPLAY_MAX replays have passed the port recovers instead
(R328, log 25). -/
def State.replayAll (s : State) (n : Nat) : State :=
  let p := s.port n
  if p.replay.isEmpty then s
  else if s.fld .lnkLlc n 16 3 ≤ p.replays then (s.raise (64 + n) 1).recover n
  else
    let s := p.replay.foldl (fun s x => s.resend n x) (s.wakeL0 n)
    s.updPort n fun p => { p with replays := p.replays + 1, replaysC := satInc p.replaysC 1, replayDue := s.now + s.replayTo n }

/-! ## MRDs (R340) -/

/-- Ends an MRD: with its words, or failed. -/
def State.endMrd (s : State) (m : Mrd) (ws : Option (List Word)) : State :=
  let s := { s with rng := { s.rng with mrds := s.rng.mrds.filter fun x => x.tag != m.tag } }.mrdNext
  match m.use with
  | .descs q id _ =>
    match ws with
    | some l => s.descsArrived q id l
    | none => if (s.sq q).fetch.any fun e => e.1 == id then s.sqError q 4 else s
  | .block id o part => s.partArrived id o part (ws.map wordsBytes)

/-- A consumed CPL. -/
def State.takeCpl (s : State) (p : Packet) : State :=
  match s.rng.mrds.find? fun m => m.tag.toNat == p.tag with
  | none => { s with lnk := { s.lnk with lateCpl := satInc s.lnk.lateCpl 1 } }
  | some m => s.endMrd m (if p.w2 = 0 ∧ p.payload.length = m.words then some p.payload else none)

/-! ## Hop delay (R344) -/

/-- A TURN message names one of the port's own TS2 (log 79) (log 99). -/
def State.takeTurn (s : State) (n : Nat) (ws : List Word) : State :=
  let p := s.port n
  let x : BitVec 16 := (ws.getD 0 0).setWidth 16
  let s := s.updPort n fun p => { p with turnWait := false }
  match p.stamps.find? fun e => e.1 == x, p.lastTs2 with
  | some (_, t1), some (echo, t4, _) =>
    let adj := (BitVec.ofNat 16 (s.fld .lnkTadj n 0 16)).toInt
    let d : Int := ((t4 : Int) - t1 - (ws.getD 1 0).toNat) / 2 + adj
    if p.turnWait ∧ s.now ≤ p.phaseAt + 100 ∧ echo = x ∧ 0 ≤ d then s.updPort n fun p => { p with delay := BitVec.ofNat 20 d.toNat, dvalid := true } else s
  | _, _ => s

/-! ## Bring-up commands -/

/-- LINK_DETECT (R298): a port leaves DOWN. -/
def execLinkDetect (n : BitVec 2) (s : State) : Host.Outcome State Fault Refusal :=
  let k := n.toNat
  if (s.port k).st = .down ∧ s.portEn k ∧ s.clk.xtalGood ∧ !s.portHeld k then
    let en := s.fld .lnkPhy0 k 4 8
    let s := s.updPort k fun p => { p.mapLanes fun j l =>
      { l with enabled := en / 2 ^ j % 2 == 1, phase := 0, shift := 0, inverted := false, locked := false, passed := false, aligned := false, eyeDone := false } with
      retPend := false, rateCap := 6 }
    .next (s.toDetect k)
  else .next s

/-- SIGNAL_DETECTED (R298). -/
def execSignalDetected (n : BitVec 2) (s : State) : Host.Outcome State Fault Refusal :=
  .next (if (s.port n.toNat).st = .detect then s.updPort n.toNat fun p => p.toPhase .align s.now else s)

/-- SYMBOL_LOCK (R296, R298): eight COM without a lane error between them; an inversion stays until the next bring-up. -/
def execSymbolLock (n : BitVec 2) (lane : BitVec 3) (seen : LockSeen) (s : State) : Host.Outcome State Fault Refusal :=
  let k := n.toNat
  let p := s.port k
  let bring := decide (p.st = .align) || decide (p.st = .laneTrain)
  if p.st = .down ∨ seen.coms < 8 then .next s
  else
    let s := s.updPort k fun p => p.updLane lane.toNat fun l =>
      { l with locked := true, errAt := [], inverted := l.inverted || (bring && seen.inverted) }
    .next (if p.st = .align ∧ lane = 0 then s.toConfig k else s)

/-- TS2_RECEIVED (R298): counted in CONFIG and CONFIRM, on L0, where its check matches. -/
def execTs2Received (n : BitVec 2) (lane : BitVec 3) (ts : TrainSet) (stamp : Nat) (sent : List Nat) (s : State) :
    Host.Outcome State Fault Refusal :=
  let k := n.toNat
  let p := s.port k
  if lane ≠ 0 ∨ ts.chk ≠ ts.sum ∨ p.st = .down then .next s
  else
    let p := if p.phase = .confirm then p.stamp ts stamp sent else p.setsSent sent.length
    .next ((s.setPort k (p.notePartner ts)).countTrain k ts true)

/-- RATE_SWITCH_END (R298): 50 µs of electrical idle. -/
def execRateSwitchEnd (n : BitVec 2) (s : State) : Host.Outcome State Fault Refusal :=
  let p := s.port n.toNat
  .next (if p.st = .rateSwitch ∧ !p.fbIdle ∧ p.phaseAt + 50 ≤ s.now then (s.updPort n.toNat fun p => { p with rate := p.chosen }).toLaneTrain n.toNat else s)

/-- FALLBACK_IDLE_END (R300): the port returns to ALIGN, where L0 sends TS1 as before. -/
def execFallbackIdleEnd (n : BitVec 2) (s : State) : Host.Outcome State Fault Refusal :=
  let p := s.port n.toNat
  .next (if p.st = .rateSwitch ∧ p.fbIdle ∧ p.phaseAt + 50 ≤ s.now then (s.updPort n.toNat fun p => { p.toPhase .align s.now with fbIdle := false, rate := 0 }).sendTs1 n.toNat 1 0 else s)

/-- LANE_TRAIN_DONE (R298): every enabled lane has passed. -/
def execLaneTrainDone (n : BitVec 2) (s : State) : Host.Outcome State Fault Refusal :=
  let p := s.port n.toNat
  .next (if p.phase = .laneTrain ∧ p.laneMask (fun l => l.enabled && !l.passed) = 0 then s.toDeskew n.toNat else s)

/-- LMK_RECEIVED (R296, R299): a marker aligns its lane, or the lane fails deskew. -/
def execLmkReceived (n : BitVec 2) (lane : BitVec 3) (num count : Byte) (delay : Nat) (s : State) :
    Host.Outcome State Fault Refusal :=
  let k := n.toNat
  let p := s.port k
  if p.phase ≠ .deskew ∨ 16 ≤ count.toNat ∨ !(p.lane lane.toNat).passed then .next s
  else
    let ok := decide (num.toNat = lane.toNat) && decide (delay ≤ 20)
    let s := s.updPort k fun p => p.updLane lane.toNat fun l =>
      if ok then { l with aligned := true, skew := BitVec.ofNat 5 delay } else { l with passed := false, aligned := false }
    .next (s.judgeDeskew k)

/-- The bound of a step in ticks (R298). -/
def phaseBound (x : PortSt) (rate : Nat) : Nat :=
  match x with
  | .align => 1000
  | .config => 2000
  | .laneTrain => if rate = 0 then 4000 else if rate = 1 then 3000 else if rate = 2 then 2000 else 1000
  | .deskew => 100
  | .confirm => 1000
  | .recovery => 2000
  | .down => 0 | .detect => 0 | .rateSwitch => 0 | .up => 0

/-- LINK_STATE_TIMEOUT (R298, R304): the bound of RECOVERY, or of the present step, has run out (log 26). -/
def execLinkStateTimeout (n : BitVec 2) (s : State) : Host.Outcome State Fault Refusal :=
  let k := n.toNat
  let p := s.port k
  let rec_ := decide (p.st = .recovery)
  if rec_ ∧ p.recAt + phaseBound .recovery 0 ≤ s.now then .next (s.portDown k)
  else if s.now < p.phaseAt + phaseBound p.phase p.rate.toNat then .next s
  else match p.phase with
  | .align => .next (s.toDetect k)
  | .config => .next (s.toDetect k)
  | .laneTrain => .next (s.toDeskew k)
  | .deskew => .next ((s.updPort k fun p => p.mapLanes fun _ l => { l with passed := l.passed && l.aligned }).toConfirm k)
  | .confirm => .next (if rec_ then s.portDown k else s.fallback k)
  | .down => .next s
  | .detect => .next s
  | .rateSwitch => .next s
  | .up => .next s
  | .recovery => .next s

/-! ## Commands of a port in UP -/

/-- A lane error: it is counted, and the eighth within 256 symbols loses the lane its lock (R296). -/
def Lane.erred (l : Lane) (sym : Nat) : Lane :=
  let at_ := l.errAt ++ [sym]
  let at_ := at_.drop (at_.length - 8)
  let lost := decide (8 ≤ at_.length) && decide (sym < at_.headD 0 + 256)
  { l with errs := l.errs + 1, errAt := if lost then [] else at_, locked := l.locked && !lost }

/-- LANE_ERROR (R292, R296, R303, R304, R325): counted; lost lock of L0, ERR_THR errors in the epoch, or an elastic buffer that
overflows or runs dry start RECOVERY. A code that is none of the lane's errors changes nothing. -/
def execLaneError (n : BitVec 2) (lane : BitVec 3) (rx : RxError) (place : ErrPlace) (s : State) : Host.Outcome State Fault Refusal :=
  let k := n.toNat
  let j := lane.toNat
  if (s.port k).st = .down ∨ (place ≠ .buffer ∧ !codeBad rx.plus rx.code) then .next s
  else
    let had := ((s.port k).lane 0).locked
    let s := s.updPort k fun p => p.updLane j fun l => { l.erred rx.sym with rxPlus := plusAfter rx.plus rx.code }
    let p := s.port k
    if p.st ≠ .up then .next s
    else
      let s := if place = .inPacket then s.sendNak k else s
      let many := p.lanes.getLsbD j && decide (s.fld .lnkPhy1 k 24 8 ≤ (p.lane j).errs)
      .next (if (had && !(p.lane 0).locked) || many || place == .buffer then s.recover k else s)

/-- SIGNAL_LOSS (R304): L0 falls below squelch without a preceding IDL_E. -/
def execSignalLoss (n : BitVec 2) (s : State) : Host.Outcome State Fault Refusal :=
  .next (if (s.port n.toNat).svcRx = 0 then s.recover n.toNat else s)

/-- SKP_RECEIVED (R299, R303, R384): a SKP of 1 to 5 K28.0; the elastic buffers of the port remove or add one together (log 142), new
sampler phases are taken and alignment is checked again. -/
def execSkpReceived (n : BitVec 2) (count : BitVec 4) (aligned : Bool) (s : State) : Host.Outcome State Fault Refusal :=
  let k := n.toNat
  if count.toNat < 1 ∨ 5 < count.toNat then .next s
  else
    let moved : Int := if Config.addsSkip s.free then 1 else -1
    let s : State := { s with free := s.free + 1 }
    let s := s.updPort k fun p => { p.mapLanes fun _ l => { l with phase := l.phase + l.shift, shift := 0 } with elastic := p.elastic + moved }
    .next (if aligned then s else s.recover k)

/-- SKP_DUE (R293, R303, R307, R407): sent in every state that sends packets or IDLE, on all active lanes, with IDLE after it; a lane PLL
that has tripped stops its lanes. -/
def execSkpDue (n : BitVec 2) (s : State) : Host.Outcome State Fault Refusal :=
  let p := s.port n.toNat
  .next (if p.canSend ∧ !s.clk.tripped.contains (34 + n.toNat) then
    (s.emit (.set n.toNat p.setLanes .skp)).emit (.set n.toNat p.setLanes .idle) else s)

/-- IDL_E_RECEIVED (R300, R307, R309): in bring-up the partner falls back; in UP the facing receivers idle, light or deep as
the partner is, which no set tells (log 23). -/
def execIdlEReceived (n : BitVec 2) (onL0 : Bool) (s : State) : Host.Outcome State Fault Refusal :=
  let k := n.toNat
  match (s.port k).st with
  | .laneTrain => .next (s.fallback k)
  | .deskew => .next (s.fallback k)
  | .confirm => .next (s.fallback k)
  | .up =>
    let deep := Config.partnerDeep s.free
    let s := { s with free := s.free + 1 }
    .next (s.updPort k fun p =>
      if onL0 then { p with svcRx := if deep then 2 else 1 } else { p with bulkRx := if deep then 3 else 2 }).retarget
  | .down => .next s
  | .detect => .next s
  | .align => .next s
  | .config => .next s
  | .rateSwitch => .next s
  | .recovery => .next s

/-- FIREFLY_BURST_END (R308, R309): the burst ends at its SKP, with lock or RECOVERY. -/
def execFireflyBurstEnd (n : BitVec 2) (service locked : Bool) (s : State) : Host.Outcome State Fault Refusal :=
  let k := n.toNat
  if (s.port k).st ≠ .up then .next s
  else if !locked then .next (s.recover k)
  else .next (s.updPort k fun p => if service then { p with svcRx := 0 } else { p with bulkRx := 0 }).retarget

/-- L0_SLEEP (R309): the L0 transmitter sleeps, light in P2 and P3, deep in P4. -/
def execL0Sleep (n : BitVec 2) (s : State) : Host.Outcome State Fault Refusal :=
  let k := n.toNat
  let p := s.port k
  let deep := decide (s.pwr.state = 4)
  let ok := decide (2 ≤ s.pwr.state.toNat) && decide (s.pwr.state.toNat ≤ 4) && p.st == .up && p.svcTx == 0 &&
    decide (2 ≤ p.bulkTx.toNat) && s.flag .lnkPhy1 k 16 && p.txq.isEmpty && p.ackOwed == 0 && p.replay.isEmpty &&
    decide (p.sentAt + s.fld .lnkPhy1 k 8 8 ≤ s.now)
  if ok then
    let s := (s.emit (.set k 1 .idlE)).updPort k fun p => { p with svcTx := if deep then 2 else 1 }
    let s := if deep then { s with clk := { s.clk with laneLock := s.clk.laneLock &&& ~~~ ((1 : BitVec 4) <<< k) } } else s
    .next s.retarget
  else .next s

/-! ## Commands of the link layer -/

/-- What new limits allow is sent. -/
def State.pumpAll (s : State) (n : Nat) : State := s.pump (s.port n).txq.length n

/-- ACK_RECEIVED (R326). -/
def execAckReceived (n : BitVec 2) (ackseq : BitVec 12) (w1 : Word) (s : State) : Host.Outcome State Fault Refusal :=
  match s.takeAck n.toNat ackseq w1 with
  | some s => .next (s.pumpAll n.toNat)
  | none => .next s

/-- NAK_RECEIVED (R326): the replay goes before any new packet. -/
def execNakReceived (n : BitVec 2) (ackseq : BitVec 12) (w1 : Word) (s : State) : Host.Outcome State Fault Refusal :=
  match s.takeAck n.toNat ackseq w1 with
  | some s => .next ((s.replayAll n.toNat).pumpAll n.toNat)
  | none => .next s

/-- PACKET_ERROR (R325, R327): a framing error, or a CRC that does not match; characters that show neither are no error. -/
def execPacketError (n : BitVec 2) (rx : List Byte) (framing : Bool) (s : State) : Host.Outcome State Fault Refusal :=
  let k := n.toNat
  let broken := framing || wireShort rx
  if (s.port k).st ≠ .up ∨ (!broken ∧ !wireCrcBad rx) then .next s
  else
    let s := if broken then s else s.updPort k fun p => { p with crcErrs := satInc p.crcErrs 1 }
    .next (if wireAck rx then s else s.sendNak k)

/-- PACKET_ABANDONED (R317): discarded without a NAK. -/
def execPacketAbandoned (_ : BitVec 2) (s : State) : Host.Outcome State Fault Refusal := .next s

/-- ACK_LATENCY_TIMEOUT (R328, R357): the latency that stood when the oldest packet owed was accepted runs out in this tick (log 143). -/
def execAckLatencyTimeout (n : BitVec 2) (s : State) : Host.Outcome State Fault Refusal :=
  let p := s.port n.toNat
  .next (if p.st = .up ∧ 0 < p.ackOwed ∧ p.ackDue < 10 * (s.now + 1) then s.sendAck n.toNat else s)

/-- REPLAY_TIMEOUT (R328): the replay timer has run out with packets unacknowledged, which are replayed. -/
def execReplayTimeout (n : BitVec 2) (s : State) : Host.Outcome State Fault Refusal :=
  let k := n.toNat
  .next (if (s.port k).st = .up ∧ (s.port k).replayDue ≤ s.now then s.replayAll k else s)

/-- CPL_RECEIVED (R340). -/
def execCplReceived (n : BitVec 2) (pkt : Packet) (s : State) : Host.Outcome State Fault Refusal :=
  let a := s.arrive n.toNat pkt
  .next (if a.2 ∧ pkt.typ = 3 then a.1.takeCpl pkt else a.1)

/-- MRD_TIMEOUT (R340). -/
def execMrdTimeout (tag : BitVec 12) (s : State) : Host.Outcome State Fault Refusal :=
  match s.rng.mrds.find? fun m => m.tag == tag with
  | some m => .next (if m.sent ∧ m.at_ + m.limit ≤ s.now then s.endMrd m none else s)
  | none => .next s

/-- TURN (R344). -/
def execTurn (n : BitVec 2) (pkt : Packet) (s : State) : Host.Outcome State Fault Refusal :=
  let a := s.arrive n.toNat pkt
  .next (if a.2 ∧ pkt.typ = 7 then a.1.takeTurn n.toNat pkt.payload else a.1)

/-- TURN_TIMEOUT (R344): no TURN within 100 µs of UP. -/
def execTurnTimeout (n : BitVec 2) (s : State) : Host.Outcome State Fault Refusal :=
  .next (if (s.port n.toNat).phaseAt + 100 ≤ s.now then s.updPort n.toNat fun p => { p with turnWait := false } else s)

/-! ## Register bits (R306, R313, R314): none where the bit is ignored -/

/-- LNK_CTLn.RETRAIN. -/
def State.retrainPort (s : State) (n : Nat) : Option State :=
  if s.portEn n then some ((s.portDown n).updPort n fun p => { p with retPend := true }) else none

/-- LNK_CTLn.RECOVER. -/
def State.recoverPort (s : State) (n : Nat) : Option State :=
  if (s.port n).st = .up then some ((s.recover n).updPort n fun p => { p with recPend := true }) else none

end Sys2Proof.Machine
end

