-- ==== Sys2Proof/Machine/Power.lean ====
section
/-! DEFINITION. Power states and tier gates (R359 to R371, R394 to R396, R87, R88, R117): choosing a state, entering it,
restarting tiers, and opening and closing tier gates. -/

namespace Sys2Proof.Machine

/-! ## What a deep state ends (R489, R539) -/

/-- A debug session ends: the level returns to CLOSED and a halted Hive core resumes; a check of a token in progress goes on (R488,
R489). -/
def State.closeSession (s : State) : State := { s with dbg := { s.dbg with level := 0, left := none } }.hiveResume

/-- The challenge is renewed (R488). -/
def State.newChallenge (s : State) : State :=
  let r := s.randoms 8
  { r.2 with dbg := { r.2.dbg with chal := Tab.setList 0 [] 0 r.1 } }

/-- A check that the entry to P4 or P5 cuts off opens no session, and the challenge is renewed as after every check (R488). -/
def State.dropCheck (s : State) : State :=
  let s : State := { s with dbg := { s.dbg with erasing := false } }
  if s.dbg.checking.isSome then { s with dbg := { s.dbg with checking := none } }.newChallenge else s

/-- A session ends while the node goes on: the core takes up the fuse commands that wait for it. -/
def State.endSession (s : State) : State :=
  if s.die.hiveHalted then s.closeSession.otpPump s.otp.queue.length else s.closeSession

/-- The two-wire target drops its transfer; a pending page write is discarded and counted (R539, R542). -/
def State.twDrop (s : State) : State :=
  { s with tw := { s.tw with
    phase := .idle, refused := 0, pending := [],
    discards := if s.tw.pending.isEmpty then s.tw.discards else satInc s.tw.discards 1 } }

/-- The controller's transaction in progress ends ABORTED (R532, R539). -/
def State.twAbort (s : State) : State :=
  if s.tw.busy then
    { s with
      free := s.free + 1
      tw := { s.tw with busy := false, bootRead := false, vqps := none, result := 6, doneN := min 64 (Config.abortedDone s.free) } }
  else s

/-! ## The choice (R362, R363, R368) -/

/-- An SQ counts: it is not DISABLED, and has work of its own or is within its ring window. -/
def State.sqCounts (s : State) (q : Nat) : Bool :=
  let x := s.sq q
  x.st != .disabled && (decide (0 < x.out) || (x.st == .active && decide (0 < s.pend q)) ||
    match x.usedAt with
    | some t => decide (s.now < t + 1000 * s.fld .pwrRing 0 0 16)
    | none => false)

/-- TOL in tenths of a microsecond. -/
def State.tolerance (s : State) : Nat :=
  s.rng.sqs.foldl (fun a e => if s.sqCounts e.1 then min a (s.fld .sqcW4 e.1 0 16) else a) (s.fld .pwrLatTol 0 0 16)

/-- A temperature in whole degrees as a code (R372). -/
def codeOfDeg (c : Nat) : Nat := 4 * (c + 64)

/-- Some powered tier stands at the Cicada limit; while in P4 the limit is 5 degrees higher (R368, R369). -/
def State.cicadaHot (s : State) : Bool :=
  let lim := codeOfDeg (s.fld .pwrCicada 0 0 8 + (if s.pwr.state = 4 then 5 else 0))
  s.poweredTiers.any fun t => decide (lim ≤ s.effTemp t)

/-- PWR_STAT.CICADA_BLOCK (R386). -/
def State.cicadaBlock (s : State) : Nat :=
  oneIf s.cicadaHot + 2 * oneIf (s.thm.converge != 0) + 4 * oneIf s.thm.hold + 8 * oneIf (s.fld .pwrCfg 0 16 3 != 4)

/-- Exit latency of a state in tenths of a microsecond (R359). -/
def exitLatency (p : Nat) : Nat :=
  match p with
  | 1 => 2 | 2 => 30 | 3 => 500 | 4 => 30000 | _ => 0

/-- The chosen state. -/
def State.chosen (s : State) : Nat :=
  let tol := s.tolerance
  let top := s.fld .pwrCfg 0 16 3
  largestFit (fun p => decide (exitLatency p ≤ tol) && decide (p ≤ top) && (p != 4 || s.cicadaBlock == 0)) 4

/-! ## Entering a deeper state (R364) -/

/-- The multiplier a tier enters P4 at (R156). -/
def Tier.restMult (t : Tier) (dest : Nat) : Nat := if dest = 4 ∧ t.season = 2 then t.trial.toNat else 0

/-- Steps 3 and 4 for one tier: only what is not yet done. A tier that rests in self-refresh at another multiplier leaves
it for the write of mode register 4 (log 27). -/
def State.parkTier (s : State) (dest t : Nat) : State :=
  let x := s.tier t
  let m := x.restMult dest
  if dest = 2 then
    if x.selfRef ∨ x.pwrDown then s else (s.settleTier t).updTier t fun x => { x with pwrDown := true }
  else if x.selfRef then
    if x.usedMult.toNat = m then s else ((s.liveChans t).foldl (fun s i => s.word i opSrx 0 0) s).sreTier t m
  else if x.pwrDown then s.sreTier t m
  else s.selfRefresh t m

/-- Step 5: the domains that P2 to P4 gate, and the PLLs a state stops; CK_HIVE runs from CK_RC meanwhile (R37, R359). -/
def State.gateClocks (s : State) (dest : Nat) : State :=
  let s := { s with pwr := { s.pwr with gateA := true, gateB := true } }
  if dest < 3 then s
  else { s with clk := { s.clk with fabA := false, fabB := false, tierLock := 0, hiveOnRc := true } }

/-- What entry to P4 ends, and the key slots that lose their power (R370, R477, R489, R539). -/
def State.enterCicada (s : State) : State :=
  let keep := s.flag .pwrCfg 0 19
  let s := s.closeSession.dropCheck.twDrop.twAbort
  { s with
    pwr := { s.pwr with keysKept := keep, p4Since := s.now }
    sec := if keep then s.sec else { s.sec with slots := [], kwk := none } }

/-- Entry to a deeper state, or a move between deep states in place. -/
def State.enterDeep (s : State) (dest cause : Nat) : State :=
  let s := s.moveAllBulk dest
  let s := (s.poweredTiers.filter fun t => !(s.tier t).trstLow).foldl (fun s t => s.parkTier dest t) s
  let s := s.gateClocks dest
  let s := if dest = 4 then s.enterCicada else s
  let s := if dest = 4 then s.moveIslands else s
  ({ s with pwr := { s.pwr with restart := [], restartAt := none } }.setPower dest cause).retarget

/-- The node's power state follows R363 while start-up has ended, no exit is in progress and the crystal runs (log 28). -/
def State.powerMoves (s : State) : Bool :=
  s.die.mode == .running && s.die.dataService && !s.pwr.exiting && !s.clk.parked && s.clk.back == 0 && s.pwr.offStage == 0 &&
    decide (s.pwr.state.toNat < 5)

/-- R363 but for the entry after IDLE_US: P0 and P1 follow the host's work, and a change of the choice or work inside the
node moves a deep state (log 62). -/
def State.judgePower (s : State) : State :=
  if !s.powerMoves then s
  else match s.pwr.state.toNat with
  | 0 => if !s.busyHost ∧ s.lnk.parked.isEmpty ∧ 1 ≤ s.chosen then (s.setPower 1 1).retarget else s
  | 1 => if s.busyHost then (s.setPower 0 11).retarget else if s.chosen = 0 then s.startExit 7 else s
  | p =>
    if s.hasWork then (s.startExit 11).retarget
    else if s.chosen < p then (s.startExit (if p = 4 ∧ s.cicadaHot then 6 else 7)).retarget
    else if p < s.chosen then s.enterDeep s.chosen 1
    else s

/-- No burst is in progress on any channel. -/
def State.stackQuiet (s : State) : Bool := s.tch.chans.all fun e => e.2.active.isEmpty

/-- R363 with its idle time: after IDLE_US without work the node enters the chosen state, once the last burst has ended. -/
def State.judgeIdle (s : State) : State :=
  let s := s.judgePower
  if s.powerMoves ∧ s.pwr.state.toNat < 2 ∧ 2 ≤ s.chosen ∧ !s.hasWork ∧ s.pwr.idleSince + s.fld .pwrCfg 0 0 16 ≤ s.now ∧ s.stackQuiet
  then s.enterDeep s.chosen 1
  else s

/-! ## Tier gates (R394 to R396) -/

/-- A write of PWR_TIER_GATE: changed bits queue openings and closings; a closing in progress, whose quiesce has begun, ends first
(R395, R396). -/
def State.gateChange (s : State) (old new : Word) : State :=
  allTiers.foldl (fun s n =>
    let x := s.tier n
    if bitOf old n = bitOf new n then s
    else if bitOf new n then
      { s with pwr := { s.pwr with
        closeQ := if s.pwr.opening = some n then s.pwr.closeQ.erase n else s.pwr.closeQ
        openQ := if x.open_ then s.pwr.openQ else insertSorted n s.pwr.openQ } }
    else
      { s with pwr := { s.pwr with
        openQ := s.pwr.openQ.erase n
        closeQ := if x.open_ then insertSorted n s.pwr.closeQ else s.pwr.closeQ } }) s

/-- Start-up queues the openings that PWR_TIER_GATE asks for, in rising tier order (R395, R421 step 6). -/
def State.queueOpenings (s : State) : State :=
  let w := s.cfgWord .pwrTierGate 0
  { s with pwr := { s.pwr with openQ := allTiers.filter fun n => bitOf w n && !(s.tier n).open_ && s.pwr.opening != some n } }

/-- Tier gates move in P0 and P1 of a running die whose PLLs have locked (R394, R395, R421 step 6). -/
def State.gatesMove (s : State) : Bool :=
  s.die.mode == .running && s.clk.xtalGood && s.clk.fabA && s.clk.fabB && decide (s.pwr.state.toNat < 2) && !s.pwr.exiting &&
    s.pwr.offStage == 0

/-- No slot of a tier is in the codec. -/
def State.decodesDone (s : State) (t : Nat) : Bool := (chansOfTier t).all fun i => (s.chan i).dec.isEmpty

/-- Asserts TRST_N on a tier and closes both its gates: its rows and readiness are lost (R87, R117, R137). -/
def State.closeGates (s : State) (t : Nat) : State :=
  (s.resetTier t).updTier t fun x => { x with open_ := false, good := false }

/-- The channels of a tier start their training: those never retired and not yet trained (R101, R117). -/
def State.trainTier (s : State) (t : Nat) : State :=
  (s.liveChans t).foldl (fun s i => if (s.chan i).st = .untrained then s.startTraining i .training else s) s

/-- The controller reads the tier identity by MRR from the lowest channel that is not retired (R88). -/
def State.readIdentity (s : State) (t : Nat) : State :=
  match (s.liveChans t).head? with
  | some i =>
    ([0, 1, 2, 5, 16, 17, 18, 19, 20, 21, 22, 23].foldl (fun s ma => s.word i opMrr 0 (mrwOperand ma 0)) s).updTier t fun x => { x with awaitId := true }
  | none => s

/-- The identity check of R88. -/
def State.identOk (s : State) (x : TierId) : Bool :=
  x.vendor != 0 && x.vendor != 0xFF && fieldOf (x.rev.setWidth 32) 4 4 == 1 && x.geom == 0x36 &&
    decide (2 * s.fld .wvlCfg 0 0 12 ≤ 256 * (x.dist.toNat % 64)) && decide (s.fld .wvlCfg 0 12 3 ≤ x.dist.toNat / 64 + 1)

/-! ## Commands -/

/-- IDLE_TIMEOUT (R363). -/
def execIdleTimeout (s : State) : Host.Outcome State Fault Refusal := .next s.judgeIdle

/-- RING_WINDOW_EXPIRE (R362, R363): the choice is judged again once the SQ's window has ended. -/
def execRingWindowExpire (q : BitVec 12) (s : State) : Host.Outcome State Fault Refusal :=
  .next (if s.sqCounts q.toNat then s else s.judgeIdle)

/-- WAKE_PULSE_END (R365): the WAKE_N pulse of 1 ms ends. -/
def execWakePulseEnd (s : State) : Host.Outcome State Fault Refusal :=
  .next (if s.pwr.wakeLeft = 0 then { s with pwr := { s.pwr with wakeLow := false } } else s)

/-- A restart in which no further tier waits, with the base die's domains restarted, ends an exit from P4. -/
def State.restartsDone (s : State) : State :=
  if s.pwr.restart.isEmpty then
    let s := { s with pwr := { s.pwr with restartAt := none } }
    if s.pwr.exiting ∧ !s.pwr.gateA ∧ !s.pwr.gateB then s.endExit.retarget.flushHeld else s
  else s

/-- TIER_RESTART_DUE (R360, R366, R409, R420, R425): the next tier receives SRX or its clock, 32 µs after the last one and
once its PLL has locked; a tier that a reset found above x1 gets its wake pass. -/
def State.tierRestartDue (s : State) : State :=
  match s.pwr.restart with
  | [] => s
  | t :: rest =>
    let due := match s.pwr.restartAt with | some at_ => decide (at_ ≤ s.now) | none => true
    if !due ∨ ((s.tier t).powered ∧ !(bitOf s.clk.tierLock t)) ∨ !s.loadFits tierLoad ∨ !s.srxSpaced ∨ !s.islesDone then s
    else
      let s := { s with pwr := { s.pwr with restart := rest, restartAt := some (s.now + 32) } }
      let s := if (s.tier t).powered ∧ ((s.tier t).selfRef ∨ (s.tier t).pwrDown) then
          let s := if (s.tier t).accepted then s
            else (s.liveChans t).foldl (fun s i => s.word i opMrw 0 (mrwOperand 3 (s.tier t).freqNow.toNat)) s
          let s := (s.clockTier t).heldFreq t
          let s := if bitOf s.die.relaxed t ∧ !(s.tier t).accepted then s.startWake t false else s
          if (s.tier t).accepted then s else s.readIdentity t
        else s
      s.restartsDone

/-- GATE_OPENING_START (R394, R395, R398): one opening at a time, the next no sooner than 128 µs after the last one started, and
once its inrush, of 96 µs, fits in the allowance. -/
def execGateOpeningStart (s : State) : Host.Outcome State Fault Refusal :=
  match s.pwr.openQ with
  | [] => .next s
  | t :: rest =>
    let spaced := match s.pwr.lastOpen with | some at_ => decide (at_ + 128 ≤ s.pwr.us) | none => true
    if !s.gatesMove ∨ s.pwr.opening.isSome ∨ !spaced ∨ !s.loadFits gateLoad then .next s
    else
      let s := s.grant gateLoad 96
      let s := { s with pwr := { s.pwr with openQ := rest, opening := some t, lastOpen := some s.pwr.us } }
      .next (s.updTier t fun x => { x with open_ := true, good := false, trstLow := true })

/-- TIER_GOOD (R394 steps 3, 4, R117): the tier is powered, and TRST_N is held low. -/
def execTierGood (t : BitVec 5) (s : State) : Host.Outcome State Fault Refusal :=
  let n := t.toNat
  if s.pwr.opening ≠ some n then .next s
  else
    let s := { s with pwr := { s.pwr with opening := none } }
    let s := (s.resetTier n).updTier n fun x => { x with good := true, failed := false }
    .next (s.inputChange 32).noteLevel

/-- TIER_GATE_TIMEOUT (R394 step 3): a tier not good in time has its gates closed, and its failure recorded. -/
def execTierGateTimeout (t : BitVec 5) (s : State) : Host.Outcome State Fault Refusal :=
  let n := t.toNat
  if s.pwr.opening ≠ some n ∨ (s.pwr.lastOpen.any fun at_ => s.pwr.us < at_ + 200) then .next s
  else
    let s := { s with pwr := { s.pwr with opening := none, closeQ := s.pwr.closeQ.erase n } }
    let s := (s.closeGates n).updTier n fun x => { x with failed := true }
    .next (s.raise n 5)

/-- A tier whose gates have closed is to open again where its bit is 1 (R395). -/
def State.reopenGate (s : State) (n : Nat) : State :=
  if bitOf (s.cfgWord .pwrTierGate 0) n ∧ s.die.mode = .running ∧ s.pwr.offStage = 0 then
    { s with pwr := { s.pwr with openQ := insertSorted n s.pwr.openQ } }
  else s

/-- A closing may be done: in P0 and P1 once the tier's bursts have ended, and on the way to P5 (R367, R394, R395). -/
def State.mayClose (s : State) (n : Nat) : Bool :=
  (s.die.mode == .running || s.die.mode == .restarting) && s.pwr.closeQ.contains n && s.pwr.opening != some n && s.tierQuiet n && s.decodesDone n && s.loadFits gateLoad &&
    (match s.pwr.lastClose with | some at_ => decide (at_ + 32 ≤ s.pwr.us) | none => true) &&
    (s.pwr.offStage == 2 || (decide (s.pwr.state.toNat < 2) && !s.pwr.exiting))

/-- GATE_CLOSING (R117, R394, R395, R398): 32 µs after the last closing a tier ends what it holds UNAVAILABLE, has TRST_N asserted and
its gates closed; where its bit has returned to 1 meanwhile, it is to open again. -/
def execGateClosing (t : BitVec 5) (s : State) : Host.Outcome State Fault Refusal :=
  let n := t.toNat
  if !s.mayClose n then .next s
  else
    let held := (chansOfTier n).flatMap fun i => (s.chan i).queue ++ (s.chan i).ringq
    let s := if (s.tier n).selfRef ∨ (s.tier n).trstLow then s else s.selfRefresh n 0
    let s := s.grant gateLoad 0
    let s := { s with pwr := { s.pwr with closeQ := s.pwr.closeQ.erase n, lastClose := some s.pwr.us } }
    let s := ((s.closeGates n).failAll held 0x10 0x08).reopenGate n
    .next (s.inputChange 32).noteLevel

/-- TRST_RELEASE (R87, R88): 10 µs after the gates are good the tier is released, refresh starts, and its identity is read. -/
def execTrstRelease (t : BitVec 5) (s : State) : Host.Outcome State Fault Refusal :=
  let n := t.toNat
  if (s.tier n).powered ∧ (s.tier n).trstLow ∧ !s.pwr.closeQ.contains n ∧ s.pwr.state.toNat < 2 ∧ s.die.mode = .running ∧ bitOf s.clk.tierLock n ∧
      (s.tier n).trstAt + 10 ≤ s.now then
    let s := s.updTier n fun x => { x with trstLow := false }
    .next ((s.updChans (chansOfTier n) fun i c => { c with dueAt := s.firstDue i }).readIdentity n)
  else .next s

/-- IDENTITY_CHECK (R88, R103): an accepted tier is trained, in its group where start-up has not ended; another is not
served, and its source is raised. -/
def execIdentityCheck (t : BitVec 5) (ident : TierId) (s : State) : Host.Outcome State Fault Refusal :=
  let n := t.toNat
  let x := s.tier n
  if !x.powered ∨ x.trstLow ∨ x.selfRef ∨ x.pwrDown ∨ !x.awaitId then .next s
  else
    let ok := s.identOk ident
    let s := s.updTier n fun x => { x with ident := ident, accepted := ok, awaitId := false }
    if !ok then .next (s.raise n 4)
    else if n / 8 < s.tch.group ∨ (s.tch.groupRun ∧ n / 8 = s.tch.group) then .next ((s.trainTier n).heldFreq n)
    else .next (s.heldFreq n)

end Sys2Proof.Machine
end

