-- ==== Sys2Proof/Machine/SelfTest.lean ====
section
/-! DEFINITION. Logic BIST (R456 to R463, R467, R468): runs, segments, results. -/

namespace Sys2Proof.Machine

/-- Patterns of a segment (R457). -/
def segmentPatterns : Nat := 14

/-- What a segment charges each channel of its partition, in quarters of a nanosecond (R459). -/
def segmentQ : Nat := 28 * microQ

/-- Channels that a segment of a partition charges (R456). -/
def State.partChans (s : State) (p : Nat) : List Nat :=
  if p < 4 then s.servingChans.filter fun i => tierOf i / 8 == p else if p = 4 then s.servingChans else []

/-- The CALIB words. -/
def State.calibWords (s : State) : List Word := Tab.getList 0 s.otp.shadow 0x540 256

/-- Expected signature and coverage of a partition; 0 while CALIB is untrusted (R463). -/
def State.bistExpect (s : State) (p n : Nat) : Word := if s.otp.trusted.getLsbD 3 then Config.bistSignature p n s.calibWords else 0
def State.bistCover (s : State) (p n : Nat) : Nat := if s.otp.trusted.getLsbD 3 then Config.bistCoverage p n s.calibWords else 0

/-- Records the result of the partition in progress: 1 pass, 2 fail, 3 stopped (R467). -/
def State.bistResult (s : State) (res : Nat) : State :=
  let p := s.bst.part
  let r : BstResult :=
    { result := BitVec.ofNat 8 res, count := BitVec.ofNat 32 s.bst.applied, sign := s.bst.misr,
      expect := s.bistExpect p s.bst.patterns, cover := BitVec.ofNat 16 (s.bistCover p s.bst.patterns),
      duration := BitVec.ofNat 32 ((if s.bst.inSegment then s.now else s.bst.lastEnd) - s.bst.startAt), endAt := s.tim.count }
  { s with bst := { s.bst with results := Tab.set .none s.bst.results p r } }

/-- Goes on with the next partition of the run, or ends it (R462). -/
def State.bistNext (s : State) : State :=
  match s.bst.todo with
  | [] => { s with bst := { s.bst with state := 0, part := 0, stopReq := false } }
  | p :: t => { s with bst := { s.bst with part := p, todo := t, applied := 0, startAt := s.now, lastEnd := s.now, misr := 0, lfsr := Config.lfsrSeed p } }

/-- Starts a run over the enabled partitions (R462, R468). -/
def State.bistStart (s : State) (periodic : Bool) : State :=
  let en := s.fld .bstCfg 0 8 8
  let s := { s with bst := { s.bst with
    state := 1, todo := (List.range 6).filter fun p => en / 2 ^ p % 2 == 1, patterns := 4096 * 2 ^ s.fld .bstCfg 0 16 2, stopReq := false,
    due := s.bst.due && !periodic, lastStart := if periodic then s.now else s.bst.lastStart } }
  s.bistNext

/-- The run ends STOPPED, in the middle of a segment or between two (R461). A stack test in progress ends with no verdict: its SCRAP
bits stay as they stood, and no row keeps what it held (R465, log 37). -/
def State.bistHalt (s : State) : State :=
  if s.bst.state = 2 then
    { s with bst := { s.bst with state := 0, retain := none }, pcd := { s.pcd with rdy := [], store := [] } }
  else if s.bst.state ≠ 1 then s
  else
    let s := s.bistResult 3
    { s with bst := { s.bst with state := 0, part := 0, todo := [], inSegment := false, stopReq := false } }

/-- Tiers whose controllers a segment of a partition affects (R456). -/
def partTiers (p : Nat) : List Nat := if p < 4 then (List.range 8).map (8 * p + ·) else if p = 4 then allTiers else []

/-- Bursts of the channels that a partition serves have ended: its patterns wait for them (R459). -/
def State.partQuiet (s : State) (p : Nat) : Bool := (partTiers p).all s.tierQuiet

/-- Every channel of the affected tiers comes to a debt of 0 or below before a segment (R459). -/
def State.settleDebts (s : State) (p : Nat) : State :=
  ((partTiers p).flatMap s.liveChans).foldl (fun (s : State) i =>
    if s.refreshes i then s.issueRefs (s.chan i).debt.toNat i else s) s

/-- A segment may start at this boundary: P0 or P1, and on every channel of the partition the budget and the floors allow it
(R459, R462). -/
def State.segmentFits (s : State) : Bool :=
  s.bst.state == 1 && !s.bst.inSegment && decide (s.pwr.state.toNat < 2) && s.die.mode == .running &&
    (s.partChans s.bst.part).all fun i => decide ((segmentQ : Int) ≤ (s.chan i).remain.bist) && s.mayIssue i .bist segmentQ

/-- Step 6 of R51 for logic BIST: a periodic run that is due starts, and a segment of the run in progress: from now on nothing issues
to its channels, and its patterns follow the bursts in progress (R457, R459, R462). -/
def State.bistBoundary (s : State) : State :=
  let s := if s.bst.due ∧ s.bst.state = 0 ∧ s.pwr.state.toNat < 2 ∧ s.flag .bstCfg 0 0 ∧ !(s.bst.memFail.getLsbD 15) then s.bistStart true else s
  if !s.segmentFits then s
  else
    let s := (s.partChans s.bst.part).foldl (fun (s : State) i =>
      (s.takePlace i false segmentQ).charge i .bist segmentQ) (s.settleDebts s.bst.part)
    { s with bst := { s.bst with inSegment := true, startAt := if s.bst.applied = 0 then s.now else s.bst.startAt } }

/-! ## Commands -/

/-- What the channels and tiers of a partition take up again once a segment has ended: owed REF, ends of freezes, retrainings,
requests and frequency changes that waited (R459, R460). -/
def State.afterSegment (s : State) (p : Nat) (chans : List Nat) : State :=
  let s := chans.foldl (fun (s : State) i => ((((s.issueOwed i).issueNrefs i).judgeFreeze i).judgeRetrain i).letIn i) s
  if p < 4 then (partTiers p).foldl (fun s t => (s.heldFreq t).judgeFreq t) s else s

/-- BIST_SEGMENT_END (R457, R459, R463, R468): the state is restored; after its last pattern the partition's MISR is judged, and
owed REF issue. -/
def State.segmentEnd (s : State) (misr : Word) : State :=
  if !s.bst.inSegment ∨ !s.partQuiet s.bst.part then s
  else
    let p := s.bst.part
    let chans := s.partChans p
    let s := { s with bst := { s.bst with
      inSegment := false, lastEnd := s.now, misr := misr, lfsr := Config.lfsrAfter s.bst.lfsr, applied := min s.bst.patterns (s.bst.applied + segmentPatterns) } }
    let bit : Byte := BitVec.ofNat 8 (2 ^ p)
    let s : State :=
      if s.bst.patterns ≤ s.bst.applied then
        let ok := s.otp.trusted.getLsbD 3 && misr == s.bistExpect p s.bst.patterns
        let s := s.bistResult (if ok then 1 else 2)
        let s := { s with bst := { s.bst with
          logicFail := if ok then s.bst.logicFail &&& ~~~ bit else s.bst.logicFail ||| bit } }
        let s := if ok then s else s.raise 83 (1 + 2 ^ 8 * p)
        if s.bst.stopReq then { s with bst := { s.bst with todo := [] } }.bistNext else s.bistNext
      else if s.bst.stopReq then s.bistHalt
      else s
    s.afterSegment p chans

/-- BIST_PERIODIC_DUE (R462, R468): PERIOD_H hours after the last periodic start a run falls due; it starts at the next
boundary in P0 or P1. -/
def execBistPeriodicDue (s : State) : Host.Outcome State Fault Refusal :=
  if !s.flag .bstCfg 0 0 ∨ s.bst.memFail.getLsbD 15 ∨ s.now < s.bst.lastStart + 3600000000 * s.fld .bstCfg 0 24 8 ∨
    s.die.mode ≠ .running then .next s
  else .next { s with bst := { s.bst with due := true } }

/-! ## Register writes (R465, R468): none where the bit is ignored -/

/-- BST_CTL.RUN: ignored while a run is in progress, and where in-field BIST is disabled. -/
def State.bistRun (s : State) : Option State :=
  if s.bst.state ≠ 0 ∨ s.bst.memFail.getLsbD 15 then none else some (s.bistStart false)

/-- BST_CTL.STOP: the run stops after its segment. -/
def State.bistStop (s : State) : State :=
  if s.bst.state ≠ 1 then s
  else if s.bst.inSegment then { s with bst := { s.bst with stopReq := true } }
  else s.bistHalt

/-- The stack-test conditions of R465: the power cap, and a tester on P0 that offers rate code 5 on eight lanes. -/
def State.stackReady (s : State) : Bool :=
  decide (s.lifecycle < 2) && s.fld .budCap 0 0 16 == 60000 && (s.port 0).pRates.getLsbD 5 && (s.port 0).pLanesOk == 0xFF

/-- What memory BIST of every group destroys: commands and their buffers, merge slots, keys, replay buffers, Weevil and substitution
tables, channel queues and logs (R464) (log 37). -/
def State.spoilMemory (s : State) : State :=
  let s := s.stopRings
  { s with
    sec := { s.sec with slots := [] }
    pcd := { s.pcd with merge := [] }
    scb := { s.scb with log := [] }
    rng := { s.rng with cmds := [], integ := [] }
    qos := { s.qos with report := [] }
    tch := { s.tch with subs := [], chans := Tab.mapVals Chan.init (fun _ c => { c.clearWeevil with nrefQ := [], queue := [], ringq := [] }) s.tch.chans }
    lnk := { s.lnk with ports := Tab.mapVals Port.init (fun _ p => { p with replay := [] }) s.lnk.ports } }

/-- A group of memory BIST fails in a stack test: what it serves goes out of service (R36, R464). -/
def State.groupFails (s : State) (g : Nat) : State :=
  let s := s.raise 83 (2 + 2 ^ 8 * g)
  let half : Word := if g = 10 then 0x0000FFFF else 0xFFFF0000
  if g = 0 then { s with die := { s.die with hiveRun := false } }
  else if 4 ≤ g ∧ g < 8 then s.portDown (g - 4)
  else if g = 10 ∨ g = 11 then
    { s with pcd := { s.pcd with codecOut := s.pcd.codecOut ||| (Config.failedEngines s.free &&& half) }, free := s.free + 1 }
  else s

/-- Step 2 of the stack test: every group's memory BIST, which destroys what its SRAMs hold; each group passes, or which fail is
open (R464, R465, R467). -/
def State.stackMemory (s : State) (fail2 : Bool) : State :=
  let mask : BitVec 16 := if fail2 then Config.stackGroups s.free else 0
  let s := s.spoilMemory
  let s : State := { s with free := s.free + 1, bst := { s.bst with memFail := mask, memDone := 0xFFFF } }
  (List.range 16).foldl (fun (s : State) g =>
    let bad := mask.getLsbD g
    let r : BstResult :=
      { result := if bad then 2 else 1, count := if bad then Config.stackMisr s.free else 0, sign := 0, expect := 0, cover := 0,
        duration := Config.memoryBistTime s.free, endAt := s.tim.count }
    let s := { s with free := s.free + 1, bst := { s.bst with results := Tab.set .none s.bst.results (8 + g) r } }
    if bad then s.groupFails g else s) s

/-- Result entries of the partitions that step 1 of the stack test tests unsegmented, at 32,768 patterns: each passes, or the one
that fails is open; with CALIB untrusted every one fails (R463, R465, R467). -/
def State.stackResults (s : State) (fail1 : Bool) : State :=
  let mask := if s.otp.trusted.getLsbD 3 then Config.stackFails s.free else 0xFF
  let s : State := if fail1 then { s with free := s.free + 1 } else s
  (List.range 8).foldl (fun (s : State) p =>
    let bad := fail1 && mask.getLsbD p
    let r : BstResult :=
      { result := if bad then 2 else 1, count := 32768, sign := if bad then Config.stackMisr (8 * s.free + p) else s.bistExpect p 32768,
        expect := s.bistExpect p 32768, cover := BitVec.ofNat 16 (s.bistCover p 32768), duration := Config.memoryBistTime s.free,
        endAt := s.tim.count }
    let bit : Byte := BitVec.ofNat 8 (2 ^ p)
    let s := { s with bst := { s.bst with
      results := Tab.set .none s.bst.results p r
      logicFail := if bad then s.bst.logicFail ||| bit else s.bst.logicFail &&& ~~~ bit } }
    if bad then s.raise 83 (1 + 2 ^ 8 * p) else s) { s with free := s.free + 1 }

/-- The verdict of a stack test; every readiness bit is cleared, and no row keeps what it held (R465). -/
def State.stackVerdict (s : State) (fail : BitVec 4) : State :=
  { s with
    bst := { s.bst with state := 0, retain := none, scrap := fail != 0, scrapStep := fail }
    pcd := { s.pcd with rdy := [], store := [] } }

/-- The stack test ends: the format walk starts from the first slot everywhere (R138, R465). -/
def State.stackEnd (s : State) (fail : BitVec 4) : State :=
  (allTiers.foldl (fun s t => s.formatAgain t) s).stackVerdict fail

/-- The first step that fails among the first five: the one that the tester names, or an earlier one that the node itself judges (R463,
R465): CALIB untrusted, a tier that failed its opening or its identity check, a channel that training retired. -/
def State.stackFirst (s : State) (fail : BitVec 4) : BitVec 4 :=
  let k := fail.toNat
  if k = 1 ∨ !s.otp.trusted.getLsbD 3 then 1
  else if k = 2 then 2
  else if k = 3 ∨ allTiers.any (fun t => (s.tier t).failed || ((s.tier t).powered && !(s.tier t).trstLow && !(s.tier t).awaitId && !(s.tier t).accepted))
    then 3
  else if k = 4 ∨ s.tch.chans.any (fun e => e.2.retired) then 4
  else fail

/-- Step 7 fails: a tier sensor is invalid, or more than 4 degrees from the mean of SB0 to SB11 (R465). -/
def State.sensorsBad (s : State) : Bool :=
  let sum := ((List.range 12).map s.baseOf).foldl (· + ·) 0
  s.poweredTiers.any fun t => s.thm.invalid.getLsbD t || decide (192 < 12 * s.sampleOf t - sum) || decide (192 < sum - 12 * s.sampleOf t)

/-- Step 8 fails: P0 is not UP at rate code 5 on eight lanes, or a lane's eye is below 90/256 UI (R465). -/
def State.testerBad (s : State) : Bool :=
  let p := s.port 0
  p.st != .up || p.rate != 5 || p.lanes != 0xFF || (List.range 8).any fun l => decide ((p.lane l).eye.toNat < 90)

/-- The first failing step once the retention step has ended (R465). -/
def State.stackLast (s : State) (fail : BitVec 4) : BitVec 4 :=
  if fail = 6 then 6 else if fail = 7 ∨ s.sensorsBad then 7 else if fail = 8 ∨ s.testerBad then 8 else fail

/-- The pattern slot of the stack test, at T_CODE 4 (R465 step 5). -/
def prbsSlot : Slot := newSlot Config.stackPattern (crc32c Config.stackPattern) 0 false false false 0

/-- Channels that the stack test writes and reads. -/
def State.stackChans (s : State) : List Nat := s.poweredTiers.flatMap s.liveChans

/-- Writes pattern rows of a bank on all channels at once (R465, R466). -/
def State.patternRows (s : State) (bank from_ to_ : Nat) : State :=
  (List.range (to_ - from_)).foldl (fun s k => s.stackChans.foldl (fun s i => s.putSlot i bank (from_ + k) (some prbsSlot)) s) s

/-- Reads pattern rows of a bank back. -/
def State.patternHolds (s : State) (bank from_ to_ : Nat) : Bool :=
  (List.range (to_ - from_)).all fun k => s.stackChans.all fun i => s.slotAt i bank (from_ + k) == some prbsSlot

/-- The Hive core starts the flow: steps 1 to 5 are done at once, and step 5 leaves its pattern in every data and spare row; the
retention step then waits for its temperatures (R26, R465) (log 37). -/
def State.stackBegin (s : State) (r : RetainRun) : State :=
  let fail := s.stackFirst r.fail
  let k := fail.toNat
  let s := (s.stackResults (k == 1)).stackMemory (k == 1 || k == 2)
  let s := (List.range 16).foldl (fun s b => s.patternRows b 0 4128) s
  if 1 ≤ k ∧ k ≤ 5 then s.stackEnd fail
  else { s with bst := { s.bst with retain := some { r with begun := true, fail := fail } } }

/-- BST_CTL.STACK_TEST: the flow, whose first failing step the tester's stack decides; it waits for the Hive core, which orchestrates
it (R26, R465). -/
def State.stackTest (s : State) (failStep : Option (BitVec 4)) : Option State :=
  if !s.stackReady ∨ s.bst.state ≠ 0 then none
  else
    let r : RetainRun := { begun := false, bank := 0, at_ := none, written := 0, read := 0, fail := failStep.getD 0 }
    let s := { s with bst := { s.bst with state := 2, retain := some r } }
    some (if s.hiveOk then s.stackBegin r else s)

/-! ## The retention step (R466) -/

/-- Every powered tier's effective temperature lies between 80 and 84 degrees. -/
def State.soaked (s : State) : Bool :=
  s.poweredTiers.all fun t => decide (576 ≤ s.effTemp t) && decide (s.effTemp t ≤ 592)

/-- Rows done of a bank's 4,128 some ticks after the first: they are spread evenly over what is left of the bank's 47.5 ms (log 37). -/
def retainRows (e : Nat) : Nat := min 4128 (e * 4128 / 14348 + 1)

/-- Reads the rows of the bank under test up to `d`, and writes those up to `w`: a row that does not hold its pattern fails step 6. -/
def State.retainRowsTo (s : State) (r : RetainRun) (w d : Nat) : State × RetainRun :=
  let ok := s.patternHolds r.bank r.read d
  (s.patternRows r.bank r.written w,
    { r with written := w, read := d, fail := if ok ∨ r.fail = 6 then r.fail else 6 })

/-- A tick of the retention step: a bank's rows are written, and each is read 33.152 ms after its write; after the sixteenth bank
the flow's other steps are done and it ends. The Hive core orchestrates it (R26). -/
def State.retainTick (s : State) : State :=
  match s.bst.retain with
  | none => s
  | some r =>
    let put (a : State × RetainRun) : State := { a.1 with bst := { a.1.bst with retain := some a.2 } }
    if !s.hiveOk then s
    else if !r.begun then s.stackBegin r
    else match r.at_ with
    | none => if s.soaked then put (s.retainRowsTo { r with at_ := some s.now } 1 0) else s
    | some t =>
      let e := s.now - t
      if 47500 ≤ e then
        let a := s.retainRowsTo r 4128 4128
        if r.bank = 15 then a.1.stackEnd (a.1.stackLast a.2.fail)
        else put (a.1.retainRowsTo { a.2 with bank := r.bank + 1, at_ := some s.now, written := 0, read := 0 } 1 0)
      else put (s.retainRowsTo r (retainRows e) (if e < 33152 then 0 else retainRows (e - 33152)))

end Sys2Proof.Machine
end

