-- ==== Sys2Proof/Machine/Thermal.lean ====
section
/-! DEFINITION. Temperatures (R85, R92, R96, R369, R372 to R381): samples, the model, suspect sensors, the thresholds, the
throttle and Click. -/

namespace Sys2Proof.Machine

/-! ## The model (R374, R376) -/

/-- V(k): the model value of a tier whose sensor is suspect or that is unpowered, else its last sample (log 30). -/
def State.modelIn (s : State) (k : Nat) : Int :=
  if s.thm.suspect.getLsbD k ∨ !(s.tier k).powered then Tab.get 0 s.thm.model k else 65536 * s.sampleOf k

/-- B: the highest base-die sample. -/
def State.baseMax (s : State) : Nat := maxOf ((List.range 16).map s.baseOf)

/-- I(n), in 1/65,536 of a code. -/
def State.surround (s : State) (n : Nat) : Int :=
  match n with
  | 0 => (65536 * s.baseMax + s.modelIn 1) / 2
  | 31 => s.modelIn 30
  | n => (s.modelIn (n - 1) + s.modelIn (n + 1)) / 2

/-- P(n) in 1/20,480 mW: no power for an unpowered tier, nor for any tier in the Click hold. -/
def State.tierPower (s : State) (n : Nat) : Nat :=
  let x := s.tier n
  if !x.powered ∨ s.thm.hold then 0
  else
    let e (lo : Nat) : Nat := s.fld .thmEcoef 0 lo 8
    s.tierMw * clock20 x.freqNow * 1024 + 2 * (e 0 * x.nAct + 10 * e 8 * x.nRd + 10 * e 16 * x.nWr + e 24 * x.nRef)

/-- The next M(n); the division keeps 1/65,536 of a code (log 31). -/
def State.modelNext (s : State) (n : Nat) : Int :=
  let a := s.fld .thmCoef n 0 8
  let r := s.fld .thmCoef n 8 8
  let tau := if s.thm.converge = 0 then s.fld .thmCoef n 16 3 else 3
  let x : Int := (a * (65536 * s.baseMax) + (256 - a) * s.surround n) / 256 + r * s.tierPower n / 625
  let m := Tab.get 0 s.thm.model n
  m + (x - m) / 2 ^ tau

/-- Every sensor that can give a first sample has given one: base-die sensors, and each tier whose gates are to be open
and have not failed (log 29). -/
def State.allSampled (s : State) : Bool :=
  (List.range 16).all (fun k => s.thm.seen.contains (32 + k)) &&
    allTiers.all fun t =>
      s.thm.seen.contains t || s.thm.invalid.getLsbD t || !(bitOf (s.cfgWord .pwrTierGate 0) t) || (s.tier t).failed

/-- The start of the model: H + R(n) * P_FULL(n) (R376). -/
def State.startModel (s : State) : State :=
  let m (n : Nat) : Int := 65536 * s.thm.firstTop + s.fld .thmCoef n 8 8 * (2 * s.fld .thmCoef n 20 12) * 65536 / 2000
  { s with thm := { s.thm with modelUp := true, model := Tab.setList 0 [] 0 (allTiers.map m) } }

/-- The model's part of a node-epoch boundary: it starts once every first sample is there, then takes one step. -/
def State.stepModel (s : State) : State :=
  let s' := if s.thm.modelUp then
      { s with thm := { s.thm with model := Tab.setList 0 [] 0 (allTiers.map s.modelNext), converge := s.thm.converge - 1 } }
    else if s.allSampled then s.startModel else s
  allTiers.foldl (fun s t => s.updTier t fun x => { x with nAct := 0, nRd := 0, nWr := 0, nRef := 0 }) s'

/-! ## Suspect sensors (R373, R375) -/

/-- Declares a tier's sensor suspect. -/
def State.suspectTier (s : State) (t : Nat) (invalid : Bool) : State :=
  let bit := (1 : Word) <<< t
  if s.thm.suspect.getLsbD t then
    if invalid then { s with thm := { s.thm with invalid := s.thm.invalid ||| bit } } else s
  else
    let s := { s with thm := { s.thm with
      suspect := s.thm.suspect ||| bit, invalid := if invalid then s.thm.invalid ||| bit else s.thm.invalid } }
    let s := s.raise 75 (1 + 2 ^ 8 * t + 2 ^ 13 * oneIf invalid)
    s.postEvent 0x0009 0 2 (BitVec.ofNat 32 t) (s.modelCode t)

/-- Judges one sample of a tier against its surroundings and its model. -/
def State.judgeDistrust (s : State) (t : Nat) : State :=
  if s.thm.converge ≠ 0 ∨ !s.thm.modelUp ∨ s.thm.suspect.getLsbD t then s
  else
    let d : Int := 4 * 65536 * s.fld .thmCfg 0 0 5
    let v : Int := 65536 * s.sampleOf t
    let low := decide (v < s.surround t - d) && decide (v < Tab.get 0 s.thm.model t - d)
    let n := if low then Tab.get 0 s.thm.lowRun t + 1 else 0
    let s := { s with thm := { s.thm with lowRun := Tab.set 0 s.thm.lowRun t n } }
    if 8 ≤ n then s.suspectTier t false else s

/-! ## Thresholds (R377, R378) -/

/-- What a source is judged by: a tier's effective temperature, or its sample while the model converges; a base-die
sensor's sample. -/
def State.sourceTemp (s : State) (k : Nat) : Nat :=
  if 32 ≤ k then s.baseOf (k - 32)
  else if s.thm.converge ≠ 0 ∨ !s.thm.modelUp then s.sampleOf k else s.effTemp k

/-- The sources that are judged: powered tiers, and base-die sensors, that have given a sample. -/
def State.sources (s : State) : List Nat :=
  (List.range 48).filter fun k => s.thm.seen.contains k && (decide (32 ≤ k) || (s.tier k).powered)

def State.thmLimit (s : State) (lo : Nat) : Nat := codeOfDeg (s.fld .thmLimit 0 lo 8)

/-- The enforced cut starts or ends: host ceilings follow at once, and admission (R65, R281, R378). -/
def State.cut (s : State) (on : Bool) : State :=
  let s := { s with
    thm := { s.thm with enforced := on, graceAt := none }
    bud := { s.bud with throttled := on }
    qos := { s.qos with causes := s.qos.causes ||| 8 } }
  ((s.recutClass .host).recutClass .nmo)

/-- A source reaches or leaves the warning and throttle conditions. -/
def State.judgeSource (s : State) (k : Nat) : State :=
  let c := s.sourceTemp k
  let hyst := 4 * s.fld .thmCfg 0 8 4
  let warn := s.thmLimit 0
  let throt := s.thmLimit 8
  let s :=
    if warn ≤ c ∧ !(s.thm.warn.contains k) then
      { s with thm := { s.thm with warn := s.thm.warn ++ [k] } }.postEvent 0x0005 0 1 (BitVec.ofNat 32 k) c
    else if c ≤ warn - hyst then { s with thm := { s.thm with warn := s.thm.warn.erase k } }
    else s
  if throt ≤ c ∧ !(s.thm.throt.contains k) then
    let first := s.thm.throt.isEmpty
    let s := { s with thm := { s.thm with
      throt := s.thm.throt ++ [k]
      graceAt := if first then some s.now else s.thm.graceAt
      graceLen := if first then s.fld .thmThrot 0 0 10 else s.thm.graceLen } }
    s.postEvent 0x0006 0 2 (BitVec.ofNat 32 k) c
  else if c ≤ throt - hyst then { s with thm := { s.thm with throt := s.thm.throt.erase k } }
  else s

/-- The throttle ends when no source holds it. -/
def State.judgeThrottle (s : State) : State :=
  if !s.thm.throt.isEmpty then s
  else if s.thm.enforced then s.cut false
  else { s with thm := { s.thm with graceAt := none } }

/-- Refresh of a tier is halved from 85 degrees until 80 (R92). -/
def State.judgeHot (s : State) (t : Nat) : State :=
  let c := s.effTemp t
  s.updTier t fun x => { x with hot := if codeOfDeg 85 ≤ c then true else if c ≤ codeOfDeg 80 then false else x.hot }

/-- A deep state ends for a tier at the Cicada limit, or for one that refreshes itself too slowly (R96, R369). -/
def State.thermalWatch (s : State) : State :=
  let p := s.pwr.state.toNat
  let slow := s.parkedTiers.any fun t => decide (codeOfDeg 85 ≤ s.effTemp t) && decide (s.sampleOf t < codeOfDeg 85)
  if s.die.mode = .running ∧ 2 ≤ p ∧ p ≤ 4 ∧ (slow ∨ (p = 4 ∧ s.cicadaHot)) then s.startExit 6 else s

/-! ## Click (R379 to R381) -/

/-- Channels that have ended their bursts receive PREA and SRE at x1; no debt rule holds (R417). -/
def State.sreAll (s : State) : State :=
  (s.poweredTiers.filter fun t => !(s.tier t).trstLow && !(s.tier t).selfRef).foldl (fun s t =>
    ((s.liveChans t).foldl (fun s i => s.word i opPrea 0 0) s).sreTier t 0) s

/-- A tier comes to rest in self-refresh at x1, its owed REF first; one that rests above x1 leaves self-refresh for the write of mode
register 4 (R95, R379, R408) (log 121). -/
def State.restTier (s : State) (t : Nat) : State :=
  let x := s.tier t
  if !x.selfRef then s.selfRefresh t 0
  else if x.usedMult = 0 then s
  else ((s.liveChans t).foldl (fun s i => (s.word i opSrx 0 0).word i opPrea 0 0) s).sreTier t 0

/-- Every tier comes to rest (R379, R408). -/
def State.restAll (s : State) : State :=
  (s.poweredTiers.filter fun t => !(s.tier t).trstLow).foldl State.restTier s

/-- The pin THERM_N is low: a source holds the throttle condition, or a shutdown is latched (R377, R379); while VDD_IO is low its
level is a free value (R392) (log 9). -/
def State.thermPin (s : State) : Bool := if s.die.uvIo then Config.pinLevel s.free else !s.thm.throt.isEmpty || s.thm.hold

/-- Every port but those already DOWN goes DOWN; where asked, IDL_E goes out on L0 first. -/
def State.portsDown (s : State) (idle : Bool) : State :=
  (List.range 4).foldl (fun s n =>
    if (s.port n).st = .down then s
    else (if idle ∧ (s.port n).st = .up then s.emit (.set n 1 .idlE) else s).portDown n) s

/-- Bursts already issued end: what a WR burst carries is in the tier, a RECODE's block is marked done, and nothing else of a
request is kept (R134, R209, R417). -/
def State.endBursts (s : State) : State :=
  let rs := s.tch.chans.flatMap fun e => e.2.active
  let s := (rs.filter fun r => r.wr).foldl (fun s r =>
    let s := s.putSlot r.inst r.bank r.phys (if s.codecSlow (tierOf r.inst) then none else r.slot)
    if s.opOf r = some .recode then s.recodeMark r.lbn else s) s
  s.updChans (s.tch.chans.map (·.1)) fun _ c => { c with queue := [], ringq := [], active := [], dec := [], place := false, nrefQ := [] }

/-- One hour, in ticks (R381). -/
def clickWindow : Nat := 3600000000

/-- The shutdown that source `src` brings: fetching and commands stop, bursts end, tiers rest, ports go DOWN, and the Click hold is in
force. -/
def State.shutdown (s : State) (src : Nat) : State :=
    let hot := s.sources.foldl (fun a k => if s.sourceTemp a < s.sourceTemp k then k else a) src
    let at_ : List Int := (s.thm.clickAt.filter fun t => decide ((s.now : Int) < t + clickWindow)) ++ [(s.now : Int)]
    let max_ := s.fld .thmClick 0 8 4
    let s : State := { s with thm := { s.thm with
      hold := true, clicks := satInc s.thm.clicks 1, clickTime := BitVec.ofNat 32 s.now, clickAt := at_,
      noRestart := decide (max_ < at_.length), latchAt := s.now, hotSrc := hot } }
    let s := if s.die.mode = .safe then s
      else
        let s := s.bistHalt.stopRings.endBursts.restAll.portsDown true
        let s := if s.pwr.state = 4 ∧ !s.pwr.exiting then s.pulseWake else s
        let s := { s with pwr := { s.pwr with exiting := false, restart := [], restartAt := none, offStage := 0 }, clk := { s.clk with back := 0 } }
        let s := (s.setPower 0 8).twAbort
        { s with die := { s.die with mode := .clickHold, hiveRun := false }, pcd := { s.pcd with merge := [] } }
    s

/-- Click: `src` is the source that reached SHUT. -/
def State.click (s : State) (src : Nat) : State := if s.thm.hold then s else (s.shutdown src).raise 93 (1 + 2 ^ 8 * src)

/-- The shutdown logic judges a source that has just been sampled, or whose model has moved (R379). -/
def State.judgeShut (s : State) (k : Nat) : State :=
  let shut := s.thmLimit 16
  let sample := if 32 ≤ k then s.baseOf (k - 32) else s.sampleOf k
  let eff := k < 32 ∧ s.thm.converge = 0 ∧ s.thm.modelUp = true ∧ !(s.flt.status.getLsbD 75) ∧ shut ≤ s.effTemp k
  if (s.die.mode = .running ∨ s.die.mode = .restarting ∨ s.die.mode = .safe) ∧ (shut ≤ sample ∨ eff) then s.click k else s

/-- Click judges a code that a sensor gives while the thermal unit is in its block reset: it reads the codes itself (R379). -/
def State.judgeRaw (s : State) (k code : Nat) : State :=
  if s.die.mode = .running ∧ s.die.rcReady = true ∧ s.die.blockBusy.contains 0x09 ∧ s.thmLimit 16 ≤ code then s.click k else s

/-- What a new temperature of a source sets off. -/
def State.newTemp (s : State) (k : Nat) : State :=
  let s := if k < 32 then s.judgeHot k else s
  ((s.judgeSource k).judgeThrottle.thermalWatch).judgeShut k

/-- Base-die samples are taken in every state of the die in which CK_THERM runs (R37). -/
def State.samples (s : State) : Bool :=
  s.die.rcReady && (s.die.mode == .running || s.die.mode == .restarting || s.die.mode == .clickHold || s.die.mode == .safe) &&
    !(s.die.blockBusy.contains 0x09)

/-- Sources that are judged no longer hold nothing (R374, R377). -/
def State.dropSources (s : State) : State :=
  if !s.samples then s
  else
    let live := s.sources
    { s with thm := { s.thm with
      warn := s.thm.warn.filter live.contains, throt := s.thm.throt.filter live.contains } }.judgeThrottle

/-- A sensor's code is its first sample since the reset, or not (R376). -/
def Thm.first (t : Thm) (k code : Nat) : Thm :=
  { t with seen := insertSorted k t.seen, firstTop := if t.seen.contains k then t.firstTop else max t.firstTop code }

/-- The thermal unit's part of a node-epoch boundary (R374 to R379). -/
def State.thermalBoundary (s : State) : State :=
  if !s.samples then s
  else
    let s := s.stepModel
    (s.sources.filter (· < 32)).foldl State.newTemp s.dropSources

/-! ## Commands -/

/-- SENSOR_SAMPLE (R372): the sixteen base-die sensors, SB0 first. -/
def execSensorSample (base : List (BitVec 10)) (s : State) : Host.Outcome State Fault Refusal :=
  if !s.samples then .next (((List.range 16).zip base).foldl (fun (s : State) e => s.judgeRaw (32 + e.1) e.2.toNat) s)
  else
    let put (s : State) (e : Nat × BitVec 10) : State :=
      { s with thm := { s.thm with base := Tab.set 0 s.thm.base e.1 e.2.toNat }.first (32 + e.1) e.2.toNat }
    let es := (List.range 16).zip base
    .next (es.foldl (fun s e => s.newTemp (32 + e.1)) (es.foldl put s))

/-- TIER_SENSOR_FRAME (R85, R373, R375): a valid frame is a sample; eight bad ones in a row make the sensor suspect. -/
def execTierSensorFrame (t : BitVec 5) (frame : BitVec 12) (s : State) : Host.Outcome State Fault Refusal :=
  let n := t.toNat
  if !(s.tier n).powered then .next s
  else if !s.samples then .next (if frame.getLsbD 11 ∧ !oddOnes frame then s.judgeRaw n (frame.toNat % 1024) else s)
  else if frame.getLsbD 11 ∧ !oddOnes frame then
    let s := { s with thm := { s.thm with
      sample := Tab.set 0 s.thm.sample n (frame.toNat % 1024), badRun := Tab.set 0 s.thm.badRun n 0 }.first n (frame.toNat % 1024) }
    .next ((s.judgeDistrust n).newTemp n)
  else
    let k := Tab.get 0 s.thm.badRun n + 1
    let s := { s with thm := { s.thm with badRun := Tab.set 0 s.thm.badRun n (min 8 k) } }
    .next (if 8 ≤ k then s.suspectTier n true else s)

/-- GRACE_TIMEOUT (R378): some source still holds the condition, and the cut is enforced. -/
def execGraceTimeout (s : State) : Host.Outcome State Fault Refusal :=
  match s.thm.graceAt with
  | none => .next s
  | some at_ =>
    if s.now < at_ + 1000 * s.thm.graceLen ∨ s.thm.throt.isEmpty then .next s
    else .next ((s.cut true).postEvent 0x0007 0 2 (BitVec.ofNat 32 (s.fld .thmThrot 0 16 7)) 0)

end Sys2Proof.Machine
end

