-- ==== Sys2Proof/Machine/Calib.lean ====
section
/-! DEFINITION. Calibration and lane eyes (R382 to R385, R311, R312): which items are due, the start of their rounds, and the
latching of codes at a node-epoch boundary. -/

namespace Sys2Proof.Machine

/-! ## Items (R382) -/

def CalItem.index : CalItem → Nat
  | .tier t => t.toNat
  | .port n => 32 + n.toNat

/-- Every tier, then every port. -/
def calItems : List Nat := List.range 36

/-- Reference temperature of an item. -/
def State.calTemp (s : State) (k : Nat) : Nat := if k < 32 then s.effTemp k else s.baseOf (12 + (k - 32))

/-- An item can be measured: a tier whose channels have trained and of which one serves, or a port in UP. -/
def State.calReady (s : State) (k : Nat) : Bool :=
  if k < 32 then
    s.servingTiers.contains k &&
      (s.liveChans k).all fun i => (s.chan i).st != .untrained && (s.chan i).st != .training && (s.chan i).st != .retraining
  else (s.port (k - 32)).st == .up

/-- An item is due: it has had no round since the reset, or its temperature has moved more than DELTA. -/
def State.calMoved (s : State) (k : Nat) : Bool :=
  let r := Tab.get 0 s.cal.ref k
  let t := s.calTemp k
  let d := 4 * s.fld .calCfg 0 0 5
  s.calReady k && (r == 0 || decide (r + d < t) || decide (t + d < r))

/-- CAL_CTL.NOW stays 1 until the rounds of every item that can be measured have ended. -/
def State.calSettle (s : State) : State :=
  if (s.cal.due.all fun k => !s.calReady k) ∧ s.cal.running.isEmpty then { s with cal := { s.cal with now_ := false } } else s

/-- Codes within 16 of a channel's present code. -/
def windowCodes (c : Nat) : Nat := min 127 (c + 16) + 1 - (c - 16)

/-- The probes that a tier's round asks of its serving channels (R383). -/
def State.askProbes (s : State) (t : Nat) : Tab (Nat × Nat) :=
  ((chansOfTier t).filter s.serves).foldl (fun l i =>
    Tab.set (0, 0) l i (windowCodes (s.chan i).rdCode, windowCodes (s.chan i).wrCode)) s.cal.probes

/-- Starts the round of an item: its reference temperature is the one of this moment, and its probes are asked for. -/
def State.startRound (s : State) (k : Nat) : State :=
  { s with cal := { s.cal with
    probes := if k < 32 then s.askProbes k else s.cal.probes
    due := s.cal.due.erase k, running := insertSorted k s.cal.running, ref := Tab.set 0 s.cal.ref k (s.calTemp k) } }

/-- The round of an item may start now: none of it runs, and a tier is clocked, so that its probes can issue (R382, R383). -/
def State.calOpen (s : State) (k : Nat) : Bool := !(s.cal.running.contains k) && (decide (32 ≤ k) || s.tierClocked k)

/-- Judges which items are due and starts the rounds that may run: in P0 and P1, while EN is 1 or for the round after a
reset (R382, R389). -/
def State.judgeCal (s : State) : State :=
  if s.die.mode ≠ .running ∨ s.clk.parked ∨ s.clk.back ≠ 0 ∨ s.pwr.gateA ∨ s.clk.tripped.contains 0 ∨ s.die.blockBusy.contains 0x08 ∨ !s.hiveOk ∨ s.testing 5 then s
  else
    let fresh := calItems.filter fun k => !(s.cal.due.contains k) && !(s.cal.running.contains k) && s.calMoved k
    let s := { s with cal := { s.cal with due := fresh.foldl (fun l k => insertSorted k l) s.cal.due } }
    if 2 ≤ s.pwr.state.toNat then s
    else
      let go := s.cal.due.filter fun k => s.calReady k && s.calOpen k && (s.flag .calCfg 0 8 || Tab.get 0 s.cal.ref k == 0)
      (go.foldl State.startRound s).calSettle

/-- Every item becomes due (R382, R389, R409); one that cannot be measured stays due until it can, and one whose round runs gets
another. -/
def State.allDue (s : State) : State := { s with cal := { s.cal with due := calItems } }

/-! ## What a round measured (R383) -/

/-- The judging of a window of codes from `lo` on, as in a sweep (R102); a run that reaches the edge is counted to it. -/
def windowSweep (lo : Nat) (passes : List Bool) : Sweep := passes.foldl Sweep.judge { Sweep.fresh with code := lo }

/-- The code and the eye width of a window around a present code; where no code passed, the code stays. -/
def windowResult (code : Nat) (passes : List Bool) : Nat × Byte :=
  let w := windowSweep (code - 16) (passes.take (windowCodes code))
  (if w.bestLen = 0 then code else centre w.bestAt w.bestLen, eyeOf w.bestLen)

/-- What the eye check of a channel gives. -/
def Chan.measured (c : Chan) (x : CalChan) : ChanCodes :=
  let rd := windowResult c.rdCode x.rd
  let wr := windowResult c.wrCode x.wr
  { ch := x.ch, rd := rd.1, wr := wr.1, eyeRd := rd.2, eyeWr := wr.2 }

/-- The eye of a lane from the steps passed on its two sides, and the move to the centre of the passing range (R311). -/
def laneResult (lo hi : BitVec 6) : Byte × Int :=
  (BitVec.ofNat 8 (min 255 (4 * (lo.toNat + hi.toNat))), 2 * ((hi.toNat : Int) - lo.toNat))

/-- What the round of an item computed. -/
def State.measured (s : State) (item : CalItem) (r : CalResult) : CalLatch :=
  let i (x : CalChan) : Nat := match item with
    | .tier t => 32 * t.toNat + x.ch.toNat
    | .port _ => x.ch.toNat
  { chans := r.chans.map fun x => (s.chan (i x)).measured x, lanes := r.lanes.map fun l => (l.1, laneResult l.2.1 l.2.2), offs := r.offs,
    time := s.now, temp := s.calTemp (CalItem.index item) }

/-- TCH_CHCTL.RETRAIN reads 1 for a retraining that a low eye started, as for a written one (DESIGN CHOICE, log 107). New codes of
one channel take force; a low eye keeps the old ones and asks for a retraining (R104, R384). A channel that has been retired or is in
training meanwhile takes none: its codes are not the ones that the round checked. -/
def State.latchChan (s : State) (i : Nat) (x : ChanCodes) (time temp : Nat) : State :=
  if (s.chan i).retired ∨ ((s.chan i).st ≠ .serving ∧ (s.chan i).st ≠ .frozen) then s
  else
    let s := s.noteEyeAt (32 + i) time temp
    let min_ := s.fld .tchCfg 0 4 8
    let low := decide (x.eyeRd.toNat < min_) || decide (x.eyeWr.toNat < min_)
    let s := s.updChan i fun c => { c with
      eyeRd := x.eyeRd, eyeWr := x.eyeWr,
      rdCode := if low then c.rdCode else x.rd % 128, wrCode := if low then c.wrCode else x.wr % 128,
      retrain := c.retrain || (low && s.flag .tchCfg 0 0) }
    s.judgeRetrain i

/-- LNK_PHY0n.EYE_MIN. -/
def State.laneEyeMin (s : State) (n : Nat) : Nat := s.fld .lnkPhy0 n 16 8

/-- An eye check in UP: an active lane below EYE_MIN posts a LINK event, and starts RECOVERY where AUTO_DROP is 1 (R312). -/
def State.laneCheck (s : State) (n k : Nat) (eye : Byte) : State :=
  let s := s.updPort n fun p => p.updLane k fun l => { l with eye := eye }
  let p := s.port n
  if p.st ≠ .up ∨ !(p.lanes.getLsbD k) ∨ s.laneEyeMin n ≤ eye.toNat then s
  else
    let s := s.postEvent 0x0012 0 1 (BitVec.ofNat 32 n) p.lanes.toNat
    if s.flag .lnkPhy0 n 24 then s.recover n else s

/-- A new trim of a base-die sensor, a free value; a residual offset beyond 3 degrees raises the calibration unit's source (R384). -/
def State.latchOff (s : State) (k : Nat) (v : Byte) : State :=
  let s := { s with
    free := s.free + 1
    cal := { s.cal with offs := Tab.set 0 s.cal.offs k v, trims := Tab.set 0 s.cal.trims k (Config.sensorTrim s.free k) } }
  if 12 < v.toInt.natAbs then s.raise 76 (1 + 2 ^ 8 * k + 2 ^ 16 * v.toNat) else s

/-- One item's codes take force together (R384). -/
def State.latchItem (s : State) (e : CalItem × CalLatch) : State :=
  let s : State := match e.1 with
    | .tier t => e.2.chans.foldl (fun (s : State) x => s.latchChan (32 * t.toNat + x.ch.toNat) x e.2.time e.2.temp) s
    | .port n => e.2.lanes.foldl (fun (s : State) x =>
        ((s.updPort n.toNat fun p => p.updLane x.1.toNat fun l => { l with shift := x.2.2 }).noteEyeAt
          (8 * n.toNat + x.1.toNat) e.2.time e.2.temp).laneCheck n.toNat x.1.toNat x.2.1) s
  let s := ((List.range 16).zip e.2.offs).foldl (fun s x => s.latchOff x.1 x.2) s
  { s with cal := { s.cal with rounds := satInc s.cal.rounds 1 } }

/-- Step 5 of R51: the codes that wait are latched (R384). -/
def State.calBoundary (s : State) : State := s.cal.pend.foldl State.latchItem { s with cal := { s.cal with pend := [] } }

/-- One round of every item that can be measured has been latched since the reset (R421 step 13). -/
def State.firstRounds (s : State) : Bool :=
  s.cal.running.isEmpty && s.cal.pend.isEmpty && calItems.all fun k => !(s.calReady k) || Tab.get 0 s.cal.ref k != 0

/-! ## Commands -/

/-- The probes of an item have issued on every channel that still serves. -/
def State.probesDone (s : State) (k : Nat) : Bool :=
  32 ≤ k || ((chansOfTier k).filter s.serves).all fun i => s.probesLeft i == (0, 0)

/-- No probe of a tier is left over once its round has ended. -/
def State.dropProbes (s : State) (k : Nat) : State :=
  if 32 ≤ k then s
  else { s with cal := { s.cal with probes := (chansOfTier k).foldl (fun l i => Tab.set (0, 0) l i (0, 0)) s.cal.probes } }

/-- CAL_ROUND_DONE (R383): the item's probes have issued, and its codes wait for the next node-epoch boundary. -/
def execCalRoundDone (item : CalItem) (res : CalResult) (s : State) : Host.Outcome State Fault Refusal :=
  let k := CalItem.index item
  if !(s.cal.running.contains k) ∨ !s.probesDone k then .next s
  else
    let s : State := match item with
      | .tier _ => s.dropProbes k
      | .port _ => s
    .next { s with cal := { s.cal with
      running := s.cal.running.erase k, pend := s.cal.pend ++ [(item, s.measured item res)] } }.calSettle

/-- CAL_NOW (R382): every item becomes due. -/
def State.calNow (s : State) : State := { s.allDue with cal := { s.allDue.cal with now_ := true } }.judgeCal

/-- EYE_MEASURE_DONE (R311, R312): in LANE_TRAIN a locked lane passes at EYE_MIN; in UP the eye is checked. -/
def execEyeMeasureDone (n : BitVec 2) (lane : BitVec 3) (steps : BitVec 7) (s : State) : Host.Outcome State Fault Refusal :=
  let i := n.toNat
  let k := lane.toNat
  let eye : Byte := BitVec.ofNat 8 (min 255 (4 * steps.toNat))
  let p := s.port i
  if p.phase = .laneTrain ∧ (p.lane k).enabled then
    let min_ := s.laneEyeMin i
    let s := s.updPort i fun p => p.updLane k fun l =>
      { l with eye := eye, eyeDone := true, passed := l.locked && decide (min_ ≤ eye.toNat) }
    .next (s.noteEye (8 * i + k) (s.calTemp (32 + i)))
  else if p.st = .up then .next ((s.noteEye (8 * i + k) (s.calTemp (32 + i))).laneCheck i k eye)
  else .next s

end Sys2Proof.Machine
end

