-- ==== Sys2Proof/Machine/Resets.lean ====
section
/-! DEFINITION. Resets (R87, R137, R367, R400, R414 to R420, R425 to R428): tier quiesce, the three resets of the whole die,
what each keeps, and the entry to P5. -/

namespace Sys2Proof.Machine

/-! ## Reset causes (R433) -/

def causePorst : Nat := 0
def causeAon : Nat := 1
def causeCore : Nat := 2
def causeP5 : Nat := 3
def causeResetN : Nat := 4
def causeCtlHard : Nat := 5
def causeHotReset : Nat := 6
def causeFaultHard : Nat := 7
def causeCtlWarm : Nat := 8
def causeClick : Nat := 9
def causeFaultWarm : Nat := 10

/-! ## Rail ballast (R400) -/

/-- Switches rail ballast on at the level present, computed from the applied limits: 13.3 mA and 19.0 mA for a channel,
100 mA for a lane, in tenths of a milliampere. -/
def State.ballastOn (s : State) : State :=
  { s with
    die := { s.die with
      ballastCore := s.die.ballastCore + 133 * s.bud.limCh + 1000 * s.bud.limCl, ballastT := s.die.ballastT + 190 * s.bud.limCh }
    bud := { s.bud with limCh := 0, limCl := 0 } }

/-- A microsecond of the run-down: 0.3 A on each rail, as the allowance has room (R398). -/
def State.ballastTick (s : State) : State :=
  let d : Load := ⟨min 3000 s.die.ballastCore, min 3000 s.die.ballastT, 0⟩
  if d = ⟨0, 0, 0⟩ ∨ !s.loadFits d then s
  else
  let s := s.grant d 0
  { s with die := { s.die with ballastCore := s.die.ballastCore - 3000, ballastT := s.die.ballastT - 3000 } }

/-! ## Tier quiesce (R417, R418) -/

/-- An opening or a closing of the tier's gates is in progress. -/
def State.midGate (s : State) (t : Nat) : Bool := s.pwr.opening == some t || s.pwr.closeQ.contains t

/-- Steps 1 to 4: requests that have not issued are gone, bursts end, and every clocked tier enters self-refresh at x1. -/
def State.quiesce (s : State) : State :=
  let clocked := s.poweredTiers.filter fun t => !(s.tier t).trstLow && !(s.tier t).selfRef
  let waits := (s.tch.chans.filter fun e => e.2.parWait && clocked.contains (tierOf e.1)).map (·.1)
  let s := waits.foldl (fun s i => s.word i opMrw 0 (mrwOperand 6 0)) s.endBursts
  let s := (s.updChans waits fun _ c => { c with parWait := false, uncWait := none }).sreAll
  { s with pcd := { s.pcd with merge := [] } }

/-- What readiness, the strength map and the recode windows keep: all is cleared where a tier good at the cause was not
retained; else the bits of the tiers that were not (R137, R418). -/
def State.judgeRetention (s : State) : State :=
  let all := (s.die.goodAtCause &&& ~~~ s.die.retain) == 0
  let s := { s with die := { s.die with tierRetained := all } }
  if all then
    { s with pcd := { s.pcd with rdy := Tab.mapVals (0 : Word) (fun _ w => w &&& s.die.retain) s.pcd.rdy } }
  else
    let s := (List.range 256).foldl (fun s r => s.setCfg .pcdSmap r (regReset .pcdSmap r)) s
    { s with pcd := { s.pcd with rdy := [], windows := [] } }

/-- A tier is no longer retained: it left self-refresh too late, or its supply fell (R418). -/
def State.unretain (s : State) (t : Nat) : State :=
  { s with die := { s.die with retain := s.die.retain &&& ~~~ ((1 : Word) <<< t) } }.judgeRetention

/-! ## What a hard or warm reset keeps (R427) -/

/-- Stored registers that a reset keeps (R396, R427). -/
def keptKey (warm : Bool) (k : Nat) : Bool :=
  k == regKey .pwrTierGate 0 || k == regKey .thmClick 0 ||
    ((List.range 256).any fun r => k == regKey .pcdSmap r) ||
    (warm && (List.range 32).any fun n => k == regKey .scbSeason n)

/-- A tier as a reset leaves it: its gates and its refresh stay, and its season where the reset is warm. -/
def Tier.kept (x : Tier) (warm : Bool) : Tier :=
  let y : Tier := { Tier.init with
    open_ := x.open_, good := x.good, trstLow := x.trstLow, selfRef := x.selfRef, usedMult := x.usedMult }
  if warm then { y with season := x.season, acceptedM := x.acceptedM, trial := x.trial, hold := x.hold, hot := x.hot } else y

/-- A channel as a reset leaves it: untrained, with the last CA code its tier heard (R101). -/
def Chan.kept (c : Chan) : Chan := { Chan.init with ever := c.ever, caCode := c.caCode, caTrn := c.caTrn }

/-- Sources that no shadow covers (R495). -/
def unmaskable : List Nat := [77, 80, 87, 88, 89, 92, 93]

/-- Fault status, FLT_FIRST and the history stay, and so does the snapshot, until FLT_STAT0 is read; counting windows do not; every
maskable source is shadowed by the reset itself (R427, R497, R502, R509). -/
def Flt.kept (f : Flt) : Flt :=
  { f with
    counts := [], window := [], shadowN := 0, unfit := false, histOdd := false,
    shadows := ((List.range 96).filter fun k => !unmaskable.contains k).map fun k => (k, 0x100) }

/-- Counters of the two-wire interface stay until the next power-on reset (R542). -/
def Tw.kept (t : Tw) : Tw :=
  { Tw.init with strap := t.strap, busBusy := t.busBusy, sdaTo := t.sdaTo, discards := t.discards, arbLost := t.arbLost,
                 busErrs := t.busErrs, timeouts := t.timeouts, recovers := t.recovers }

/-- Every field as R427 gives it after a hard or a warm reset. -/
def State.resetFields (s : State) (warm : Bool) : State :=
  let z := State.reset
  { s with
    regs := { z.regs with cfg := Tab.keep (keptKey warm) s.regs.cfg }
    tim := if warm then { s.tim with slew := 0, everLocked := false, step := 0 } else z.tim
    clk := { z.clk with
      xtalGood := s.clk.xtalGood, xtalEver := s.clk.xtalEver, onRc := s.clk.onRc, xtalFails := s.clk.xtalFails,
      forced := if warm then s.clk.forced else 0 }
    bud := z.bud
    qos := if warm then { z.qos with
        report := s.qos.report, repSeq := s.qos.repSeq, short := s.qos.short, missTotal := s.qos.missTotal, missForced := s.qos.missForced }
      else z.qos
    rng := if warm then { z.rng with
        integ := s.rng.integ, integSeq := s.rng.integSeq, cntInteg := s.rng.cntInteg, cntCrc := s.rng.cntCrc,
        cntAmend := s.rng.cntAmend, cntRetr := s.rng.cntRetr, cntGen := s.rng.cntGen }
      else z.rng
    lnk := if warm then { z.lnk with
        ports := Tab.mapVals .init (fun _ p => { Port.init with isolated := p.isolated }) s.lnk.ports } else z.lnk
    tch := { z.tch with
      tiers := Tab.mapVals .init (fun _ x => x.kept warm) s.tch.tiers, chans := Tab.mapVals .init (fun _ c => c.kept) s.tch.chans }
    pcd := { z.pcd with
      store := s.pcd.store, rdy := s.pcd.rdy, windows := s.pcd.windows, codecOut := if warm then s.pcd.codecOut else 0 }
    scb := if warm then { z.scb with log := s.scb.log } else z.scb
    pwr := { z.pwr with
      history := s.pwr.history, histSeq := s.pwr.histSeq, wakeLow := s.pwr.wakeLow, wakeLeft := s.pwr.wakeLeft,
      cause := s.pwr.cause, lastOpen := s.pwr.lastOpen, lastClose := s.pwr.lastClose, grants := s.pwr.grants, us := s.pwr.us, closeQ := s.pwr.closeQ,
      isleTo := s.pwr.isleTo, isleWait := s.pwr.isleWait, lastSrx := s.pwr.lastSrx }
    thm :=
      let kept : Thm := { z.thm with
        clicks := s.thm.clicks, clickTime := s.thm.clickTime
        clickAt := if warm then s.thm.clickAt else s.thm.clickAt.map fun t => t - (s.now : Int) }
      if warm then { kept with
        sample := s.thm.sample, model := s.thm.model, suspect := s.thm.suspect, invalid := s.thm.invalid, base := s.thm.base,
        seen := s.thm.seen, firstTop := s.thm.firstTop, converge := s.thm.converge, modelUp := s.thm.modelUp }
      else kept
    cal := z.cal
    otp := if warm then { s.otp with err := 0, locked := false } else { z.otp with normal := s.otp.normal, strict := s.otp.strict }
    bst := if warm then { z.bst with memFail := s.bst.memFail, memDone := s.bst.memDone, results := s.bst.results, lastStart := s.bst.lastStart }
           else z.bst
    sec := { z.sec with isolated := warm && s.sec.isolated }
    dbg := { z.dbg with max := s.dbg.max, sessions := s.dbg.sessions, ir := s.dbg.ir, cells := s.dbg.cells }
    flt := s.flt.kept
    tw := s.tw.kept }

/-- A downstream neighbour in UP hears the reset: sixteen TS1 with HOT_RESET, which a sleeping L0 wakes for (R351). -/
def State.sendHotReset (s : State) (n : Nat) : State :=
  (List.range 16).foldl (fun s _ => s.sendTs1 n (s.port n).setLanes 4) (s.wakeL0 n)

/-- What a hard and a warm reset do first (R351, R400, R416 to R418, R453): HOT_RESET downstream, ballast, quiesce, and the
closing of gates with an operation in progress; the tiers that are retained are noted. -/
def State.resetBegin (s : State) (kind : ResetKind) (cause : Nat) : State :=
  let d0 := s.die
  let safe := s.die.mode == .safe
  let good := wordOf fun t => (s.tier t).powered && !(s.midGate t)
  let s := (List.range 4).foldl (fun s n =>
    if n ≠ s.lnk.upPort.toNat ∧ (s.port n).st = .up then s.sendHotReset n else s) s
  let relaxed := wordOf fun t => (s.tier t).selfRef && (s.tier t).usedMult != 0
  let s := s.bistHalt.ballastOn.quiesce.otpInterrupt
  let s := match s.pwr.opening with
    | some t => { s with pwr := { s.pwr with opening := none, closeQ := insertSorted t s.pwr.closeQ } }.raise 94 (2 + 2 ^ 8 * t)
    | none => s
  let s := s.pwr.closeQ.foldl State.resetTier s
  let s := (if s.pwr.state = 4 ∧ !s.pwr.exiting then s.pulseWake else s).setPower 0 9
  let keep := wordOf fun t => bitOf good t && (s.tier t).selfRef && !(s.tier t).trstLow && !d0.uvT && !d0.uvPp
  let d := s.die
  { s with die := { Die.init with
    kind := kind, resetLow := d.resetLow, rcReady := d.rcReady, lastLevel := 0, cause := BitVec.ofNat 4 cause, wasSafe := safe, resets := d.resets + 1,
    warmCount := if kind = .warm then satInc d.warmCount 1 else 0,
    hardCount := if kind = .warm then d.hardCount else satInc d.hardCount 1,
    retain := keep, relaxed := relaxed, goodAtCause := good, ballastCore := d.ballastCore, ballastT := d.ballastT,
    uvLnk := d.uvLnk, uvIo := d.uvIo, uvT := d.uvT, uvPp := d.uvPp, image := d.image, imageOk := d.imageOk, hiveMem := d.hiveMem } }

/-! ## Repair records at start-up (R112, R113, R449) -/

/-- Loads the substitution table and the retired channels from the records, in log order. -/
def State.loadRepairs (s : State) : State :=
  s.otp.records.foldl (fun s e =>
    let f (lo wd : Nat) : Nat := fieldOf e.2 lo wd
    let i := 32 * f 0 5 + f 5 5
    if e.1 = 1 then s.loadSub i (f 10 4) (f 14 12) (f 26 5)
    else s.updChan i fun c => { c with retired := true })
    { s with tch := { s.tch with subs := [] } }

/-! ## The hard reset (R414, R419, R425) -/

/-- A hard reset: quiesce, then the reset hold. -/
def State.hardReset (s : State) (cause : Nat) : State :=
  match s.die.mode with
  | .porstLow => s
  | .startWatch => s
  | .rcHold => s
  | .bootHeld => s
  | .resetHold => s
  | .off => s
  | _ =>
    let s := s.resetBegin .hard cause
    let s := (s.resetFields false).judgeRetention
    let s := { s with
      die := { s.die with mode := .resetHold, image := [], imageOk := false, hiveMem := [] } }
    s.newChallenge

/-- Tiers whose gates stayed open and which were not retained receive a TRST_N pulse (R87, R88). -/
def State.pulseTiers (s : State) : State :=
  allTiers.foldl (fun s t => if (s.tier t).powered ∧ !(bitOf s.die.retain t) then s.resetTier t else s) s

/-- Restart begins at the end of the hold: the count runs, and the fuses are sensed next (R47, R425). -/
def State.endHold (s : State) : State :=
  let s := { s with die := { s.die with mode := .restarting, markUs := 0 }, tim := { s.tim with held := false } }
  s.pulseTiers

/-! ## The power-on reset (R414, R427) -/

/-- The power-on reset of a cause: every gate closes and everything but the fuses is lost; an exit from P5 keeps the
power-state history and the Clicks (R367) (log 33). -/
def State.powerOn (s : State) (cause : Nat) (mode : DieMode) : State :=
  let p5 := decide (cause = causeP5)
  let s := s.otpInterrupt
  let z := State.reset
  { z with
    die := { z.die with
      mode := mode, cause := BitVec.ofNat 4 cause, resetLow := s.die.resetLow, wasSafe := s.die.mode == DieMode.safe,
      uvLnk := s.die.uvLnk, uvIo := s.die.uvIo, uvT := s.die.uvT, uvPp := s.die.uvPp }
    regs := if p5 then { z.regs with cfg := Tab.keep (fun k => k == regKey .thmClick 0) s.regs.cfg } else z.regs
    pwr := if p5 then { z.pwr with history := s.pwr.history, histSeq := s.pwr.histSeq, cause := s.pwr.cause, wakeLow := true, wakeLeft := 1000 } else z.pwr
    thm := if p5 then { z.thm with
      clicks := s.thm.clicks, clickTime := s.thm.clickTime, clickAt := s.thm.clickAt.map fun t => t - (s.now : Int) } else z.thm
    otp := { z.otp with normal := s.otp.normal, strict := s.otp.strict }
    tw := { z.tw with strap := s.tw.strap }
    out := s.out, free := s.free, pending := s.pending }.newChallenge

/-! ## The entry to P5 (R367) -/

/-- The first step: every channel is quiesced, and the closings of every open gate are queued. -/
def State.offBegin (s : State) : State :=
  let s := s.bistHalt.stopRings.quiesce
  { s with pwr := { s.pwr with
    exiting := false, restart := [], restartAt := none, openQ := [], closeQ := allTiers.filter fun t => (s.tier t).open_, offStage := 2 } }

/-- 0x5A is written to PWR_CTL.OFF: the entry begins, once an OTP command that runs has ended (R452). -/
def State.powerOff (s : State) : State :=
  if s.pwr.offStage ≠ 0 then s
  else if s.otp.busy.isSome then { s with pwr := { s.pwr with offStage := 1 } }
  else s.offBegin

/-- The end of the entry: the state is P5. -/
def State.offEnd (s : State) : State :=
  let s := s.closeSession.dropCheck.twDrop.twAbort
  let s := { s with pwr := { s.pwr with offStage := 0 } }.setPower 5 4
  { s with
    die := { s.die with mode := .off, mgmt := false, hiveRun := false, dataService := false }
    clk := { s.clk with fabA := false, fabB := false, laneLock := 0, tierLock := 0, onRc := true, hiveOnRc := true }
    sec := { s.sec with slots := [], kwk := none } }

/-- The entry to P5 goes on: the gates close one at a time and the limits ramp down, then the ports go DOWN and the islands close
(R75, R367, R394, R399). -/
def State.offTick (s : State) : State :=
  if s.die.mode ≠ .running then s
  else match s.pwr.offStage with
  | 1 => if s.otp.busy.isNone then s.offBegin else s
  | 2 =>
    if !s.pwr.closeQ.isEmpty ∨ s.pwr.opening.isSome ∨ s.bud.limCh ≠ 0 ∨ s.bud.limCl ≠ 0 then s
    else
      let s := s.portsDown false
      { s with pwr := { s.pwr with offStage := 3 } }.moveIslands
  | 3 => if s.islesDone ∧ s.otp.busy.isNone then s.offEnd else s
  | _ => s

/-- A wake cause reaches a node in P5: its exit is a power-on reset (R365, R367). -/
def State.wakeOff (s : State) (cause : Nat) : State := (s.setPower 0 cause).powerOn causeP5 .startWatch

/-- A wake cause from outside: an exit to P0, from P5 through start-up (R365). -/
def State.wake (s : State) (cause : Nat) : State :=
  if s.die.mode = .off then s.wakeOff cause
  else if s.die.mode = .running then s.startExit cause else s

end Sys2Proof.Machine
end

