-- ==== Sys2Proof/Machine/Startup.lean ====
section
/-! DEFINITION. Start-up and the resets of the whole die as commands (R43, R103, R403, R414 to R428, R432 to R441, R449,
R464, R473 to R475, R534): from the release of PORST_N to data service, and the warm restart. -/

namespace Sys2Proof.Machine

/-! ## Values that sensing loads (R436, R441) -/

/-- The word that a field whose reset value is "OTP" takes: from CALIB, or the fixed values of R441. -/
def State.otpWord (s : State) (n : RegName) (i fixed : Nat) : Word :=
  if s.otp.trusted.getLsbD 3 then Config.calibWord (regKey n i) (Tab.getList 0 s.otp.shadow 0x540 256) else BitVec.ofNat 32 fixed

/-- The bits of a register's fields: the others are reserved and read zero (R12). -/
def fieldMask (n : RegName) (i : Nat) : Word :=
  (regFields n i).foldl (fun w f => w ||| BitVec.ofNat 32 ((2 ^ f.wd - 1) * 2 ^ f.lo)) 0

/-- Loads one such register; its reserved bits read zero (R12). -/
def State.loadOtp (s : State) (n : RegName) (i fixed : Nat) : State := s.setCfg n i (s.otpWord n i fixed &&& fieldMask n i)

/-- The trim of a base-die sensor or a lane: from CALIB, or mid-scale (R436, R441). -/
def State.otpTrim (s : State) (k : Nat) : Byte :=
  if s.otp.trusted.getLsbD 3 then Config.calibTrim k (Tab.getList 0 s.otp.shadow 0x540 256) else 128

/-- Loads the trims of the sixteen sensors and the 32 lanes (R436, R441). -/
def State.loadTrims (s : State) : State :=
  let s := { s with cal := { s.cal with trims := Tab.setList 0 [] 0 ((List.range 16).map s.otpTrim) } }
  (List.range 32).foldl (fun (s : State) k =>
    s.updPort (k / 8) fun p => p.updLane (k % 8) fun l => { l with trim := s.otpTrim (16 + k) }) s

/-- Loads every such register, and the two-wire speed of the boot configuration (R441, R534, R542). SPEED names the codes 0 to
2; where EE_SPEED is 3, which R521 does not name, the model loads 2 (DESIGN CHOICE, log 102). -/
def State.loadOtpRegs (s : State) : State :=
  let s := s.loadOtp .budPwr0 0 (7000 + 250 * 2 ^ 16)
  let s := s.loadOtp .budPwr1 0 (80 + 30 * 2 ^ 8 + 75 * 2 ^ 16 + 44 * 2 ^ 24)
  let s := s.loadOtp .thmEcoef 0 (2 ^ 32 - 1)
  let s := allTiers.foldl (fun s n => s.loadOtp .thmCoef n (255 * 2 ^ 8 + 3 * 2 ^ 16 + 4095 * 2 ^ 20)) s
  let s := s.loadTrims
  let boot := s.otp.sh 1
  s.setCfg .twCfg 0 (withField (s.cfgWord .twCfg 0) 0 2 (min 2 (fieldOf boot 7 2)))

/-! ## The Oluist image (R423, R473 to R475, R534) -/

/-- SEC_BOOT.RESULT of an image that has been read (R474). -/
def State.imageResult (s : State) (im : List Byte) : Nat :=
  let n := imageLength im
  let flags := imageField im 0xE 2
  let signer := (im.drop 0x10).take 96
  if imageField im 0 4 ≠ 1 ∨ !(lengthFits n) ∨ 2 ≤ flags ∨ 256 < imageArb im then 3
  else if sha384 signer ≠ wordsBytes (Tab.getList 0 s.otp.shadow 0x010 12) then 4
  else if !(ecdsaVerify (pointOf signer) (im.take (n - 96)) ((im.drop (n - 96)).take 96)) then 5
  else if imageArb im < s.otp.counter 1 then 6
  else 1

/-- An image is refused: firmware does not start (R423). -/
def State.refuseImage (s : State) (result : Nat) : State :=
  { s with
    die := { s.die with image := [], imageRead := false, imageOk := false, imageAt := s.die.markUs }
    sec := { s.sec with boot := BitVec.ofNat 3 result } }.raise 91 (1 + 2 ^ 8 * result)

/-- The device that holds the byte at an EEPROM address: EE_ADDR, and the next one from 65,536 (R534). -/
def State.eeDevice (s : State) (a : Nat) : Byte :=
  let ee := fieldOf (s.otp.sh 0x001) 0 7
  BitVec.ofNat 8 ((if ee = 0 then 0x50 else ee) + oneIf (65536 ≤ a))

/-- Bytes that the boot code's present transaction reads: 16, then what is left of LENGTH in each device (R534). -/
def imageChunk (im : List Byte) : Nat :=
  let have_ := im.length
  if have_ = 0 then 16
  else if !(lengthFits (imageLength im)) then 0
  else if have_ < 65536 then min 65536 (imageLength im) - have_
  else imageLength im - have_

/-- The boot code starts to read the image: the two-wire controller is busy for the whole read (R533, R534). -/
def State.readImage (s : State) : State :=
  { s with
    die := { s.die with image := [], imageRead := false, imageOk := false, hiveMem := [] }
    sec := { s.sec with boot := 0 }
    tw := { s.tw with busy := true, bootRead := true, vqps := none, result := 0, doneN := 0, losses := 0 }
  }.emit (.twStart (s.eeDevice 0))

/-- A transaction of the boot code's has read its bytes; the next one follows while LENGTH asks for more (R534). -/
def State.imageArrive (s : State) (bytes : List Byte) (done : Nat) : State :=
  if bytes.length ≠ imageChunk s.die.image then s
  else
    let im := s.die.image ++ bytes
    let s := { s with die := { s.die with image := im }, tw := { s.tw with losses := 0, doneN := min 64 done } }
    if imageChunk im = 0 then s else s.emit (.twStart (s.eeDevice im.length))

/-- PCD_GEN at start-up (R127). -/
def State.seedGen (s : State) : State :=
  if s.secOut then { s with pcd := { s.pcd with gen := 0, genUnseeded := true } }
  else
    let r := s.random
    { r.2 with pcd := { r.2.pcd with gen := r.1, genUnseeded := false } }

/-- Steps of a counter that the Hive core asks for. -/
def State.stepCounter (s : State) (c n : Nat) : State := (List.range n).foldl (fun s _ => s.otpAsk (otpCmd 2 c 0)) s

/-- Firmware runs (R421 steps 11 and 12, R425, R426): PCD_GEN is seeded, REPAIR_GEN catches up with the log, and the retained
tiers wait for their SRX. -/
def State.startFirmware (s : State) : State :=
  let s := s.seedGen
  let s := { s with
    die := { s.die with hiveRun := true, imageOk := true, imageRead := false }
    sec := { s.sec with boot := 1 }
    tch := { s.tch with group := 0, groupRun := false }
    pwr := { s.pwr with
      restart := allTiers.filter fun t => bitOf s.die.retain t && (s.tier t).powered && (s.tier t).selfRef, restartAt := some s.now } }
  (s.stepCounter 3 (s.otp.records.length - s.otp.counter 3)).noteLevel

/-- The image is checked once it has been read and every memory group has been tested (R421 step 11, R474). -/
def State.judgeImage (s : State) : State :=
  if s.die.imageRead ∧ s.bst.memDone = 0xFFFF ∧ !s.bst.memFail.getLsbD 0 ∧ s.die.mode = .running ∧ !s.die.hiveRun then
    let r := s.imageResult s.die.image
    if r = 1 then s.startFirmware else s.refuseImage r
  else s

/-! ## Management-ready (R421 step 4) -/

/-- Sources that no shadow covers and that are still at fault report so again once the die has restarted (R428). -/
def State.standAgain (s : State) : State :=
  let s := if !s.clk.xtalGood ∧ s.clk.xtalEver then s.raise 77 2 else s
  let s := if s.die.uvLnk then s.raise 87 1 else s
  let s := if s.die.uvIo then s.raise 88 1 else s
  let s := if s.die.uvT then s.raise 89 1 else s
  if s.die.uvPp then s.raise 89 2 else s

/-- The register file and the two-wire target are released; the gates still to open are queued. -/
def State.release (s : State) : State :=
  let s := s.standAgain
  let s := { s with die := { s.die with mode := .running, mgmt := true, mark0 := s.mark } }
  let s := { s with bst := { s.bst with state := if s.bst.memDone = 0xFFFF then 0 else 3 } }
  s.loadOtpRegs.queueOpenings.retarget.noteLevel

/-! ## Training groups (R103) -/

/-- Step 6 of R421 has ended: no opening waits, and every powered tier has been released and checked. -/
def State.gatesSettled (s : State) : Bool :=
  s.pwr.openQ.isEmpty && s.pwr.opening.isNone && s.pwr.restart.isEmpty &&
    s.poweredTiers.all fun t => !(s.tier t).trstLow && !(s.tier t).awaitId

/-- Tiers of a group. -/
def groupTiers (g : Nat) : List Nat := (List.range 8).map fun k => 8 * g + k

/-- Every channel of a group has finished its training. -/
def State.groupDone (s : State) (g : Nat) : Bool :=
  (groupTiers g).all fun t => !(s.tier t).accepted || (s.liveChans t).all fun i =>
    (s.chan i).st != ChanSt.untrained && (s.chan i).st != ChanSt.training

/-- The part of a node-epoch boundary that starts groups (log 58). -/
def State.groupBoundary (s : State) : State :=
  if !s.hiveOk ∨ 4 ≤ s.tch.group ∨ !s.gatesSettled then s
  else
    let s : State := if s.tch.groupRun ∧ s.groupDone s.tch.group then
        { s with tch := { s.tch with group := s.tch.group + 1, groupRun := false } } else s
    if s.tch.groupRun ∨ 4 ≤ s.tch.group then s
    else
      let s := { s with tch := { s.tch with groupRun := true } }
      ((groupTiers s.tch.group).filter fun t => (s.tier t).accepted).foldl (fun s t => s.trainTier t) s

/-! ## The warm reset (R414, R416, R426) -/

/-- The warm restart, which follows tier quiesce without a hold: the islands reopen, and the image runs again where its digest still
matches and Hive core memory has passed (R426, R464). Where the fuses have not been sensed yet, start-up goes on with that (log 56). A slot other than 0 returns to 0, which moves the node's phase point (R50, R427). -/
def State.warmRestart (s : State) (cause : Nat) : State :=
  let wasLocked := !s.tim.orphan
  let moved := s.phase != 0
  let s := ((s.resetBegin .warm cause).resetFields true).judgeRetention
  let s := if wasLocked then s.goOrphan else if moved then s.irregular else s
  let s := s.pulseTiers.newChallenge.loadRepairs
  let held := s.die.held
  let ok := s.die.imageOk && (held == s.die.image || imageDigest held == imageDigest s.die.image)
  let s := { s with pwr := { s.pwr with gateA := true, gateB := true } }.moveIslands
  if !s.otp.sensed then { s with die := { s.die with mode := .restarting } }
  else
    let s := s.release
    let s : State := { s with die := { s.die with imageKept := ok } }
    if s.bst.memFail.getLsbD 0 ∨ !s.bst.memDone.getLsbD 0 then s
    else if ok then s.startFirmware else s.readImage

/-- A warm reset of a running die or of the Click hold; in the safe state it is performed as a hard one (log 56). -/
def State.warmReset (s : State) (cause : Nat) : State :=
  match s.die.mode with
  | .safe => s.hardReset cause
  | .running => s.warmRestart cause
  | .clickHold => s.warmRestart cause
  | .restarting => s.warmRestart cause
  | _ => s

/-! ## Commands: the start-up sequence -/

/-- POWER_ON_RESET (R414): PORST_N low holds the die; a rail that collapsed starts start-up again once it is back. -/
def execPowerOnReset (cause : PorCause) (s : State) : Host.Outcome State Fault Refusal :=
  .next (match cause with
  | .porstN => s.powerOn causePorst .porstLow
  | .aonUv => s.powerOn causeAon (if s.die.mode = .porstLow then .porstLow else .startWatch)
  | .coreUv => s.powerOn causeCore (if s.die.mode = .porstLow then .porstLow else .startWatch))

/-- PORST_N_RELEASE (R421 step 1, R524): the straps are taken, and the CK_SAFE watchdog starts. -/
def execPorstNRelease (strap : BitVec 3) (s : State) : Host.Outcome State Fault Refusal :=
  if s.die.mode = .porstLow then
    .next { s with die := { s.die with mode := .startWatch, markUs := 0 }, tw := { s.tw with strap := strap } }
  else .next s

/-- RC_READY (R403, R421 step 2, R47): the cricket count starts, and the fuses are sensed; RESET_N low holds the die first
(R415), and a die in the safe state stays there (R515). -/
def execRcReady (s : State) : Host.Outcome State Fault Refusal :=
  if s.die.mode = .startWatch ∧ s.die.resetLow then
    .next { s with die := { s.die with mode := .resetHold, rcReady := true } }
  else if s.die.mode = .startWatch then
    .next { s with die := { s.die with mode := .restarting, rcReady := true }, tim := { s.tim with held := false } }
  else if s.die.mode = .safe then .next { s with die := { s.die with rcReady := true } }
  else .next s

/-- STARTUP_WATCHDOG_EXPIRY (R43, R403): the die is held in reset until the next PORST_N cycle. -/
def execStartupWatchdogExpiry (s : State) : Host.Outcome State Fault Refusal :=
  if s.die.mode = .startWatch ∨ (s.die.mode = .safe ∧ !s.die.rcReady) then
    .next ({ s with die := { s.die with mode := .rcHold, faultHold := true } }.raise 80 2)
  else .next s

/-- OTP_SENSE_DONE (R438 to R441, R449, R421 steps 3 and 4): `decay` is what fuses read since they last were sensed. -/
def execOtpSenseDone (decay : List FuseRead) (s : State) : Host.Outcome State Fault Refusal :=
  if s.die.mode ≠ .restarting ∨ s.otp.sensed then .next s
  else
    let s : State := { s with otp := { (s.otp.senseAll decay).judge with sensed := true } }
    let s : State := (List.range 4).foldl (fun (s : State) r => if s.otp.trusted.getLsbD r then s else s.raise 82 (1 + 2 ^ 8 * r)) s
    let s := if s.otp.records.length < s.otp.counter 3 then s.raise 82 2 else s
    let s := s.loadRepairs
    if !(s.otp.trusted.getLsbD 0) then .next { s with die := { s.die with mode := .bootHeld, faultHold := true } }
    else .next s.release

/-- A group's memory BIST may end now: group 0 needs management-ready, the others the crystal and CK_BIST; all of them wait for the
crystal (R421 steps 8 and 9, R422). -/
def State.memoryRuns (s : State) (g : Nat) : Bool :=
  !s.bst.memDone.getLsbD g && s.bst.state != 1 && s.bst.state != 2 && s.clk.xtalGood &&
    if g = 0 then s.die.mode == .running else (s.die.mode == .running || s.die.mode == .restarting) && s.clk.fabA

/-- MEMORY_BIST_DONE (R421 steps 8 and 9, R464, R467): a group's result; once Hive core memory has passed, the boot code reads
the image. -/
def execMemoryBistDone (group : BitVec 4) (fails : Nat) (s : State) : Host.Outcome State Fault Refusal :=
  let g := group.toNat
  if !s.memoryRuns g then .next s
  else
    let bit : BitVec 16 := BitVec.ofNat 16 (2 ^ g)
    let bad := decide (0 < fails)
    let r : BstResult :=
      { result := if bad then 2 else 1, count := BitVec.ofNat 32 fails, sign := 0, expect := 0, cover := 0,
        duration := Config.memoryBistTime s.free, endAt := s.tim.count }
    let s := { s with
      free := s.free + 1
      bst := { s.bst with
        memDone := s.bst.memDone ||| bit, memFail := if bad then s.bst.memFail ||| bit else s.bst.memFail &&& ~~~ bit
        results := Tab.set .none s.bst.results (8 + g) r } }
    let s := { s with bst := { s.bst with state := if s.bst.memDone = 0xFFFF then 0 else 3 } }
    let s := if bad then s.raise 83 (2 + 2 ^ 8 * g) else s
    let half : Word := if g = 10 then 0x0000FFFF else 0xFFFF0000
    let s : State := if bad ∧ (g = 10 ∨ g = 11) then
        { s with pcd := { s.pcd with codecOut := s.pcd.codecOut ||| (Config.failedEngines s.free &&& half) }, free := s.free + 1 }
      else s
    let s := if g = 0 ∧ !bad ∧ !s.tw.busy then s.readImage else s
    .next s.judgeImage.noteLevel

/-- IMAGE_READ_DONE (R421 steps 10 and 11, R534): all the bytes that LENGTH asks for have been read; a LENGTH out of range
ends the read after the first 16. -/
def execImageReadDone (s : State) : Host.Outcome State Fault Refusal :=
  let im := s.die.image
  let n := imageLength im
  let whole := if lengthFits n then decide (im.length = n) else decide (16 ≤ im.length)
  if !s.tw.bootRead ∨ !whole ∨ !s.clk.xtalGood then .next s
  else
    .next { s with
      die := { s.die with imageRead := true }
      tw := { s.tw with busy := false, bootRead := false, result := 0 } }.judgeImage

/-- IMAGE_RETRY (R423): a second later the boot code tries the EEPROM again. -/
def execImageRetry (s : State) : Host.Outcome State Fault Refusal :=
  if s.die.mode ≠ .running ∨ s.die.hiveRun ∨ s.tw.busy ∨ s.die.imageRead ∨ !(s.bst.memDone.getLsbD 0) ∨ s.bst.memFail.getLsbD 0 ∨
    s.die.blockBusy.contains blkHive ∨ s.die.markUs < s.die.imageAt + 1000000 then .next s
  else .next s.readImage

/-- DATA_SERVICE (R421 step 13, R426, R441, R475): every group has trained and the first calibration round is latched;
admission is computed, Scarab's first pass begins, and the ARB counter follows an image that asks for it (log 57). -/
def execDataService (s : State) : Host.Outcome State Fault Refusal :=
  if s.die.mode ≠ .running ∨ !s.hiveOk ∨ s.die.dataService ∨ s.tch.group < 4 ∨ !s.firstRounds ∨ !(s.otp.trusted.getLsbD 1)
  then .next s
  else
    let s := { s with
      die := { s.die with dataService := true, mark2 := s.mark }
      scb := { s.scb with running := true, passStart := s.now }
      pwr := { s.pwr with idleSince := s.now } }
    let im := s.die.image
    let steps := if imageField im 0xE 2 % 2 = 1 then imageArb im - s.otp.counter 1 else 0
    .next (s.admitNow.stepCounter 1 steps).noteLevel

/-! ## Commands: resets -/

/-- RST_CTL_HARD (R432): KEY must be 0xC3. -/
def State.ctlHard (s : State) : State := s.hardReset causeCtlHard

/-- RESET_N_LOW (R415): a pulse of `ns`, or RESET_N low for so long and still low (log 60). -/
def execResetNLow (ns : Nat) (s : State) : Host.Outcome State Fault Refusal :=
  if ns < 100 then .next s
  else
    let long := decide (1000 ≤ ns)
    .next (s.onPin fun s =>
      let taken := long || Config.takesPulse s.free
      let s : State := if long then s else { s with free := s.free + 1 }
      if !taken then s
      else
        let s := { s with die := { s.die with resetLow := true } }
        s.hardReset causeResetN)

/-- RESET_N_RISE (R415, R419, R425): restart begins when RESET_N rises; the hold of another hard cause lasts 20 µs at least. -/
def execResetNRise (s : State) : Host.Outcome State Fault Refusal :=
  .next (s.onPin fun s =>
    let s := { s with die := { s.die with resetLow := false } }
    if s.die.mode = .resetHold ∧ (s.die.kind ≠ .hard ∨ s.die.cause = 4 ∨ 20 ≤ s.die.markUs) then s.endHold else s)

/-- RESET_HOLD_END (R419, R425): the hold of 20 µs ends, unless RESET_N holds the die. -/
def execResetHoldEnd (s : State) : Host.Outcome State Fault Refusal :=
  .next (if s.die.mode = .resetHold ∧ !s.die.resetLow ∧ (s.die.kind ≠ .hard ∨ 20 ≤ s.die.markUs) then s.endHold else s)

/-- QUIESCE_OVERRUN (R417, R418): a tier that was not in self-refresh within 10 µs of the cause is not retained. -/
def execQuiesceOverrun (t : BitVec 5) (s : State) : Host.Outcome State Fault Refusal :=
  let n := t.toNat
  if !(bitOf s.die.goodAtCause n) ∨ !(bitOf s.die.retain n) ∨ s.die.dataService then .next s
  else
    let s := (s.raise 94 (1 + 2 ^ 8 * n)).unretain n
    let s := { s with pwr := { s.pwr with restart := s.pwr.restart.erase n } }
    .next (if s.die.mode = .resetHold then s else s.resetTier n)

/-- CLICK_RESTART (R380, R381): the node has cooled and 10 s have passed since the latch. -/
def execClickRestart (s : State) : Host.Outcome State Fault Refusal :=
  let cool := s.sources.all fun k => decide (s.sourceTemp k < s.thmLimit 24)
  if s.die.mode ≠ .clickHold ∨ !s.thm.hold ∨ s.thm.noRestart ∨ !cool ∨ s.now < s.thm.latchAt + 10000000 then .next s
  else
    let src := s.thm.hotSrc
    let at_ := s.thm.clickTime
    .next ((s.warmReset causeClick).postEvent 0x0008 0 3 (BitVec.ofNat 32 src) at_.toNat)

/-! ## Commands: P5 and wake causes -/

/-- WAKE_N_FALL (R365): a falling edge starts an exit to P0; the die does not take its own pulse for one. -/
def execWakeNFall (s : State) : Host.Outcome State Fault Refusal := .next (if s.pwr.wakeLow then s else s.onPin fun s => s.wake 3)

/-- L0_SIGNAL_WAKE (R310, R365): a signal on a sleeping L0; in P5 only an enabled port's detector is powered. -/
def execL0SignalWake (n : BitVec 2) (s : State) : Host.Outcome State Fault Refusal :=
  .next (if (s.die.mode = .off ∧ s.flag .lnkPhy0 n.toNat 0) ∨ (s.port n.toNat).svcRx ≠ 0 then s.wake 2 else s)

end Sys2Proof.Machine
end

