-- ==== Sys2Proof/Machine/Clocks.lean ====
section
/-! DEFINITION. Rails, the crystal, PLLs and clock multiplexers (R56, R392, R400, R403 to R410). -/

namespace Sys2Proof.Machine

/-! ## Rails (R392) -/

/-- Requests that wait for slots of a tier whose regions are no longer ready touch it no more: those of a command end UNAVAILABLE,
Scarab's own are dropped (R136). -/
def State.dropUnready (s : State) (t : Nat) : State :=
  let kept (r : Req) : Bool := r.src == .format
  (chansOfTier t).foldl (fun s i =>
    let c := s.chan i
    let gone := (c.queue ++ c.ringq).filter fun r => !kept r
    (s.setChan i { c with queue := c.queue.filter kept, ringq := c.ringq.filter kept }).failAll gone 0x10 0x02) s

/-- Retention is no longer guaranteed: readiness of every powered tier is cleared, and a tier that waits for its SRX after a
reset is no longer retained (R137, R418). -/
def State.supplyFell (s : State) : State :=
  let ts := s.poweredTiers
  let s := ts.foldl (fun s t => ((s.unready t).formatAgain t).dropUnready t) s
  let waits := ts.filter fun t => bitOf s.die.retain t &&
    (s.die.mode == DieMode.resetHold || s.die.mode == DieMode.restarting || s.pwr.restart.contains t) && !s.die.dataService
  waits.foldl (fun (s : State) t =>
    let s := s.unretain t
    let s : State := { s with pwr := { s.pwr with restart := s.pwr.restart.erase t } }
    if s.die.mode = .resetHold then s else s.resetTier t) s

/-- RAIL_UNDERVOLTAGE (R392). -/
def execRailUndervoltage (rail : Rail) (s : State) : Host.Outcome State Fault Refusal :=
  .next (match rail with
  | .aon => s.powerOn causeAon (if s.die.mode = .porstLow then .porstLow else .startWatch)
  | .core => s.powerOn causeCore (if s.die.mode = .porstLow then .porstLow else .startWatch)
  | .lnk => ({ s with die := { s.die with uvLnk := true } }.portsDown false).raise 87 1
  | .io => { s with die := { s.die with uvIo := true } }.raise 88 1
  | .vddT => { s with die := { s.die with uvT := true } }.supplyFell.raise 89 1
  | .vppT => { s with die := { s.die with uvPp := true } }.supplyFell.raise 89 2)

/-- RAIL_RESTORED (R392): the detector's state ends; a port may leave DOWN again. -/
def execRailRestored (rail : Rail) (s : State) : Host.Outcome State Fault Refusal :=
  .next (match rail with
  | .aon => s
  | .core => s
  | .lnk => { s with die := { s.die with uvLnk := false } }
  | .io => { s with die := { s.die with uvIo := false } }
  | .vddT => { s with die := { s.die with uvT := false } }
  | .vppT => { s with die := { s.die with uvPp := false } })

/-! ## The crystal (R404, R408, R409) -/

/-- The die is past RC_READY and not held in reset: its clock monitors are armed (R407). -/
def State.clocksRun (s : State) : Bool :=
  s.die.rcReady && (s.die.mode == .running || s.die.mode == .restarting || s.die.mode == .resetHold || s.die.mode == .safe ||
    s.die.mode == .clickHold || s.die.mode == .bootHeld)

/-- XTAL_GOOD (R404, R406, R409): CK_EPOCH moves to the crystal; after a failure service returns step by step, from the relock of
the PLLs on. -/
def execXtalGood (s : State) : Host.Outcome State Fault Refusal :=
  if !s.clocksRun ∨ s.clk.xtalGood then .next s
  else
    let back := if s.clk.parked then 1 else s.clk.back
    .next { s with clk := { s.clk with xtalGood := true, xtalEver := true, onRc := false, parked := false, back := back } }

/-- The return of the crystal goes on in the order of R409: both fabric PLLs relock, the islands reopen, the tiers leave self-refresh
one at a time, every calibration item becomes due, and the ports may leave DOWN. -/
def State.xtalBack (s : State) : State :=
  match s.clk.back with
  | 1 => if s.clk.fabA ∧ s.clk.fabB then { s with clk := { s.clk with back := 2 } }.moveIslands else s
  | 2 =>
    if !s.islesDone then s
    else { s with
      clk := { s.clk with back := 3 }, pwr := { s.pwr with restart := s.parkedTiers, restartAt := some s.now } }
  | 3 => if s.pwr.restart.isEmpty then { s.allDue with clk := { s.allDue.clk with back := 0 } } else s
  | _ => s

/-- XTAL_TIMEOUT (R404): the crystal is not good within 20 ms of RC_READY. -/
def execXtalTimeout (s : State) : Host.Outcome State Fault Refusal :=
  .next (if s.clocksRun ∧ !s.clk.xtalGood ∧ !s.clk.xtalEver then s.raise 77 1 else s)

/-- XTAL_FAIL (R56, R302, R400, R408): every port goes DOWN, traffic stops, tiers rest, the PLLs stop, and both muxes move to
CK_RC, the EPOCH mux forced. The node stays at the management floor, so that one in P2 to P4 leaves that state (log 137). -/
def State.xtalFailed (s : State) : State :=
    let s := { s with clk := { s.clk with
      xtalGood := false, onRc := true, hiveOnRc := true, fabA := false, fabB := false, laneLock := 0, tierLock := 0, tripped := [],
      forced := s.clk.forced ||| 1, xtalFails := satInc s.clk.xtalFails 1 } }
    let s := s.raise 79 1
    let s := s.bistHalt
    if s.die.mode ≠ .running then (s.portsDown false).goOrphan
    else
      let s := ((s.portsDown false).goOrphan.stopRings.ballastOn).endBursts.restAll
      let s := (if s.pwr.state = 4 ∧ !s.pwr.exiting then s.pulseWake else s).setPower 0 5
      { s with
        clk := { s.clk with parked := true, back := 0 }
        pwr := { s.moveIslands.pwr with exiting := false, restart := [], restartAt := none, gateA := true, gateB := true }
        rng := { s.rng with cmds := [] }
        pcd := { s.pcd with merge := [] } }.noteLevel

/-- XTAL_FAIL. -/
def execXtalFail (s : State) : Host.Outcome State Fault Refusal :=
  .next (if !s.clocksRun ∨ !s.clk.xtalGood then s else s.xtalFailed.raise 77 2)

/-- The RC watch trips: the die is held in reset, with FAULT_N low, until a new PORST_N cycle; a fuse command stops (R410, R453). -/
def State.rcTripped (s : State) : State :=
  let s := s.ballastOn.otpInterrupt
  { s with
    die := { s.die with mode := .rcHold, faultHold := true, mgmt := false, hiveRun := false, dataService := false }
    lnk := { s.lnk with ports := Tab.mapVals .init (fun _ p => p.turnedOff) s.lnk.ports } }

/-- RC_WATCH_TRIP (R407, R410): the watch is armed from RC_READY on, in P5 too. -/
def execRcWatchTrip (s : State) : Host.Outcome State Fault Refusal :=
  .next (if !s.clocksRun ∧ !(s.die.mode = .off ∧ s.die.rcReady) then s else s.rcTripped.raise 80 1)

/-! ## PLLs and muxes (R405 to R407) -/

/-- A PLL, numbered as in R494, locks (R405, R406, R116, R366): CK_HIVE moves back to VCO A, gated domains of an awake node
restart, and a frequency change that waits for its tier PLL ends. A PLL that a power state has stopped does not run. -/
def State.pllLock (s : State) (k : Nat) : State :=
  let stopped := k < 34 ∧ 3 ≤ s.pwr.state.toNat ∧ !s.pwr.exiting
  if !s.clk.xtalGood ∨ stopped ∨ 38 ≤ k ∨ s.die.mode = .off then s
  else
    let s := { s with clk := { s.clk with tripped := s.clk.tripped.erase k } }
    if k = 0 then
      { s with clk := { s.clk with fabA := true, hiveOnRc := false } }.ungate.restartsDone
    else if k = 1 then
      { s with clk := { s.clk with fabB := true } }.ungate.restartsDone
    else if k < 34 then
      let t := k - 2
      let s := { s with clk := { s.clk with tierLock := s.clk.tierLock ||| ((1 : Word) <<< t) } }
      s.judgeLocked t
    else { s with clk := { s.clk with laneLock := s.clk.laneLock ||| ((1 : BitVec 4) <<< (k - 34)) } }

/-- A PLL has reported lock since it was last stopped. -/
def State.pllLocked (s : State) (k : Nat) : Bool :=
  if k = 0 then s.clk.fabA else if k = 1 then s.clk.fabB else if k < 34 then bitOf s.clk.tierLock (k - 2)
  else s.clk.laneLock.getLsbD (k - 34)

/-- PLL_MONITOR_TRIP (R407): lock is lost, or the output count lies outside its limits; the domains on the PLL stop issuing. -/
def execPllMonitorTrip (pll : BitVec 6) (drift : Bool) (s : State) : Host.Outcome State Fault Refusal :=
  let k := pll.toNat
  if !(s.pllLocked k) ∨ !s.clocksRun then .next s
  else
    let s := { s with clk := { s.clk with tripped := insertSorted k s.clk.tripped } }
    let s : State :=
      if drift then s
      else if k = 0 then { s with clk := { s.clk with fabA := false } }
      else if k = 1 then { s with clk := { s.clk with fabB := false } }
      else if k < 34 then { s with clk := { s.clk with tierLock := s.clk.tierLock &&& ~~~ ((1 : Word) <<< (k - 2)) } }
      else { s with clk := { s.clk with laneLock := s.clk.laneLock &&& ~~~ ((1 : BitVec 4) <<< (k - 34)) } }
    .next (s.raise 78 ((if drift then 2 else 1) + 2 ^ 8 * k))

/-- MUX_FORCE (R406): a forced switch sets its bit and raises its source. -/
def execMuxForce (hive : Bool) (s : State) : Host.Outcome State Fault Refusal :=
  if !s.clocksRun then .next s
  else
    .next ({ s with clk := { s.clk with forced := s.clk.forced ||| (if hive then 2 else 1) } }.raise 79 (if hive then 2 else 1))

end Sys2Proof.Machine
end

