-- ==== Sys2Proof/Machine/BlockResets.lean ====
section
/-! DEFINITION. Block resets (R351, R353, R416, R429, R461). -/

namespace Sys2Proof.Machine

/-- A code of the table of R429. -/
def isBlock (b : Byte) : Bool := decide (b.toNat < 0x0C) || (decide (0x20 ≤ b.toNat) && decide (b.toNat < 0x40))

/-- The partition of logic BIST that a block belongs to, where it is tested in the field (R456). -/
def blockPart (b : Byte) : Option Nat :=
  let n := b.toNat
  if 0x20 ≤ n then some ((n - 0x20) / 8)
  else if n = 4 then some 4
  else if n = 5 ∨ n = 6 ∨ n = 7 ∨ n = 8 then some 5
  else none

/-- A port's link layer as a block reset leaves it: DOWN, with SEQ, replay and credit state clear; the counts of LNK_ERR stay (R351,
R358; DESIGN CHOICE, log 136). -/
def Port.cleared (p : Port) : Port :=
  { Port.init with
    downs := p.downs, recoveries := p.recoveries, fallbacks := p.fallbacks, isolated := p.isolated, delay := p.delay,
    laneTab := p.laneTab, crcErrs := p.crcErrs, naksSent := p.naksSent, replaysC := p.replaysC, malformed := p.malformed }

/-- A block of a running command fails. -/
def State.failBlock (s : State) (id o st sd : Nat) : State :=
  ((s.dropBlock id o).updCmd id fun c => { c with running := c.running ++ [o] }).endBlock id o false (some (st, sd)) false

/-- A block is stored encrypted: its plaintext needs the security engine. -/
def State.encryptedAt (s : State) (mode : BitVec 2) (l : Nat) : Bool :=
  let pl := placeOf mode l
  match s.slotAt pl.1 pl.2.1 (s.physRow pl.1 pl.2.1 pl.2.2) with
  | some x => x.key != 0 && !x.zero
  | none => false

/-- A block of a command needs the security engine (R44): it writes ciphertext, or uses the plaintext of a block stored
encrypted. Raw mode changes neither (R243). -/
def State.needsEngine (s : State) (c : Cmd) (o : Nat) : Bool :=
  let first := s.encryptedAt c.intlv (c.base + o)
  match c.op with
  | .read => first
  | .write => c.key != 0 || (!c.full o && first)
  | .fill => fillKeyed c
  | .copy => first
  | .compare => first || (c.second.elim false fun b => s.encryptedAt c.intlv (b + o))
  | .check => c.desc.opnd2.getLsbD 0 && first
  | .verify => c.desc.opnd2.getLsbD 0 && first
  | .nop => false | .flush => false | .recode => false | .sanitize => false | .keyLoad => false | .keyDestroy => false
  | .attest => false | .repair => false | .getLog => false | .setLatency => false | .abort => false

/-- Commands and blocks that need the security engine and are not past their point of no return fail, and erasures that wait end (R44, R429). -/
def State.failSecured (s : State) : State :=
  let waits := s.rng.cmds.filter fun c => (c.op == .keyLoad || c.op == .attest) && c.started && c.final.isNone
  let s := waits.foldl (fun (s : State) c => s.finish c.id (plainFinal 0x10 0x03 0 0)) s
  let s := s.sec.erasing.foldl State.failErasure s
  s.rng.cmds.foldl (fun (s : State) c =>
    (c.running.filter fun o => !s.pastReturn c o && s.needsEngine c o).foldl (fun (s : State) o => s.failBlock c.id o 0x10 0x03) s) s

/-- The Scarab pass in progress starts again on every channel; reads that have not issued are dropped (R429). -/
def State.restartScarab (s : State) : State :=
  let keep (c : Chan) : Chan := { c with
    queue := c.queue.filter (fun r => !isScarab r.src), ringq := c.ringq.filter (fun r => !isScarab r.src), done := 0,
    wakeAt := c.wakeAt.map fun _ => 0 }
  let s := s.updChans (s.tch.chans.map (·.1)) fun _ c => keep c
  { s with scb := { s.scb with passStart := s.now } }

/-- What a block reset does when it starts. -/
def State.blockStart (s : State) (b : Byte) : State :=
  let n := b.toNat
  if n < 4 then (s.portDown n).updPort n Port.cleared
  else if 0x20 ≤ n then s.judgeTierReset (n - 0x20)
  else match n with
  | 4 => s.stopRings
  | 5 => ((s.rng.cmds.filter fun c => c.op.nmo).map fun c => c.id).foldl State.abortCmd s
  | 6 =>
    let s := s.failSecured
    { s with sec := { s.sec with slots := [], kwk := none, busy := if s.otp.busy.any (fun c => c.why == 1) then s.sec.busy else 0, err := 0 } }
  | 7 => s.restartScarab
  | 8 => { s with cal := { s.cal with due := calItems, running := [], pend := [], probes := [] } }
  | 9 => { s with thm := { s.thm with modelUp := false, converge := 64, seen := [], firstTop := 0, badRun := [], lowRun := [] } }
  | 10 => { s with die := { s.die with hiveRun := false, hiveHalted := false }, qos := { s.qos with stale := true } }
  | _ =>
    let boot := s.tw.bootRead
    let s := s.twDrop.twAbort
    let s := { s with tw := { s.tw with recover := true, busBusy := false } }
    if boot then s.refuseImage 2 else s

/-- Sources masked while a reaction resets a block (R509). -/
def State.dependents (s : State) (b : Nat) : List Nat :=
  if b < 4 then [64 + b, 68] ++ (if b = s.lnk.upPort.toNat then [90] else [])
  else if 0x20 ≤ b then [b - 0x20, b, 72]
  else match b with
  | 4 => [68, 69, 71] | 5 => [69, 71] | 6 => [70, 68, 69] | 7 => [72, 71] | 9 => [75, 73, 74]
  | 8 => 76 :: (List.range 32 ++ [64, 65, 66, 67])
  | 10 => [84, 73, 82, 91] | _ => [85, 74]

/-- A block reset starts, and with it, where it is a reaction, its shadow (R429, R509). -/
def State.blockBegin (s : State) (b : Byte) (reaction : Bool) : State :=
  let s := { s with
    die := { s.die with blockBusy := s.die.blockBusy ++ [b] }
    flt := { s.flt with shadows := if reaction then s.flt.shadows ++ (s.dependents b.toNat).map fun x => (x, b.toNat) else s.flt.shadows } }
  (s.blockStart b).noteLevel

/-- A block reset may start: the die runs, is in the Click hold, or starts up after a power-on reset; one that is asked for during a
hard or warm reset is dropped (R416, R508). -/
def State.blocksReset (s : State) : Bool :=
  s.die.mode == .running || s.die.mode == .clickHold || (s.die.mode == .restarting && s.die.kind == .powerOn)

/-- Starts a block reset; none where it is ignored: a code not in the table, or a block whose reset is in progress (R429).
The reset of a block under test waits until its segment ends (R461, log 38). -/
def State.blockReset (s : State) (b : Byte) (reaction : Bool) : Option State :=
  if !isBlock b ∨ s.die.resetting b ∨ !s.blocksReset then none
  else if (blockPart b).any s.testing then some { s with die := { s.die with blockPend := s.die.blockPend ++ [(b, reaction)] } }
  else some (s.blockBegin b reaction)

/-- The block resets that waited for a segment start once it has ended (R461). -/
def State.drainBlocks (s : State) : State :=
  let waits (e : Byte × Bool) : Bool := (blockPart e.1).any s.testing
  let go := s.die.blockPend.filter fun e => !waits e
  let s := { s with die := { s.die with blockPend := s.die.blockPend.filter waits } }
  if s.die.mode = .running then go.foldl (fun (s : State) e => s.blockBegin e.1 e.2) s else s

/-- What a block reset does when it ends: a tier leaves self-refresh and is trained again, and the Hive core runs the held image
where its digest still matches. -/
def State.blockEnd (s : State) (b : Byte) : State :=
  let n := b.toNat
  if 0x20 ≤ n then
    let t := n - 0x20
    if !(s.tier t).powered ∨ !(s.tier t).accepted then s
    else if 2 ≤ s.pwr.state.toNat ∨ s.pwr.exiting ∨ s.die.mode ≠ .running then
      s.updChans (s.liveChans t) fun _ c => if c.st = .serving then { c with retrain := true } else c
    else ((s.clockTier t).retrainTier t).heldFreq t
  else if n = 10 ∧ s.die.mode = .running ∧ s.bst.memDone.getLsbD 0 ∧ !s.bst.memFail.getLsbD 0 then
    let held := s.die.held
    if s.die.imageOk ∧ (held = s.die.image ∨ imageDigest held = imageDigest s.die.image) then
      let s := { s with die := { s.die with hiveRun := true } }
      s.otpPump s.otp.queue.length
    else if s.tw.busy then s
    else s.readImage
  else s

/-- BLOCK_RESET_END (R429). -/
def State.blockResetEnd (s : State) (block : Byte) : State :=
  if !(s.die.blockBusy.contains block) then s
  else
    let s := { s with die := { s.die with blockBusy := s.die.blockBusy.erase block } }
    (s.blockEnd block).noteLevel

end Sys2Proof.Machine
end

