-- ==== Sys2Proof/Machine/Fuses.lean ====
section
/-! DEFINITION. The clamp log (R552, R555, R557), and the commands of the fuse controller: programming, locking, and what the
end of a command brings (R444 to R453, R469). -/

namespace Sys2Proof.Machine

/-! ## The clamp log (R557) -/

/-- A register write on its way to the register file. -/
structure RegWrite where
  /-- SOURCE of R557: 0 Hive core, 1 CFG, 2 two-wire, 3 JTAG, 4 a command. -/
  src  : Nat
  ind  : Bool
  addr : Nat
  data : Word
  /-- Port a CFG packet came in by. -/
  port : Nat
  /-- The step at which the tester's stack makes a stack test fail (R465). -/
  fail : Option (BitVec 4)
  deriving DecidableEq, Repr

/-- SOURCE of an access path. -/
def pathSource : Path → Nat
  | .hive => 0 | .cfg => 1 | .tw => 2 | .jtag => 3

/-- Makes an entry of the clamp log; one that replaces another while NEW is 1 counts as lost (R557, R558). -/
def State.clampNote (s : State) (w : RegWrite) (kind lo hi written applied : Nat) : State :=
  let e : ClampEntry :=
    { whr := packed [(w.addr, 0, 24), (oneIf w.ind, 24, 1), (w.src, 25, 3), (kind, 28, 4)], field := BitVec.ofNat 8 lo,
      fieldHi := BitVec.ofNat 8 hi, seq := s.regs.clampNext, written := BitVec.ofNat 32 written, applied := BitVec.ofNat 32 applied,
      time := s.tim.count, data := w.data }
  let log := s.regs.clampLog ++ [e]
  let lost := s.regs.clampNew && decide (32 ≤ s.regs.clampLog.length)
  { s with regs := { s.regs with
    clampLog := log.drop (log.length - 32), clampNext := s.regs.clampNext + 1, clampNew := true,
    clampLost := if lost then satInc s.regs.clampLost 1 else s.regs.clampLost } }

/-- An action whose refusal is decided by a field. -/
def State.ignoredField (s : State) (w : RegWrite) (lo wd : Nat) : State :=
  s.clampNote w 2 lo (lo + wd - 1) (fieldOf w.data lo wd) 0

/-- A write whose refusal is decided by the lifecycle or by a state of the die; the register keeps this value. -/
def State.ignoredWhole (s : State) (w : RegWrite) (stays : Word) : State := s.clampNote w 2 0 31 w.data.toNat stays.toNat

/-- How an action of a register write ended: taken, or refused, and then which field decided it (none: no field). -/
inductive Verdict where
  | taken
  | refusedBy (lo wd : Nat)
  | refused
  deriving DecidableEq, Repr

/-- Reports the verdict of an action. -/
def State.reported (r : State × Verdict) (w : RegWrite) : State :=
  match r.2 with
  | .taken => r.1
  | .refusedBy lo wd => r.1.ignoredField w lo wd
  | .refused => r.1.ignoredWhole w 0

/-! ## PROGRAM and LOCK (R444, R447, R450) -/

/-- A word that a path may not program: SECRET and the reserved words from anywhere, and from outside the Hive core COUNTERS, REPAIR and CONTROL, and
every word once the die is DEPLOYED; JTAG counts as an outside path (log 42). -/
def otpDenied (src lifecycle a : Nat) : Bool :=
  (decide (0x500 ≤ a) && decide (a < 0x540)) || (decide (0xE40 ≤ a) && decide (a < 0xFC0)) || (src != 0 && (decide (2 ≤ lifecycle) || decide (0x640 ≤ a)))

/-- A command that its checks refuse. -/
def State.otpRefuse (s : State) (err : Nat) : State :=
  { s with otp := { s.otp with err := BitVec.ofNat 3 err, locked := err == 1 } }

/-- OTP_CMD.OP 1: the checks of R450 in their order (log 48). -/
def State.otpProgram (s : State) (src : Nat) : State × Verdict :=
  let a := s.fld .otpAddr 0 0 12
  if s.otp.busy.isSome then (s, .refused)
  else if (regionAt a).any s.otp.isLocked then (s.otpRefuse 1, .taken)
  else if otpDenied src s.lifecycle a then (s.otpRefuse 4, .taken)
  else if s.otp.isUsed a then (s.otpRefuse 2, .taken)
  else (s.otpGo { otpCmd 0 src (s.cfgWord .otpWdata 0) with addr := BitVec.ofNat 12 a }, .taken)

/-- A region holds a bad or a marginal word (R444 step 1). -/
def Otp.spoilt (o : Otp) (r : Nat) : Bool := (List.range (regionRun r).2).any fun k => o.isBad ((regionRun r).1 + k)

/-- OTP_CMD.OP 2: the digest words and the lock word of a region (R444) (log 47). -/
def State.otpLock (s : State) (src r : Nat) : State × Verdict :=
  let d := 0xFC8 + 8 * r
  let digest := bytesWords (s.otp.digest r)
  let lock : BitVec 12 × Word := (BitVec.ofNat 12 (0xFC0 + r), 1)
  let blank := (List.range 8).all fun k => !s.otp.isUsed (d + k)
  let start (l : List (BitVec 12 × Word)) : State :=
    match l with
    | [] => s
    | x :: t => s.otpGo { otpCmd 0 src x.2 with lock := true, region := BitVec.ofNat 2 r, addr := x.1, rest := t }
  if s.otp.busy.isSome then (s, .refused)
  else if src ≠ 0 ∧ 2 ≤ s.lifecycle then (s.otpRefuse 4, .taken)
  else if s.otp.spoilt r then (s.otpRefuse 5, .taken)
  else if blank then
    (start (((List.range 8).zip digest).map (fun e => (BitVec.ofNat 12 (d + e.1), e.2)) ++ [lock]), .taken)
  else if digest ≠ Tab.getList 0 s.otp.shadow d 8 then (s.otpRefuse 6, .taken)
  else if s.otp.isLocked r then (s.otpRefuse 2, .taken)
  else (start [lock], .taken)

/-! ## The end of a command (R446, R450, R455) -/

/-- What the programming of one word left at both margins: a word that verifies takes its new value; one that does not keeps its
shadow, and is no longer blank. -/
def Otp.programmed (o : Otp) (a : Nat) (data : Word) (normal strict : BitVec 39) : Otp :=
  let ok := strict == fuseCode data
  { o with
    normal := Tab.set 0 o.normal a normal, strict := Tab.set 0 o.strict a strict,
    used := Tab.set false o.used a (!ok || normal != 0 || strict != 0),
    shadow := if ok then Tab.set 0 o.shadow a data else o.shadow }

/-- A command has ended: VQPS goes off again, and the next command starts (R451, R452). -/
def State.otpDone (s : State) (c : OtpCmd) : State :=
  let s := if c.fromHive ∧ s.otp.pulseAt.isSome then s.vqpsAsk false else s
  (s.otpPump s.otp.queue.length).noteLevel

/-- What waited for the command: a key pair, a revocation, a transition, a repair record. A step of a counter counts even where
its word did not verify (R446). -/
def State.otpAfter (s : State) (c : OtpCmd) (ok : Bool) : State :=
  match c.why with
  | 1 => { s with sec := { s.sec with busy := 0, err := if ok then 0 else 2 } }
  | 3 => s.appendEnd c (ok || decide (c.addr.toNat < 0xA40))
  | 4 => s.appendEnd c (ok || decide (c.addr.toNat < 0xA40))
  | 5 => { s with sec := { s.sec with busy := 0, err := 0 } }.eraseAll
  | 6 =>
    let s := { s with sec := { s.sec with busy := 0, err := 0 } }.endSession
    if s.lifecycle = 3 then s.eraseAll else s
  | _ => s

/-- VQPS could not be switched on: the command ends VERIFY with no pulse, so that no counter has stepped; what a SEC_CTL action
wanted of it has not happened, and its conditions did not hold (R535) (log 118). -/
def State.otpUnpowered (s : State) : State :=
  match s.otp.busy with
  | none => s
  | some c =>
    let s := { s with otp := { s.otp with busy := none, err := 3 } }
    let s := match c.why with
      | 5 => { s with sec := { s.sec with busy := 0, err := 2 } }
      | 6 => { s with sec := { s.sec with busy := 0, err := 2 } }
      | _ => s.otpAfter c false
    s.otpDone c

/-- A switching of VQPS has ended: after a successful enable the Hive core waits 1 ms before the first pulse (R535). -/
def State.vqpsEnded (s : State) (ok : Bool) : State :=
  let on := s.tw.vqps
  let s := { s with tw := { s.tw with vqps := none } }
  let s : State := match on, ok with
    | some true, true => { s with otp := { s.otp with pulseAt := if s.otp.busy.isSome then some (s.now + 1000) else none } }
    | some true, false => s.otpUnpowered
    | _, _ => s
  s.vqpsNext

/-- A command whose enable was cut off by an abort of the two-wire controller ends as one whose enable failed. -/
def State.vqpsCheck (s : State) : State :=
  match s.otp.busy with
  | none => s
  | some c =>
    if !c.fromHive ∨ s.otp.pulseAt.isSome ∨ s.tw.vqps = some true ∨ s.tw.vqpsQ.contains true then s else s.otpUnpowered

/-- OTP_COMMAND_END (R435, R447, R450): the word being programmed reads so at each margin; the next word follows where it is blank, or
the command ends. -/
def execOtpCommandEnd (normal strict : BitVec 39) (s : State) : Host.Outcome State Fault Refusal :=
  match s.otp.busy with
  | none => .next s
  | some c =>
    if !s.pulsing c then .next s
    else
    let ok := strict == fuseCode c.data
    let o := s.otp.programmed c.addr.toNat c.data normal strict
    match (if ok then c.rest.filter (fun e => !o.isUsed e.1.toNat) else []) with
    | x :: t => .next { s with otp := { o with busy := some { c with addr := x.1, data := x.2, rest := t } } }
    | [] =>
      let was := s.otp.trusted
      let err : BitVec 3 := if !ok then 3 else if c.rest.isEmpty then 0 else 2
      let s : State := { s with otp := { o.judge with busy := none, err := err } }
      .next (((s.raiseUntrusted was).otpAfter c ok).otpDone c)

end Sys2Proof.Machine
end

