-- ==== Sys2Proof/Machine/Security.lean ====
section
/-! DEFINITION. The actions of the security engine and of debug (R469 to R471, R476, R477, R482 to R489, R491, R492): key
generation, key agreement, revocation, lifecycle transitions, debug sessions. -/

namespace Sys2Proof.Machine

/-! ## SEC_CTL (R491) -/

/-- An action of SEC_CTL that is refused: ERR gives the cause. -/
def State.secRefuse (s : State) (err : Nat) : State := { s with sec := { s.sec with err := BitVec.ofNat 3 err } }

/-- Words that KEYGEN programs (R469). -/
def keygenWords : List Nat := (List.range 20).map (0x500 + ·) ++ (List.range 24).map (0x102 + ·)

/-- KEYGEN (R469): in FACTORY and once; the secrets are programmed word after word (log 39). -/
def State.keygen (s : State) : State × Verdict :=
  if s.sec.busy ≠ 0 then (s.secRefuse 5, .refused)
  else if s.lifecycle ≠ 0 then (s.secRefuse 1, .refused)
  else if s.secOut ∨ s.otp.isLocked 1 ∨ s.otp.isLocked 2 ∨ keygenWords.any s.otp.isUsed then (s.secRefuse 2, .refused)
  else
    let d := s.randomScalar
    let seed := d.2.randoms 8
    let q := bytesWords (pointBytes (ecMul d.1 base384))
    let run (a : Nat) (ws : List Word) : List (BitVec 12 × Word) := ((List.range ws.length).zip ws).map fun e => (BitVec.ofNat 12 (a + e.1), e.2)
    let s := seed.2
    let s := { s with sec := { s.sec with busy := 1, err := 0 } }
    match run 0x500 (bytesWords (leBytes 48 d.1)) ++ run 0x50C seed.1 ++ run 0x102 q with
    | [] => (s, .taken)
    | x :: t => (s.otpAsk { otpCmd 1 0 x.2 with addr := x.1, rest := t }, .taken)

/-- The host's point as SEC_KXPUB holds it. -/
def State.kxPoint (s : State) : Nat × Nat := pointOf (wordsBytes ((List.range 24).map fun w => s.cfgWord .secKxpub w))

/-- KX_SET (R476, R471, R485): a point off the curve keeps the key-wrapping key already held. -/
def State.kxSet (s : State) : State × Verdict :=
  if s.sec.busy ≠ 0 then (s.secRefuse 5, .refused)
  else if s.lifecycle = 0 ∨ s.lifecycle = 3 ∨ (s.lifecycle = 2 ∧ s.dbg.level = 2) then (s.secRefuse 1, .refused)
  else if s.secOut ∨ !s.keyPair then (s.secRefuse 2, .refused)
  else if !(onCurve s.kxPoint) then (s.secRefuse 3, .taken)
  else ({ s with sec := { s.sec with kwk := some (s.agreeKwk s.kxPoint), err := 0 } }, .taken)

/-- REVOKE (R482): KEY_REV steps, then every slot is erased and the key-wrapping key discarded. -/
def State.revoke (s : State) : State × Verdict :=
  if s.sec.busy ≠ 0 then (s.secRefuse 5, .refused)
  else if s.lifecycle = 0 ∨ s.lifecycle = 3 then (s.secRefuse 1, .refused)
  else if 252 ≤ s.otp.counter 2 then (s.secRefuse 4, .refused)
  else ({ s with sec := { s.sec with busy := 3, err := 0 } }.otpAsk (otpCmd 5 2 0), .taken)

/-- Mandatory words (R437). -/
def mandatoryWords : List Nat := [0, 1, 2] ++ (List.range 12).map (0x010 + ·) ++ (List.range 27).map (0x100 + ·)

/-- A mandatory word is blank. -/
def mandatoryBlank (o : Otp) : Bool := mandatoryWords.any fun a => !o.isUsed a

/-- The conditions of a transition (R483). -/
def State.mayAdvance (s : State) : Bool :=
  match s.lifecycle with
  | 0 => s.otp.lockedReg == 0xF && s.otp.trusted == 0xF && s.keyPair
  | 1 => !mandatoryBlank s.otp && s.otp.trusted.getLsbD 1 && s.otp.trusted.getLsbD 2
  | _ => true

/-- LIFE_ADV (R483): the next state and no other; the counter steps. -/
def State.lifeAdv (s : State) (target : Nat) : State × Verdict :=
  if s.sec.busy ≠ 0 then (s.secRefuse 5, .refused)
  else if target ≠ s.lifecycle + 1 then (s.secRefuse 1, .refusedBy 11 2)
  else if !s.mayAdvance then (s.secRefuse 2, .refused)
  else ({ s with sec := { s.sec with busy := 4, err := 0, target := BitVec.ofNat 2 target } }.otpAsk (otpCmd 6 0 0), .taken)

/-! ## Debug (R487 to R489, R492) -/

/-- A level needs a token in a lifecycle state (R488, R490). -/
def needsToken (lifecycle level : Nat) : Bool :=
  match lifecycle with
  | 0 => false
  | 2 => true
  | _ => level == 2

/-- The die has no debug authority: BOOT words 0x020 to 0x02B are all blank (R488 step 2). -/
def Otp.noAuthority (o : Otp) : Bool := (List.range 12).all fun k => !o.isUsed (0x020 + k)

/-- The token written to DBG_TOKEN. -/
def Dbg.tokenBytes (d : Dbg) : List Byte := wordsBytes (Tab.getList 0 d.token 0 60)

/-- The check of a token for a level (R487, R488 step 2) (log 49). -/
def State.tokenGood (s : State) (level : Nat) : Bool :=
  let tk := s.dbg.tokenBytes
  let f (a n : Nat) : List Byte := (tk.drop a).take n
  let lvl := leVal (f 2 1)
  leVal (f 0 2) == 1 && decide (level ≤ lvl) && decide (lvl ≤ 2) && leVal (f 3 1) == 0 && f 8 8 == s.serial &&
    f 0x10 32 == wordsBytes (Tab.getList 0 s.dbg.chal 0 8) && sha384 (f 0x30 96) == s.otp.bytesAt 0x020 12 &&
    ecdsaVerify (pointOf (f 0x30 96)) (tk.take 0x90) (f 0x90 96)

/-- DBG_REQ.LEVEL (R488): a level that needs no token takes effect at once; otherwise the token is checked as it stands now (log 40) (log 90). -/
def State.levelRequest (s : State) (level : Nat) : State × Verdict :=
  if level = 0 ∨ level = 3 ∨ level ≤ s.dbg.level.toNat then (s, .refusedBy 0 2)
  else if s.dbg.lockout ∨ s.dbg.checking.isSome ∨ s.dbg.erasing ∨ 4 ≤ s.pwr.state.toNat then (s, .refused)
  else if !needsToken s.lifecycle level then (s.openSession (BitVec.ofNat 2 level) none, .taken)
  else if s.otp.noAuthority ∨ s.secOut then (s, .refused)
  else
    ({ s.takeId with dbg := { s.dbg with
        reqId := s.rng.nextId, checking := some (BitVec.ofNat 2 level), chkOk := s.tokenGood level,
        chkDur := leVal ((s.dbg.tokenBytes.drop 4).take 4) } }, .taken)

/-- A token check that failed: counted, and the third one locks (R488 step 2). -/
def State.tokenFailed (s : State) : State :=
  let n := s.dbg.fails.toNat + 1
  let s := { s with dbg := { s.dbg with checking := none, fails := BitVec.ofNat 2 (min 3 n), lockout := decide (3 ≤ n) } }
  s.raise 86 (if 3 ≤ n then 2 else 1)

/-- DEBUG_TOKEN_CHECKED (R488 steps 2 to 4): FULL in DEPLOYED waits for every slot to be erased. -/
def execDebugTokenChecked (s : State) : Host.Outcome State Fault Refusal :=
  match s.dbg.checking with
  | none => .next s
  | some level =>
    let s : State :=
      if !s.dbg.chkOk then s.tokenFailed
      else if level = 2 ∧ s.lifecycle = 2 then
        let s := s.eraseAs s.dbg.reqId
        { s with dbg := { s.dbg with checking := none, erasing := true } }.fullWhenErased
      else s.openSession level (sessionLeft s.dbg.chkDur)
    .next s.newChallenge

/-- DEBUG_SESSION_EXPIRE (R489): DURATION has run out. -/
def execDebugSessionExpire (s : State) : Host.Outcome State Fault Refusal :=
  .next (if s.dbg.level ≠ 0 ∧ s.dbg.left = some 0 then s.endSession else s)

end Sys2Proof.Machine
end

