-- ==== Sys2Proof/Machine/Faults.lean ====
section
/-! DEFINITION. Fault collection and reaction (R493 to R515): grading, recording, the reactions, shadows, the safe state, FAULT_N,
and acknowledgement. -/

namespace Sys2Proof.Machine

/-! ## FAULT_N (R504) -/

/-- FAULT_N is driven low. -/
def State.faultN (s : State) : Bool :=
  s.die.mode == .safe || s.die.faultHold || s.thm.hold || (List.range 96).any fun k =>
    s.flt.status.getLsbD k && decide (s.fld .fltCfg 0 0 2 ≤ (Tab.get (0, 0) s.flt.last k).1)

/-- The pin FAULT_N is low: while VDD_IO is low its level is a free value (R392) (log 9). -/
def State.faultPin (s : State) : Bool := if s.die.uvIo then Config.pinLevel s.free else s.faultN

/-! ## The safe state (R511, R512) -/

/-- Entry to the safe state: nothing is fetched, commands stop at their points of no return, tiers rest, ports go DOWN, and the
PLLs stop; the two-wire target serves reads. The holds of R403, R410 and R441, which PORST_N alone ends, and P5, which only a
wake cause ends, stay as they are (log 139). -/
def State.enterSafe (s : State) : State :=
  if s.die.mode = .safe ∨ s.die.mode = .porstLow ∨ s.die.mode = .rcHold ∨ s.die.mode = .bootHeld ∨ s.die.mode = .off then s
  else
    let s := s.bistHalt.twAbort.ballastOn.stopRings.quiesce
    let s := { s with die := { s.die with mode := .safe, mgmt := true, hiveRun := false, hiveHalted := false } }
    let s := s.portsDown false
    { s with
      clk := { s.clk with fabA := false, fabB := false, laneLock := 0, tierLock := 0, hiveOnRc := true }
      pwr := { s.pwr with exiting := false, restart := [], restartAt := none, openQ := [], opening := none, closeQ := [], offStage := 0 }
      cal := { s.cal with running := [], pend := [] }
    }.noteLevel

/-! ## Sources and reactions (R493, R506, R507) -/

/-- Block-reset code of a source. -/
def resetCode (k : Nat) : Option Byte :=
  if k < 32 then some (BitVec.ofNat 8 (0x20 + k))
  else if 64 ≤ k ∧ k < 68 then some (BitVec.ofNat 8 (k - 64))
  else match k with
  | 68 => some 0x04 | 69 => some 0x05 | 70 => some 0x06 | 72 => some 0x07 | 75 => some 0x09 | 76 => some 0x08
  | 84 => some 0x0A | 85 => some 0x0B | _ => none

/-- Rank of a reaction code. -/
def rankOf (code : Nat) : Nat :=
  match code with
  | 0 => 0 | 1 => 1 | 3 => 2 | 2 => 3 | n => n

/-- A reaction code that a source supports (R507). -/
def supports (k code : Nat) : Bool :=
  match code with
  | 0 => true
  | 1 => decide (k < 32)
  | 2 => (decide (32 ≤ k) && decide (k < 68)) || k == 70
  | 3 => (resetCode k).isSome
  | 4 => true
  | 5 => true
  | 6 => true
  | _ => false

/-- Sources whose class and reactions no register changes (R493, R519). -/
def fixedSource (k : Nat) : Bool := unmaskable.contains k

/-! ## Grading (R496, R497) -/

/-- A source is masked. -/
def State.masked (s : State) (k : Nat) : Bool := !unmaskable.contains k && s.flt.shadows.any fun e => e.1 == k

/-- An event on its way into the history. -/
structure Graded where
  src    : Nat
  detail : BitVec 64
  shadow : Bool
  cls    : Nat
  count  : Nat
  react  : Nat
  deriving DecidableEq, Repr

/-- Count of an event in counting mode: the present count after it (R497). -/
def State.countEvent (s : State) (k : Nat) (shadow : Bool) : Nat × State :=
  let n := Tab.get 0 s.flt.counts k
  if shadow then (n, s)
  else
    let w := match Tab.get none s.flt.window k with
      | some t => some t
      | none => some s.now
    let n := n + 1
    (n, { s with flt := { s.flt with counts := Tab.set 0 s.flt.counts k n, window := Tab.set none s.flt.window k w } })

/-- The reaction that a class of a source calls for (R506, R515, R519). -/
def State.reactionOf (s : State) (k cls : Nat) : Nat :=
  if k = 92 then 6
  else if fixedSource k then 0
  else match cls with
  | 3 => s.fld .fltSrcW0 k 6 3
  | 2 => s.fld .fltSrcW0 k 3 3
  | _ => 0

/-- Grades one sampled line. -/
def State.grade (s : State) (l : FaultLine) : Graded × State :=
  let k := l.src.toNat
  let shadow := s.masked k
  let counting := s.flag .fltSrcW0 k 0
  let c := if counting then s.countEvent k shadow else (0, s)
  let cls :=
    if shadow then 0
    else if counting then
      (if s.fld .fltSrcW0 k 24 8 ≤ c.1 then 3 else if s.fld .fltSrcW0 k 16 8 ≤ c.1 then 2 else 1)
    else s.fld .fltSrcW0 k 1 2
  ({ src := k, detail := l.detail, shadow := shadow, cls := cls, count := c.1, react := s.reactionOf k cls }, c.2)

/-- Grades the lines of one cycle. -/
def State.gradeAll (s : State) : List FaultLine → List Graded × State
  | [] => ([], s)
  | l :: t =>
    let g := s.grade l
    let r := State.gradeAll g.2 t
    (g.1 :: r.1, r.2)

/-- The order of entry: higher class first, then lower source number (R499). -/
def entryOrder (gs : List Graded) : List Graded :=
  [3, 2, 1, 0].flatMap fun c => (List.range 96).flatMap fun k => gs.filter fun g => g.cls == c && g.src == k

/-- The die takes a reaction of the whole die: not in a hold that PORST_N alone ends, nor in P5; a reset joins the one in progress,
and a Click hold that does not restart is left through RESET_N and PORST_N only (R381, R416) (log 139). -/
def State.takesWide (s : State) (react : Nat) : Bool :=
  match s.die.mode with
  | .running => true
  | .restarting => true
  | .clickHold => react == 6 || !s.thm.noRestart
  | .startWatch => react == 6
  | .resetHold => react == 6
  | _ => false

/-- Whether a reaction is performed now, the highest of the cycle being `top` (R416, R508) (log 51). -/
def State.performs (s : State) (top : Nat) (g : Graded) : Bool :=
  if g.shadow ∨ s.die.mode = .safe then false
  else if 4 ≤ top then g.react == top && s.takesWide top
  else if g.react = 3 then
    match resetCode g.src with
    | some b => s.blocksReset && !s.die.resetting b
    | none => false
  else true

/-! ## Recording (R498 to R501, R510) -/

/-- Records one event: its status bit, its history entry, its source's last event, FLT_FIRST, and the FAULT event of R505, which waits
for the data floor where it arises below it (R46). -/
def State.record (s : State) (g : Graded) (same : Bool) (react : Nat) : State :=
  let f := s.flt
  let e : FltEntry :=
    { time := s.tim.count, seq := f.next, source := BitVec.ofNat 8 g.src, cls := BitVec.ofNat 8 g.cls, react := BitVec.ofNat 8 react,
      shadowed := g.shadow, same := same, injected := fieldOf (g.detail.setWidth 32) 0 8 == 0xFF, safe := s.die.mode == DieMode.safe,
      count := BitVec.ofNat 16 g.count, detail := g.detail }
  let first := packed [(g.src, 0, 7), (g.cls, 8, 2), (1, 15, 1), (f.next.toNat, 16, 16)]
  let f' := f.entered e
  if g.shadow then { s with flt := { f' with shadowN := satInc f.shadowN 1 } }
  else
    let s := { s with flt := { f' with
      status := f.status ||| BitVec.ofNat 96 (2 ^ g.src), last := Tab.set (0, 0) f.last g.src (g.cls, f.next),
      first := if f.status = 0 then first else f.first } }
    if s.fld .fltCfg 0 2 2 ≤ g.cls then s.postAs (!s.dataFloor) 0x0010 0 g.cls (BitVec.ofNat 32 g.src) f.next.toNat else s

/-! ## Performing (R506 to R509) -/

/-- FREEZE: the channel that the detail names. -/
def State.freezeNamed (s : State) (g : Graded) : State :=
  let code := g.detail.toNat % 256
  let i := g.detail.toNat / 2 ^ 8 % 2 ^ 11
  let w : Word := BitVec.ofNat 32 (g.detail.toNat / 2 ^ 32)
  if code = 0 ∨ 3 < code ∨ 1024 ≤ i then s
  else s.freeze i (fieldOf w 0 2) (fieldOf w 8 4) (fieldOf w 12 13) ((s.chan i).words.getLastD 0)

/-- ISOLATE: a codec, a port or the security engine leaves service until the next hard or power-on reset (R36, R44). -/
def State.isolate (s : State) (k : Nat) : State :=
  if k = 70 then { s with sec := { s.sec with isolated := true } }.failSecured
  else if k < 64 then { s with pcd := { s.pcd with codecOut := s.pcd.codecOut ||| ((1 : Word) <<< (k - 32)) } }
  else (s.portDown (k - 64)).updPort (k - 64) fun p => { p with isolated := true }

/-- BLOCK_RESET with its shadow. -/
def State.blockReaction (s : State) (k : Nat) : State :=
  match resetCode k with
  | none => s
  | some b => (s.blockReset b true).getD s

/-- Performs a reaction. -/
def State.perform (s : State) (g : Graded) : State :=
  match g.react with
  | 1 => s.freezeNamed g
  | 2 => s.isolate g.src
  | 3 => s.blockReaction g.src
  | 4 => s.warmReset causeFaultWarm
  | 5 => s.hardReset causeFaultHard
  | 6 => s.enterSafe
  | _ => s

/-- Die-wide reactions of one cycle are one: the first of the highest stands for all (R508). -/
def State.performAll (s : State) (gs : List Graded) : State :=
  match gs.find? fun g => decide (4 ≤ g.react) with
  | some g => s.perform g
  | none => gs.foldl State.perform s

/-- The fixed reaction that an injected event of an unmaskable source takes, as a real one would (R493, R517); that of VDD_IO is that
pins are undefined while the rail is low, which it is not (log 140). -/
def State.fixedReaction (s : State) (k : Nat) : State :=
  match k with
  | 77 => if s.clk.xtalGood then s.xtalFailed else s
  | 80 => s.rcTripped
  | 87 => s.portsDown false
  | 89 => s.supplyFell
  | 93 => if s.thm.hold then s else s.shutdown (s.sources.foldl (fun a k => if s.sourceTemp a < s.sourceTemp k then k else a) 32)
  | _ => s

/-- An event that FLT_INJECT made (R517). -/
def Graded.injected (g : Graded) : Bool := fieldOf (g.detail.setWidth 32) 0 8 == 0xFF

/-- The collector's work of one CK_SAFE cycle in which lines were sampled. -/
def State.collect (s : State) (ls : List FaultLine) : State :=
  let r := s.gradeAll ls
  let gs := entryOrder r.1
  let s := r.2
  let top := (gs.filter fun g => !g.shadow).foldl (fun a g => if rankOf a < rankOf g.react then g.react else a) 0
  let marked := gs.map fun g => (g, s.performs top g)
  let s := (marked.foldl (fun (a : State × Bool) e => (a.1.record e.1 a.2 (if e.2 then e.1.react else 0), true)) (s, false)).1
  let s := if s.die.mode = .safe then s
    else (gs.filter fun g => g.injected && fixedSource g.src).foldl (fun (s : State) g => s.fixedReaction g.src) s
  (s.performAll ((marked.filter fun e => e.2).map fun e => e.1)).noteLevel

/-! ## Commands -/

/-- The collector runs: CK_SAFE does from the release of PORST_N on, in every power state (R37). -/
def State.collects (s : State) : Bool := !(s.die.mode == .porstLow)

/-- The firmware posts a finding: an event, and the line of its source (R26, R196, R494). Its severity is the firmware's own, a free
value (log 104). -/
def State.finding91 (s : State) (l : FaultLine) : State :=
  let d := l.detail.toNat
  let code := d / 2 ^ 8 % 2 ^ 16
  let s := s.postEvent 0x0013 0 (Config.findingSeverity code).toNat (BitVec.ofNat 32 code) (d / 2 ^ 32)
  s.raise l.src.toNat d

/-- A line that no block of the model raises: a firmware finding needs a Hive core that runs (R26). -/
def State.raiseExt (s : State) (l : FaultLine) : State :=
  if l.src = 91 ∧ l.detail.toNat % 256 = 2 then (if s.hiveOk then s.finding91 l else s) else s.raise l.src.toNat l.detail.toNat

/-- FAULT_EVENT (R493, R498 to R510): the lines that the blocks of the model have raised and `ext`, what no block of the model
detects by itself, are sampled together (log 93). -/
def execFaultEvent (ext : List FaultLine) (s : State) : Host.Outcome State Fault Refusal :=
  if !s.collects then .next s
  else
    let s := (ext.filter fun l => decide (l.src.toNat < 96)).foldl State.raiseExt s
    let ls := s.flt.lines
    .next ({ s with flt := { s.flt with lines := [] } }.collect ls)

/-- FAULT_WINDOW_END (R497): a window that has run WIN_MS ms ends. -/
def execFaultWindowEnd (src : BitVec 7) (s : State) : Host.Outcome State Fault Refusal :=
  let k := src.toNat
  match Tab.get none s.flt.window k with
  | none => .next s
  | some t =>
    if s.now < t + 1000 * s.fld .fltSrcW1 k 0 16 then .next s
    else .next { s with flt := { s.flt with counts := Tab.set 0 s.flt.counts k 0, window := Tab.set none s.flt.window k none } }

/-- A source that a reset of the die has shadowed and that is still at fault: suspect sensors, untrusted regions and failed memory
groups that the reset kept (R428). -/
def State.standing (s : State) (k : Nat) : Option Nat :=
  match k with
  | 75 => (allTiers.find? s.thm.suspect.getLsbD).map fun t => 1 + 2 ^ 8 * t + 2 ^ 13 * oneIf (s.thm.invalid.getLsbD t)
  | 82 => if s.otp.sensed then ((List.range 4).find? fun r => !s.otp.trusted.getLsbD r).map fun r => 1 + 2 ^ 8 * r else none
  | 83 => ((List.range 16).find? s.bst.memFail.getLsbD).map fun g => 2 + 2 ^ 8 * g
  | _ => none

/-- A shadow stands: that of a reset of the die until the restart releases the blocks, that of a block until its reset has ended (R509). -/
def State.shadowStays (s : State) (b : Nat) : Bool :=
  if b = 0x100 then s.die.mode == .resetHold || s.die.mode == .restarting else s.die.resetting (BitVec.ofNat 8 b)

/-- SHADOW_END (R509): the shadows of a source whose resets have ended are gone 64 CK_SAFE cycles later (log 52); a source that is
still at fault after a reset of the die is recorded as a new event (R428). -/
def execShadowEnd (src : BitVec 7) (s : State) : Host.Outcome State Fault Refusal :=
  let k := src.toNat
  let ended := s.flt.shadows.any fun e => e.1 == k && e.2 == 0x100 && !s.shadowStays e.2
  let s := { s with flt := { s.flt with shadows := s.flt.shadows.filter fun e => e.1 != k || s.shadowStays e.2 } }
  .next (match (if ended && !s.masked k then s.standing k else none) with | some d => s.raise k d | none => s)

/-- A parity mismatch in the collector: bit 92 is set, an entry is made where the history's own parity holds, and the die goes
to the safe state (R515, log 43). -/
def State.parityTrip (s : State) (histOk : Bool) : State :=
  let g : Graded := { src := 92, detail := 1, shadow := false, cls := 3, count := 0, react := 6 }
  let s : State :=
    if histOk then s.record g false (if s.takesWide 6 then 6 else 0)
    else { s with flt := { s.flt with
      status := s.flt.status ||| BitVec.ofNat 96 (2 ^ 92), last := Tab.set (0, 0) s.flt.last 92 (3, s.flt.next - 1) } }
  s.enterSafe

/-- A register of the collector no longer fits its parity; `hist` says that the history does not either. -/
def State.collectorOdd (s : State) (hist : Bool) : State :=
  { s with flt := { s.flt with unfit := true, histOdd := s.flt.histOdd || hist } }

/-- COLLECTOR_PARITY (R514, R515). -/
def execCollectorParity (histOk : Bool) (s : State) : Host.Outcome State Fault Refusal :=
  .next (if s.collects then
    let s := s.collectorOdd (!histOk)
    s.parityTrip !s.flt.histOdd
  else s)

/-! ## Snapshot and acknowledgement (R502, R503) -/

/-- A read of FLT_STAT0 takes the snapshot. -/
def State.fltSnapshot (s : State) : State :=
  { s with flt := { s.flt with snap := { status := s.flt.status, seq := if s.flt.made = 0 then 0 else s.flt.next - 1, first := s.flt.first, hist := s.flt.hist } } }

/-- A number has been carried by an entry since the last power-on reset. -/
def Flt.carried (f : Flt) (x : Nat) : Bool := decide (x < f.made) || decide (65536 ≤ f.made)

/-- `e` is `x` or came before it, `x` among the 32,768 numbers before the next (R552) (log 53). -/
def atOrBefore (e x next : BitVec 16) : Bool := decide ((next - 1 - x).toNat < 32768) && decide ((x - e).toNat < 32768)

/-- FLT_ACK (R503): none where no entry has carried the number. -/
def State.fltAck (s : State) (x : BitVec 16) : Option State :=
  if !s.flt.carried x.toNat then none
  else
    let gone (k : Nat) : Bool := atOrBefore (Tab.get (0, 0) s.flt.last k).2 x s.flt.next
    let mask := (List.range 96).foldl (fun a k => if gone k then a + 2 ^ k else a) 0
    some { s with flt := { s.flt with status := s.flt.status &&& ~~~ BitVec.ofNat 96 mask } }

/-- FLT_INJECT (R517): the line is raised, or the parity of FLT_CFG is inverted. -/
def State.fltInject (s : State) (data : Word) : State × Verdict :=
  let k := fieldOf data 0 7
  if fieldOf data 8 8 ≠ 0x69 then (s, .refusedBy 8 8)
  else if s.lifecycle ≠ 0 then (s, .refused)
  else if bitOf data 7 then
    ({ s with regs := { s.regs with par := Tab.upd false s.regs.par (regKey .fltCfg 0) (!·) } }.collectorOdd false |>.parityTrip !s.flt.histOdd, .taken)
  else if 95 < k then (s, .refusedBy 0 7)
  else (s.raise k 0xFF, .taken)

end Sys2Proof.Machine
end

