-- ==== Sys2Proof/Machine/Ticks.lean ====
section
/-! DEFINITION. The passing of time (R47, R48, R51, R52, R73, R74, R400): the cricket tick and the node-epoch boundary. -/

namespace Sys2Proof.Machine

/-! ## The cricket tick (R47, R48) -/

/-- The change of one tick's length: at most one CK_EPOCH cycle, and no two ticks running (R48). -/
def Tim.bend (t : Tim) : Int := if t.lastChanged then 0 else if 0 < t.slew then 1 else if t.slew < 0 then -1 else 0

/-- The count and the slew still to take after one tick. -/
def Tim.ticked (t : Tim) : Tim :=
  { t with count := t.count + 1, slew := t.slew - t.bend, lastChanged := decide (t.bend ≠ 0) }

/-- What a tick brings beyond the count: session time, the governor, and what follows the time of the node. -/
def State.tickWork (s : State) : State :=
  let s := { s with dbg := { s.dbg with left := s.dbg.left.map (· - 1) } }
  let s := (if s.die.mode = .running then s.retarget else s).releasePlaces.governor.judgeQuotas.judgeSeasons
  let s := ((allTiers.foldl (fun s t => s.judgeLocked t) s).moveAllBulk s.pwr.state.toNat).ungate.xtalBack.restartsDone
  let s := if s.hasWork then { s with pwr := { s.pwr with idleSince := s.now } } else s
  s.dropSources.retainTick.vqpsCheck.vqpsNext.judgePower.judgeCal.offTick

/-- A microsecond passes (R47). Marks, rail ballast and the power controller's time run even while a reset holds the count or
the safe state stops CK_EPOCH (R400, R433, R511, log 34). -/
def State.tick (s : State) : State :=
  if s.die.mode = .off ∨ s.die.mode = .porstLow then s
  else
    let s := s.ballastTick
    let s := { s with
      die := { s.die with markUs := s.die.markUs + 1 }, pwr := { s.pwr with wakeLeft := s.pwr.wakeLeft - 1, us := s.pwr.us + 1 } }.isleTick
    if s.tim.held ∨ s.die.mode = .safe then s else { s with tim := s.tim.ticked }.tickWork

/-! ## The node-epoch boundary (R51, R52) -/

/-- The next epoch begins where the last one ended. -/
def State.nextEpoch (s : State) : State :=
  { s with tim := { s.tim with
    epochStart := s.tim.epochEnd, epochEnd := s.tim.epochEnd + 1024, epochNum := s.tim.epochEnd / 1024, lastIrreg := s.tim.irreg,
    irreg := false } }

/-- Counters that report the epoch that has ended (R97, R159). -/
def State.snapCounters (s : State) : State :=
  let top : Nat := 2 ^ 32 - 1
  { s with
    pcd := { s.pcd with
      corrSnap := BitVec.ofNat 32 (min top s.pcd.corr), bitsSnap := BitVec.ofNat 32 (min top s.pcd.bits),
      ueSnap := BitVec.ofNat 16 (min 65535 s.pcd.ue), corr := 0, bits := 0, ue := 0 }
    tch := { s.tch with nrefSnap := min (2 ^ 20 - 1) s.tch.nref, nref := 0 } }

/-- Lane errors of the epoch that has ended (R315). -/
def State.snapLanes (s : State) : State :=
  (List.range 4).foldl (fun s n => s.updPort n fun p =>
    (List.range 8).foldl (fun p k => p.updLane k fun l => { l with errsLast := BitVec.ofNat 8 (min 255 l.errs), errs := 0 }) p) s

/-- The die keeps its schedules: CK_EPOCH runs, and no reset holds the die (R37, R511). -/
def State.scheduled (s : State) : Bool :=
  !s.tim.held && (s.die.mode == .restarting || s.die.mode == .running || s.die.mode == .clickHold)

/-- EPOCH_BOUNDARY (R51), in the order of its list; the thermal model moves with it (R374). -/
def execEpochBoundary (s : State) : Host.Outcome State Fault Refusal :=
  if !s.scheduled ∨ s.now < s.tim.epochEnd then .next s
  else
    let s := s.nextEpoch.budgetBoundary.qosBoundary
    let s := s.snapCounters.snapLanes.scarabBoundary
    .next s.thermalBoundary.calBoundary.bistBoundary.groupBoundary

end Sys2Proof.Machine
end

