-- ==== Sys2Proof/Machine/Views.lean ====
section
/-! DEFINITION. What a register reads as (R12, R427, R543 to R552): stored fields, the live views of every block's status, and
the layouts of the entries that logs and registers share. -/

namespace Sys2Proof.Machine

/-! ## Layouts (R162, R501, R557) -/

def ClampEntry.bytes (e : ClampEntry) : List Byte :=
  leBytes 4 e.whr.toNat ++ [e.field, e.fieldHi] ++ leBytes 2 e.seq.toNat ++ leBytes 4 e.written.toNat ++ leBytes 4 e.applied.toNat ++
    leBytes 8 e.time.toNat ++ leBytes 4 e.data.toNat ++ leBytes 4 0

/-- FLAGS of a history entry. -/
def FltEntry.flags (e : FltEntry) : Nat := oneIf e.shadowed + 2 * oneIf e.same + 4 * oneIf e.injected + 8 * oneIf e.safe

def FltEntry.bytes (e : FltEntry) : List Byte :=
  leBytes 8 e.time.toNat ++ leBytes 2 e.seq.toNat ++ [e.source, e.cls, e.react, BitVec.ofNat 8 e.flags] ++ leBytes 2 e.count.toNat ++
    leBytes 8 e.detail.toNat ++ leBytes 8 0

/-- W0 to W3 of SCB_LOGk. -/
def ScbEntry.words (e : ScbEntry) : List Word :=
  [packed [(e.tier, 0, 5), (e.chan, 5, 5), (e.bank, 10, 4), (e.row, 14, 13), (e.kind.toNat, 27, 3), (oneIf e.cand, 30, 1), (1, 31, 1)],
    packed [(e.lbn.toNat, 0, 26), (e.tcode.toNat, 26, 3), (oneIf e.src, 29, 1)],
    packed [(e.maxCorr.toNat, 0, 8), (e.pass.toNat, 8, 8), (e.hits.toNat, 16, 8)], e.time.setWidth 32]

/-- Words of place k of the correctable log. -/
def State.scbWords (s : State) (k : Nat) : List Word :=
  match Tab.get none s.scb.log k with
  | some e => e.words
  | none => [0, 0, 0, 0]

/-- Word w of an entry's bytes; zero where there is none. -/
def wordAt (l : List Byte) (w : Nat) : Word := (bytesWords l).getD w 0

/-! ## Codes of states -/

/-- LNK_STATn.STATE (R314). -/
def PortSt.code : PortSt → Nat
  | .down => 0 | .detect => 1 | .align => 2 | .config => 3 | .rateSwitch => 4 | .laneTrain => 5 | .deskew => 6 | .confirm => 7
  | .up => 8 | .recovery => 9

def SqSt.code : SqSt → Nat
  | .disabled => 0 | .active => 1 | .draining => 2 | .error => 3

def CqSt.code : CqSt → Nat
  | .disabled => 0 | .active => 1 | .error => 2

/-! ## Stored values -/

/-- The indirect pointer of a path. -/
def Regs.ptr (r : Regs) : Nat → IndPtr
  | 0 => r.indHive | 1 => r.indCfg | 2 => r.indTw | _ => r.indJtag

/-- The stored fields of a register, those that the die also writes included; `src` is the access path. -/
def State.present (s : State) (src : Nat) (n : RegName) (i : Nat) : Word :=
  match n with
  | .indAddr => packed [((s.regs.ptr src).addr.toNat, 0, 24)]
  | .indCtl => packed [((s.regs.ptr src).inc.toNat, 0, 2)]
  | .sqcW4 => withField (s.cfgWord n i) 16 16 (s.sq i).gen.toNat
  | .sqcW5 => packed [((s.sq i).head.toNat, 0, 16)]
  | .cqcW4 => packed [((s.cq i).head.toNat, 0, 16)]
  | .pcdGen => s.pcd.gen
  | .lnkNode => packed [(s.lnk.id.toNat, 0, 6), (oneIf s.lnk.valid, 6, 1)]
  | n => s.cfgWord n i

/-! ## Live views -/

/-- Limits of four classes from `k`. -/
def State.limWord (s : State) (i k : Nat) : Word := packed ((List.range 4).map fun j => (s.limitOf i (k + j), 8 * j, 6))

/-- QOS_ADM_STAT.STALE: recomputation waits for the Hive core (R284). -/
def State.staleView (s : State) : Bool := s.qos.stale || (s.qos.causes != 0 && !s.hiveOk)

/-- Quarter nanoseconds as microseconds. -/
def inUs (q : Nat) : Nat := q / microQ

/-- Bytes in a replay buffer. -/
def Port.replayUsed (p : Port) : Nat := p.replay.foldl (fun a x => a + x.replayBytes) 0

/-- Every bit of every powered tier is set in every PCD_RDY (R139). -/
def State.allReady (s : State) : Bool := (List.range 256).all fun r => s.poweredTiers.all fun t => s.ready r t

/-- A key slot holds a key. -/
def State.keyHeld (s : State) (k : Nat) : Bool := !(Tab.get [] s.sec.slots k).isEmpty

/-- Registers of the die, clocks, time and the register file. -/
def State.viewDie (s : State) (n : RegName) (i : Nat) : Word :=
  match n with
  | .rstService => s.rstService
  | .rstBlock => packed [(oneIf (!s.die.blockBusy.isEmpty || !s.die.blockPend.isEmpty), 16, 1)]
  | .rstStat =>
    packed [(s.die.cause.toNat, 0, 4), (oneIf s.die.tierRetained, 4, 1), (oneIf s.die.imageKept, 5, 1), (oneIf s.die.wasSafe, 6, 1),
      (s.die.warmCount.toNat, 8, 8), (s.die.hardCount.toNat, 16, 8)]
  | .rstRetain => s.die.retain
  | .rstRelaxed => s.die.relaxed
  | .rstMark0 => s.die.mark0
  | .rstMark1 => s.die.mark1
  | .rstMark2 => s.die.mark2
  | .timStat => packed [(oneIf s.tim.orphan, 0, 1), (oneIf s.tim.everLocked, 1, 1), (oneIf (s.tim.slew != 0), 2, 1)]
  | .timNowLo => s.tim.count.setWidth 32
  | .timNowHi => BitVec.ofNat 32 (s.tim.count.toNat / 2 ^ 32)
  | .timEpoch => BitVec.ofNat 32 s.tim.epochNum
  | .timStep => s.tim.step
  | .clkStat =>
    packed [(oneIf s.die.rcReady, 0, 1), (oneIf s.clk.xtalGood, 1, 1), (oneIf s.clk.onRc, 2, 1), (oneIf s.clk.fabA, 3, 1),
      (oneIf s.clk.fabB, 4, 1), (s.clk.laneLock.toNat, 5, 4), (s.clk.forced.toNat, 10, 2), (s.clk.xtalFails.toNat, 16, 8)]
  | .clkTpll => s.clk.tierLock
  | .clkXcnt => (Config.crystalCount s.now).setWidth 32
  | .clampStat => packed [((s.regs.clampNext - oneIf (!s.regs.clampLog.isEmpty)).toNat, 0, 16), (oneIf s.regs.clampNew, 16, 1), (s.regs.clampLost.toNat, 24, 8)]
  | .clampLog =>
    match s.regs.clampLog.find? fun e => e.seq.toNat % 32 == i / 8 with
    | some e => wordAt e.bytes (i % 8)
    | none => 0
  | .nmoStat => BitVec.ofNat 32 (s.rng.cmds.filter fun c => c.op.nmo && c.started).length
  | _ => 0

/-- Registers of power, temperature and calibration. -/
def State.viewPower (s : State) (n : RegName) (i : Nat) : Word :=
  match n with
  | .pwrStat =>
    packed [(s.pwr.state.toNat, 0, 3), (s.chosen, 3, 3), (oneIf s.hasWork, 6, 1), (oneIf s.pwr.keysKept, 7, 1), (s.pwr.cause.toNat, 8, 4),
      (s.cicadaBlock, 12, 4)]
  | .pwrTierStat => wordOf fun t => (s.tier t).powered
  | .pwrTierFail => wordOf fun t => (s.tier t).failed
  | .pwrRailStat => packed [(oneIf s.die.uvLnk, 0, 1), (oneIf s.die.uvIo, 1, 1), (oneIf s.die.uvT, 2, 1), (oneIf s.die.uvPp, 3, 1)]
  | .calCtl => packed [(oneIf s.cal.now_, 0, 1)]
  | .calStat => packed [(s.cal.rounds.toNat, 0, 16), (oneIf (!s.cal.running.isEmpty), 16, 1), (oneIf (!s.cal.pend.isEmpty), 17, 1)]
  | .calSoff => (Tab.get 0 s.cal.offs i).setWidth 32
  | .thmClick => packed [(s.thm.clicks.toNat, 0, 8)]
  | .thmClickTime => s.thm.clickTime
  | .thmStat =>
    packed [(oneIf (!s.thm.warn.isEmpty), 0, 1), (oneIf (!s.thm.throt.isEmpty), 1, 1), (oneIf s.thm.graceAt.isSome, 2, 1),
      (oneIf s.thm.enforced, 3, 1), (oneIf (s.thm.converge != 0), 4, 1), (oneIf s.thm.hold, 5, 1),
      ((allTiers.filter fun t => s.thm.suspect.getLsbD t).length, 8, 6)]
  | .thmS => BitVec.ofNat 32 (s.baseOf i % 1024)
  | .thmT =>
    packed [(s.sampleOf i, 0, 10), (s.modelCode i, 10, 10), (s.effTemp i, 20, 10), (oneIf (s.thm.suspect.getLsbD i), 30, 1),
      (oneIf (s.thm.invalid.getLsbD i), 31, 1)]
  | _ => 0

/-- Registers of the budget unit and of regulation. A sum of coefficients past 16 bits reads 65,535 in BUD_CAP_MIN (R72; DESIGN CHOICE,
log 135). -/
def State.viewBudget (s : State) (n : RegName) (i : Nat) : Word :=
  match n with
  | .budCapMin => packed [(min 65535 s.capMin, 0, 16), (min 65535 s.fixedMw, 16, 16)]
  | .budLimit => packed [(s.bud.limCh, 0, 11), (s.bud.limCl, 16, 8)]
  | .budStat =>
    packed [(oneIf ((s.bud.limCh, s.bud.limCl) != s.goals), 0, 1), (oneIf s.bud.throttled, 1, 1), (oneIf s.capRaisedNow, 2, 1),
      (oneIf (inUs s.bud.overSnap != 0), 3, 1), (oneIf s.tim.lastIrreg, 4, 1)]
  | .budMaintOver => BitVec.ofNat 32 (min (2 ^ 21 - 1) (inUs s.bud.overSnap))
  | .budBallast => BitVec.ofNat 32 (min (2 ^ 21 - 1) s.bud.ballastSnap)
  | .budUsed => BitVec.ofNat 32 (min (2 ^ 21 - 1) (inUs (s.bud.usedSnap.get (classOf i))))
  | .qosAdmStat => packed [(s.qos.scale, 0, 13), (oneIf (decide (s.qos.scale < 4096)), 13, 1), (oneIf s.staleView, 14, 1), (s.qos.pool, 16, 16)]
  | .qosTc7Miss => packed [(s.qos.missTotal.toNat, 0, 16), (s.qos.missForced.toNat, 16, 16)]
  | .qosStrmPool => packed [(s.qos.poolFree, 0, 11)]
  | .qosApp => packed [(s.applied i, 0, 16)]
  | .qosBytes => BitVec.ofNat 32 (Tab.get 0 s.qos.bytesSnap i)
  | .qosShort => packed [(Tab.get 0 s.qos.short i, 0, 16)]
  | .qosLimW0 => s.limWord i 0
  | .qosLimW1 => s.limWord i 4
  | .qosLvl =>
    packed [(min 32 (s.chan i).queue.length, 0, 6), (oneIf (s.panicked i), 8, 1), ((s.topWaiting i).getD 0, 12, 3),
      (oneIf (s.topWaiting i).isSome, 15, 1)]
  | .qosStrmW2 => packed [((s.sq i).fill, 0, 7), (oneIf (s.sq i).panic, 7, 1), ((s.sq i).miss.toNat, 16, 16)]
  | _ => 0

/-- Registers of the fault collector. -/
def State.viewFaults (s : State) (n : RegName) (i : Nat) : Word :=
  match n with
  | .fltStat => if i < 3 then BitVec.ofNat 32 (s.flt.snap.status.toNat / 2 ^ (32 * i)) else 0
  | .fltSeq => packed [(s.flt.snap.seq.toNat, 0, 16), (s.flt.next.toNat, 16, 16)]
  | .fltFirst => s.flt.snap.first
  | .fltState => packed [(oneIf (s.die.mode == .safe), 0, 1), (oneIf (!s.flt.shadows.isEmpty), 1, 1), (s.flt.lost.toNat, 16, 16)]
  | .fltShadow => packed [(s.flt.shadowN.toNat, 0, 16)]
  | .fltSrcW1 => packed [(min 255 (Tab.get 0 s.flt.counts i), 16, 8)]
  | .fltHist =>
    match s.flt.snap.hist[i / 8]? with
    | some e => wordAt e.bytes (i % 8)
    | none => 0
  | _ => 0

/-- Registers of fuses, self-test, identity and debug, and of the two-wire interface. -/
def State.viewTrust (s : State) (n : RegName) (i : Nat) : Word :=
  match n with
  | .otpStat =>
    packed [(oneIf s.otp.busy.isSome, 0, 1), (oneIf s.otp.locked, 1, 1), (s.otp.err.toNat, 2, 3), (s.otp.lockedReg.toNat, 8, 4),
      (s.otp.trusted.toNat, 12, 4)]
  | .otpEcc => packed [(s.otp.corrected, 0, 13), (s.otp.uncorr, 16, 13)]
  | .otpCnt0 => packed [(s.lifecycle, 0, 2), (s.otp.counter 1, 2, 9), (s.otp.counter 2, 11, 8)]
  | .otpCnt1 => packed [(s.otp.counter 3, 0, 10), (s.otp.records.length, 10, 10)]
  | .otpSh => if 0x500 ≤ i ∧ i < 0x540 then 0 else s.otp.sh i
  | .otpMarginal => wordOf fun b => Tab.get false s.otp.marginal (32 * i + b)
  | .bstStat =>
    packed [(s.bst.state.toNat, 0, 2), (s.bst.part, 2, 3), (s.bst.logicFail.toNat, 8, 8), (oneIf s.bst.scrap, 16, 1),
      (s.bst.scrapStep.toNat, 17, 4)]
  | .bstMemfail => s.bst.memFail.setWidth 32
  | .secStat =>
    packed [(s.lifecycle, 0, 2), (oneIf s.keyPair, 2, 1), (oneIf s.sec.kwk.isSome, 3, 1), (oneIf (decide (252 ≤ s.otp.counter 2)), 4, 1),
      (oneIf (decide (256 ≤ s.otp.counter 1)), 5, 1), (s.sec.err.toNat, 6, 3), (oneIf (s.sec.busy != 0), 9, 1)]
  | .secBoot => packed [(s.sec.boot.toNat, 0, 3), (if s.die.hiveRun then imageArb s.die.image else 0, 16, 16)]
  | .secImage => if s.die.hiveRun then BitVec.ofNat 32 (imageVersion s.die.image) else 0
  | .secKslot => wordOf fun b => s.keyHeld (32 * i + b)
  | .dbgStat =>
    packed [(s.dbg.level.toNat, 0, 2), (oneIf (s.dbg.checking.isSome || s.dbg.erasing), 2, 1), (s.dbg.fails.toNat, 3, 2),
      (oneIf s.dbg.lockout, 5, 1), (s.dbg.max.toNat, 8, 2), (s.dbg.sessions.toNat, 16, 16)]
  | .dbgChal => Tab.get 0 s.dbg.chal i
  | .twCres => packed [(oneIf s.tw.busy, 0, 1), (s.tw.result.toNat, 1, 3), (s.tw.doneN, 8, 7)]
  | .twStat =>
    packed [(s.tw.strap.toNat, 0, 3), (0x38 + s.tw.strap.toNat, 3, 7), (oneIf s.twAnswers, 10, 1), (oneIf s.tw.busBusy, 11, 1),
      (s.tw.sdaTo.toNat, 16, 8), (s.tw.discards.toNat, 24, 8)]
  | .twCnt =>
    packed [(s.tw.arbLost.toNat, 0, 8), (s.tw.busErrs.toNat, 8, 8), (s.tw.timeouts.toNat, 16, 8), (s.tw.recovers.toNat, 24, 8)]
  | _ => 0

/-- Registers of the links. -/
def State.viewLinks (s : State) (n : RegName) (i : Nat) : Word :=
  let p := s.port i
  match n with
  | .lnkNode => packed [(s.lnk.upPort.toNat, 8, 2), (s.lnk.depth.toNat, 16, 3)]
  | .lnkDrop => packed [(s.lnk.unroutable.toNat, 0, 16), (s.lnk.lateCpl.toNat, 16, 8), (s.lnk.badMsg.toNat, 24, 8)]
  | .lnkCtl => packed [(oneIf p.retPend, 0, 1), (oneIf p.recPend, 1, 1)]
  | .lnkStat =>
    packed [(p.st.code, 0, 4), (p.rate.toNat, 4, 3), (p.lanes.toNat, 8, 8), (p.svcTx.toNat, 16, 2), (p.svcRx.toNat, 18, 2),
      (p.bulkTx.toNat, 20, 2), (p.bulkRx.toNat, 22, 2), (oneIf (p.pRole == 1), 24, 1)]
  | .lnkCnt => packed [(p.downs.toNat, 0, 8), (p.recoveries.toNat, 8, 8), (p.fallbacks.toNat, 16, 8)]
  | .lnkTime => packed [(p.delay.toNat, 0, 20), (oneIf p.dvalid, 20, 1)]
  | .lnkSeq => packed [(p.nextTx.toNat, 0, 12), (p.nextRcv.toNat, 16, 12)]
  | .lnkRepl => packed [(p.replayUsed, 0, 17), (min 4095 p.replay.length, 20, 12)]
  | .lnkErr => packed [(p.crcErrs.toNat, 0, 8), (p.naksSent.toNat, 8, 8), (p.replaysC.toNat, 16, 8), (p.malformed.toNat, 24, 8)]
  | .lnkLane =>
    let q := s.port (i / 8)
    let l := q.lane (i % 8)
    packed [(l.eye.toNat, 0, 8), (oneIf l.locked, 8, 1), (oneIf (q.lanes.getLsbD (i % 8)), 9, 1), (oneIf l.inverted, 10, 1),
      (l.errsLast.toNat, 16, 8), (l.skew.toNat, 24, 5)]
  | _ => 0

/-- Registers of the ring engine. -/
def State.viewRings (s : State) (n : RegName) (i : Nat) : Word :=
  match n with
  | .sqcW5 => packed [((s.sq i).tail.toNat, 16, 16)]
  | .sqcW6 => packed [((s.sq i).st.code, 0, 2), ((s.sq i).err.toNat, 4, 3), ((s.sq i).out, 8, 13)]
  | .cqcW4 => packed [((s.cq i).tail.toNat, 16, 16)]
  | .cqcW5 => packed [(oneIf (s.cq i).phase, 0, 1), ((s.cq i).reserved, 16, 16)]
  | .cqcW6 => packed [((s.cq i).st.code, 0, 2), (s.sqsOf i, 8, 13)]
  | .rngEvtSeq => packed [(s.rng.evSeq.toNat, 0, 16)]
  | .rngEvtLost => packed [(s.rng.evLost.toNat, 0, 16), (s.rng.evTotal.toNat, 16, 16)]
  | .rngDblDrop => s.rng.dblDrop
  | .rngStat => packed [(s.rng.cmds.length, 0, 13), (oneIf (!s.rng.held.isEmpty), 16, 1)]
  | .rngIcnt0 => packed [(s.rng.cntInteg.toNat, 0, 16), (s.rng.cntCrc.toNat, 16, 16)]
  | .rngIcnt1 => packed [(s.rng.cntAmend.toNat, 0, 16), (s.rng.cntRetr.toNat, 16, 16)]
  | .rngIcnt2 => packed [(s.rng.cntGen.toNat, 0, 16)]
  | .rngSqerr => wordOf fun b => (s.sq (32 * i + b)).st == .error
  | .rngCqerr => wordOf fun b => (s.cq (32 * i + b)).st == .error
  | _ => 0

/-- Registers of tiers, channels, the page code and Scarab. -/
def State.viewStack (s : State) (n : RegName) (i : Nat) : Word :=
  match n with
  | .wvlStat => packed [(s.tch.nrefSnap, 0, 20)]
  | .tchTstat =>
    let t := s.tier i
    packed [(oneIf t.accepted, 0, 1), (oneIf t.hot, 1, 1), (t.freqNow.toNat, 2, 2), (oneIf t.changing, 4, 1), (oneIf t.selfRef, 5, 1),
      (((chansOfTier i).filter s.isServing).length, 8, 6)]
  | .tchRetire => wordOf fun c => (s.chan (32 * i + c)).retired
  | .tchChstat =>
    let c := s.chan i
    packed [(s.chanCode i, 0, 3), ((c.debt % 32).toNat, 8, 5), (c.eyeRd.toNat, 16, 8), (c.eyeWr.toNat, 24, 8)]
  | .tchChctl =>
    let c := s.chan i
    packed [(oneIf c.resume, 0, 1), (oneIf c.discard, 1, 1), (oneIf c.retrain, 2, 1)]
  | .tchFrzCause => (s.chan i).frzCause
  | .tchFrzCmd => (s.chan i).frzCmd
  | .tchSub =>
    match Tab.get none s.tch.subs i with
    | some e => packed [(e.1, 0, 12), (e.2, 12, 5), (1, 31, 1)]
    | none => 0
  | .pcdMrg => packed [(s.pcd.merge.length, 0, 9)]
  | .pcdCntCorr => s.pcd.corrSnap
  | .pcdCntBits => s.pcd.bitsSnap
  | .pcdCntUe => s.pcd.ueSnap.setWidth 32
  | .pcdStat => packed [(oneIf s.pcd.genUnseeded, 0, 1), (oneIf s.allReady, 1, 1)]
  | .pcdRdy => Tab.get 0 s.pcd.rdy i
  | .pcdRcw =>
    let w := s.window i
    packed [(w.region.toNat, 0, 8), (w.old.toNat, 8, 3), (w.new.toNat, 12, 3), (oneIf w.open_, 15, 1)]
  | .pcdRcp => packed [((s.window i).pointer, 0, 18)]
  | .scbPass => s.scb.pass
  | .scbStat =>
    packed [(oneIf s.scb.behind, 0, 1), (oneIf (allTiers.any fun t => (s.tier t).wake), 1, 1), (oneIf s.formatting, 2, 1),
      (s.scb.log.length, 8, 7), (s.scb.logDrop.toNat, 16, 16)]
  | .scbSeason =>
    let t := s.tier i
    packed [(t.season.toNat, 0, 2), (t.acceptedM.toNat, 2, 2), (t.trial.toNat, 4, 2), (t.hold.toNat, 8, 8)]
  | .scbLog => (s.scbWords (i / 4)).getD (i % 4) 0
  | _ => 0

/-- What a read of a register returns on a path: its stored fields and its live ones, which never share a bit (R550). -/
def State.readReg (s : State) (src : Nat) (n : RegName) (i : Nat) : Word :=
  s.present src n i ||| s.viewDie n i ||| s.viewPower n i ||| s.viewBudget n i ||| s.viewFaults n i ||| s.viewTrust n i |||
    s.viewLinks n i ||| s.viewRings n i ||| s.viewStack n i

end Sys2Proof.Machine
end

