-- ==== Sys2Proof/Machine/RegFile.lean ====
section
/-! DEFINITION. Writes to the register file (R12, R35, R543 to R559): the clamp of every field, where stored values live, what a
new value sets off, the actions of W1S and WO fields, and the refusals of the safe state and the Click hold. -/

namespace Sys2Proof.Machine

/-! ## Clamps (R555, R556) -/

/-- A value held within bounds. Bounds that another rule has crossed: the lower bound yields (log 44). -/
def bounded (lo hi v : Nat) : Nat := min hi (max lo v)

/-- A 16-bit two's complement value held within -2048 to 2047. -/
def boundedSigned (v : Nat) : Nat :=
  let x := (BitVec.ofNat 16 v).toInt
  (BitVec.ofInt 16 (min 2047 (max (-2048) x))).toNat

/-- A reaction code: an unsupported one goes to the next higher supported reaction in the rank of R506 (R507). -/
def boundedReaction (k v : Nat) : Nat :=
  let r := rankOf v
  match [0, 1, 3, 2, 4, 5, 6].find? fun c => decide (r ≤ rankOf c) && supports k c with
  | some c => c
  | none => 6

/-- A field while a state of its block holds. -/
def onlyIf (c : Bool) (v : Nat) : Option Nat := if c then some v else none

/-- The lowest rated limit among accepted tiers, and the smallest of their largest radii (R88, R98). -/
def State.acceptedDist (s : State) : List Nat := (allTiers.filter fun t => (s.tier t).accepted).map fun t => (s.tier t).ident.dist.toNat
def State.threshTop (s : State) : Nat := s.acceptedDist.foldl (fun a d => min a (128 * (d % 64))) 4095
def State.radiusTop (s : State) : Nat := s.acceptedDist.foldl (fun a d => min a (d / 64 + 1)) 4

/-- The value a field takes, none where the write to it is ignored. `acc` is the register with its lower fields settled, `w` the
word as written. -/
def State.judgeField (s : State) (n : RegName) (i : Nat) (f : Field) (acc w : Word) : Option Nat :=
  let v := fieldOf w f.lo f.wd
  let got (lo wd : Nat) : Nat := fieldOf acc lo wd
  let put (lo wd : Nat) : Nat := fieldOf w lo wd
  let plain : Option Nat := match f.clamp with
    | .range lo hi => some (bounded lo hi v)
    | .any => some v
    | .dyn => some v
  match n, f.lo with
  | .sqcW0, _ => onlyIf ((s.sq i).st == .disabled) v
  | .sqcW1, _ => onlyIf ((s.sq i).st == .disabled) v
  | .sqcW2, 0 => onlyIf ((s.sq i).st == .disabled) (bounded 4 16 v)
  | .sqcW2, _ => onlyIf ((s.sq i).st == .disabled) v
  | .sqcW3, 0 =>
    let stream := if (s.sq i).st = .disabled then bitOf w 8 else bitOf acc 8
    onlyIf (!stream || v == 7) v
  | .sqcW3, 8 => onlyIf ((s.sq i).st == .disabled) v
  | .sqcW4, 16 => onlyIf ((s.sq i).st == .disabled) v
  | .sqcW5, _ => onlyIf ((s.sq i).st == .disabled) (min (s.sqSize i - 1) v)
  | .cqcW0, _ => onlyIf ((s.cq i).st == .disabled) v
  | .cqcW1, _ => onlyIf ((s.cq i).st == .disabled) v
  | .cqcW2, _ => onlyIf ((s.cq i).st == .disabled) (bounded 4 16 v)
  | .cqcW4, _ => onlyIf ((s.cq i).st == .error) (min (s.cqSize i - 1) v)
  | .rngEvtCq, 0 => onlyIf (v == got 0 12 || !((s.cq v).st == .active) || decide (2 ≤ s.cqSpare v)) v
  | .qosCfg, 0 => some (bounded 0 (bounded 1 32 (put 8 6) - 1) v)
  | .qosCfg, 8 => some (bounded (got 0 6 + 1) 32 v)
  | .qosStrmW0, 8 => some (bounded (min 63 (put 16 7) + 1) (got 0 7) v)
  | .qosStrmW0, 16 => some (bounded 0 (got 8 7 - 1) v)
  | .qosTc, 24 => some (bounded (got 16 6) 32 v)
  | .budCap, _ => some (bounded (max 12000 s.capMin) 60000 v)
  | .budClass, 0 => onlyIf (i != 3) (bounded 0 1024 v)
  | .budClass, _ => if i = 3 then some (bounded 16 256 v) else onlyIf (i == 2) (bounded 0 64 v)
  | .wvlCfg, 0 => some (bounded 256 s.threshTop v)
  | .wvlCfg, _ => some (bounded 1 s.radiusTop v)
  | .pcdSmap, _ => onlyIf (s.openWindow i).isNone (bounded 0 4 v)
  | .lnkPhy0, 4 => some (if v % 2 = 1 then v else v + 1)
  | .lnkNode, 0 => onlyIf (!s.lnk.valid) v
  | .lnkNode, _ => onlyIf (v == 1) 1
  | .lnkRange, 8 => some (bounded (got 0 6) 63 v)
  | .lnkRange, 16 => onlyIf (!(v == 1 && s.lnk.valid && i == s.lnk.upPort.toNat)) v
  | .lnkTadj, _ => some (boundedSigned v)
  | .thmLimit, 8 => some (bounded (got 0 8 + 1) 108 v)
  | .thmLimit, 16 => some (bounded (got 8 8 + 2) 110 v)
  | .thmLimit, 24 => some (bounded 50 (got 16 8 - 10) v)
  | .bstCfg, 8 => some (v % 64)
  | .fltSrcW0, 1 => onlyIf (!fixedSource i) (bounded 1 3 v)
  | .fltSrcW0, 3 => onlyIf (!fixedSource i) (boundedReaction i v)
  | .fltSrcW0, 6 =>
    let c := boundedReaction i v
    onlyIf (!fixedSource i) (if rankOf c < rankOf (got 3 3) then got 3 3 else c)
  | .fltSrcW0, 24 => some (bounded (got 16 8) 255 v)
  | .twCbuf, _ => onlyIf (!s.tw.busy) v
  | _, _ => plain

/-- Settles the stored fields of a write in rising order; each that does not take its written value makes an entry (R544, R555) (log 55). -/
def State.settleFields (s : State) (w : RegWrite) (n : RegName) (i : Nat) : List Field → Word → State × Word
  | [], acc => (s, acc)
  | f :: t, acc =>
    let v := fieldOf w.data f.lo f.wd
    let old := fieldOf acc f.lo f.wd
    if !f.typ.stored then s.settleFields w n i t acc
    else if f.typ = .rwl ∧ 2 ≤ s.lifecycle then (s.clampNote w 3 f.lo (f.lo + f.wd - 1) v old).settleFields w n i t acc
    else match s.judgeField n i f acc w.data with
    | none =>
      (if v = old ∧ !(n == .lnkNode && f.lo == 6) then s else s.clampNote w 2 f.lo (f.lo + f.wd - 1) v old).settleFields w n i t acc
    | some x =>
      (if x = v then s else s.clampNote w 1 f.lo (f.lo + f.wd - 1) v x).settleFields w n i t (withField acc f.lo f.wd x)

/-! ## Where a value is kept -/

/-- The pointer of a path. -/
def Regs.setPtr (r : Regs) (src : Nat) (p : IndPtr) : Regs :=
  match src with
  | 0 => { r with indHive := p } | 1 => { r with indCfg := p } | 2 => { r with indTw := p } | _ => { r with indJtag := p }

/-- Key of a register's parity bit: the four pointers of the window are four registers. -/
def parKey (src : Nat) (n : RegName) (i : Nat) : Nat :=
  if n = .indAddr ∨ n = .indCtl then regKey n i + 2 ^ 25 * src else regKey n i

/-- Stores the settled word. -/
def State.store (s : State) (src : Nat) (n : RegName) (i : Nat) (x : Word) : State :=
  match n with
  | .indAddr => { s with regs := s.regs.setPtr src { s.regs.ptr src with addr := x.setWidth 24 } }
  | .indCtl => { s with regs := s.regs.setPtr src { s.regs.ptr src with inc := x.setWidth 2 } }
  | .sqcW4 =>
    let s := s.setCfg .sqcW4 i (withField x 16 16 1)
    s.updSq i fun q => { q with gen := BitVec.ofNat 16 (fieldOf x 16 16) }
  | .sqcW5 => s.updSq i fun q => { q with head := x.setWidth 16 }
  | .cqcW4 => s.updCq i fun c => { c with head := x.setWidth 16 }
  | .pcdGen => { s with pcd := { s.pcd with gen := x } }
  | .lnkNode => { s with lnk := { s.lnk with id := x.setWidth 6, valid := bitOf x 6 } }
  | n => s.setCfg n i x

/-- Whether the stored parity of a register no longer fits (R559) (log 89). -/
def State.setPar (s : State) (src : Nat) (n : RegName) (i : Nat) (odd : Bool) : State :=
  { s with regs := { s.regs with par := Tab.set false s.regs.par (parKey src n i) odd } }

/-! ## What a new value sets off (R553) -/

/-- MAX_MULT below the accepted or the trial multiplier lowers it at once (R158). -/
def State.lowerMult (s : State) (t : Nat) : State :=
  s.updTier t fun x =>
    { x with
      acceptedM := BitVec.ofNat 2 (min x.acceptedM.toNat (s.maxMult t)), trial := BitVec.ofNat 2 (min x.trial.toNat (s.maxMult t)) }

/-- NOTIFY_EN and COAL_CNT act on entries not yet notified (R199, R202). -/
def State.coalChanged (s : State) (q : Nat) (wasOn : Bool) : State :=
  if wasOn ∧ !(s.flag .cqcW3 q 24) then s.updCq q fun c => { c with unNote := 0, oldest := none }
  else s.judgeNotify q false

/-- A write of PWR_TIER_GATE that changes a bit: a node in P2 to P4 wakes for it (R395). -/
def State.gatesWritten (s : State) (old new : Word) : State :=
  let s := if 2 ≤ s.pwr.state.toNat ∧ s.pwr.state.toNat < 5 then s.startExit 10 else s
  s.gateChange old new

/-- The effects at once of a stored value that has changed: `o` is the word before, `x` the word now. -/
def State.took (s : State) (w : RegWrite) (n : RegName) (i : Nat) (o x : Word) : State :=
  let moved (lo wd : Nat) : Bool := fieldOf o lo wd != fieldOf x lo wd
  match n with
  | .timCfg => if moved 0 6 then s.irregular else s
  | .pwrCfg => s.judgeIdle
  | .pwrRing => s.judgePower
  | .pwrLatTol => s.judgePower
  | .pwrCicada => s.judgePower
  | .sqcW4 => s.judgePower
  | .pwrTierGate => s.gatesWritten o x
  | .calCfg => s.judgeCal
  | .thmThrot => if moved 16 7 && s.bud.throttled then (((s.recutClass .host).recutClass .nmo).inputChange 8) else s
  | .budCap => s.retarget
  | .budPwr0 => s.retarget
  | .budPwr1 => s.retarget
  | .budClass =>
    let ceil (x : Word) : Nat := if i = 2 then max (fieldOf x 0 11) (fieldOf x 16 11) else fieldOf x 0 11
    let s := if ceil o = ceil x then s else s.recutClass (classOf i)
    if moved 16 11 then s.inputChange 2 else s
  | .qosTc =>
    let s := if moved 0 16 then s.inputChange 1 else s
    if moved 16 16 then s.clampLimits i else s
  | .pcdSmap => s.fmtRestart i
  | .scbCfg =>
    let s := if moved 0 1 && !bitOf x 0 then s.wakeHalt else s
    if moved 1 1 && !bitOf x 1 then s.fmtHalt else s
  | .scbSeason => s.lowerMult i
  | .fltSrcW0 =>
    if moved 0 1 then
      { s with flt := { s.flt with counts := Tab.set 0 s.flt.counts i 0, window := Tab.set none s.flt.window i none } }
    else s
  | .bstCfg => if moved 0 1 && !bitOf x 0 then s.bistStop else s
  | .lnkPhy0 => if moved 0 1 && !bitOf x 0 then s.portDown i else s
  | .lnkPhy1 => if moved 16 1 && !bitOf x 16 then s.wakeL0 i else s
  | .lnkNode =>
    let s : State := if moved 6 1 && w.src == 1 then { s with lnk := { s.lnk with upPort := BitVec.ofNat 2 w.port } } else s
    if moved 6 1 then s.flushHeld else s
  | .rngEvtCq => s.flushHeld
  | .cqcW3 => s.coalChanged i (bitOf o 24)
  | .tchTcfg => s.startFreq i (x.setWidth 2)
  | _ => s

/-- Commits the stored fields of a register: the word before and after. -/
def State.commitFields (s : State) (w : RegWrite) (n : RegName) (i : Nat) : State × Word × Word :=
  let o := s.present w.src n i
  if (regFields n i).all fun f => !f.typ.stored then (s, o, o)
  else
    let r := s.settleFields w n i (regFields n i) o
    ((r.1.store w.src n i r.2).setPar w.src n i false, o, r.2)

/-- The block takes a committed word: a word that has not changed starts nothing (R553). -/
def State.takeFields (s : State) (w : RegWrite) (n : RegName) (i : Nat) (o x : Word) : State :=
  if x = o then s else s.took w n i o x

/-! ## Actions (R552, R557) -/

/-- An action bit: carried out, or ignored and reported. -/
def State.bitAction (s : State) (w : RegWrite) (lo : Nat) (go : State → Option State) : State :=
  if !bitOf w.data lo then s
  else match go s with
  | some s' => s'
  | none => s.ignoredField w lo 1

/-- RST_CTL (R432): the reset starts when the write ends (log 84). -/
def State.actRstCtl (s : State) (w : RegWrite) : State :=
  if fieldOf w.data 0 8 ≠ 0xC3 then s.ignoredField w 0 8
  else if bitOf w.data 8 then s.ctlHard
  else if bitOf w.data 9 then s.warmReset causeCtlWarm
  else s.ignoredField w 8 2

/-- RST_BLOCK (R429, R432). -/
def State.actRstBlock (s : State) (w : RegWrite) : State :=
  if fieldOf w.data 8 8 ≠ 0x3C then s.ignoredField w 8 8
  else match s.blockReset (w.data.setWidth 8) false with
  | some s' => s'
  | none => s.ignoredField w 0 8

/-- CLAMP_ACK (R552, R558). -/
def State.actClampAck (s : State) (w : RegWrite) : State :=
  if s.regs.clampNew ∧ atOrBefore (s.regs.clampNext - 1) (w.data.setWidth 16) s.regs.clampNext then
    { s with regs := { s.regs with clampNew := false } }
  else s

/-- PWR_CTL (R365, R367). -/
def State.actPwrCtl (s : State) (w : RegWrite) : State :=
  let s := if bitOf w.data 0 then s.startExit 4 else s
  let off := fieldOf w.data 8 8
  if off = 0 then s else if off = 0x5A then s.powerOff else s.ignoredField w 8 8

/-- THM_RETRUST (R375): the sensors named are trusted again. -/
def State.actRetrust (s : State) (w : RegWrite) : State :=
  let m := w.data
  let t := allTiers.filter fun n => bitOf m n
  let clear (l : Tab Nat) : Tab Nat := t.foldl (fun l n => Tab.set 0 l n 0) l
  { s with thm := { s.thm with
    suspect := s.thm.suspect &&& ~~~ m, invalid := s.thm.invalid &&& ~~~ m, badRun := clear s.thm.badRun, lowRun := clear s.thm.lowRun } }

/-- OTP_CMD (R444, R450, R454). -/
def State.actOtpCmd (s : State) (w : RegWrite) : State :=
  if fieldOf w.data 8 8 ≠ 0xA5 then s.ignoredField w 8 8
  else match fieldOf w.data 0 4 with
  | 1 => State.reported (s.otpProgram w.src) w
  | 2 => State.reported (s.otpLock w.src (fieldOf w.data 4 2)) w
  | _ => s.ignoredField w 0 4

/-- SEC_CTL (R491): the actions asked for, in the order of their bits. -/
def State.actSecCtl (s : State) (w : RegWrite) : State :=
  if fieldOf w.data 0 8 ≠ 0x96 then s.ignoredField w 0 8
  else
    let s := if bitOf w.data 8 then State.reported s.keygen w else s
    let s := if bitOf w.data 9 then State.reported s.kxSet w else s
    let s := if bitOf w.data 10 then State.reported s.revoke w else s
    let t := fieldOf w.data 11 2
    if t = 0 then s else State.reported (s.lifeAdv t) w

/-- DBG_REQ (R488, R489, R492): LEVEL 0 is reported in every write, one that ends the session or renews the challenge too (log 83). -/
def State.actDbgReq (s : State) (w : RegWrite) : State :=
  let s := State.reported (s.levelRequest (fieldOf w.data 0 2)) w
  let s := if bitOf w.data 2 then s.endSession else s
  if bitOf w.data 3 then s.newChallenge else s

/-- Bytes of a controller transaction that TW_CCMD asks for (R532). -/
def State.twAsks (s : State) : Nat × Nat := (s.fld .twCcmd 0 8 6, s.fld .twCcmd 0 16 6)

/-- TW_CCMD.GO (R532): a transaction of the register's user starts. -/
def State.twGo (s : State) : Option State :=
  if s.tw.busy ∨ s.twAsks = (0, 0) then none
  else
    let s := { s with tw := { s.tw with busy := true, bootRead := false, vqps := none, result := 0, doneN := 0, asked := s.twAsks, losses := 0 } }
    some (s.emit (.twStart (BitVec.ofNat 8 (s.fld .twCcmd 0 0 7))))

/-- TCH_CHCTL (R104, R109, R121): DISCARD goes before RESUME, and RETRAIN is judged by the channel's state at the commit. -/
def State.actChctl (s : State) (w : RegWrite) (i : Nat) : State :=
  let both := bitOf w.data 0 && bitOf w.data 1
  let may := (s.retrainChan i).isSome
  let s := if both then s.ignoredField w 0 1 else s.bitAction w 0 fun s => s.resumeChan i
  let s := s.bitAction w 1 fun s => s.discardChan i
  s.bitAction w 2 fun s => if may then s.retrainChan i else none

/-- SCB_LOG_DISMISS (R154). -/
def State.actDismiss (s : State) (w : RegWrite) : State :=
  let k := fieldOf w.data 0 6
  match Tab.get none s.scb.log k with
  | some e =>
    if e.cand ∧ e.lbn.toNat % 65536 = fieldOf w.data 16 16 then
      { s with scb := { s.scb with log := Tab.set none s.scb.log k none } }
    else if e.cand then s.ignoredField w 16 16 else s.ignoredField w 0 6
  | none => s.ignoredField w 0 6

/-- TCH_RETIRE (R111). -/
def State.actRetire (s : State) (w : RegWrite) (n : Nat) : State :=
  ((List.range 32).filter fun c => bitOf w.data c).foldl (fun s c => s.retire (32 * n + c)) s

/-- PCD_RDY (R139). -/
def State.actReady (s : State) (w : RegWrite) (r : Nat) : State :=
  ((List.range 32).filter fun t => bitOf w.data t).foldl (fun s t => s.fmtStop r t) s

/-- The W1S and WO fields of a register. -/
def State.act (s : State) (w : RegWrite) (n : RegName) (i : Nat) : State :=
  match n with
  | .rstCtl => s.actRstCtl w
  | .rstBlock => s.actRstBlock w
  | .clampAck => s.actClampAck w
  | .pwrCtl => s.actPwrCtl w
  | .calCtl => s.bitAction w 0 fun s => some s.calNow
  | .thmRetrust => s.actRetrust w
  | .fltAck => match s.fltAck (w.data.setWidth 16) with
    | some s' => s'
    | none => s.ignoredField w 0 16
  | .fltInject => State.reported (s.fltInject w.data) w
  | .otpCmd => s.actOtpCmd w
  | .bstCtl =>
    let s := s.bitAction w 0 fun s => s.bistRun
    let s := s.bitAction w 1 fun s => some s.bistStop
    s.bitAction w 2 fun s => s.stackTest w.fail
  | .secCtl => s.actSecCtl w
  | .dbgReq => s.actDbgReq w
  | .dbgToken => { s with dbg := { s.dbg with token := Tab.set 0 s.dbg.token i w.data } }
  | .twCcmd => s.bitAction w 24 fun s => s.twGo
  | .lnkCtl =>
    let s := s.bitAction w 0 fun s => s.retrainPort i
    s.bitAction w 1 fun s => s.recoverPort i
  | .tchRetire => s.actRetire w i
  | .scbLogDismiss => s.actDismiss w
  | .sqcW7 =>
    let s := s.bitAction w 0 fun s => s.enableSq i
    s.bitAction w 1 fun s => s.disableSq i
  | .cqcW7 =>
    let s := s.bitAction w 0 fun s => s.enableCq i
    let s := s.bitAction w 1 fun s => s.disableCq i
    s.bitAction w 2 fun s => s.resumeCq i
  | .tchChctl => s.actChctl w i
  | .pcdRdy => s.actReady w i
  | _ => s

/-- Stored fields before actions where an action reads them. -/
def fieldsFirst (n : RegName) : Bool := n == .twCcmd

/-! ## One write (R35, R380, R512, R543, R554) -/

/-- A register that the safe state still lets through. -/
def safeWrites (n : RegName) : Bool := n == .rstCtl || n == .fltAck

/-- The clock domain of a tier is gated: from P2 on, until the tier's restart, and while the tier is not powered (R37). -/
def State.tierGated (s : State) (t : Nat) : Bool :=
  (decide (2 ≤ s.pwr.state.toNat) && !s.pwr.exiting) || s.pwr.restart.contains t || !(s.tier t).powered

/-- A block whose domain is gated, that a segment of logic BIST tests, or whose block reset is in progress (R39, R429, R460). -/
def State.blockStalled (s : State) (b : Byte) : Bool :=
  let gated := if 0x20 ≤ b.toNat then s.tierGated (b.toNat - 0x20)
    else if b.toNat = 6 then s.pwr.gateB else (4 ≤ b.toNat && b.toNat < 9) && s.pwr.gateA
  gated || s.die.blockBusy.contains b || (blockPart b).any s.testing

/-- The block that owns a register does not take a write now. RESUME, DISCARD, RETRAIN and FREQ are held by the channel and
the tier themselves (R109, R116, R121), and PWR_LAT_TOL's like, SQC.TOL, belongs to the power controller. -/
def State.ownerStalled (s : State) (n : RegName) (i : Nat) : Bool :=
  match n with
  | .rngEvtCq => s.blockStalled 4
  | .sqcW7 => s.blockStalled 4
  | .cqcW3 => s.blockStalled 4
  | .cqcW7 => s.blockStalled 4
  | .secCtl => s.blockStalled 6
  | .scbSeason => s.blockStalled 7
  | .scbLogDismiss => s.blockStalled 7
  | .calCfg => s.blockStalled 8
  | .calCtl => s.blockStalled 8
  | .thmRetrust => s.blockStalled 9
  | .twCcmd => s.blockStalled 11
  | .lnkPhy0 => s.blockStalled (BitVec.ofNat 8 i)
  | .lnkPhy1 => s.blockStalled (BitVec.ofNat 8 i)
  | .lnkCtl => s.blockStalled (BitVec.ofNat 8 i)
  | .tchRetire => s.blockStalled (BitVec.ofNat 8 (0x20 + i))
  | .scbCfg => s.testing 5
  | .pcdSmap => s.pwr.gateA || s.testing 5
  | .pcdRdy => s.pwr.gateA || s.testing 5
  | .budCap => s.pwr.gateA
  | .budPwr0 => s.pwr.gateA
  | .budPwr1 => s.pwr.gateA
  | .budClass => s.pwr.gateA
  | .thmThrot => s.pwr.gateA
  | .qosTc => s.pwr.gateA
  | _ => false

/-- The register that a late write names. -/
def LateWrite.place (e : LateWrite) : Option (RegName × Nat) := if e.ind then locateIndirect e.addr else locateDirect e.addr

/-- Late writes whose blocks run again act, in the order the writes were made (R39, R429, R460, R554). -/
def State.actLate (s : State) : State :=
  if s.regs.late.isEmpty ∨ s.die.mode = .safe ∨ s.die.mode = .clickHold then s
  else
  let stalled (s : State) (e : LateWrite) : Bool := e.place.any fun r => s.ownerStalled r.1 r.2
  let ready := s.regs.late.filter fun e => !(stalled s e)
  let s := { s with regs := { s.regs with late := s.regs.late.filter fun e => stalled s e } }
  ready.foldl (fun (s : State) e =>
    match e.place with
    | some r =>
      let w : RegWrite := ⟨e.src, e.ind, e.addr, e.data, e.port, e.fail⟩
      (s.act w r.1 r.2).takeFields w r.1 r.2 e.old e.new
    | none => s) s

/-- Writes one register: the stored word is committed at once, and its effects wait where the owner is stalled (R554). In the safe state
and the Click hold a write ignored is reported whatever the register's type (R512, R554; DESIGN CHOICE against R12, log 134). -/
def State.writeReg (s : State) (w : RegWrite) (n : RegName) (i : Nat) : State :=
  if s.die.mode = .clickHold ∨ (s.die.mode = .safe ∧ !safeWrites n) then s.ignoredWhole w (s.present w.src n i)
  else
    let s := s.actLate
    if s.ownerStalled n i then
      let r := s.commitFields w n i
      let e : LateWrite := ⟨w.src, w.ind, w.addr, w.data, w.port, w.fail, r.2.1, r.2.2⟩
      { r.1 with regs := { r.1.regs with late := r.1.regs.late ++ [e] } }
    else
      let s := if fieldsFirst n then s else s.act w n i
      let r := s.commitFields w n i
      let s := r.1.takeFields w n i r.2.1 r.2.2
      if fieldsFirst n then (s.act w n i).actLate else s.actLate

/-- A write to an indirect word (R544, R547). -/
def State.writeInd (s : State) (w : RegWrite) (a : Nat) : State :=
  let w := { w with ind := true, addr := a }
  match locateIndirect a with
  | some (n, i) => s.writeReg w n i
  | none => s.clampNote w 4 0 31 w.data.toNat 0

/-- The pointer after an access to IND_WINk (R548). -/
def IndPtr.after (p : IndPtr) (k : Nat) : IndPtr :=
  if p.inc = 1 ∧ k = 0 then { p with addr := p.addr + 1 }
  else if p.inc = 2 ∧ k = 31 then { p with addr := p.addr + 32 }
  else p

/-- Advances the pointer of a path after an access to IND_WINk. -/
def State.advance (s : State) (src k : Nat) : State := { s with regs := s.regs.setPtr src ((s.regs.ptr src).after k) }

/-- The indirect word that IND_WINk of a path reaches. -/
def State.windowWord (s : State) (src k : Nat) : Nat := ((s.regs.ptr src).addr.toNat + k) % 2 ^ 24

/-- A write to IND_WINk: the word it reaches is fixed before the pointer advances. -/
def State.writeWin (s : State) (w : RegWrite) (k : Nat) : State := (s.writeInd w (s.windowWord w.src k)).advance w.src k

/-- A write to a direct address. -/
def State.writeDirect (s : State) (w : RegWrite) (a : Nat) : State :=
  let w := { w with ind := false, addr := a }
  match locateDirect a with
  | some (.indWin, k) => s.writeWin w k
  | some (n, i) => s.writeReg w n i
  | none => s.clampNote w 4 0 31 w.data.toNat 0

/-- A read of an indirect word. -/
def State.readInd (s : State) (src a : Nat) : Word :=
  match locateIndirect a with
  | some (n, i) => s.readReg src n i
  | none => 0

/-- A read of a direct address; FLT_STAT0 takes its snapshot, and the window moves its pointer (R502, R547, R550). -/
def State.readDirect (s : State) (src a : Nat) : State × Word :=
  match locateDirect a with
  | some (.indWin, k) => (s.advance src k, s.readInd src (s.windowWord src k))
  | some (.fltStat, 0) =>
    let s := s.fltSnapshot
    (s, s.readReg src .fltStat 0)
  | some (n, i) => (s, s.readReg src n i)
  | none => (s, 0)

/-! ## Who is served (R419, R486, R512, R524, R543) -/

/-- A path reads registers now: a CFG request reaches the register file of a node in P4 only after the wake (R38). -/
def State.pathReads (s : State) (p : Path) : Bool :=
  s.regsServed && match p with
  | .hive => s.hiveOk
  | .cfg => decide (s.pwr.state.toNat < 4) && s.anyLane
  | .tw => s.twAnswers
  | .jtag => decide (1 ≤ s.dbg.level.toNat) && decide (s.pwr.state.toNat < 4)

/-- A path writes registers now: JTAG only at FULL. -/
def State.pathWrites (s : State) (p : Path) : Bool := s.pathReads p && (p != .jtag || s.dbg.level == 2)

/-- A request on the CFG path wakes a node in P2 to P4 (R310, R365). -/
def State.cfgWake (s : State) : State := if 2 ≤ s.pwr.state.toNat ∧ s.pwr.state.toNat ≤ 4 then s.startExit 2 else s

/-- A CFG access finds the node in P4, and waits for the wake (R38). -/
def State.cfgSleeps (s : State) (p : Path) : Bool := p == .cfg && s.regsServed && s.pwr.state == 4 && s.anyLane

/-- The access of a path, where the path is served; a CFG access wakes the node, and in P4 it waits for P0; none other has an
effect (R38, R554). -/
def State.onPath (s : State) (p : Path) (served : Bool) (x : Parked) (go : State → State) : State :=
  if served then go (if p = .cfg then s.cfgWake else s)
  else if s.cfgSleeps p then s.park x
  else s

/-- A read of a direct address, whose data the path returns. -/
def State.pathRead (s : State) (p : Path) (a : Nat) : State :=
  s.onPath p (s.pathReads p) (.access false a none 0 none) fun s =>
    let r := s.readDirect (pathSource p) a
    r.1.emit (.regData p r.2)

/-- A write of a path to a direct address. -/
def State.pathWrite (s : State) (p : Path) (a : Nat) (data : Word) (port : Nat) (fail : Option (BitVec 4)) : State :=
  s.onPath p (s.pathWrites p) (.access false a (some data) port fail) fun s =>
    (s.writeDirect ⟨pathSource p, false, a, data, port, fail⟩ a).noteLevel

/-- A write of a path to a register named in full, directly or through the window. -/
def State.namedWrite (s : State) (p : Path) (n : RegName) (i : Nat) (data : Word) (port : Nat) (fail : Option (BitVec 4)) : State :=
  s.onPath p (s.pathWrites p) (.access (regPlace n).ind (regAddr n i) (some data) port fail) fun s =>
    (s.writeReg ⟨pathSource p, (regPlace n).ind, regAddr n i, data, port, fail⟩ n i).noteLevel

end Sys2Proof.Machine
end

