-- ==== Sys2Proof/Machine/Writes.lean ====
section
/-! DEFINITION. The commands that write or read registers from outside a row of the protocol: one meaning for each, over the one
register write of RegFile, and the parity scan of the register file. -/

namespace Sys2Proof.Machine

/-! ## The register file -/

/-- REGISTER_WRITE (R553): a write to a direct address; on the CFG path it has come on the upstream port (R335, log 3). -/
def execRegisterWrite (p : Path) (addr : BitVec 16) (data : Word) (s : State) : Host.Outcome State Fault Refusal :=
  .next (s.pathWrite p addr.toNat data s.lnk.upPort.toNat none)

/-- IND_WIN_ACCESS (R547): a read or a write of IND_WINk. -/
def execIndWinAccess (p : Path) (k : BitVec 5) (wr : Option Word) (s : State) : Host.Outcome State Fault Refusal :=
  match wr with
  | some x => .next (s.pathWrite p (0x180 + 4 * k.toNat) x 0 none)
  | none => .next (s.pathRead p (0x180 + 4 * k.toNat))

/-- FLT_STAT0_READ (R502): the read takes the snapshot. -/
def execFltStat0Read (p : Path) (s : State) : Host.Outcome State Fault Refusal :=
  .next (s.pathRead p 0x1200)

/-- FLT_ACK (R503). -/
def execFltAck (p : Path) (data : Word) (s : State) : Host.Outcome State Fault Refusal := .next (s.namedWrite p .fltAck 0 data 0 none)

/-- CLAMP_ACK (R552, R558). -/
def execClampAck (p : Path) (data : Word) (s : State) : Host.Outcome State Fault Refusal :=
  .next (s.namedWrite p .clampAck 0 data 0 none)

/-- FLT_INJECT (R517). -/
def execFltInject (p : Path) (data : Word) (s : State) : Host.Outcome State Fault Refusal :=
  .next (s.namedWrite p .fltInject 0 data 0 none)

/-- Changes bits of a stored register behind its back; its parity fits no more where their number is odd. -/
def State.upset (s : State) (u : Upset) : State :=
  let src := u.key / 2 ^ 25 % 4
  let a := u.key % 2 ^ 25
  match if a < 0x10000 then locateDirect a else locateIndirect (a - 0x10000) with
  | none => s
  | some (n, i) =>
    let hit := (regFields n i).filter fun f => f.typ.stored
    let mask : Word := hit.foldl (fun m f => withField m f.lo f.wd (fieldOf u.mask f.lo f.wd)) 0
    let odd := ((List.range 32).filter fun k => bitOf mask k).length % 2 == 1
    let was := Tab.get false s.regs.par (parKey src n i)
    (s.store src n i (s.present src n i ^^^ mask)).setPar src n i (was != odd)

/-- The detail word of a parity mismatch (R494). -/
def parityDetail (key : Nat) : Nat :=
  let a := key % 2 ^ 25
  if a < 0x10000 then 1 + 2 ^ 8 * a else 1 + 2 ^ 8 * (a - 0x10000) + 2 ^ 32

/-- FLT_CFG and FLT_SRCk are registers of the collector, which checks their parity itself (R514). -/
def collectorKey (key : Nat) : Bool :=
  let a := key % 2 ^ 25
  match if a < 0x10000 then locateDirect a else locateIndirect (a - 0x10000) with
  | some (n, _) => n == .fltCfg || n == .fltSrcW0 || n == .fltSrcW1
  | none => false

/-- An upset is found at once where the register is the collector's (R515). -/
def State.upsetFound (s : State) (u : Upset) : State :=
  let t := s.upset u
  if s.collects ∧ t.regs.par.any (fun e => e.2 && collectorKey e.1 && !(Tab.get false s.regs.par e.1)) then
    (t.collectorOdd false).parityTrip !t.flt.histOdd
  else t

/-- CK_RC runs and the register file is out of its power-on reset: the scan runs in every power state (R516). -/
def State.scans (s : State) : Bool := s.die.rcReady && s.die.mode != .porstLow && s.die.mode != .startWatch && s.die.mode != .rcHold

/-- CONFIG_PARITY_SCAN (R516, R559): every register whose parity does not fit raises source 81. -/
def execConfigParityScan (upset : Option Upset) (s : State) : Host.Outcome State Fault Refusal :=
  if s.scans then
    let s : State := match upset with | some u => s.upsetFound u | none => s
    .next (s.regs.par.foldl (fun (s : State) e => if e.2 then s.raise 81 (parityDetail e.1) else s) s)
  else .next s

/-! ## Node, time and budget -/

/-- TIM_CFG_WRITE (R58). -/
def execTimCfgWrite (p : Path) (data : Word) (s : State) : Host.Outcome State Fault Refusal :=
  .next (s.namedWrite p .timCfg 0 data 0 none)

/-- BUD_CAP_WRITE (R72). -/
def execBudCapWrite (p : Path) (data : Word) (s : State) : Host.Outcome State Fault Refusal :=
  .next (s.namedWrite p .budCap 0 data 0 none)

/-- QOS_TC_WRITE (R286). -/
def execQosTcWrite (p : Path) (n : BitVec 3) (data : Word) (s : State) : Host.Outcome State Fault Refusal :=
  .next (s.namedWrite p .qosTc n.toNat data 0 none)

/-! ## Tiers and channels -/

/-- PCD_SMAP_WRITE (R133). -/
def execPcdSmapWrite (p : Path) (r : Byte) (data : Word) (s : State) : Host.Outcome State Fault Refusal :=
  .next (s.namedWrite p .pcdSmap r.toNat data 0 none)

/-- PCD_RDY_SET (R139). -/
def execPcdRdySet (p : Path) (r : Byte) (data : Word) (s : State) : Host.Outcome State Fault Refusal :=
  .next (s.namedWrite p .pcdRdy r.toNat data 0 none)

/-- SCB_LOG_DISMISS (R154). -/
def execScbLogDismiss (p : Path) (data : Word) (s : State) : Host.Outcome State Fault Refusal :=
  .next (s.namedWrite p .scbLogDismiss 0 data 0 none)

/-- MAX_MULT_WRITE (R158). -/
def execMaxMultWrite (p : Path) (n : BitVec 5) (data : Word) (s : State) : Host.Outcome State Fault Refusal :=
  .next (s.namedWrite p .scbSeason n.toNat data 0 none)

/-- TIER_FREQ_WRITE (R116). -/
def execTierFreqWrite (p : Path) (n : BitVec 5) (data : Word) (s : State) : Host.Outcome State Fault Refusal :=
  .next (s.namedWrite p .tchTcfg n.toNat data 0 none)

/-- CHANNEL_RETIRE (R111). -/
def execChannelRetire (p : Path) (n : BitVec 5) (data : Word) (s : State) : Host.Outcome State Fault Refusal :=
  .next (s.namedWrite p .tchRetire n.toNat data 0 none)

/-- CHANNEL_RESUME (R109). -/
def execChannelResume (p : Path) (i : BitVec 10) (s : State) : Host.Outcome State Fault Refusal :=
  .next (s.namedWrite p .tchChctl i.toNat 1 0 none)

/-- CHANNEL_DISCARD (R109). -/
def execChannelDiscard (p : Path) (i : BitVec 10) (s : State) : Host.Outcome State Fault Refusal :=
  .next (s.namedWrite p .tchChctl i.toNat 2 0 none)

/-- CHANNEL_RETRAIN (R104). -/
def execChannelRetrain (p : Path) (i : BitVec 10) (s : State) : Host.Outcome State Fault Refusal :=
  .next (s.namedWrite p .tchChctl i.toNat 4 0 none)

/-! ## Rings -/

/-- SQ_ENABLE (R170). -/
def execSqEnable (p : Path) (q : BitVec 12) (data : Word) (s : State) : Host.Outcome State Fault Refusal :=
  .next (s.namedWrite p .sqcW7 q.toNat (data ||| 1) 0 none)

/-- SQ_DISABLE (R171). -/
def execSqDisable (p : Path) (q : BitVec 12) (data : Word) (s : State) : Host.Outcome State Fault Refusal :=
  .next (s.namedWrite p .sqcW7 q.toNat (data ||| 2) 0 none)

/-- CQ_ENABLE (R172). -/
def execCqEnable (p : Path) (q : BitVec 12) (s : State) : Host.Outcome State Fault Refusal :=
  .next (s.namedWrite p .cqcW7 q.toNat 1 0 none)

/-- CQ_DISABLE (R172). -/
def execCqDisable (p : Path) (q : BitVec 12) (s : State) : Host.Outcome State Fault Refusal :=
  .next (s.namedWrite p .cqcW7 q.toNat 2 0 none)

/-- CQ_RESUME (R201). -/
def execCqResume (p : Path) (q : BitVec 12) (s : State) : Host.Outcome State Fault Refusal :=
  .next (s.namedWrite p .cqcW7 q.toNat 4 0 none)

/-- RNG_EVT_CQ_WRITE (R203). -/
def execRngEvtCqWrite (p : Path) (data : Word) (s : State) : Host.Outcome State Fault Refusal :=
  .next (s.namedWrite p .rngEvtCq 0 data 0 none)

/-! ## Links -/

/-- PORT_EN_WRITE (R313). -/
def execPortEnWrite (p : Path) (n : BitVec 2) (data : Word) (s : State) : Host.Outcome State Fault Refusal :=
  .next (s.namedWrite p .lnkPhy0 n.toNat data 0 none)

/-- LNK_RETRAIN (R306). -/
def execLnkRetrain (p : Path) (n : BitVec 2) (s : State) : Host.Outcome State Fault Refusal :=
  .next (s.namedWrite p .lnkCtl n.toNat 1 0 none)

/-- LNK_RECOVER (R304). -/
def execLnkRecover (p : Path) (n : BitVec 2) (s : State) : Host.Outcome State Fault Refusal :=
  .next (s.namedWrite p .lnkCtl n.toNat 2 0 none)

/-- NODE_ID_ASSIGN (R335): on the CFG path the port the packet came in by becomes the upstream port. -/
def execNodeIdAssign (p : Path) (port : BitVec 2) (data : Word) (s : State) : Host.Outcome State Fault Refusal :=
  .next (s.namedWrite p .lnkNode 0 data port.toNat none)

/-! ## Power, heat, clocks and resets -/

/-- PWR_WAKE (R365). -/
def execPwrWake (p : Path) (s : State) : Host.Outcome State Fault Refusal := .next (s.namedWrite p .pwrCtl 0 1 0 none)

/-- PWR_OFF (R367). -/
def execPwrOff (p : Path) (code : Byte) (s : State) : Host.Outcome State Fault Refusal :=
  .next (s.namedWrite p .pwrCtl 0 (code.setWidth 32 <<< 8) 0 none)

/-- PWR_TIER_GATE_WRITE (R396). -/
def execPwrTierGateWrite (p : Path) (data : Word) (s : State) : Host.Outcome State Fault Refusal :=
  .next (s.namedWrite p .pwrTierGate 0 data 0 none)

/-- THM_RETRUST (R375). -/
def execThmRetrust (p : Path) (data : Word) (s : State) : Host.Outcome State Fault Refusal :=
  .next (s.namedWrite p .thmRetrust 0 data 0 none)

/-- CAL_NOW (R382). -/
def execCalNow (p : Path) (s : State) : Host.Outcome State Fault Refusal := .next (s.namedWrite p .calCtl 0 1 0 none)

/-- RST_CTL_HARD (R432). -/
def execRstCtlHard (p : Path) (key : Byte) (s : State) : Host.Outcome State Fault Refusal :=
  .next (s.namedWrite p .rstCtl 0 (key.setWidth 32 ||| 0x100) 0 none)

/-- RST_CTL_WARM (R426). -/
def execRstCtlWarm (p : Path) (key : Byte) (s : State) : Host.Outcome State Fault Refusal :=
  .next (s.namedWrite p .rstCtl 0 (key.setWidth 32 ||| 0x200) 0 none)

/-- RST_BLOCK (R429). -/
def execRstBlock (p : Path) (data : Word) (s : State) : Host.Outcome State Fault Refusal :=
  .next (s.namedWrite p .rstBlock 0 data 0 none)

/-! ## Fuses, self-test, security and debug -/

/-- OTP_PROGRAM (R450). -/
def execOtpProgram (p : Path) (key : Byte) (s : State) : Host.Outcome State Fault Refusal :=
  .next (s.namedWrite p .otpCmd 0 ((key.setWidth 32 <<< 8) ||| 1) 0 none)

/-- OTP_LOCK (R444). -/
def execOtpLock (p : Path) (key : Byte) (r : BitVec 2) (s : State) : Host.Outcome State Fault Refusal :=
  .next (s.namedWrite p .otpCmd 0 ((key.setWidth 32 <<< 8) ||| (r.setWidth 32 <<< 4) ||| 2) 0 none)

/-- BIST_RUN (R462). -/
def execBistRun (p : Path) (s : State) : Host.Outcome State Fault Refusal := .next (s.namedWrite p .bstCtl 0 1 0 none)

/-- BIST_STOP (R468). -/
def execBistStop (p : Path) (s : State) : Host.Outcome State Fault Refusal := .next (s.namedWrite p .bstCtl 0 2 0 none)

/-- STACK_TEST (R465): `failStep` is the step at which the stack on the tester's side fails, none where all pass. -/
def execStackTest (p : Path) (failStep : Option (BitVec 4)) (s : State) : Host.Outcome State Fault Refusal :=
  .next (s.namedWrite p .bstCtl 0 4 0 failStep)

/-- KEYGEN (R469). -/
def execKeygen (p : Path) (key : Byte) (s : State) : Host.Outcome State Fault Refusal :=
  .next (s.namedWrite p .secCtl 0 (key.setWidth 32 ||| 0x100) 0 none)

/-- KX_SET (R476). -/
def execKxSet (p : Path) (key : Byte) (s : State) : Host.Outcome State Fault Refusal :=
  .next (s.namedWrite p .secCtl 0 (key.setWidth 32 ||| 0x200) 0 none)

/-- REVOKE (R482). -/
def execRevoke (p : Path) (key : Byte) (s : State) : Host.Outcome State Fault Refusal :=
  .next (s.namedWrite p .secCtl 0 (key.setWidth 32 ||| 0x400) 0 none)

/-- LIFE_ADV (R483). -/
def execLifeAdv (p : Path) (key : Byte) (target : BitVec 2) (s : State) : Host.Outcome State Fault Refusal :=
  .next (s.namedWrite p .secCtl 0 (key.setWidth 32 ||| (target.setWidth 32 <<< 11)) 0 none)

/-- DBG_LEVEL_REQUEST (R488). -/
def execDbgLevelRequest (p : Path) (level : BitVec 2) (s : State) : Host.Outcome State Fault Refusal :=
  .next (s.namedWrite p .dbgReq 0 (level.setWidth 32) 0 none)

/-- DBG_END (R489). -/
def execDbgEnd (p : Path) (s : State) : Host.Outcome State Fault Refusal := .next (s.namedWrite p .dbgReq 0 4 0 none)

/-- NEWCHAL (R488). -/
def execNewchal (p : Path) (s : State) : Host.Outcome State Fault Refusal := .next (s.namedWrite p .dbgReq 0 8 0 none)

/-- TW_GO (R532): a write to TW_CCMD with GO set. -/
def execTwGo (p : Path) (data : Word) (s : State) : Host.Outcome State Fault Refusal :=
  .next (s.namedWrite p .twCcmd 0 (data ||| 0x1000000) 0 none)

end Sys2Proof.Machine
end

