-- ==== Sys2Proof/Machine/TwoWire.lean ====
section
/-! DEFINITION. The two-wire interface (R521 to R542): the target with its pointer and its pending page write, and the ends of the
controller's transactions (log 86). -/

namespace Sys2Proof.Machine

/-! ## The target (R522 to R530) -/

/-- Decodes an address byte: the target's own address starts a transfer, any other leaves it idle (R523). -/
def State.twDecode (s : State) (byte : Byte) : State :=
  let own := s.twAnswers && byte.toNat / 2 == 0x38 + s.tw.strap.toNat
  let start : TwPhase := if byte.toNat % 2 = 1 then .readFirst else .ptrHi
  let s : State := { s with tw := { s.tw with
    busBusy := true, pending := [], refused := 0, phase := if own then start else .idle } }
  if own then s.emit (.twAck true) else s

/-- TW_ADDRESS (R523): an address byte after START. -/
def execTwAddress (byte : Byte) (s : State) : Host.Outcome State Fault Refusal :=
  if s.tw.phase = .idle then .next (s.onPin fun s => s.twDecode byte) else .next s

/-- A data byte of a write is taken: the loaded pointer is aligned, no byte has been refused, and the page goes on (R526). -/
def Tw.takes (t : Tw) : Bool :=
  t.loaded.toNat % 4 == 0 && t.refused == 0 && t.pointer.toNat / 32 == t.loaded.toNat / 32

/-- A byte of a write: every data byte received moves the pointer on (log 85). -/
def State.twTake (s : State) (byte : Byte) : State :=
  let t := s.tw
  match t.phase with
  | .ptrHi => { s with tw := { t with phase := .ptrLo, loaded := byte ++ t.loaded.setWidth 8 } }.emit (.twAck true)
  | .ptrLo =>
    let p : BitVec 16 := (t.loaded.extractLsb' 8 8) ++ byte
    { s with tw := { t with phase := .data, loaded := p, pointer := p } }.emit (.twAck true)
  | .data =>
    if t.takes then { s with tw := { t with pending := t.pending ++ [byte], pointer := t.pointer + 1 } }.emit (.twAck true)
    else
      { s with tw := { t with
        refused := t.refused + 1, pointer := t.pointer + 1
        firstBad := if t.refused = 0 then t.pointer else t.firstBad } }.emit (.twAck false)
  | .idle => s
  | .readFirst => s
  | .reading => s
  | .ignore => s

/-- TW_WRITE_BYTE (R525, R526). -/
def execTwWriteByte (byte : Byte) (s : State) : Host.Outcome State Fault Refusal := .next (s.onPin fun s => s.twTake byte)

/-- Sends the byte at the pointer: a register is read whole at its first byte, or at the first byte of the transfer (R525). -/
def State.twSend (s : State) (first acked : Bool) : State :=
  let a := s.tw.pointer.toNat
  let s : State := if first ∨ a % 4 = 0 then
      let r := s.readDirect 2 a
      { r.1 with tw := { r.1.tw with latched := r.2 } }
    else s
  let b : Byte := BitVec.ofNat 8 (fieldOf s.tw.latched (8 * (a % 4)) 8)
  let s := { s with tw := { s.tw with pointer := s.tw.pointer + 1, phase := if acked then .reading else .ignore } }
  s.emit (.twByte b)

/-- TW_READ_BYTE (R525): `acked` is the controller's answer to the byte. -/
def execTwReadByte (acked : Bool) (s : State) : Host.Outcome State Fault Refusal :=
  match s.tw.phase with
  | .readFirst => .next (s.onPin fun s => s.twSend true acked)
  | .reading => .next (s.onPin fun s => s.twSend false acked)
  | .idle => .next s
  | .ptrHi => .next s
  | .ptrLo => .next s
  | .data => .next s
  | .ignore => .next s

/-- Reports bytes of a write that were not written: `a` is the address of the first (R526, R527, R557). -/
def State.twPartial (s : State) (a count : Nat) : State :=
  if count = 0 then s else s.clampNote ⟨2, false, a / 4 * 4, 0, 0, none⟩ 5 0 (a % 4) count 0

/-- Writes the registers of a pending page write in rising order; a reset that one of them starts ends the service, and what
follows is dropped (R416, R419). -/
def State.twCommit (s : State) : Nat → List Word → State
  | _, [] => s
  | a, w :: t =>
    let s' := s.pathWrite .tw a w 0 none
    if s'.die.resets ≠ s.die.resets then s' else s'.twCommit (a + 4) t

/-- TW_STOP (R527): a STOP or a repeated START ends the transfer and commits its pending page write. -/
def execTwStop (repeated : Bool) (s : State) : Host.Outcome State Fault Refusal :=
  let t := s.tw
  let s : State := { s with tw := { t with phase := .idle, pending := [], refused := 0, busBusy := repeated } }
  let n := t.pending.length / 4
  let a := t.loaded.toNat
  let s := s.twCommit a (bytesWords (t.pending.take (4 * n)))
  let s := s.twPartial (a + 4 * n) (t.pending.length - 4 * n)
  .next (s.twPartial t.firstBad.toNat t.refused)

/-- TW_MISPLACED_CONDITION (R528, R529): the byte, the pending page write and the transfer are dropped, whether the condition fell
into the acknowledge slot or within the byte; after a START the target decodes a new address. -/
def execTwMisplacedCondition (isStop inAckSlot : Bool) (s : State) : Host.Outcome State Fault Refusal :=
  let t := s.tw
  let drop := inAckSlot || t.phase != .idle
  let s := if drop then s.twDrop.twPartial t.firstBad.toNat t.refused else s
  .next { s with tw := { s.tw with busBusy := !isStop } }

/-- TW_SDA_TIMEOUT (R538). -/
def execTwSdaTimeout (s : State) : Host.Outcome State Fault Refusal :=
  let t := s.tw
  if t.phase = .idle ∨ t.phase = .ignore then .next s
  else
    let s := s.twDrop.twPartial t.firstBad.toNat t.refused
    .next ({ s with tw := { s.tw with sdaTo := satInc s.tw.sdaTo 1 } }.raise 85 2)

/-! ## The controller (R531 to R537) -/

/-- Code of a result in TW_CRES (R541). -/
def twCode : TwResult → Nat
  | .ok => 0 | .addrNack => 1 | .dataNack => 2 | .arbLost => 3 | .busError => 4 | .timeout => 5 | .aborted => 6

/-- A transaction ends with a result other than OK: what it counts, source 85, and a boot read that leaves the image unread
(R532, R534, R542). -/
def State.twFail (s : State) (r : TwResult) (done : Nat) : State :=
  let t := s.tw
  let boot := t.bootRead
  let s : State := { s with tw := { t with
    busy := false, bootRead := false, result := BitVec.ofNat 3 (twCode r), doneN := min 64 done
    busErrs := if r = .busError then satInc t.busErrs 1 else t.busErrs
    timeouts := if r = .timeout then satInc t.timeouts 1 else t.timeouts
    recover := t.recover || r == .timeout } }
  let s := if r = .aborted then s else s.raise 85 (1 + 2 ^ 8 * twCode r)
  let s := s.vqpsEnded false
  if boot then s.refuseImage 2 else s

/-- Bytes read replace the buffer from byte 0 (R541). -/
def State.twFill (s : State) : Nat → List Byte → State
  | _, [] => s
  | k, b :: t =>
    (s.setCfg .twCbuf (k / 4) (withField (s.cfgWord .twCbuf (k / 4)) (8 * (k % 4)) 8 b.toNat)).twFill (k + 1) t

/-- Bytes that a transaction which did not end well had read: they are in the buffer, but for the boot code's. -/
def State.twArrive (s : State) (bytes : List Byte) : State := if s.tw.bootRead then s else s.twFill 0 (bytes.take s.tw.asked.2)

/-- TW_TRANSACTION_END (R532): `done` counts the bytes written and read, `bytes` are those read. Arbitration lost for good ends the
transaction in its own event. -/
def execTwTransactionEnd (res : TwResult) (done : Nat) (bytes : List Byte) (s : State) : Host.Outcome State Fault Refusal :=
  let asked := s.tw.asked
  if !s.tw.busy ∨ res = .arbLost then .next s
  else if s.tw.bootRead then
    match res with
    | .ok => .next (s.imageArrive bytes done)
    | r => .next (s.twFail r done)
  else if asked.2 < bytes.length ∨ asked.1 + asked.2 < done then .next s
  else
    let s := s.twFill 0 bytes
    match res with
    | .ok => .next ({ s with tw := { s.tw with busy := false, result := 0, doneN := min 64 done } }.vqpsEnded true)
    | r => .next (s.twFail r done)

/-- TW_ARB_LOST (R536): the controller lets go and retries later; the loss after RETRY retries ends the transaction. Within an
address byte the target goes on decoding: `byte` is that byte as the bus carries it; `done` and `bytes` are as in
TW_TRANSACTION_END. -/
def execTwArbLost (byte : Option Byte) (done : Nat) (bytes : List Byte) (s : State) : Host.Outcome State Fault Refusal :=
  if !s.tw.busy ∨ s.tw.phase ≠ .idle then .next s
  else
    let n := s.tw.losses + 1
    let s := s.twArrive bytes
    let s : State := { s with tw := { s.tw with losses := n, busBusy := true, arbLost := satInc s.tw.arbLost 1 } }
    let s := if s.fld .twCfg 0 2 3 < n then s.twFail .arbLost done else s
    match byte with
    | some b => .next (s.twDecode b)
    | none => .next s

/-- TW_STRETCH_TIMEOUT (R531): the transaction ends TIMEOUT, and a recovery comes before the next one. -/
def execTwStretchTimeout (done : Nat) (bytes : List Byte) (s : State) : Host.Outcome State Fault Refusal :=
  if s.tw.busy then .next ((s.twArrive bytes).twFail .timeout done) else .next s

/-- TW_BUS_RECOVERY (R537): `freed` says whether SDA read high within nine pulses. -/
def execTwBusRecovery (freed : Bool) (s : State) : Host.Outcome State Fault Refusal :=
  if !s.tw.busy ∧ !s.tw.recover then .next s
  else
    let s : State := { s with tw := { s.tw with
      recover := false, recovers := satInc s.tw.recovers 1, busBusy := s.tw.busBusy && !freed } }
    if s.tw.busy ∧ !freed then .next (s.twFail .busError 0) else .next s

end Sys2Proof.Machine
end

