-- ==== Sys2Proof/Machine/Fabric.lean ====
section
/-! DEFINITION. What arrives on a port and reaches the register space or another port (R295, R322 to R325, R333 to R339, R351,
R352), and the logs that GET_LOG returns (R231, R232). -/

namespace Sys2Proof.Machine

/-! ## Training sets of type 1 (R295, R304, R306, R352) -/

/-- HOT_RESET: on the upstream port of a node that follows it starts a hard reset; elsewhere the port goes DOWN (R352) (log 88). -/
def State.hotReset (s : State) (n : Nat) : State :=
  if s.lnk.valid ∧ n = s.lnk.upPort.toNat ∧ s.flag .lnkCfg 0 0 then s.hardReset causeHotReset else s.portDown n

/-- A TS1 on L0 whose check matches. -/
def State.takeTs1 (s : State) (n : Nat) (ts : TrainSet) : State :=
  let s := s.updPort n fun p => { p with lastTag := ts.tag }
  let st := (s.port n).st
  let s := if st = .config ∨ (s.port n).phase = .confirm then s.judgeRun n else s
  if ts.ctrl.getLsbD 2 then s.hotReset n
  else if ts.ctrl.getLsbD 1 ∧ (st = .up ∨ st = .recovery) then s.portDown n
  else if ts.ctrl.getLsbD 0 ∧ st = .up then s.recover n
  else s.countTrain n ts false

/-- TS1_RECEIVED (R295). -/
def execTs1Received (n : BitVec 2) (lane : BitVec 3) (rx : TrainRx) (s : State) : Host.Outcome State Fault Refusal :=
  if lane ≠ 0 ∨ rx.set.chk ≠ rx.set.sum ∨ (s.port n.toNat).st = .down then .next s
  else .next ((s.updPort n.toNat fun p => p.sentSets rx.sent).takeTs1 n.toNat rx.set)

/-! ## Packets that no command row of their own names -/

/-- PACKET_FORWARD (R336, R337): a packet that is not consumed. -/
def execPacketForward (n : BitVec 2) (pkt : Packet) (s : State) : Host.Outcome State Fault Refusal :=
  let a := s.arrive n.toNat pkt
  .next (if a.2 then s else a.1)

/-- MALFORMED_PACKET (R322). -/
def execMalformedPacket (n : BitVec 2) (pkt : Packet) (s : State) : Host.Outcome State Fault Refusal :=
  let bad := illFormed pkt || ((pkt.typ == 1 || pkt.typ == 2) && s.wouldConsume n.toNat pkt)
  .next (if bad then (s.arrive n.toNat pkt).1 else s)

/-- DUPLICATE_PACKET (R325): discarded, and an ACK is sent. -/
def execDuplicatePacket (n : BitVec 2) (pkt : Packet) (s : State) : Host.Outcome State Fault Refusal :=
  let back := ((s.port n.toNat).nextRcv.toNat + 4096 - pkt.seq) % 4096
  .next (if 1 ≤ back ∧ back ≤ 2048 then (s.arrive n.toNat pkt).1 else s)

/-! ## Register access by CFG packets (R338, R339) -/

/-- The address of a CFG request and the words it names lie in the direct space. -/
def cfgFits (p : Packet) (words : Nat) : Bool := p.w2.toNat % 4 == 0 && decide (p.w2.toNat + 4 * words ≤ 0x10000)

/-- Reads consecutive registers. -/
def State.cfgReads (s : State) : Nat → Nat → List Word → State × List Word
  | 0, _, l => (s, l)
  | n + 1, a, l =>
    let r := s.readDirect 1 a
    r.1.cfgReads n (a + 4) (l ++ [r.2])

/-- Writes consecutive registers; a reset that one of them starts ends the service, and what follows is dropped (R416, R419). -/
def State.cfgWrites (s : State) (port : Nat) : Nat → List Word → State
  | _, [] => s
  | a, w :: t =>
    let s' := if s.regsServed then (s.writeDirect ⟨1, false, a, w, port, none⟩ a).noteLevel else s
    if s'.die.resets ≠ s.die.resets then s' else s'.cfgWrites port (a + 4) t

/-- A consumed CFG_RD. -/
def State.takeCfgRd (s : State) (n : Nat) (p : Packet) : State :=
  if s.cfgSleeps .cfg then s.park (.packet n p)
  else
  let s := s.cfgWake
  if !s.pathReads .cfg then s
  else if !cfgFits p p.len then s.answer p cplErr []
  else
    let r := s.cfgReads p.len p.w2.toNat []
    r.1.answer p cplOk r.2

/-- The state after an OTP command that the lifecycle refuses this path; none where no such command is in the request (R450,
R485) (log 87). -/
def State.otpBarred (s : State) (p : Packet) : Option State :=
  let k := (0x1300 - p.w2.toNat) / 4
  if p.w2.toNat ≤ 0x1300 ∧ k < p.payload.length ∧ s.die.mode = .running then
    let x := p.payload.getD k 0
    let op := fieldOf x 0 4
    if fieldOf x 8 8 ≠ 0xA5 ∨ s.otp.busy.isSome then none
    else
      let t : State := if op = 1 then (s.otpProgram 1).1 else if op = 2 then (s.otpLock 1 (fieldOf x 4 2)).1 else s
      if (op = 1 ∨ op = 2) ∧ t.otp.busy.isNone ∧ t.otp.err = 4 then some t else none
  else none

/-- A consumed CFG_WR: a request with an OTP command that the lifecycle bars touches no register; no CPL follows a reset. -/
def State.takeCfgWr (s : State) (n : Nat) (p : Packet) : State :=
  if s.cfgSleeps .cfg then s.park (.packet n p)
  else
  let s := s.cfgWake
  if !s.pathWrites .cfg then s
  else if !cfgFits p p.payload.length then s.answer p cplErr []
  else match s.otpBarred p with
  | some t => t.answer p cplDenied []
  | none =>
    let t := s.cfgWrites n p.w2.toNat p.payload
    if t.die.mode ≠ s.die.mode then t
    else t.answer p (if t.regs.clampNext = s.regs.clampNext then cplOk else cplClamped) []

/-- CFG_RD (R338). -/
def execCfgRd (n : BitVec 2) (pkt : Packet) (s : State) : Host.Outcome State Fault Refusal :=
  let a := s.arrive n.toNat pkt
  .next (if a.2 ∧ pkt.typ = 5 then a.1.takeCfgRd n.toNat pkt else a.1)

/-- CFG_WR (R338). -/
def execCfgWr (n : BitVec 2) (pkt : Packet) (s : State) : Host.Outcome State Fault Refusal :=
  let a := s.arrive n.toNat pkt
  .next (if a.2 ∧ pkt.typ = 6 then a.1.takeCfgWr n.toNat pkt else a.1)

/-! ## What waited for a wake (R37 to R39) -/

/-- The block that it waits for runs again: the ring engine, or the register file of a node that has left P4. -/
def State.parkedReady (s : State) (x : Parked) : Bool :=
  match x with
  | .packet _ p => if isCfg p then decide (s.pwr.state.toNat < 4) else !s.pwr.gateA
  | .access .. => decide (s.pwr.state.toNat < 4)

/-- Carries out what has waited. -/
def State.serveOne (s : State) (x : Parked) : State :=
  match x with
  | .packet n p =>
    if p.typ = 5 then s.takeCfgRd n p else if p.typ = 6 then s.takeCfgWr n p else s.bell (p.payload.headD 0)
  | .access ind a wr port fail =>
    if !s.regsServed then s
    else match wr with
    | some x =>
      let w : RegWrite := ⟨1, ind, a, x, port, fail⟩
      (if ind then s.writeInd w a else s.writeDirect w a).noteLevel
    | none =>
      let r := s.readDirect 1 a
      r.1.emit (.regData .cfg r.2)

/-- Everything that has waited and need not wait any more is carried out, in the order it came. -/
def State.serveParked (s : State) : State :=
  let go := s.lnk.parked.filter s.parkedReady
  let s := { s with lnk := { s.lnk with parked := s.lnk.parked.filter fun x => !s.parkedReady x } }
  go.foldl State.serveOne s

/-! ## The logs (R231, R232) -/

def IntegEntry.bytes (e : IntegEntry) : List Byte :=
  leBytes 4 e.seq.toNat ++ leBytes 4 e.lbn.toNat ++ leBytes 4 e.stored.toNat ++ leBytes 4 e.computed.toNat ++ leBytes 4 e.gen.toNat ++
    leBytes 2 e.key.toNat ++ [e.source, e.dec] ++ leBytes 2 e.sqid.toNat ++ leBytes 2 e.cid.toNat ++ leBytes 4 e.time.toNat

/-- An entry of the admission report (R290). -/
def AdmEntry.bytes (e : AdmEntry) : List Byte :=
  leBytes 4 e.seq.toNat ++ leBytes 4 e.time.toNat ++ leBytes 2 e.cause.toNat ++ leBytes 2 e.scale ++ leBytes 2 e.d ++ leBytes 2 e.a ++
    leBytes 2 e.m ++ leBytes 2 e.s ++ leBytes 2 e.pool ++ leBytes 4 e.sum ++ leBytes 2 e.nch ++ leBytes 1 e.ncl ++ leBytes 1 e.t ++
    leBytes 2 0 ++ e.req.flatMap (leBytes 2) ++ e.app.flatMap (leBytes 2)

/-- An entry of the self-test report: `k` from 0 to 7 is a partition, from 8 to 23 a memory group (R467). -/
def State.selfTestBytes (s : State) (k : Nat) : List Byte :=
  let r : BstResult := Tab.get .none s.bst.results k
  leBytes 1 (if k < 8 then 1 else 2) ++ leBytes 1 (if k < 8 then k else k - 8) ++ [r.result, 0] ++ leBytes 4 r.count.toNat ++
    leBytes 4 r.sign.toNat ++ leBytes 4 r.expect.toNat ++ leBytes 2 r.cover.toNat ++ leBytes 2 0 ++ leBytes 4 r.duration.toNat ++
    leBytes 8 r.endAt.toNat

/-- An entry of the eye quality log: 32 lanes, then the channels (R385). -/
def State.eyeBytes (s : State) (k : Nat) : List Byte :=
  let m := Tab.get (0, 0) s.cal.eyeTime k
  let lane := decide (k < 32)
  let i := if lane then k else k - 32
  let eyes : List Byte := if lane then [((s.port (i / 8)).lane (i % 8)).eye, 0] else [(s.chan i).eyeRd, (s.chan i).eyeWr]
  leBytes 1 (if lane then 1 else 2) ++ [0] ++ leBytes 2 i ++ eyes ++ leBytes 2 m.2 ++ leBytes 4 m.1 ++ leBytes 4 0

/-- Entry size and entries of a log. The repair log holds its valid records, W0 then W1 (R448, log 45). -/
def State.logOf (s : State) (code : Nat) : Nat × List (List Byte) :=
  match code with
  | 0x01 => (16, (List.range 64).map fun k => wordsBytes (s.scbWords k))
  | 0x02 => (32, s.flt.hist.map FltEntry.bytes)
  | 0x03 => (32, s.regs.clampLog.map ClampEntry.bytes)
  | 0x04 => (8, s.otp.records.map fun r => wordsBytes [r.2, recordW1 r.2 r.1])
  | 0x05 => (64, s.qos.report.map AdmEntry.bytes)
  | 0x06 => (32, s.rng.integ.map IntegEntry.bytes)
  | 0x07 => (16, s.pwr.history.map PwrEntry.bytes)
  | 0x08 => (16, (List.range 1056).map s.eyeBytes)
  | _ => (32, (List.range 24).map s.selfTestBytes)

/-- The start of a GET_LOG: the snapshot, built by the Hive core (R26), is copied into the buffer and the command ends (log 91). -/
def State.startLog (c : Cmd) (s : State) : State :=
  if !s.hiveOk then s
  else
    let code := fieldOf c.desc.opnd0 0 8
    let log := s.logOf code
    let first := c.desc.opnd2.toNat
    let room := (c.desc.opnd1.toNat - 64) / log.1
    let l := (log.2.drop first).take room
    let head := leBytes 1 code ++ [0] ++ leBytes 2 log.1 ++ leBytes 4 log.2.length ++ leBytes 4 first ++ leBytes 4 l.length ++
      leBytes 8 s.tim.count.toNat ++ List.replicate 40 0
    let s := (s.begin_ c).mwrAll c.tc.toNat c.desc.addr.toNat (head ++ l.flatten)
    s.finish c.id (plainFinal 0 0 (BitVec.ofNat 32 l.length) log.2.length)

/-- GET_LOG (R231). -/
def execGetLog (id : Nat) (s : State) : Host.Outcome State Fault Refusal := .next (s.turn id .getLog State.startLog noBlock)

end Sys2Proof.Machine
end

