-- ==== Sys2Proof/Machine/Releases.lean ====
section
/-! DEFINITION. The commands at which a stalled block runs again: each carries out the register writes and the requests that
waited for it (R37 to R39, R197, R429, R460, R554). -/

namespace Sys2Proof.Machine

/-- What waited for a domain, for P0 or for a path is carried out: register writes, requests, events. -/
def State.resume (s : State) : State := s.actLate.serveParked.flushHeld

/-- CRICKET_TICK (R47). What waited and can go on does so by the next tick: an exit from P2, whose domains restart at once, is
noticed here (log 54), and so is a block reset that waited for a segment ended by another cause (R461, log 38). -/
def execCricketTick (s : State) : Host.Outcome State Fault Refusal := .next s.tick.drainBlocks.resume

/-- PLL_LOCK (R39, R405, R406, R116, R366). -/
def execPllLock (pll : BitVec 6) (s : State) : Host.Outcome State Fault Refusal := .next (s.pllLock pll.toNat).resume

/-- TIER_RESTART_DUE (R360, R366, R409, R420, R425) (log 63). -/
def execTierRestartDue (s : State) : Host.Outcome State Fault Refusal := .next s.tierRestartDue.resume

/-- BLOCK_RESET_END (R429). -/
def execBlockResetEnd (block : Byte) (s : State) : Host.Outcome State Fault Refusal := .next (s.blockResetEnd block).actLate

/-- BIST_SEGMENT_END (R457, R459, R460, R463, R468). -/
def execBistSegmentEnd (misr : Word) (s : State) : Host.Outcome State Fault Refusal := .next (s.segmentEnd misr).drainBlocks.actLate

end Sys2Proof.Machine
end

