-- ==== Sys2Proof/Machine/Tap.lean ====
section
/-! DEFINITION. The JTAG port (R486, R490, R569): the TAP's instructions and what each debug level grants. -/

namespace Sys2Proof.Machine

/-- The IDCODE register (R569). -/
def idcodeWord : Word :=
  packed [(1, 0, 1), (Config.vendorCode.toNat, 1, 11), (0x3210, 12, 16), (Config.dieRevision.toNat, 28, 4)]

/-- TAP_RESET (R569): IDCODE is the instruction in force (log 46). -/
def execTapReset (s : State) : Host.Outcome State Fault Refusal := .next { s with dbg := { s.dbg with ir := .idcode } }

/-- The node is in P0 to P3. -/
def State.awake (s : State) : Bool := decide (s.pwr.state.toNat < 4)

/-- A level grants an instruction now (R486, R490); IDCODE, BYPASS and the levels of P5 come first. -/
def State.tapGrants (s : State) (x : TapInstr) : Bool :=
  let at_ (level : Nat) : Bool := decide (level ≤ s.dbg.level.toNat) && s.awake
  match x with
  | .idcode => true
  | .bypass => true
  | .dbgAccess _ _ => decide (s.pwr.state.toNat < 5)
  | .samplePreload _ => s.awake
  | .extest _ => decide (s.otp.fuseLifecycle = 0) && s.awake
  | .regRead _ _ => at_ 1
  | .trace => at_ 1
  | .regWrite _ _ _ => at_ 2
  | .hiveHalt => at_ 2
  | .hiveStep => at_ 2
  | .hiveRun => at_ 2
  | .hiveMemRead _ => at_ 2
  | .hiveMemWrite _ _ => at_ 2
  | .other => false

/-- The register a DBG_ACCESS reaches. -/
def dbgPlace : DbgReg → RegName × Nat
  | .req => (.dbgReq, 0)
  | .stat => (.dbgStat, 0)
  | .chal w => (.dbgChal, w.toNat)
  | .token w => (.dbgToken, w.toNat)

/-- DBG_ACCESS, at every level (R486). -/
def State.dbgAccess (s : State) (r : DbgReg) (wr : Option Word) : State :=
  let p := dbgPlace r
  if !s.regsServed ∨ (p.1 = .dbgToken ∧ 60 ≤ p.2) then s
  else match wr with
  | none => s.emit (.tdo (s.readReg 3 p.1 p.2))
  | some x => (s.writeReg ⟨3, (regPlace p.1).ind, regAddr p.1 p.2, x, 0, none⟩ p.1 p.2).noteLevel

/-- A byte of Hive core memory: what a debugger wrote, the image, or a byte that no rule gives. -/
def State.hiveMemByte (s : State) (a : Nat) : Byte :=
  match Tab.get none s.die.hiveMem a with
  | some b => b
  | none => s.die.image.getD a (Config.hiveByte s.free)

/-- Captures the levels of the bumps and takes the cells shifted in. -/
def State.scanCells (s : State) (cells : BitVec 17) : State :=
  let out : Word := (Config.boundaryPins s.free).setWidth 32
  { s with dbg := { s.dbg with cells := cells }, free := s.free + 1 }.emit (.tdo out)

/-- What an instruction that is granted does. -/
def State.tapDoes (s : State) (x : TapInstr) : State :=
  match x with
  | .idcode => s.emit (.tdo idcodeWord)
  | .bypass => s
  | .dbgAccess r wr => s.dbgAccess r wr
  | .samplePreload c => s.scanCells c
  | .extest c => s.scanCells c
  | .regRead a fast =>
    if !s.pathReads .jtag then s
    else
      let r := s.readDirect 3 a.toNat
      if fast then { r.1 with free := r.1.free + 1 }.emit (.tdo (Config.staleRead r.1.free)) else r.1.emit (.tdo r.2)
  | .regWrite a d fast =>
    let t : State := if fast then { s with free := s.free + 1 } else s
    if fast && Config.losesWrite s.free then t else t.pathWrite .jtag a.toNat d 0 none
  | .trace => { s with free := s.free + 1 }.emit (.tdo (Config.hiveTrace s.free))
  | .hiveHalt => if s.die.hiveRun then { s with die := { s.die with hiveHalted := true } } else s
  | .hiveStep => s
  | .hiveRun =>
    if s.die.hiveHalted then
      let s := s.hiveResume
      s.otpPump s.otp.queue.length
    else s
  | .hiveMemRead a => { s with free := s.free + 1 }.emit (.tdo ((s.hiveMemByte a.toNat).setWidth 32))
  | .hiveMemWrite a d => { s with die := { s.die with hiveMem := Tab.set none s.die.hiveMem a.toNat (some d) } }
  | .other => s

/-- TAP_INSTRUCTION (R486): an instruction that is not granted acts as BYPASS; while PORST_N is low the TAP is held in
Test-Logic-Reset (R562). -/
def execTapInstruction (ins : TapInstr) (s : State) : Host.Outcome State Fault Refusal :=
  let x := if s.tapGrants ins then ins else .bypass
  .next (if s.die.mode = .porstLow then s else { s with dbg := { s.dbg with ir := x } }.tapDoes x)

end Sys2Proof.Machine
end

