-- ==== Sys2Proof/Machine/Dispatch.lean ====
section
/-! DEFINITION. The dispatcher: one arm per command, each a direct call of its meaning. -/

namespace Sys2Proof.Machine

def exec (i : Instr) (s : State) : Host.Outcome State Fault Refusal :=
  match i with
  | .registerWrite p addr data => Sys2Proof.Machine.execRegisterWrite p addr data s
  | .indWinAccess p k wr => Sys2Proof.Machine.execIndWinAccess p k wr s
  | .fltStat0Read p => Sys2Proof.Machine.execFltStat0Read p s
  | .fltAck p data => Sys2Proof.Machine.execFltAck p data s
  | .clampAck p data => Sys2Proof.Machine.execClampAck p data s
  | .fltInject p data => Sys2Proof.Machine.execFltInject p data s
  | .timCfgWrite p data => Sys2Proof.Machine.execTimCfgWrite p data s
  | .budCapWrite p data => Sys2Proof.Machine.execBudCapWrite p data s
  | .pcdSmapWrite p r data => Sys2Proof.Machine.execPcdSmapWrite p r data s
  | .pcdRdySet p r data => Sys2Proof.Machine.execPcdRdySet p r data s
  | .scbLogDismiss p data => Sys2Proof.Machine.execScbLogDismiss p data s
  | .maxMultWrite p n data => Sys2Proof.Machine.execMaxMultWrite p n data s
  | .tierFreqWrite p n data => Sys2Proof.Machine.execTierFreqWrite p n data s
  | .channelRetire p n data => Sys2Proof.Machine.execChannelRetire p n data s
  | .channelResume p k => Sys2Proof.Machine.execChannelResume p k s
  | .channelDiscard p k => Sys2Proof.Machine.execChannelDiscard p k s
  | .channelRetrain p k => Sys2Proof.Machine.execChannelRetrain p k s
  | .sqEnable p q data => Sys2Proof.Machine.execSqEnable p q data s
  | .sqDisable p q data => Sys2Proof.Machine.execSqDisable p q data s
  | .cqEnable p q => Sys2Proof.Machine.execCqEnable p q s
  | .cqDisable p q => Sys2Proof.Machine.execCqDisable p q s
  | .cqResume p q => Sys2Proof.Machine.execCqResume p q s
  | .rngEvtCqWrite p data => Sys2Proof.Machine.execRngEvtCqWrite p data s
  | .qosTcWrite p n data => Sys2Proof.Machine.execQosTcWrite p n data s
  | .portEnWrite p n data => Sys2Proof.Machine.execPortEnWrite p n data s
  | .lnkRetrain p n => Sys2Proof.Machine.execLnkRetrain p n s
  | .lnkRecover p n => Sys2Proof.Machine.execLnkRecover p n s
  | .nodeIdAssign p port data => Sys2Proof.Machine.execNodeIdAssign p port data s
  | .pwrWake p => Sys2Proof.Machine.execPwrWake p s
  | .pwrOff p code => Sys2Proof.Machine.execPwrOff p code s
  | .pwrTierGateWrite p data => Sys2Proof.Machine.execPwrTierGateWrite p data s
  | .thmRetrust p data => Sys2Proof.Machine.execThmRetrust p data s
  | .calNow p => Sys2Proof.Machine.execCalNow p s
  | .rstCtlHard p key => Sys2Proof.Machine.execRstCtlHard p key s
  | .rstCtlWarm p key => Sys2Proof.Machine.execRstCtlWarm p key s
  | .rstBlock p data => Sys2Proof.Machine.execRstBlock p data s
  | .blockResetEnd block => Sys2Proof.Machine.execBlockResetEnd block s
  | .otpProgram p key => Sys2Proof.Machine.execOtpProgram p key s
  | .otpLock p key r => Sys2Proof.Machine.execOtpLock p key r s
  | .otpCommandEnd normal strict => Sys2Proof.Machine.execOtpCommandEnd normal strict s
  | .bistRun p => Sys2Proof.Machine.execBistRun p s
  | .bistStop p => Sys2Proof.Machine.execBistStop p s
  | .stackTest p failStep => Sys2Proof.Machine.execStackTest p failStep s
  | .keygen p key => Sys2Proof.Machine.execKeygen p key s
  | .kxSet p key => Sys2Proof.Machine.execKxSet p key s
  | .revoke p key => Sys2Proof.Machine.execRevoke p key s
  | .lifeAdv p key target => Sys2Proof.Machine.execLifeAdv p key target s
  | .dbgLevelRequest p level => Sys2Proof.Machine.execDbgLevelRequest p level s
  | .debugTokenChecked => Sys2Proof.Machine.execDebugTokenChecked s
  | .dbgEnd p => Sys2Proof.Machine.execDbgEnd p s
  | .newchal p => Sys2Proof.Machine.execNewchal p s
  | .debugSessionExpire => Sys2Proof.Machine.execDebugSessionExpire s
  | .twGo p data => Sys2Proof.Machine.execTwGo p data s
  | .nop id => Sys2Proof.Machine.execNop id s
  | .read id => Sys2Proof.Machine.execRead id s
  | .write id => Sys2Proof.Machine.execWrite id s
  | .flush id => Sys2Proof.Machine.execFlush id s
  | .fill id => Sys2Proof.Machine.execFill id s
  | .copy id => Sys2Proof.Machine.execCopy id s
  | .compare id => Sys2Proof.Machine.execCompare id s
  | .check id => Sys2Proof.Machine.execCheck id s
  | .verify id => Sys2Proof.Machine.execVerify id s
  | .recode id => Sys2Proof.Machine.execRecode id s
  | .sanitize id => Sys2Proof.Machine.execSanitize id s
  | .keyLoad id => Sys2Proof.Machine.execKeyLoad id s
  | .keyDestroy id => Sys2Proof.Machine.execKeyDestroy id s
  | .keyErase k => Sys2Proof.Machine.execKeyErase k s
  | .attest id => Sys2Proof.Machine.execAttest id s
  | .repair id => Sys2Proof.Machine.execRepair id s
  | .getLog id => Sys2Proof.Machine.execGetLog id s
  | .setLatency id => Sys2Proof.Machine.execSetLatency id s
  | .abort id => Sys2Proof.Machine.execAbort id s
  | .descriptorFetch q => Sys2Proof.Machine.execDescriptorFetch q s
  | .sqDoorbell n pkt => Sys2Proof.Machine.execSqDoorbell n pkt s
  | .cqDoorbell n pkt => Sys2Proof.Machine.execCqDoorbell n pkt s
  | .dataFloorReached => Sys2Proof.Machine.execDataFloorReached s
  | .coalTimeout q => Sys2Proof.Machine.execCoalTimeout q s
  | .cricketTick => Sys2Proof.Machine.execCricketTick s
  | .timeSetReceived n ts => Sys2Proof.Machine.execTimeSetReceived n ts s
  | .orphanTimeout => Sys2Proof.Machine.execOrphanTimeout s
  | .epochBoundary => Sys2Proof.Machine.execEpochBoundary s
  | .bistSegmentEnd misr => Sys2Proof.Machine.execBistSegmentEnd misr s
  | .bistPeriodicDue => Sys2Proof.Machine.execBistPeriodicDue s
  | .requestIssue k => Sys2Proof.Machine.execRequestIssue k s
  | .burstComplete k errs => Sys2Proof.Machine.execBurstComplete k errs s
  | .decodeEnd k mis => Sys2Proof.Machine.execDecodeEnd k mis s
  | .refreshDue k ahead => Sys2Proof.Machine.execRefreshDue k ahead s
  | .talertLow t => Sys2Proof.Machine.execTalertLow t s
  | .mr6ReadDone k parErr win idle => Sys2Proof.Machine.execMr6ReadDone k parErr win idle s
  | .trainingProbeDone k res => Sys2Proof.Machine.execTrainingProbeDone k res s
  | .gateOpeningStart => Sys2Proof.Machine.execGateOpeningStart s
  | .tierGood t => Sys2Proof.Machine.execTierGood t s
  | .tierGateTimeout t => Sys2Proof.Machine.execTierGateTimeout t s
  | .gateClosing t => Sys2Proof.Machine.execGateClosing t s
  | .trstRelease t => Sys2Proof.Machine.execTrstRelease t s
  | .identityCheck t ident => Sys2Proof.Machine.execIdentityCheck t ident s
  | .formatWrite k => Sys2Proof.Machine.execFormatWrite k s
  | .scarabRead k => Sys2Proof.Machine.execScarabRead k s
  | .scarabPassEnd => Sys2Proof.Machine.execScarabPassEnd s
  | .wakePassEnd t => Sys2Proof.Machine.execWakePassEnd t s
  | .qosAdaptStep => Sys2Proof.Machine.execQosAdaptStep s
  | .admissionRecompute => Sys2Proof.Machine.execAdmissionRecompute s
  | .linkDetect n => Sys2Proof.Machine.execLinkDetect n s
  | .signalDetected n => Sys2Proof.Machine.execSignalDetected n s
  | .symbolLock n lane seen => Sys2Proof.Machine.execSymbolLock n lane seen s
  | .ts1Received n lane rx => Sys2Proof.Machine.execTs1Received n lane rx s
  | .ts2Received n lane ts stamp sent => Sys2Proof.Machine.execTs2Received n lane ts stamp sent s
  | .rateSwitchEnd n => Sys2Proof.Machine.execRateSwitchEnd n s
  | .laneTrainDone n => Sys2Proof.Machine.execLaneTrainDone n s
  | .lmkReceived n lane num count delay => Sys2Proof.Machine.execLmkReceived n lane num count delay s
  | .linkStateTimeout n => Sys2Proof.Machine.execLinkStateTimeout n s
  | .laneError n lane rx place => Sys2Proof.Machine.execLaneError n lane rx place s
  | .signalLoss n => Sys2Proof.Machine.execSignalLoss n s
  | .skpReceived n count aligned => Sys2Proof.Machine.execSkpReceived n count aligned s
  | .skpDue n => Sys2Proof.Machine.execSkpDue n s
  | .idlEReceived n onL0 => Sys2Proof.Machine.execIdlEReceived n onL0 s
  | .fireflyBurstEnd n service locked => Sys2Proof.Machine.execFireflyBurstEnd n service locked s
  | .l0Sleep n => Sys2Proof.Machine.execL0Sleep n s
  | .l0SignalWake n => Sys2Proof.Machine.execL0SignalWake n s
  | .eyeMeasureDone n lane steps => Sys2Proof.Machine.execEyeMeasureDone n lane steps s
  | .ackReceived n ackseq w1 => Sys2Proof.Machine.execAckReceived n ackseq w1 s
  | .nakReceived n ackseq w1 => Sys2Proof.Machine.execNakReceived n ackseq w1 s
  | .packetError n rx framing => Sys2Proof.Machine.execPacketError n rx framing s
  | .packetAbandoned n => Sys2Proof.Machine.execPacketAbandoned n s
  | .cplReceived n pkt => Sys2Proof.Machine.execCplReceived n pkt s
  | .cfgRd n pkt => Sys2Proof.Machine.execCfgRd n pkt s
  | .cfgWr n pkt => Sys2Proof.Machine.execCfgWr n pkt s
  | .turn n pkt => Sys2Proof.Machine.execTurn n pkt s
  | .packetForward n pkt => Sys2Proof.Machine.execPacketForward n pkt s
  | .ackLatencyTimeout n => Sys2Proof.Machine.execAckLatencyTimeout n s
  | .replayTimeout n => Sys2Proof.Machine.execReplayTimeout n s
  | .mrdTimeout tag => Sys2Proof.Machine.execMrdTimeout tag s
  | .turnTimeout n => Sys2Proof.Machine.execTurnTimeout n s
  | .idleTimeout => Sys2Proof.Machine.execIdleTimeout s
  | .ringWindowExpire q => Sys2Proof.Machine.execRingWindowExpire q s
  | .wakeNFall => Sys2Proof.Machine.execWakeNFall s
  | .wakePulseEnd => Sys2Proof.Machine.execWakePulseEnd s
  | .tierRestartDue => Sys2Proof.Machine.execTierRestartDue s
  | .sensorSample base => Sys2Proof.Machine.execSensorSample base s
  | .tierSensorFrame t frame => Sys2Proof.Machine.execTierSensorFrame t frame s
  | .graceTimeout => Sys2Proof.Machine.execGraceTimeout s
  | .clickRestart => Sys2Proof.Machine.execClickRestart s
  | .calRoundDone item res => Sys2Proof.Machine.execCalRoundDone item res s
  | .railUndervoltage rail => Sys2Proof.Machine.execRailUndervoltage rail s
  | .railRestored rail => Sys2Proof.Machine.execRailRestored rail s
  | .rcReady => Sys2Proof.Machine.execRcReady s
  | .startupWatchdogExpiry => Sys2Proof.Machine.execStartupWatchdogExpiry s
  | .xtalGood => Sys2Proof.Machine.execXtalGood s
  | .xtalTimeout => Sys2Proof.Machine.execXtalTimeout s
  | .xtalFail => Sys2Proof.Machine.execXtalFail s
  | .rcWatchTrip => Sys2Proof.Machine.execRcWatchTrip s
  | .pllLock pll => Sys2Proof.Machine.execPllLock pll s
  | .pllMonitorTrip pll drift => Sys2Proof.Machine.execPllMonitorTrip pll drift s
  | .muxForce hive => Sys2Proof.Machine.execMuxForce hive s
  | .powerOnReset cause => Sys2Proof.Machine.execPowerOnReset cause s
  | .porstNRelease strap => Sys2Proof.Machine.execPorstNRelease strap s
  | .resetNLow ns => Sys2Proof.Machine.execResetNLow ns s
  | .resetNRise => Sys2Proof.Machine.execResetNRise s
  | .resetHoldEnd => Sys2Proof.Machine.execResetHoldEnd s
  | .quiesceOverrun t => Sys2Proof.Machine.execQuiesceOverrun t s
  | .otpSenseDone decay => Sys2Proof.Machine.execOtpSenseDone decay s
  | .memoryBistDone group fails => Sys2Proof.Machine.execMemoryBistDone group fails s
  | .imageReadDone => Sys2Proof.Machine.execImageReadDone s
  | .imageRetry => Sys2Proof.Machine.execImageRetry s
  | .dataService => Sys2Proof.Machine.execDataService s
  | .faultEvent ext => Sys2Proof.Machine.execFaultEvent ext s
  | .faultWindowEnd src => Sys2Proof.Machine.execFaultWindowEnd src s
  | .shadowEnd src => Sys2Proof.Machine.execShadowEnd src s
  | .collectorParity histOk => Sys2Proof.Machine.execCollectorParity histOk s
  | .configParityScan upset => Sys2Proof.Machine.execConfigParityScan upset s
  | .twAddress byte => Sys2Proof.Machine.execTwAddress byte s
  | .twWriteByte byte => Sys2Proof.Machine.execTwWriteByte byte s
  | .twReadByte acked => Sys2Proof.Machine.execTwReadByte acked s
  | .twStop repeated => Sys2Proof.Machine.execTwStop repeated s
  | .twMisplacedCondition isStop inAckSlot => Sys2Proof.Machine.execTwMisplacedCondition isStop inAckSlot s
  | .twSdaTimeout => Sys2Proof.Machine.execTwSdaTimeout s
  | .twTransactionEnd res done bytes => Sys2Proof.Machine.execTwTransactionEnd res done bytes s
  | .twArbLost byte done bytes => Sys2Proof.Machine.execTwArbLost byte done bytes s
  | .twStretchTimeout done bytes => Sys2Proof.Machine.execTwStretchTimeout done bytes s
  | .twBusRecovery freed => Sys2Proof.Machine.execTwBusRecovery freed s
  | .tapReset => Sys2Proof.Machine.execTapReset s
  | .tapInstruction ins => Sys2Proof.Machine.execTapInstruction ins s
  | .fallbackIdleEnd n => Sys2Proof.Machine.execFallbackIdleEnd n s
  | .malformedPacket n pkt => Sys2Proof.Machine.execMalformedPacket n pkt s
  | .duplicatePacket n pkt => Sys2Proof.Machine.execDuplicatePacket n pkt s

end Sys2Proof.Machine
end

