-- ==== Sys2Proof/Safety.lean ====
section
/-! DEFINITION. The terms that statements use: a step that goes on, what two states share, when a register write acts at once,
and the two ways a write is turned away. -/

namespace Sys2Proof.Safety
open Sys2Proof.Machine

/-- The step goes on. -/
def Goes (s : State) : Prop := ∃ t, step s = .next t

/-- The parts of the state. -/
inductive Part where
  | die | regs | tim | clk | bud | qos | rng | lnk | tch | pcd | scb | pwr | thm | cal | otp | bst | sec | dbg | flt | tw | out
  | free | pending
  deriving DecidableEq, Repr

/-- Only the parts listed may differ: every other part of `t` is that of `s`. -/
def Only (ps : List Part) (s t : State) : Prop :=
  (.die ∈ ps ∨ t.die = s.die) ∧ (.regs ∈ ps ∨ t.regs = s.regs) ∧ (.tim ∈ ps ∨ t.tim = s.tim) ∧ (.clk ∈ ps ∨ t.clk = s.clk) ∧
  (.bud ∈ ps ∨ t.bud = s.bud) ∧ (.qos ∈ ps ∨ t.qos = s.qos) ∧ (.rng ∈ ps ∨ t.rng = s.rng) ∧ (.lnk ∈ ps ∨ t.lnk = s.lnk) ∧
  (.tch ∈ ps ∨ t.tch = s.tch) ∧ (.pcd ∈ ps ∨ t.pcd = s.pcd) ∧ (.scb ∈ ps ∨ t.scb = s.scb) ∧ (.pwr ∈ ps ∨ t.pwr = s.pwr) ∧
  (.thm ∈ ps ∨ t.thm = s.thm) ∧ (.cal ∈ ps ∨ t.cal = s.cal) ∧ (.otp ∈ ps ∨ t.otp = s.otp) ∧ (.bst ∈ ps ∨ t.bst = s.bst) ∧
  (.sec ∈ ps ∨ t.sec = s.sec) ∧ (.dbg ∈ ps ∨ t.dbg = s.dbg) ∧ (.flt ∈ ps ∨ t.flt = s.flt) ∧ (.tw ∈ ps ∨ t.tw = s.tw) ∧
  (.out ∈ ps ∨ t.out = s.out) ∧ (.free ∈ ps ∨ t.free = s.free) ∧ (.pending ∈ ps ∨ t.pending = s.pending)

/-- A write of this path to this register acts at once: the path is served and need not wake the node first, the die runs, no
earlier write waits, and the block that owns the register takes writes (R38, R365, R543, R554). -/
def Acts (p : Path) (n : RegName) (i : Nat) (s : State) : Prop :=
  s.pathWrites p = true ∧ s.die.mode = .running ∧ s.regs.late = [] ∧ s.ownerStalled n i = false ∧ (p = .cfg → s.pwr.state.toNat < 2)

/-- The write that a path makes to a register (R557). -/
def writeOf (p : Path) (n : RegName) (i : Nat) (data : Word) : RegWrite :=
  ⟨pathSource p, (regPlace n).ind, regAddr n i, data, 0, none⟩

/-- The state with an entry of the clamp log that reports a field of an action as ignored (R544, R557). -/
def ignored (p : Path) (n : RegName) (i : Nat) (data : Word) (lo wd : Nat) (s : State) : State :=
  s.ignoredField (writeOf p n i data) lo wd

/-- The state with an entry of the clamp log that reports an action as refused by a state of the die (R544, R557). -/
def turnedAway (p : Path) (n : RegName) (i : Nat) (data : Word) (s : State) : State :=
  s.ignoredWhole (writeOf p n i data) 0

/-- The register that a command writes, and what it writes there: the commands that are a write to one named register. -/
def named : Instr → Option (Path × RegName × Nat × Word)
  | .fltAck p d => some (p, .fltAck, 0, d)
  | .clampAck p d => some (p, .clampAck, 0, d)
  | .fltInject p d => some (p, .fltInject, 0, d)
  | .timCfgWrite p d => some (p, .timCfg, 0, d)
  | .budCapWrite p d => some (p, .budCap, 0, d)
  | .pcdSmapWrite p r d => some (p, .pcdSmap, r.toNat, d)
  | .pcdRdySet p r d => some (p, .pcdRdy, r.toNat, d)
  | .scbLogDismiss p d => some (p, .scbLogDismiss, 0, d)
  | .maxMultWrite p n d => some (p, .scbSeason, n.toNat, d)
  | .tierFreqWrite p n d => some (p, .tchTcfg, n.toNat, d)
  | .channelRetire p n d => some (p, .tchRetire, n.toNat, d)
  | .channelResume p i => some (p, .tchChctl, i.toNat, 1)
  | .channelDiscard p i => some (p, .tchChctl, i.toNat, 2)
  | .channelRetrain p i => some (p, .tchChctl, i.toNat, 4)
  | .sqEnable p q d => some (p, .sqcW7, q.toNat, d ||| 1)
  | .sqDisable p q d => some (p, .sqcW7, q.toNat, d ||| 2)
  | .cqEnable p q => some (p, .cqcW7, q.toNat, 1)
  | .cqDisable p q => some (p, .cqcW7, q.toNat, 2)
  | .cqResume p q => some (p, .cqcW7, q.toNat, 4)
  | .rngEvtCqWrite p d => some (p, .rngEvtCq, 0, d)
  | .qosTcWrite p n d => some (p, .qosTc, n.toNat, d)
  | .portEnWrite p n d => some (p, .lnkPhy0, n.toNat, d)
  | .lnkRetrain p n => some (p, .lnkCtl, n.toNat, 1)
  | .lnkRecover p n => some (p, .lnkCtl, n.toNat, 2)
  | .nodeIdAssign p _ d => some (p, .lnkNode, 0, d)
  | .pwrWake p => some (p, .pwrCtl, 0, 1)
  | .pwrOff p code => some (p, .pwrCtl, 0, code.setWidth 32 <<< 8)
  | .pwrTierGateWrite p d => some (p, .pwrTierGate, 0, d)
  | .thmRetrust p d => some (p, .thmRetrust, 0, d)
  | .calNow p => some (p, .calCtl, 0, 1)
  | .rstCtlHard p key => some (p, .rstCtl, 0, key.setWidth 32 ||| 0x100)
  | .rstCtlWarm p key => some (p, .rstCtl, 0, key.setWidth 32 ||| 0x200)
  | .rstBlock p d => some (p, .rstBlock, 0, d)
  | .otpProgram p key => some (p, .otpCmd, 0, (key.setWidth 32 <<< 8) ||| 1)
  | .otpLock p key r => some (p, .otpCmd, 0, (key.setWidth 32 <<< 8) ||| (r.setWidth 32 <<< 4) ||| 2)
  | .bistRun p => some (p, .bstCtl, 0, 1)
  | .bistStop p => some (p, .bstCtl, 0, 2)
  | .stackTest p _ => some (p, .bstCtl, 0, 4)
  | .keygen p key => some (p, .secCtl, 0, key.setWidth 32 ||| 0x100)
  | .kxSet p key => some (p, .secCtl, 0, key.setWidth 32 ||| 0x200)
  | .revoke p key => some (p, .secCtl, 0, key.setWidth 32 ||| 0x400)
  | .lifeAdv p key t => some (p, .secCtl, 0, key.setWidth 32 ||| (t.setWidth 32 <<< 11))
  | .dbgLevelRequest p level => some (p, .dbgReq, 0, level.setWidth 32)
  | .dbgEnd p => some (p, .dbgReq, 0, 4)
  | .newchal p => some (p, .dbgReq, 0, 8)
  | .twGo p d => some (p, .twCcmd, 0, d ||| 0x1000000)
  | _ => none

/-- The command of a ring's opcode: one turn of the outstanding command with this fetch number (R204). -/
def turnBy : Op → Nat → Instr
  | .nop, id => .nop id
  | .read, id => .read id
  | .write, id => .write id
  | .flush, id => .flush id
  | .fill, id => .fill id
  | .copy, id => .copy id
  | .compare, id => .compare id
  | .check, id => .check id
  | .verify, id => .verify id
  | .recode, id => .recode id
  | .sanitize, id => .sanitize id
  | .keyLoad, id => .keyLoad id
  | .keyDestroy, id => .keyDestroy id
  | .attest, id => .attest id
  | .repair, id => .repair id
  | .getLog, id => .getLog id
  | .setLatency, id => .setLatency id
  | .abort, id => .abort id

/-- The only outstanding command, fetched and neither started nor judged, on no engine under test; its completion ring takes entries and
asks for no notification. -/
def Sole (c : Cmd) (s : State) : Prop :=
  s.rng.cmds = [c] ∧ c.started = false ∧ c.final = none ∧ c.silent = false ∧ c.early = false ∧ c.integ = none ∧ c.bufs = [] ∧
    c.aborted = false ∧ s.engineTested c = false ∧ c.inCq = false ∧ (s.cq c.cq).st = .active ∧ s.flag .cqcW3 c.cq 24 = false

/-- The entry a command's completion ring gets, with the phase of the pass (R183, R185). -/
def entryBytes (s : State) (c : Cmd) (status sdetail : Nat) (res0 : Word) (res1 : Nat) : List Byte :=
  let e := mkEntry c.desc.cid.toNat c.sq 0 status sdetail (s.sq c.sq).head.toNat res0 res1
  wordsBytes [e.w0, e.w1, e.w2, withField e.w3 31 1 (oneIf (s.cq c.cq).phase)]

/-- A command, the only one, has ended with this entry: it is written at TAIL of its completion ring in a packet of the command's
class, TAIL moves on, one reservation and one outstanding command are given back, and the pair is remembered (R185, R187, R191,
R236, R267). -/
def Ended (c : Cmd) (status sdetail : Nat) (res0 : Word) (res1 : Nat) (s t : State) : Prop :=
  ∃ w : State, Only [.rng, .regs] s w ∧
    Only [.rng] (w.mwr c.tc.toNat (s.cqBase c.cq + 16 * (s.cq c.cq).tail.toNat) (entryBytes s c status sdetail res0 res1)) t ∧
    t.rng = { (((s.updCq c.cq fun k => { k with
        tail := if k.tail.toNat + 1 = s.cqSize c.cq then 0 else k.tail + 1
        phase := if k.tail.toNat + 1 = s.cqSize c.cq then !k.phase else k.phase }).updCq c.cq fun k =>
          { k with reserved := k.reserved - 1 }).updSq c.sq fun x =>
          { x with out := x.out - 1, usedAt := some s.now, st := if x.st = .draining ∧ x.out ≤ 1 then .disabled else x.st }).rng with
      cmds := []
      remembered := t.rng.remembered } ∧
    t.rng.remembered.getLast? = some (c.sq, c.desc.cid)

/-- The form every state that a step leaves keeps: the debug level is at most the highest one reached and a token is checked for LIMITED
or FULL only (R488); the tables of tiers, channels, readiness bits, tier
rows and key slots and the stored registers stand in their one canonical form. -/
def Formed (s : State) : Prop :=
  s.dbg.level.toNat ≤ s.dbg.max.toNat ∧ s.dbg.max.toNat ≤ 2 ∧ (∀ l, s.dbg.checking = some l → l = 1 ∨ l = 2) ∧
    Tab.wf .init s.tch.tiers = true ∧ Tab.wf .init s.tch.chans = true ∧ Tab.wf 0 s.pcd.rdy = true ∧
    Tab.wf none s.pcd.store = true ∧ Tab.wf [] s.sec.slots = true ∧ (s.regs.cfg.map Prod.fst).Pairwise (· < ·)

end Sys2Proof.Safety
end

