-- ==== Sys2Proof/Certificates/Slice0/Obligations.lean ====
section
/-! DEFINITION. The statements for the provers: what each family of commands does to the state, from the numbered rules of spec/. -/

open Sys2Proof Sys2Proof.Machine Sys2Proof.Safety

/-- The block takes its commands in the order they wait (the model's queue: the assumption log says so): a step runs the command in front on the
rest of the queue, and a block with nothing to do stays as it is. -/
def Obligations.StepRunsTheFrontCommand : Prop :=
  (∀ (c : Instr) (s : State), step { s with pending := c :: s.pending } = exec c s) ∧
  (∀ (c : Instr) (rest : List Instr) (s : State), s.pending = c :: rest → step s = exec c { s with pending := rest }) ∧
  (∀ s : State, s.pending = [] → step s = .next s)

/-- Every command completes in every state, and leaves the commands that wait as they are. -/
def Obligations.EveryCommandCompletes : Prop :=
  (∀ (c : Instr) (s : State), ∃ t : State, exec c s = .next t ∧ t.pending = s.pending) ∧
  (∀ s : State, Goes s) ∧ (∀ s t : State, step s = .next t → t.pending = s.pending.drop 1)

/-- R87, R123, R488 and R545. What every step keeps: the debug level is at most the highest reached, a token is checked for LIMITED or FULL, the
tables of tier rows, key slots and registers keep their one canonical form. -/
def Obligations.EveryStepKeepsTheForm : Prop :=
  ∀ s t : State, Formed s → step s = .next t → Formed t

/-- The state after reset: the die is held in power-on reset with the count at 0, no ring is enabled, every port is DOWN, the node has no ID,
nothing is logged, the debug level is CLOSED and no command waits; registers read as the map's Reset column has them. -/
def Obligations.ResetState : Prop :=
  State.reset.die.mode = .porstLow ∧ State.reset.tim.count = 0 ∧ State.reset.tim.held = true ∧ State.reset.tim.orphan = true ∧
  (∀ q, (State.reset.sq q).st = .disabled ∧ (State.reset.cq q).st = .disabled) ∧ (∀ k, (State.reset.port k).st = .down) ∧
  State.reset.lnk.valid = false ∧ State.reset.flt.status = 0 ∧ State.reset.flt.hist = [] ∧ State.reset.regs.clampLog = [] ∧
  State.reset.regs.clampNew = false ∧ State.reset.dbg.level = 0 ∧ State.reset.dbg.lockout = false ∧ State.reset.sec.slots = [] ∧
  State.reset.pending = [] ∧ (∀ n i, State.reset.cfgWord n i = regReset n i) ∧ Formed State.reset ∧
  State.reset.fld .budCap 0 0 16 = 48000

/-- R545 and R549. Each register lies where the two maps put it, and nowhere else: its address finds it, and an address that finds a register is
that register's. -/
def Obligations.RegisterMapsAgree : Prop :=
  (∀ (n : RegName) (i : Nat), i < (regPlace n).count →
    ((regPlace n).ind = false → ∀ b, b < 4 → locateDirect (regAddr n i + b) = some (n, i)) ∧
    ((regPlace n).ind = true → locateIndirect (regAddr n i) = some (n, i))) ∧
  (∀ (a : Nat) (n : RegName) (i : Nat),
    (locateDirect a = some (n, i) → (regPlace n).ind = false ∧ i < (regPlace n).count ∧ regAddr n i = a / 4 * 4) ∧
    (locateIndirect a = some (n, i) → (regPlace n).ind = true ∧ i < (regPlace n).count ∧ regAddr n i = a)) ∧
  (∀ (n m : RegName) (i j : Nat), i < (regPlace n).count → j < (regPlace m).count → (n ≠ m ∨ i ≠ j) → regKey n i ≠ regKey m j)

/-- R38, R365 and R543. A write on a path that is not served changes nothing, but for one on the CFG path that finds the node in P4: it waits, and
wakes the node. One that finds it in P2 or P3 wakes it and is carried out. R380, R512 and R554. In the Click hold every write of a register, and
in the safe state every one but to RST_CTL and FLT_ACK, is ignored and reported: one entry of the clamp log of KIND IGNORED over the whole
register. R554. A write of an action that meets its owning block in a block reset waits: nothing happens but that it is noted; it acts once the
block runs. -/
def Obligations.WritesThatDoNotAct : Prop :=
  (∀ (c : Instr) (p : Path) (n : RegName) (i : Nat) (d : Word) (s : State), named c = some (p, n, i, d) →
      (s.pathWrites p = false → s.cfgSleeps p = false → exec c s = .next s) ∧
      (s.cfgSleeps p = true → ∃ (port : Nat) (fail : Option (BitVec 4)),
        exec c s = .next (s.park (.access (regPlace n).ind (regAddr n i) (some d) port fail))) ∧
      (p = .cfg → s.pathWrites p = true → 2 ≤ s.pwr.state.toNat → exec c s = exec c (s.startExit 2))) ∧
  (∀ (c : Instr) (p : Path) (n : RegName) (i : Nat) (d : Word) (s : State),
      named c = some (p, n, i, d) → s.pathWrites p = true → (p = .cfg → s.pwr.state.toNat < 2) →
      (s.die.mode = .clickHold ∨ (s.die.mode = .safe ∧ n ≠ .rstCtl ∧ n ≠ .fltAck)) → ∃ r : Regs,
      exec c s = .next { s with regs := r }.noteLevel ∧ r.cfg = s.regs.cfg ∧ r.par = s.regs.par ∧ r.late = s.regs.late ∧
      r.clampNew = true ∧ r.clampNext = s.regs.clampNext + 1 ∧
      (∃ e, r.clampLog.getLast? = some e ∧ e.whr =
        packed [(regAddr n i, 0, 24), (oneIf (regPlace n).ind, 24, 1), (pathSource p, 25, 3), (2, 28, 4)] ∧
        e.field = 0 ∧ e.fieldHi = 31 ∧ e.data = d ∧ e.seq = s.regs.clampNext)) ∧
  ((∀ (p : Path) (s : State), s.pathWrites p = true → s.die.mode = .running → s.regs.late = [] → (p = .cfg → s.pwr.state.toNat < 2) →
      s.die.blockBusy.contains 0x08 = true → ∃ e : LateWrite,
        exec (.calNow p) s = .next { s with regs := { s.regs with late := [e] } }.noteLevel ∧
        e.place = some (.calCtl, 0) ∧ e.data = 1) ∧
    (∀ (e : LateWrite) (s : State), s.regs.late = [e] → e.place = some (.calCtl, 0) → e.data = 1 → e.old = e.new →
      s.die.mode = .running → s.ownerStalled .calCtl 0 = false →
      s.actLate = { s with regs := { s.regs with late := [] } }.calNow))

/-- R544, R553 and R555. A direct address without a register takes no write, and the write is reported with KIND NO_REGISTER; a write to the
address of a register reaches that register; a write to TW_CFG holds each field within its clamp, and one to OTP_ADDR or OTP_WDATA stores its
value. -/
def Obligations.RegisterWriteClampsOrReports : Prop :=
  ∀ (p : Path) (addr : BitVec 16) (data : Word) (s : State), s.pathWrites p = true → (p = .cfg → s.pwr.state.toNat < 2) →
    (locateDirect addr.toNat = none → ∃ r : Regs,
      exec (.registerWrite p addr data) s = .next { s with regs := r }.noteLevel ∧ r.cfg = s.regs.cfg ∧ r.clampNew = true ∧
      (∃ e, r.clampLog.getLast? = some e ∧ e.whr =
        packed [(addr.toNat, 0, 24), (0, 24, 1), (pathSource p, 25, 3), (4, 28, 4)] ∧ e.field = 0 ∧ e.fieldHi = 31 ∧ e.data = data)) ∧
    (addr = 0x1700 → s.die.mode = .running → s.regs.late = [] → Formed s → ∃ u : State,
      exec (.registerWrite p addr data) s = .next u.noteLevel ∧ Only [.regs] s u ∧ u.regs.late = [] ∧
      u.fld .twCfg 0 0 2 = min 2 (fieldOf data 0 2) ∧ u.fld .twCfg 0 2 3 = fieldOf data 2 3 ∧
      u.fld .twCfg 0 16 7 = min 100 (max 1 (fieldOf data 16 7)) ∧
      (u.regs.clampNext = s.regs.clampNext ↔
        fieldOf data 0 2 ≤ 2 ∧ 1 ≤ fieldOf data 16 7 ∧ fieldOf data 16 7 ≤ 100)) ∧
    (∀ (m : RegName) (i : Nat), locateDirect addr.toNat = some (m, i) → m ≠ .indWin → Acts p m i s → ∃ u : State,
      u = s.writeReg ⟨pathSource p, false, addr.toNat, data, 0, none⟩ m i ∧ exec (.registerWrite p addr data) s = .next u.noteLevel) ∧
    (addr = 0x1304 → Acts p .otpAddr 0 s → Formed s → ∃ u : State,
      exec (.registerWrite p addr data) s = .next u.noteLevel ∧ Only [.regs] s u ∧ u.fld .otpAddr 0 0 12 = fieldOf data 0 12) ∧
    (addr = 0x1308 → Acts p .otpWdata 0 s → Formed s → ∃ u : State,
      exec (.registerWrite p addr data) s = .next u.noteLevel ∧ Only [.regs] s u ∧ u.cfgWord .otpWdata 0 = data)

/-- R547 and R548. An access to IND_WINk reaches the indirect word IND_ADDR + k of its own path; the pointer of that path alone moves on, by 1
after IND_WIN0 with INC 1 and by 32 after IND_WIN31 with INC 2. -/
def Obligations.IndirectWindowAccess : Prop :=
  ∀ (p : Path) (k : BitVec 5) (s : State) (a : Nat),
    a = ((s.regs.ptr (pathSource p)).addr.toNat + k.toNat) % 2 ^ 24 → (p = .cfg → s.pwr.state.toNat < 2) → ∃ q : IndPtr,
    (q.inc = (s.regs.ptr (pathSource p)).inc ∧ q.addr = (s.regs.ptr (pathSource p)).addr +
      (if q.inc = 1 ∧ k = 0 then 1 else if q.inc = 2 ∧ k = 31 then 32 else 0)) ∧
    (s.pathReads p = true → locateIndirect a = none →
      exec (.indWinAccess p k none) s = .next
        ({ s with regs := s.regs.setPtr (pathSource p) q }.emit (.regData p 0))) ∧
    (s.pathReads p = true → ∀ n i, locateIndirect a = some (n, i) →
      exec (.indWinAccess p k none) s = .next
        ({ s with regs := s.regs.setPtr (pathSource p) q }.emit (.regData p (s.readReg (pathSource p) n i)))) ∧
    (∀ x : Word, s.pathWrites p = true →
      (∀ (n : RegName) (i : Nat), locateIndirect a = some (n, i) → exec (.indWinAccess p k (some x)) s = .next
        ((s.writeReg ⟨pathSource p, true, a, x, 0, none⟩ n i).advance (pathSource p) k.toNat).noteLevel) ∧
      (locateIndirect a = none → exec (.indWinAccess p k (some x)) s = .next
        ((s.clampNote ⟨pathSource p, true, a, x, 0, none⟩ 4 0 31 x.toNat 0).advance (pathSource p) k.toNat).noteLevel))

/-- R503. A write of FLT_ACK clears every status bit whose last event came at or before the number written, and nothing else; a number that no
entry has carried changes only the clamp log. -/
def Obligations.FltAckClearsAcknowledgedBits : Prop :=
  ∀ (p : Path) (data : Word) (s : State), Acts p .fltAck 0 s →
    (s.flt.carried (data.toNat % 65536) = true → ∃ st : BitVec 96,
      exec (.fltAck p data) s = .next { s with flt := { s.flt with status := st } }.noteLevel ∧
      ∀ k, k < 96 → st.getLsbD k =
        (s.flt.status.getLsbD k && !(atOrBefore (Tab.get (0, 0) s.flt.last k).2 (BitVec.ofNat 16 data.toNat) s.flt.next))) ∧
    (s.flt.carried (data.toNat % 65536) = false →
      exec (.fltAck p data) s = .next (ignored p .fltAck 0 data 0 16 s).noteLevel)

/-- R502. A read of FLT_STAT0 takes the snapshot and returns its first word. R517. A write of FLT_INJECT with KEY 0x69 in FACTORY raises the named
source with cause code 0xFF, and with PARITY 1 the die goes to the safe state with bit 92 set; its refusals change only the clamp log, and
the first check that fails decides the entry. -/
def Obligations.FaultSnapshotAndInjection : Prop :=
  (∀ (p : Path) (s : State),
      (s.pathReads p = true → (p = .cfg → s.pwr.state.toNat < 2) →
        exec (.fltStat0Read p) s = .next
          ({ s with flt := { s.flt with snap :=
              { status := s.flt.status, seq := if s.flt.made = 0 then 0 else s.flt.next - 1, first := s.flt.first,
                hist := s.flt.hist } } }.emit (.regData p (s.flt.status.setWidth 32)))) ∧
      (s.pathReads p = false → s.cfgSleeps p = false → exec (.fltStat0Read p) s = .next s)) ∧
  (∀ (p : Path) (data : Word) (s : State), Acts p .fltInject 0 s →
      (fieldOf data 8 8 ≠ 0x69 → exec (.fltInject p data) s = .next (ignored p .fltInject 0 data 8 8 s).noteLevel) ∧
      (fieldOf data 8 8 = 0x69 → s.lifecycle ≠ 0 →
        exec (.fltInject p data) s = .next (turnedAway p .fltInject 0 data s).noteLevel) ∧
      (fieldOf data 8 8 = 0x69 → s.lifecycle = 0 → fieldOf data 7 1 = 0 → 95 < fieldOf data 0 7 →
        exec (.fltInject p data) s = .next (ignored p .fltInject 0 data 0 7 s).noteLevel) ∧
      (fieldOf data 8 8 = 0x69 → s.lifecycle = 0 → fieldOf data 7 1 = 0 → fieldOf data 0 7 ≤ 95 →
        exec (.fltInject p data) s = .next { s with flt := { s.flt with
          lines := (s.flt.lines.filter fun (x : FaultLine) => x.src.toNat != fieldOf data 0 7) ++ [(⟨BitVec.ofNat 7 (fieldOf data 0 7), 0xFF⟩ : FaultLine)] } }.noteLevel) ∧
      (fieldOf data 8 8 = 0x69 → s.lifecycle = 0 → fieldOf data 7 1 = 1 → ∃ t : State,
        exec (.fltInject p data) s = .next t.noteLevel ∧ t.die.mode = .safe ∧ t.flt.status.getLsbD 92 = true))

/-- R497 and R509. A counting window that has run its WIN_MS milliseconds ends and its count returns to 0; the shadows of a source whose resets
have ended are gone, and nothing else changes, but that after a reset of the die a source still at fault is raised again (R428). R515. A parity
mismatch in the collector takes the die to the safe state, with a history entry where the history's own parity holds and without one where it
does not. R516 and R559. The parity scan raises source 81 once for every register whose stored parity does not fit, and a register file whose
parity fits is left alone. -/
def Obligations.FaultWindowsShadowsAndParity : Prop :=
  ((∀ (src : BitVec 7) (t : Nat) (s : State), Tab.get none s.flt.window src.toNat = some t →
      t + 1000 * s.fld .fltSrcW1 src.toNat 0 16 ≤ s.now →
      exec (.faultWindowEnd src) s = .next { s with flt := { s.flt with
        counts := Tab.set 0 s.flt.counts src.toNat 0, window := Tab.set none s.flt.window src.toNat none } }) ∧
    (∀ (src : BitVec 7) (s : State), ∃ u : State, Only [.flt] s u ∧ u.flt = { s.flt with shadows := u.flt.shadows } ∧
      (∀ e : Nat × Nat, e ∈ u.flt.shadows ↔ e ∈ s.flt.shadows ∧ (e.1 ≠ src.toNat ∨
        (e.2 = 0x100 ∧ (s.die.mode = .resetHold ∨ s.die.mode = .restarting)) ∨
        (e.2 ≠ 0x100 ∧ s.die.resetting (BitVec.ofNat 8 e.2) = true))) ∧
      (((src.toNat, 0x100) ∉ s.flt.shadows ∨ s.die.mode = .resetHold ∨ s.die.mode = .restarting ∨ u.masked src.toNat = true ∨
          u.standing src.toNat = none) → exec (.shadowEnd src) s = .next u) ∧
      (∀ d, (src.toNat, 0x100) ∈ s.flt.shadows → s.die.mode ≠ .resetHold → s.die.mode ≠ .restarting → u.masked src.toNat = false →
        u.standing src.toNat = some d → exec (.shadowEnd src) s = .next (u.raise src.toNat d)))) ∧
  (∀ (h : Bool) (s : State), s.die.mode = .running ∨ s.die.mode = .restarting ∨ s.die.mode = .clickHold ∨ s.die.mode = .resetHold ∨
        s.die.mode = .startWatch →
      ∃ u t : State, exec (.collectorParity h) s = .next t ∧ t = u.enterSafe ∧ t.die.mode = .safe ∧
        u.flt.status = s.flt.status ||| BitVec.ofNat 96 (2 ^ 92) ∧ (Tab.get (0, 0) u.flt.last 92).1 = 3 ∧
        (h = true → s.flt.histOdd = false → u.flt.made = s.flt.made + 1 ∧
          u.flt.hist.getLast?.map (fun e => (e.source, e.cls, e.react)) = some (92, 3, 6)) ∧
        ((h = false ∨ s.flt.histOdd = true) → u.flt.hist = s.flt.hist ∧ u.flt.made = s.flt.made)) ∧
  (∀ s : State, s.scans = true →
      (s.regs.par = [] → exec (.configParityScan none) s = .next s) ∧
      (∀ k, s.regs.par = [(k, true)] → exec (.configParityScan none) s = .next (s.raise 81 (parityDetail k))) ∧
      (∀ u : Upset, (∀ e ∈ (s.upset u).regs.par, e.2 = true → collectorKey e.1 = false) → ∃ t : State,
        exec (.configParityScan (some u)) s = .next t ∧ Only [.regs, .rng, .pcd, .lnk, .flt] s t))

/-- R493, R496 to R501 and R506 to R510. One line sampled alone is graded by its source's class, or in counting mode by its count against the two
thresholds; its event is entered in the history under the next number, its status bit set, and its reaction performed where it may be; one that
FLT_INJECT has made of a source with a fixed reaction takes that too. A shadowed
line is entered with class 0 and sets no bit. A collector that does not run samples nothing. R499. The events of one cycle are entered by class,
the highest first, and within a class by source, the lowest first; none is left out and none is added. -/
def Obligations.FaultEventsAreRecordedInOrder : Prop :=
  ((∀ (ext : List FaultLine) (s : State), s.collects = false → exec (.faultEvent ext) s = .next s) ∧
    (∀ s : State, s.collects = true → s.flt.lines = [] → exec (.faultEvent []) s = .next s.noteLevel) ∧
    (∀ (l : FaultLine) (s e : State) (k : Nat), s.collects = true → s.flt.lines = [l] → k = l.src.toNat → k < 96 →
      e = { s with flt := { s.flt with lines := [] } } → s.masked k = false → s.flag .fltSrcW0 k 0 = false → ∃ (g : Graded) (u v : State),
      g = ⟨k, l.detail, false, s.fld .fltSrcW0 k 1 2, 0, s.reactionOf k (s.fld .fltSrcW0 k 1 2)⟩ ∧
      exec (.faultEvent []) s = .next (if e.performs g.react g then v.perform g else v).noteLevel ∧
      (fieldOf (l.detail.setWidth 32) 0 8 ≠ 0xFF → v = u) ∧
      (fieldOf (l.detail.setWidth 32) 0 8 = 0xFF → v = if fixedSource k = true ∧ s.die.mode ≠ .safe then u.fixedReaction k else u) ∧
      u = e.record g false (if e.performs g.react g then g.react else 0) ∧
      u.flt.status = s.flt.status ||| BitVec.ofNat 96 (2 ^ k) ∧ u.flt.next = s.flt.next + 1 ∧ u.flt.made = s.flt.made + 1 ∧ u.flt.lines = [] ∧
      u.flt.last = Tab.set (0, 0) s.flt.last k (g.cls, s.flt.next) ∧ (s.flt.status ≠ 0 → u.flt.first = s.flt.first) ∧
      (u.flt.hist.length ≤ 16 ∨ 16 < s.flt.hist.length) ∧
      (∃ h, u.flt.hist.getLast? = some h ∧ h.source = BitVec.ofNat 8 k ∧ h.cls = BitVec.ofNat 8 g.cls ∧ h.seq = s.flt.next ∧ h.detail = l.detail ∧
        h.time = s.tim.count ∧ h.shadowed = false ∧ h.react = BitVec.ofNat 8 (if e.performs g.react g then g.react else 0))) ∧
    (∀ (g : Graded) (same : Bool) (r : Nat) (s : State), g.shadow = true →
      (s.record g same r).flt.status = s.flt.status ∧ (s.record g same r).flt.shadowN = satInc s.flt.shadowN 1 ∧
      (s.record g same r).flt.last = s.flt.last ∧ Only [.flt] s (s.record g same r)) ∧
    (∀ (l : FaultLine) (s : State) (k : Nat), k = l.src.toNat → s.masked k = false → s.flag .fltSrcW0 k 0 = true → ∀ c,
      c = Tab.get 0 s.flt.counts k + 1 → (s.grade l).1.count = c ∧ Tab.get 0 (s.grade l).2.flt.counts k = c ∧
      (s.grade l).1.cls = (if s.fld .fltSrcW0 k 24 8 ≤ c then 3 else if s.fld .fltSrcW0 k 16 8 ≤ c then 2 else 1) ∧
      (Tab.get none s.flt.window k = none → Tab.get none (s.grade l).2.flt.window k = some s.now))) ∧
  (∀ gs : List Graded, (∀ g ∈ gs, g.cls ≤ 3 ∧ g.src < 96) →
      (entryOrder gs).Pairwise (fun a b => b.cls < a.cls ∨ (a.cls = b.cls ∧ a.src ≤ b.src)) ∧ (∀ g, g ∈ entryOrder gs ↔ g ∈ gs) ∧
      (entryOrder gs).length = gs.length)

/-- R552 and R558. A write of CLAMP_ACK clears NEW when its number is at or after the newest entry's, and changes nothing else. R375. A write of
THM_RETRUST makes the sensors it names trusted again, with both runs of their judgement at 0. R382. A write of CAL_CTL.NOW makes every item due,
and the rounds that may start do. -/
def Obligations.AckRetrustAndCalibrateNow : Prop :=
  (∀ (p : Path) (data : Word) (s : State), Acts p .clampAck 0 s →
      exec (.clampAck p data) s = .next
        { s with regs := { s.regs with clampNew :=
            s.regs.clampNew && !(atOrBefore (s.regs.clampNext - 1) (BitVec.ofNat 16 data.toNat) s.regs.clampNext) } }.noteLevel) ∧
  (∀ (p : Path) (data : Word) (s : State), Acts p .thmRetrust 0 s →
      exec (.thmRetrust p data) s = .next { s with thm := { s.thm with
        suspect := s.thm.suspect &&& ~~~ data, invalid := s.thm.invalid &&& ~~~ data,
        badRun := ((List.range 32).filter fun t => data.getLsbD t).foldl (fun l t => Tab.set 0 l t 0) s.thm.badRun,
        lowRun := ((List.range 32).filter fun t => data.getLsbD t).foldl (fun l t => Tab.set 0 l t 0) s.thm.lowRun } }.noteLevel) ∧
  (∀ (p : Path) (s : State), Acts p .calCtl 0 s →
      exec (.calNow p) s = .next { s with cal := { s.cal with
        due := List.range 36, now_ := true } }.judgeCal.noteLevel)

/-- R462 and R468. BST_CTL.RUN starts a run over the enabled partitions in rising order, and is ignored while one is in progress and where the self-test memory failed; BST_CTL.STOP
ends the run after its segment, or at once between two. R457, R459, R461, R463, R467 and R468. The end of a segment, once the bursts of its channels
have ended: its 14 patterns count, and after the last one the MISR is judged against the expected signature, which needs the trusted CALIB region; a
failing partition sets its bit and raises source 83, a STOP ends the run with
result STOPPED. What falls due by PERIOD_H is noted. -/
def Obligations.LogicSelfTestRuns : Prop :=
  (∀ (p : Path) (s : State), Acts p .bstCtl 0 s →
      ((s.bst.state ≠ 0 ∨ s.bst.memFail.getLsbD 15 = true) → exec (.bistRun p) s = .next (ignored p .bstCtl 0 1 0 1 s).noteLevel) ∧
      (s.bst.state = 0 → s.bst.memFail.getLsbD 15 = false → ∃ b : Bst,
        exec (.bistRun p) s = .next { s with bst := b }.noteLevel ∧ b.patterns = 4096 * 2 ^ s.fld .bstCfg 0 16 2 ∧
        b.results = s.bst.results ∧ b.due = s.bst.due ∧ b.lastStart = s.bst.lastStart ∧
        (∀ k l, (List.range 6).filter (fun q => s.fld .bstCfg 0 8 8 / 2 ^ q % 2 == 1) = k :: l →
          b.state = 1 ∧ b.part = k ∧ b.todo = l ∧ b.applied = 0)) ∧
      (s.bst.state = 1 → s.bst.inSegment = true →
        exec (.bistStop p) s = .next { s with bst := { s.bst with stopReq := true } }.noteLevel) ∧
      (s.bst.state = 1 → s.bst.inSegment = false → ∃ r : Tab BstResult,
        exec (.bistStop p) s = .next { s with bst := { s.bst with
          state := 0, part := 0, todo := [], inSegment := false, stopReq := false, results := r } }.noteLevel ∧
        ((Tab.get .none r s.bst.part).result = 3)) ∧
      (s.bst.state ≠ 1 → exec (.bistStop p) s = .next s.noteLevel)) ∧
  ((∀ (misr : Word) (s : State), s.die.blockPend = [] → s.regs.late = [] →
      ((s.bst.inSegment = false ∨ s.partQuiet s.bst.part = false) → exec (.bistSegmentEnd misr) s = .next s) ∧
      (s.bst.inSegment = true → s.partQuiet s.bst.part = true → s.bst.state = 1 → ∃ u : State,
        exec (.bistSegmentEnd misr) s = .next (u.afterSegment s.bst.part (s.partChans s.bst.part)).drainBlocks.actLate ∧
        Only [.bst, .flt] s u ∧ u.bst.inSegment = false ∧
        (s.bst.applied + 14 < s.bst.patterns → s.bst.stopReq = false →
          u = { s with bst := { s.bst with
            inSegment := false, lastEnd := s.now, misr := misr, lfsr := Config.lfsrAfter s.bst.lfsr, applied := s.bst.applied + 14 } }) ∧
        (s.bst.applied + 14 < s.bst.patterns → s.bst.stopReq = true → u.bst.state = 0 ∧
          (Tab.get .none u.bst.results s.bst.part).result = 3 ∧ u.flt = s.flt) ∧
        (s.bst.patterns ≤ s.bst.applied + 14 → s.otp.trusted.getLsbD 3 = true → s.bistExpect s.bst.part s.bst.patterns = misr →
          (Tab.get .none u.bst.results s.bst.part).result = 1 ∧ (Tab.get .none u.bst.results s.bst.part).sign = misr ∧
          u.bst.logicFail = s.bst.logicFail &&& ~~~ BitVec.ofNat 8 (2 ^ s.bst.part) ∧ u.flt = s.flt ∧
          ((s.bst.todo = [] ∨ s.bst.stopReq = true) → u.bst.state = 0) ∧
          (∀ k l, s.bst.todo = k :: l → s.bst.stopReq = false → u.bst.part = k ∧ u.bst.todo = l ∧ u.bst.applied = 0)) ∧
        (s.bst.patterns ≤ s.bst.applied + 14 → (s.otp.trusted.getLsbD 3 = false ∨ s.bistExpect s.bst.part s.bst.patterns ≠ misr) →
          (Tab.get .none u.bst.results s.bst.part).result = 2 ∧
          u.bst.logicFail = s.bst.logicFail ||| BitVec.ofNat 8 (2 ^ s.bst.part) ∧
          u.flt.lines.getLast? = some ⟨83, BitVec.ofNat 64 (1 + 256 * s.bst.part)⟩))) ∧
    (∀ s : State,
      (s.flag .bstCfg 0 0 = true → s.bst.memFail.getLsbD 15 = false → s.die.mode = .running →
        s.bst.lastStart + 3600000000 * s.fld .bstCfg 0 24 8 ≤ s.now →
        exec .bistPeriodicDue s = .next { s with bst := { s.bst with due := true } }) ∧
      ((s.flag .bstCfg 0 0 = false ∨ s.bst.memFail.getLsbD 15 = true ∨ s.die.mode ≠ .running ∨
        s.now < s.bst.lastStart + 3600000000 * s.fld .bstCfg 0 24 8) → exec .bistPeriodicDue s = .next s)))

/-- R465 and R466. A stack test waits for the Hive core (R26). One whose first five steps fail somewhere then ends at once: it clears every
readiness bit, keeps no slot, and its first failing step is SCRAP_STEP; one that passes them goes on to the retention step, which waits for its
temperatures, starts with bank B0, goes from each bank to the next, and clears every readiness bit with its verdict at the end. One that may not
run is ignored and reported. R464 and R467. A memory group's result is noted once, while its self-test may end: a failing group sets its bit and
raises source 83, and the last group ends the run. -/
def Obligations.StackTestAndMemorySelfTest : Prop :=
  ((∀ (p : Path) (k : Option (BitVec 4)) (s : State), Acts p .bstCtl 0 s →
      (s.stackReady = true → s.bst.state = 0 → s.hiveOk = true → 1 ≤ (s.stackFirst (k.getD 0)).toNat →
        (s.stackFirst (k.getD 0)).toNat ≤ 5 → ∃ t : State,
        exec (.stackTest p k) s = .next t.noteLevel ∧ t.pcd.rdy = [] ∧ t.pcd.store = [] ∧ t.sec.slots = [] ∧
        t.bst.scrapStep = s.stackFirst (k.getD 0) ∧ t.bst.scrap = true ∧ t.bst.memDone = 0xFFFF ∧ t.bst.state = 0 ∧
        t.otp = s.otp ∧ t.thm = s.thm ∧ t.cal = s.cal ∧ t.dbg = s.dbg ∧ t.tw = s.tw) ∧
      (s.stackReady = true → s.bst.state = 0 → s.hiveOk = true →
        ((s.stackFirst (k.getD 0)).toNat = 0 ∨ 5 < (s.stackFirst (k.getD 0)).toNat) → ∃ t : State,
        exec (.stackTest p k) s = .next t.noteLevel ∧ t.bst.state = 2 ∧
        t.bst.retain = some ⟨true, 0, none, 0, 0, s.stackFirst (k.getD 0)⟩ ∧
        t.bst.memDone = 0xFFFF ∧ t.sec.slots = [] ∧ t.pcd.rdy = s.pcd.rdy ∧ t.bst.scrap = s.bst.scrap ∧
        Only [.bst, .sec, .pcd, .scb, .rng, .qos, .tch, .lnk, .free, .flt] s t) ∧
      (s.stackReady = true → s.bst.state = 0 → s.hiveOk = false → exec (.stackTest p k) s = .next
        { s with bst := { s.bst with state := 2, retain := some ⟨false, 0, none, 0, 0, k.getD 0⟩ } }.noteLevel) ∧
      ((s.stackReady = false ∨ s.bst.state ≠ 0) → exec (.stackTest p k) s = .next (ignored p .bstCtl 0 4 2 1 s).noteLevel)) ∧
    (∀ (r : RetainRun) (s : State), s.bst.retain = some r →
        (s.hiveOk = false → s.retainTick = s) ∧
        (s.hiveOk = true → r.begun = false → s.retainTick = s.stackBegin r) ∧
        (s.hiveOk = true → r.begun = true →
          (r.at_ = none → s.soaked = false → s.retainTick = s) ∧
          (r.at_ = none → s.soaked = true → ∃ u : State, Only [.bst, .pcd] s u ∧ s.retainTick = u ∧ u.bst = { s.bst with
            retain := some { r with at_ := some s.now, written := 1, read := 0, fail := (u.bst.retain.getD r).fail } }) ∧
          (∀ a, r.at_ = some a → a + 47500 ≤ s.now → r.bank ≠ 15 → ∃ u : State, Only [.bst, .pcd] s u ∧ s.retainTick = u ∧
            ∃ f : BitVec 4, (f = r.fail ∨ f = 6) ∧ u.bst = { s.bst with
              retain := some { r with bank := r.bank + 1, at_ := some s.now, written := 1, read := 0, fail := f } }) ∧
          (∀ a, r.at_ = some a → a + 47500 ≤ s.now → r.bank = 15 → ∃ f : BitVec 4, Only [.bst, .pcd, .tch] s s.retainTick ∧
            s.retainTick.bst = { s.bst with state := 0, retain := none, scrap := f != 0, scrapStep := f } ∧
            s.retainTick.pcd.rdy = [] ∧ s.retainTick.pcd.store = []) ∧
          (∀ a, r.at_ = some a → s.now < a + 47500 → ∃ (w d : Nat) (f : BitVec 4), Only [.bst, .pcd] s s.retainTick ∧
            s.retainTick.bst = { s.bst with retain := some { r with written := w, read := d, fail := f } } ∧ w ≤ 4128 ∧
            (f = r.fail ∨ f = 6) ∧ (s.now < a + 33152 → d = 0) ∧ (a + 14348 ≤ s.now → w = 4128))))) ∧
  (∀ (g : BitVec 4) (fails : Nat) (s : State),
      (s.memoryRuns g.toNat = false → exec (.memoryBistDone g fails) s = .next s) ∧
      ((s.die.mode = .running ∨ (s.die.mode = .restarting ∧ g ≠ 0)) → s.bst.state ≠ 1 → s.bst.state ≠ 2 →
        s.bst.memDone.getLsbD g.toNat = false → s.clk.xtalGood = true → (g = 0 ∨ s.clk.fabA = true) → ∃ t : State,
        exec (.memoryBistDone g fails) s = .next t ∧ t.bst.memDone = s.bst.memDone ||| BitVec.ofNat 16 (2 ^ g.toNat) ∧
        (0 < fails → ∃ l ∈ t.flt.lines, l.src = 83 ∧ l.detail = BitVec.ofNat 64 (2 + 256 * g.toNat)) ∧
        t.bst.memFail = (if 0 < fails then s.bst.memFail ||| BitVec.ofNat 16 (2 ^ g.toNat)
          else s.bst.memFail &&& ~~~ BitVec.ofNat 16 (2 ^ g.toNat)) ∧
        t.bst.state = if t.bst.memDone = 0xFFFF then 0 else 3))

/-- R450. OTP_CMD.OP 1: the checks in their order, and the programming that starts where none refuses. R444. LOCK of a region: refused on a wrong KEY,
while a command runs, by a path that may not, on a bad or marginal word, on a digest that does not fit and on a lock word that is not blank; else the digest words where they are blank, and then the lock word with 1, are programmed one
after another. -/
def Obligations.OtpProgramAndLock : Prop :=
  (∀ (p : Path) (s : State) (a : Nat), Acts p .otpCmd 0 s → a = s.fld .otpAddr 0 0 12 →
      (∀ key : Byte, key ≠ 0xA5 →
        exec (.otpProgram p key) s = .next (ignored p .otpCmd 0 ((key.setWidth 32 <<< 8) ||| 1) 8 8 s).noteLevel) ∧
      (s.otp.busy.isSome = true →
        exec (.otpProgram p 0xA5) s = .next (turnedAway p .otpCmd 0 0xA501 s).noteLevel) ∧
      (s.otp.busy = none → (regionAt a).any s.otp.isLocked = true →
        exec (.otpProgram p 0xA5) s = .next { s with otp := { s.otp with err := 1, locked := true } }.noteLevel) ∧
      (s.otp.busy = none → (regionAt a).any s.otp.isLocked = false → otpDenied (pathSource p) s.lifecycle a = true →
        exec (.otpProgram p 0xA5) s = .next { s with otp := { s.otp with err := 4, locked := false } }.noteLevel) ∧
      (s.otp.busy = none → (regionAt a).any s.otp.isLocked = false → otpDenied (pathSource p) s.lifecycle a = false →
        s.otp.isUsed a = true →
        exec (.otpProgram p 0xA5) s = .next { s with otp := { s.otp with err := 2, locked := false } }.noteLevel) ∧
      (s.otp.busy = none → (regionAt a).any s.otp.isLocked = false → otpDenied (pathSource p) s.lifecycle a = false →
        s.otp.isUsed a = false →
        exec (.otpProgram p 0xA5) s =
          .next (s.otpGo ⟨false, 0, BitVec.ofNat 12 a, s.cfgWord .otpWdata 0, [], 0, pathSource p⟩).noteLevel)) ∧
  (∀ (p : Path) (r : BitVec 2) (s : State), Acts p .otpCmd 0 s →
      (∀ key : Byte, key ≠ 0xA5 → exec (.otpLock p key r) s =
        .next (ignored p .otpCmd 0 ((key.setWidth 32 <<< 8) ||| (r.setWidth 32 <<< 4) ||| 2) 8 8 s).noteLevel) ∧
      (s.otp.busy.isSome = true → exec (.otpLock p 0xA5 r) s =
        .next (turnedAway p .otpCmd 0 (0xA502 ||| (r.setWidth 32 <<< 4)) s).noteLevel) ∧
      (s.otp.busy = none → p ≠ .hive → 2 ≤ s.lifecycle →
        exec (.otpLock p 0xA5 r) s = .next { s with otp := { s.otp with err := 4, locked := false } }.noteLevel)) ∧
  (∀ (p : Path) (r : BitVec 2) (s : State), Acts p .otpCmd 0 s → s.otp.busy = none → (p = .hive ∨ s.lifecycle < 2) →
      (s.otp.spoilt r.toNat = true →
        exec (.otpLock p 0xA5 r) s = .next { s with otp := { s.otp with err := 5, locked := false } }.noteLevel) ∧
      (s.otp.spoilt r.toNat = false → (∀ k, k < 8 → s.otp.isUsed (0xFC8 + 8 * r.toNat + k) = false) → ∃ c : OtpCmd,
        exec (.otpLock p 0xA5 r) s = .next (s.otpGo c).noteLevel ∧ c.why = 0 ∧ c.who = pathSource p ∧
        (c.addr, c.data) :: c.rest =
          ((List.range 8).zip (bytesWords (s.otp.digest r.toNat))).map (fun e => (BitVec.ofNat 12 (0xFC8 + 8 * r.toNat + e.1), e.2)) ++
            [(BitVec.ofNat 12 (0xFC0 + r.toNat), 1)]) ∧
      (s.otp.spoilt r.toNat = false → (∃ k, k < 8 ∧ s.otp.isUsed (0xFC8 + 8 * r.toNat + k) = true) →
        bytesWords (s.otp.digest r.toNat) ≠ Tab.getList 0 s.otp.shadow (0xFC8 + 8 * r.toNat) 8 →
        exec (.otpLock p 0xA5 r) s = .next { s with otp := { s.otp with err := 6, locked := false } }.noteLevel) ∧
      (s.otp.spoilt r.toNat = false → (∃ k, k < 8 ∧ s.otp.isUsed (0xFC8 + 8 * r.toNat + k) = true) →
        bytesWords (s.otp.digest r.toNat) = Tab.getList 0 s.otp.shadow (0xFC8 + 8 * r.toNat) 8 → s.otp.isLocked r.toNat = true →
        exec (.otpLock p 0xA5 r) s = .next { s with otp := { s.otp with err := 2, locked := false } }.noteLevel) ∧
      (s.otp.spoilt r.toNat = false → (∃ k, k < 8 ∧ s.otp.isUsed (0xFC8 + 8 * r.toNat + k) = true) →
        bytesWords (s.otp.digest r.toNat) = Tab.getList 0 s.otp.shadow (0xFC8 + 8 * r.toNat) 8 → s.otp.isLocked r.toNat = false →
        ∃ c : OtpCmd,
        exec (.otpLock p 0xA5 r) s = .next (s.otpGo c).noteLevel ∧ c.why = 0 ∧ c.who = pathSource p ∧
        c.addr = BitVec.ofNat 12 (0xFC0 + r.toNat) ∧ c.data = 1 ∧ c.rest = []))

/-- R450 and R444. The end of the programming of a word of a register's command: a word that reads back right at strict margin takes its new value
in the shadow at once, and the next word that is blank follows; a word that fails keeps its shadow, ends the command with VERIFY, and is no longer
blank. A region found untrusted then raises source 82 (R441). R446 and R483. A counter step
that a transition asked for ends with the debug session ended, whether its word verified or not. R451 and R535. A command that the Hive core
issues first switches VQPS on, by a two-byte write to the regulator that BOOT word 0x002 names; pulses wait until a millisecond after that write
has ended well, and without it the command ends VERIFY with no pulse. A command from the bus or a link starts at once. No word ends before its
pulses may start. -/
def Obligations.OtpCommandsEnd : Prop :=
  (∀ (normal strict : BitVec 39) (c : OtpCmd) (s : State), s.otp.busy = some c → c.why = 0 → s.otp.queue = [] → s.pulsing c = true →
      (strict = fuseCode c.data → ∀ x l,
        c.rest.filter (fun e => !(s.otp.programmed c.addr.toNat c.data normal strict).isUsed e.1.toNat) = x :: l → ∃ o : Otp,
        exec (.otpCommandEnd normal strict) s = .next { s with otp := o } ∧
        o.busy = some { c with addr := x.1, data := x.2, rest := l } ∧
        o.shadow = Tab.set 0 s.otp.shadow c.addr.toNat c.data) ∧
      (strict = fuseCode c.data → c.rest.filter (fun e => !(s.otp.programmed c.addr.toNat c.data normal strict).isUsed e.1.toNat) = [] →
        ∃ (o : Otp) (u : State), u = { s with otp := o, flt := u.flt } ∧ exec (.otpCommandEnd normal strict) s =
          .next (if c.fromHive then u.vqpsAsk false else u).noteLevel ∧ o.busy = none ∧ o.err = (if c.rest = [] then 0 else 2) ∧
        (o.trusted = s.otp.trusted → u.flt = s.flt) ∧
        (∀ r, r < 4 → s.otp.trusted.getLsbD r = true → o.trusted.getLsbD r = false → ∃ l ∈ u.flt.lines, l.src = 82) ∧
        o.shadow = Tab.set 0 s.otp.shadow c.addr.toNat c.data ∧ o.normal = Tab.set 0 s.otp.normal c.addr.toNat normal ∧
        o.strict = Tab.set 0 s.otp.strict c.addr.toNat strict) ∧
      (strict ≠ fuseCode c.data → ∃ (o : Otp) (u : State), u = { s with otp := o, flt := u.flt } ∧ exec (.otpCommandEnd normal strict) s =
          .next (if c.fromHive then u.vqpsAsk false else u).noteLevel ∧ o.busy = none ∧ o.err = 3 ∧
        o.shadow = s.otp.shadow ∧ o.used = Tab.set false s.otp.used c.addr.toNat true)) ∧
  (∀ (normal strict : BitVec 39) (c : OtpCmd) (s : State), s.otp.busy = some c → c.why = 6 → c.rest = [] → s.otp.queue = [] →
      s.pulsing c = true → ∃ t : State,
      exec (.otpCommandEnd normal strict) s = .next t ∧ t.dbg.level = 0 ∧ t.dbg.left = none ∧ t.sec.busy = 0 ∧
      t.otp.err = (if strict = fuseCode c.data then 0 else 3)) ∧
  ((∀ (c : OtpCmd) (s : State), (c.fromHive = true ↔ 1 ≤ c.why ∨ c.who = 0) ∧
      (c.fromHive = false → s.otpGo c = { s with otp := { s.otp with busy := some c, err := 0, locked := false } }) ∧
      (c.fromHive = true → s.tw.busy = false → s.tw.vqpsQ = [] → s.hiveOk = true → ∃ u : State,
        s.otpGo c = u.emit (.twStart (BitVec.ofNat 8 (max 8 (min 0x77 (fieldOf (s.otp.sh 2) 0 7))))) ∧ Only [.otp, .tw, .regs] s u ∧
        u.otp = { s.otp with busy := some c, err := 0, locked := false, pulseAt := none } ∧
        u.tw.busy = true ∧ u.tw.vqps = some true ∧ u.tw.asked = (2, 0) ∧
        ((s.regs.cfg.map Prod.fst).Pairwise (· < ·) →
          fieldOf (u.cfgWord .twCbuf 0) 0 16 = fieldOf (s.otp.sh 2) 8 8 + 256 * fieldOf (s.otp.sh 2) 16 8))) ∧
    (∀ (c : OtpCmd) (done : Nat) (s : State), s.otp.busy = some c → s.tw.busy = true → s.tw.bootRead = false → s.tw.vqps = some true →
      s.tw.vqpsQ = [] → done ≤ s.tw.asked.1 + s.tw.asked.2 →
      exec (.twTransactionEnd .ok done []) s = .next { s with
        tw := { s.tw with busy := false, result := 0, doneN := min 64 done, vqps := none }
        otp := { s.otp with pulseAt := some (s.now + 1000) } } ∧
      (c.why = 0 → s.otp.queue = [] → ∃ t : State, exec (.twTransactionEnd .addrNack done []) s = .next t ∧ t.otp.busy = none ∧
        t.otp.err = 3 ∧ t.otp.normal = s.otp.normal ∧ t.otp.strict = s.otp.strict ∧ t.otp.shadow = s.otp.shadow)) ∧
    (∀ (normal strict : BitVec 39) (c : OtpCmd) (s : State), s.otp.busy = some c →
      (c.fromHive = false → s.pulsing c = true) ∧
      (c.fromHive = true → (s.pulsing c = true ↔ ∃ t, s.otp.pulseAt = some t ∧ t ≤ s.now)) ∧
      (s.pulsing c = false → exec (.otpCommandEnd normal strict) s = .next s)))

/-- R469. KEYGEN in FACTORY, once: the words of d, of the seed and of Q are programmed one after another, in this order of their addresses, by the
security engine's own port. R476. KX_SET: a point on the curve gives the key-wrapping key of the agreement; a point off it gives BAD_POINT and
keeps the key already held. R482 and R483. REVOKE and LIFE_ADV each ask for one step of their counter by the Hive core; REVOKE at 252 is refused
with FULL, and a target that is not the next state with NOT_ALLOWED. -/
def Obligations.SecurityEngineActions : Prop :=
  (∀ (p : Path) (s : State), Acts p .secCtl 0 s → s.sec.busy = 0 →
      (s.lifecycle = 0 → s.secOut = false → s.otp.isLocked 1 = false → s.otp.isLocked 2 = false →
        (∀ a ∈ keygenWords, s.otp.isUsed a = false) → s.otp.busy = none → s.otp.queue = [] → s.hiveOk = true →
        ∃ (n : Nat) (c : OtpCmd),
        exec (.keygen p 0x96) s = .next ({ s with free := n, sec := { s.sec with busy := 1, err := 0 } }.otpGo c).noteLevel ∧
        s.free < n ∧ c.why = 1 ∧ ((c.addr, c.data) :: c.rest).map (fun e => e.1.toNat) = keygenWords) ∧
      (s.lifecycle ≠ 0 →
        exec (.keygen p 0x96) s = .next (turnedAway p .secCtl 0 0x196 { s with sec := { s.sec with err := 1 } }).noteLevel) ∧
      (s.lifecycle = 0 → (∃ a ∈ keygenWords, s.otp.isUsed a = true) →
        exec (.keygen p 0x96) s = .next (turnedAway p .secCtl 0 0x196 { s with sec := { s.sec with err := 2 } }).noteLevel)) ∧
  (∀ (p : Path) (s : State), Acts p .secCtl 0 s → s.sec.busy = 0 → (s.lifecycle = 1 ∨ (s.lifecycle = 2 ∧ s.dbg.level ≠ 2)) →
      s.secOut = false → s.keyPair = true →
      (onCurve s.kxPoint = true → exec (.kxSet p 0x96) s = .next
        { s with sec := { s.sec with kwk := some (s.agreeKwk s.kxPoint), err := 0 } }.noteLevel) ∧
      (onCurve s.kxPoint = false → exec (.kxSet p 0x96) s = .next { s with sec := { s.sec with err := 3 } }.noteLevel)) ∧
  (∀ (p : Path) (s : State), Acts p .secCtl 0 s → s.sec.busy = 0 → s.otp.busy = none → s.otp.queue = [] → s.hiveOk = true →
      ((s.lifecycle = 1 ∨ s.lifecycle = 2) → s.otp.counter 2 < 252 → exec (.revoke p 0x96) s =
        .next ({ s with sec := { s.sec with busy := 3, err := 0 } }.otpGo
          ⟨false, 0, BitVec.ofNat 12 (0x744 + s.otp.counter 2), 0xFFFFFFFF, [], 5, 2⟩).noteLevel) ∧
      ((s.lifecycle = 1 ∨ s.lifecycle = 2) → 252 ≤ s.otp.counter 2 →
        exec (.revoke p 0x96) s = .next (turnedAway p .secCtl 0 0x496 { s with sec := { s.sec with err := 4 } }).noteLevel) ∧
      (∀ target : BitVec 2, target.toNat = s.lifecycle + 1 → s.mayAdvance = true →
        exec (.lifeAdv p 0x96 target) s =
        .next ({ s with sec := { s.sec with busy := 4, err := 0, target := target } }.otpGo
          ⟨false, 0, BitVec.ofNat 12 (0x640 + s.otp.counter 0), 0xFFFFFFFF, [], 6, 0⟩).noteLevel) ∧
      (∀ target : BitVec 2, target ≠ 0 → target.toNat ≠ s.lifecycle + 1 →
        exec (.lifeAdv p 0x96 target) s = .next
          (ignored p .secCtl 0 (0x96 ||| (target.setWidth 32 <<< 11)) 11 2 { s with sec := { s.sec with err := 1 } }).noteLevel))

/-- R488. A write of DBG_REQ.LEVEL: refused at or below the level in force, while locked out, while a token is checked or keys are erased, and in P4;
at once where no token is needed; else refused without an authority or the engine, or the token is checked. R488 steps 2 to 4. The end of a token's check: a failure is counted, the third locks, and source 86 is raised; a token that holds
opens the session of its length, for FULL in DEPLOYED once every key held at the request is erased; the challenge is renewed either way. R488,
R489 and R492. END closes the session and resumes a halted Hive core; NEWCHAL renews the challenge with eight fresh words; either reports the
LEVEL 0 it is written with. The end of DURATION closes the session. -/
def Obligations.DebugSessions : Prop :=
  (∀ (p : Path) (level : BitVec 2) (s : State), Acts p .dbgReq 0 s →
      ((level = 0 ∨ level = 3 ∨ level.toNat ≤ s.dbg.level.toNat) →
        exec (.dbgLevelRequest p level) s = .next (ignored p .dbgReq 0 (level.setWidth 32) 0 2 s).noteLevel) ∧
      ((level = 1 ∨ level = 2) → s.dbg.level.toNat < level.toNat →
        (s.dbg.lockout = true ∨ s.dbg.checking.isSome = true ∨ s.dbg.erasing = true ∨ 4 ≤ s.pwr.state.toNat) →
        exec (.dbgLevelRequest p level) s = .next (turnedAway p .dbgReq 0 (level.setWidth 32) s).noteLevel) ∧
      ((level = 1 ∨ level = 2) → s.dbg.level.toNat < level.toNat → s.dbg.lockout = false → s.dbg.checking = none →
        s.dbg.erasing = false → s.pwr.state.toNat < 4 →
        (needsToken s.lifecycle level.toNat = false →
          exec (.dbgLevelRequest p level) s = .next { s with dbg := { s.dbg with
            level := level, max := if s.dbg.max.toNat < level.toNat then level else s.dbg.max,
            sessions := satInc s.dbg.sessions 1, left := none, checking := none, erasing := false } }.noteLevel) ∧
        (needsToken s.lifecycle level.toNat = true → (s.otp.noAuthority = true ∨ s.secOut = true) →
          exec (.dbgLevelRequest p level) s = .next (turnedAway p .dbgReq 0 (level.setWidth 32) s).noteLevel) ∧
        (needsToken s.lifecycle level.toNat = true → s.otp.noAuthority = false → s.secOut = false → ∃ (ok : Bool) (n : Nat),
          exec (.dbgLevelRequest p level) s = .next { s with
            rng := { s.rng with nextId := s.rng.nextId + 1 }
            dbg := { s.dbg with reqId := s.rng.nextId, checking := some level, chkOk := ok, chkDur := n } }.noteLevel ∧
          ok = s.tokenGood level.toNat))) ∧
  (∀ (level : BitVec 2) (s : State), s.dbg.checking = some level →
      (s.dbg.chkOk = false → ∃ (f : Flt) (c : Tab Word),
        exec .debugTokenChecked s = .next { s with
          flt := f, free := s.free + 8, dbg := { s.dbg with
            checking := none, fails := BitVec.ofNat 2 (min 3 (s.dbg.fails.toNat + 1)),
            lockout := decide (2 ≤ s.dbg.fails.toNat), chal := c } } ∧
        (∃ l ∈ f.lines, l.src = 86 ∧ l.detail = if 2 ≤ s.dbg.fails.toNat then 2 else 1)) ∧
      (s.dbg.chkOk = true → ¬ (level = 2 ∧ s.lifecycle = 2) → ∃ c : Tab Word,
        exec .debugTokenChecked s = .next { s with
          free := s.free + 8, dbg := { s.dbg with
            level := level, max := if s.dbg.max.toNat < level.toNat then level else s.dbg.max, sessions := satInc s.dbg.sessions 1,
            left := if s.dbg.chkDur = 0 then none else some (s.dbg.chkDur * 1000000), checking := none, erasing := false,
            chal := c } }) ∧
      (s.dbg.chkOk = true → level = 2 → s.lifecycle = 2 → ∃ t : State,
        exec .debugTokenChecked s = .next t ∧ t.sec.kwk = none ∧ t.dbg.checking = none ∧ (t.dbg.level = 2 ∨ t.dbg.erasing = true) ∧
        (∀ k ∈ s.sec.slots.map Prod.fst, (k, s.dbg.reqId) ∈ t.sec.erasing))) ∧
  ((∀ (p : Path) (s : State), Acts p .dbgReq 0 s → ∃ t : State, exec (.dbgEnd p) s = .next t.noteLevel ∧ t.dbg.level = 0 ∧ t.dbg.left = none ∧
      t.dbg.checking = s.dbg.checking ∧ t.die.hiveHalted = false ∧ t.regs.clampNext = s.regs.clampNext + 1 ∧
      ((s.die.hiveHalted = false ∨ s.otp.queue = []) → (s.die.hiveHalted = false ∨ s.qos.causes = 0) → ∀ u,
        u = ignored p .dbgReq 0 4 0 2 s →
        t = { u with die := { u.die with hiveHalted := false }, dbg := { u.dbg with level := 0, left := none } })) ∧
    (∀ (p : Path) (s u : State), Acts p .dbgReq 0 s → u = ignored p .dbgReq 0 8 0 2 s →
      exec (.newchal p) s = .next { u with
        free := u.free + 8,
        dbg := { u.dbg with chal := Tab.setList 0 [] 0 ((List.range 8).map fun k => Config.randomWord (u.free + k)) } }.noteLevel) ∧
    (∀ s : State, s.dbg.level ≠ 0 → s.dbg.left = some 0 → ∃ t : State, exec .debugSessionExpire s = .next t ∧ t.dbg.level = 0 ∧
      t.dbg.left = none ∧ t.die.hiveHalted = false ∧
      ((s.die.hiveHalted = false ∨ s.otp.queue = []) → (s.die.hiveHalted = false ∨ s.qos.causes = 0) →
        t = { s with die := { s.die with hiveHalted := false }, dbg := { s.dbg with level := 0, left := none } })) ∧
    (∀ s : State, (s.dbg.level = 0 ∨ s.dbg.left ≠ some 0) → exec .debugSessionExpire s = .next s))

/-- R486 and R569. Test-Logic-Reset puts IDCODE in force; an instruction that the level does not grant acts as BYPASS; what a granted one does. -/
def Obligations.TapObeysTheDebugLevel : Prop :=
  (∀ s : State, exec .tapReset s = .next { s with dbg := { s.dbg with ir := .idcode } }) ∧
  (∀ (x : TapInstr) (s : State), s.die.mode = .porstLow → exec (.tapInstruction x) s = .next s) ∧
  (∀ (x : TapInstr) (s : State), s.die.mode ≠ .porstLow → s.tapGrants x = false →
    exec (.tapInstruction x) s = .next { s with dbg := { s.dbg with ir := .bypass } }) ∧
  (∀ s : State, s.die.mode ≠ .porstLow → exec (.tapInstruction .idcode) s =
    .next ({ s with dbg := { s.dbg with ir := .idcode } }.emit (.tdo idcodeWord))) ∧
  (∀ (a : BitVec 16) (s : State), s.pathReads .jtag = true → (locateDirect a.toNat = none) →
    exec (.tapInstruction (.regRead a false)) s =
      .next ({ s with dbg := { s.dbg with ir := .regRead a false } }.emit (.tdo 0))) ∧
  (∀ s : State, s.die.mode ≠ .porstLow → s.dbg.level = 2 → s.pwr.state.toNat < 4 → s.die.hiveRun = true →
    exec (.tapInstruction .hiveHalt) s = .next { s with
      die := { s.die with hiveHalted := true }, dbg := { s.dbg with ir := .hiveHalt } }) ∧
  (∀ s : State, s.dbg.level = 0 → s.tapGrants .trace = false ∧ s.tapGrants .hiveHalt = false ∧ s.tapGrants .hiveStep = false ∧
    s.tapGrants .hiveRun = false ∧ (∀ a f, s.tapGrants (.regRead a f) = false) ∧ (∀ a d f, s.tapGrants (.regWrite a d f) = false) ∧
    (∀ a, s.tapGrants (.hiveMemRead a) = false) ∧ (∀ a d, s.tapGrants (.hiveMemWrite a d) = false))

/-- R523. An address byte after START: the target's own address starts a write or a read and is acknowledged, any other leaves it idle; while a
transfer runs nothing is decoded. R525 and R526. The first two bytes of a write load the pointer, high byte first; a data byte is taken while the
loaded pointer is aligned, none has been refused and the page goes on, else it is refused; every data byte moves the pointer on. R525. A read
sends the byte at the pointer: a register is read whole at the first byte of the transfer and at each first byte of a register, and the pointer
moves on. R392. While VDD_IO is low, a byte that a free value says the die does not see changes nothing. -/
def Obligations.TwTargetBytes : Prop :=
  (∀ (byte : Byte) (s : State),
      (s.tw.phase = .idle → s.die.uvIo = false → s.twAnswers = true → byte.toNat / 2 = 0x38 + s.tw.strap.toNat →
        exec (.twAddress byte) s = .next ({ s with tw := { s.tw with
          busBusy := true, pending := [], refused := 0,
          phase := if byte.getLsbD 0 then .readFirst else .ptrHi } }.emit (.twAck true))) ∧
      (s.tw.phase = .idle → s.die.uvIo = false → (s.twAnswers = false ∨ byte.toNat / 2 ≠ 0x38 + s.tw.strap.toNat) →
        exec (.twAddress byte) s = .next { s with tw := { s.tw with busBusy := true, pending := [], refused := 0, phase := .idle } }) ∧
      (s.tw.phase ≠ .idle → exec (.twAddress byte) s = .next s) ∧
      (s.tw.phase = .idle → s.die.uvIo = true → ∀ t : State, t = { s with free := s.free + 1 } →
        exec (.twAddress byte) s = .next (if Config.pinSeen s.free then t.twDecode byte else t)) ∧
      (s.die.uvIo = true → ∀ t : State, t = { s with free := s.free + 1 } →
        exec (.twWriteByte byte) s = .next (if Config.pinSeen s.free then t.twTake byte else t)) ∧
      (s.die.uvIo = true → (s.tw.phase = .readFirst ∨ s.tw.phase = .reading) → ∀ (acked : Bool) (t : State), t = { s with free := s.free + 1 } →
        exec (.twReadByte acked) s =
          .next (if Config.pinSeen s.free then t.twSend (decide (s.tw.phase = .readFirst)) acked else t))) ∧
  (∀ (byte : Byte) (s : State), s.die.uvIo = false →
      (s.tw.phase = .ptrHi → exec (.twWriteByte byte) s = .next ({ s with tw := { s.tw with
        phase := .ptrLo, loaded := BitVec.ofNat 16 (256 * byte.toNat + s.tw.loaded.toNat % 256) } }.emit (.twAck true))) ∧
      (s.tw.phase = .ptrLo → ∃ a : BitVec 16, a.toNat = s.tw.loaded.toNat / 256 * 256 + byte.toNat ∧
        exec (.twWriteByte byte) s = .next ({ s with tw := { s.tw with
          phase := .data, loaded := a, pointer := a } }.emit (.twAck true))) ∧
      (s.tw.phase = .data → s.tw.loaded.toNat % 4 = 0 → s.tw.refused = 0 → s.tw.pointer.toNat / 32 = s.tw.loaded.toNat / 32 →
        exec (.twWriteByte byte) s = .next ({ s with tw := { s.tw with
          pending := s.tw.pending ++ [byte], pointer := s.tw.pointer + 1 } }.emit (.twAck true))) ∧
      (s.tw.phase = .data →
        (s.tw.loaded.toNat % 4 ≠ 0 ∨ s.tw.refused ≠ 0 ∨ s.tw.pointer.toNat / 32 ≠ s.tw.loaded.toNat / 32) →
        exec (.twWriteByte byte) s = .next ({ s with tw := { s.tw with
          refused := s.tw.refused + 1, pointer := s.tw.pointer + 1,
          firstBad := if s.tw.refused = 0 then s.tw.pointer else s.tw.firstBad } }.emit (.twAck false)))) ∧
  (∀ (acked : Bool) (s : State), s.die.uvIo = false →
      (s.tw.phase = .reading → s.tw.pointer.toNat % 4 ≠ 0 →
        exec (.twReadByte acked) s = .next ({ s with tw := { s.tw with
          pointer := s.tw.pointer + 1, phase := if acked then .reading else .ignore } }.emit
            (.twByte (BitVec.ofNat 8 (fieldOf s.tw.latched (8 * (s.tw.pointer.toNat % 4)) 8))))) ∧
      ((s.tw.phase = .readFirst ∨ (s.tw.phase = .reading ∧ s.tw.pointer.toNat % 4 = 0)) → ∀ n i,
        locateDirect s.tw.pointer.toNat = some (n, i) → n ≠ .indWin → n ≠ .fltStat →
        exec (.twReadByte acked) s = .next ({ s with tw := { s.tw with
          latched := s.readReg 2 n i, pointer := s.tw.pointer + 1, phase := if acked then .reading else .ignore } }.emit
            (.twByte (BitVec.ofNat 8 (fieldOf (s.readReg 2 n i) (8 * (s.tw.pointer.toNat % 4)) 8))))))

/-- R526 and R527. STOP ends the transfer: every whole register of pending bytes is written, in rising order from the loaded pointer and least
significant byte first; what is left over, and what was refused, is reported as BUS_PARTIAL. R528, R529 and R538. A START or STOP within a byte,
and an SDA timeout, drop the transfer with its pending page write, which is counted; the timeout is counted too and raises source 85. -/
def Obligations.TwTargetEndsTransfers : Prop :=
  (∀ (rep : Bool) (s e : State),
      e = { s with tw := { s.tw with phase := .idle, pending := [], refused := 0, busBusy := rep } } →
      (∀ ws : List Word, s.tw.pending = wordsBytes ws → exec (.twStop rep) s =
        .next ((e.twCommit s.tw.loaded.toNat ws).twPartial s.tw.firstBad.toNat s.tw.refused)) ∧
      (∀ a b c d : Byte, s.tw.pending = [a, b, c, d] → s.tw.refused = 0 → exec (.twStop rep) s = .next
        (e.pathWrite .tw s.tw.loaded.toNat
          (BitVec.ofNat 32 (a.toNat + 256 * b.toNat + 65536 * c.toNat + 16777216 * d.toNat)) 0 none)) ∧
      (s.tw.pending.length < 4 → s.tw.pending ≠ [] → s.tw.refused = 0 → ∃ r : Regs,
        exec (.twStop rep) s = .next { e with regs := r } ∧
        r.cfg = s.regs.cfg ∧ r.clampNew = true ∧ r.clampNext = s.regs.clampNext + 1 ∧
        (∃ x, r.clampLog.getLast? = some x ∧ fieldOf x.whr 28 4 = 5 ∧ x.written.toNat = s.tw.pending.length))) ∧
  (∀ (s : State), s.tw.phase ≠ .idle →
      (∀ isStop slot : Bool, exec (.twMisplacedCondition isStop slot) s = .next ({ s with tw := { s.tw with
        phase := .idle, refused := 0, pending := [], busBusy := !isStop,
        discards := if s.tw.pending.isEmpty then s.tw.discards else satInc s.tw.discards 1 } }.twPartial
          s.tw.firstBad.toNat s.tw.refused)) ∧
      (s.tw.phase ≠ .ignore → ∃ f : Flt, exec .twSdaTimeout s = .next ({ s with
        flt := f,
        tw := { s.tw with
          phase := .idle, refused := 0, pending := [], sdaTo := satInc s.tw.sdaTo 1,
          discards := if s.tw.pending.isEmpty then s.tw.discards else satInc s.tw.discards 1 } }.twPartial
            s.tw.firstBad.toNat s.tw.refused) ∧
        f.lines.getLast? = some ⟨85, 2⟩ ∧ f.status = s.flt.status))

/-- R532 and R533. GO starts a transaction with the register's target and lengths; while one runs GO is ignored and reported. R532, R534 and R541.
A transaction that ends well puts the bytes read in the buffer and clears BUSY; one that ends ADDR_NACK or DATA_NACK keeps its result and raises
source 85; the boot code's read adds each chunk it asked for to the image and asks for the next one. No switching of VQPS waits here
(`VqpsIsSwitchedForTheHiveCore` states those). R531, R536 and R537. Arbitration lost is counted and retried, and ends the transaction after RETRY
retries; a clock held low too long ends it TIMEOUT and asks for a recovery; a recovery that frees no bus ends it BUS_ERROR. -/
def Obligations.TwControllerTransactions : Prop :=
  (∀ (p : Path) (data : Word) (s : State), Acts p .twCcmd 0 s → Formed s →
      0x08 ≤ fieldOf data 0 7 → fieldOf data 0 7 ≤ 0x77 → fieldOf data 8 6 ≤ 32 → fieldOf data 16 6 ≤ 32 →
      (s.tw.busy = false → (fieldOf data 8 6 ≠ 0 ∨ fieldOf data 16 6 ≠ 0) → ∃ u : State,
        exec (.twGo p data) s = .next u.noteLevel ∧ Only [.regs, .tw, .out] s u ∧
        u.tw = { s.tw with
          busy := true, bootRead := false, result := 0, doneN := 0, asked := (fieldOf data 8 6, fieldOf data 16 6), losses := 0,
          vqps := none } ∧
        u.out = s.out ++ [.twStart (BitVec.ofNat 8 (fieldOf data 0 7))] ∧
        u.fld .twCcmd 0 8 6 = fieldOf data 8 6 ∧ u.regs.clampLog = s.regs.clampLog) ∧
      (s.tw.busy = true → ∃ u : State,
        exec (.twGo p data) s = .next u.noteLevel ∧ Only [.regs] s u ∧
        (∃ e, u.regs.clampLog.getLast? = some e ∧ fieldOf e.whr 28 4 = 2 ∧ e.field = 24 ∧ e.fieldHi = 24))) ∧
  (∀ (done : Nat) (bytes : List Byte) (s : State), s.tw.busy = true → s.tw.vqps = none → s.tw.vqpsQ = [] →
      (s.tw.bootRead = false → bytes = [] → done ≤ s.tw.asked.1 + s.tw.asked.2 →
        exec (.twTransactionEnd .ok done bytes) s = .next { s with tw := { s.tw with
          busy := false, result := 0, doneN := min 64 done } }) ∧
      (s.tw.bootRead = false → bytes.length ≤ s.tw.asked.2 → done ≤ s.tw.asked.1 + s.tw.asked.2 → ∃ r : Regs,
        exec (.twTransactionEnd .ok done bytes) s = .next { s with
          regs := r, tw := { s.tw with busy := false, result := 0, doneN := min 64 done } }) ∧
      (s.tw.bootRead = true → bytes.length = imageChunk s.die.image → exec (.twTransactionEnd .ok done bytes) s = .next { s with
        die := { s.die with image := s.die.image ++ bytes }
        tw := { s.tw with losses := 0, doneN := min 64 done }
        out := if imageChunk (s.die.image ++ bytes) = 0 then s.out else s.out ++ [.twStart (s.eeDevice (s.die.image ++ bytes).length)]
      }) ∧
      (s.tw.bootRead = true → bytes.length ≠ imageChunk s.die.image → exec (.twTransactionEnd .ok done bytes) s = .next s) ∧
      (∀ res : TwResult, res = .addrNack ∨ res = .dataNack → s.tw.bootRead = false → bytes = [] →
        done ≤ s.tw.asked.1 + s.tw.asked.2 → ∃ f : Flt,
        exec (.twTransactionEnd res done bytes) s = .next { s with
          flt := f, tw := { s.tw with
            busy := false, bootRead := false, doneN := min 64 done, result := if res = .addrNack then 1 else 2 } } ∧
        f.lines.getLast? = some ⟨85, if res = .addrNack then 0x101 else 0x201⟩)) ∧
  (∀ (s : State), s.tw.bootRead = false → s.tw.vqps = none → s.tw.vqpsQ = [] →
      (∀ done, s.tw.busy = true → s.tw.phase = .idle → s.tw.losses + 1 ≤ s.fld .twCfg 0 2 3 →
        exec (.twArbLost none done []) s = .next { s with tw := { s.tw with
          losses := s.tw.losses + 1, busBusy := true, arbLost := satInc s.tw.arbLost 1 } }) ∧
      (∀ done, s.tw.busy = true → s.tw.phase = .idle → s.fld .twCfg 0 2 3 < s.tw.losses + 1 → ∃ f : Flt,
        exec (.twArbLost none done []) s = .next { s with
          flt := f, tw := { s.tw with
            losses := s.tw.losses + 1, busBusy := true, arbLost := satInc s.tw.arbLost 1, busy := false, result := 3,
            doneN := min 64 done } } ∧ f.lines.getLast? = some ⟨85, 0x301⟩) ∧
      (∀ done, s.tw.busy = true → ∃ f : Flt,
        exec (.twStretchTimeout done []) s = .next { s with
          flt := f, tw := { s.tw with
            busy := false, result := 5, doneN := min 64 done, timeouts := satInc s.tw.timeouts 1, recover := true } } ∧
        f.lines.getLast? = some ⟨85, 0x501⟩) ∧
      (s.tw.busy = false → s.tw.recover = true → ∀ freed, exec (.twBusRecovery freed) s = .next { s with tw := { s.tw with
        recover := false, recovers := satInc s.tw.recovers 1, busBusy := s.tw.busBusy && !freed } }) ∧
      (s.tw.busy = true → ∃ f : Flt, exec (.twBusRecovery false) s = .next { s with
        flt := f, tw := { s.tw with
          busy := false, result := 4, doneN := 0, recover := false, recovers := satInc s.tw.recovers 1,
          busErrs := satInc s.tw.busErrs 1 } } ∧ f.lines.getLast? = some ⟨85, 0x401⟩))

/-- R170 and R171. ENABLE of a DISABLED ring whose CQ is ACTIVE makes it ACTIVE and empty, with TAIL at HEAD; DISABLE stops fetching and gives
back what the descriptors in flight had reserved. Any other such write is ignored and reported. The limit of commands in the same register is
stored within its clamp. -/
def Obligations.SubmissionRingsEnableAndDisable : Prop :=
  ∀ (p : Path) (q : BitVec 12) (data : Word) (s : State), Acts p .sqcW7 q.toNat s → Formed s → fieldOf data 0 2 = 0 →
    ((s.sq q.toNat).st = .disabled → (s.cq (s.sqCq q.toNat)).st = .active →
      (s.sqStream q.toNat = false ∨ (s.fld .sqcW3 q.toNat 0 3 = 7 ∧ s.bst.memFail.getLsbD 3 = false)) →
      (s.sq q.toNat).head.toNat < s.sqSize q.toNat → ∃ u : State,
      exec (.sqEnable p q data) s = .next u.noteLevel ∧ Only [.regs, .rng] s u ∧
      u.rng = (s.updSq q.toNat fun x => { x with st := .active, tail := x.head, fetch := [] }).rng ∧
      u.fld .sqcW7 q.toNat 16 11 = min 1024 (max 1 (fieldOf data 16 11))) ∧
    (((s.sq q.toNat).st ≠ .disabled ∨ (s.cq (s.sqCq q.toNat)).st ≠ .active) → ∃ u : State,
      exec (.sqEnable p q data) s = .next u.noteLevel ∧ Only [.regs] s u ∧ u.regs.clampNew = true ∧
      u.fld .sqcW7 q.toNat 16 11 = min 1024 (max 1 (fieldOf data 16 11))) ∧
    (((s.sq q.toNat).st = .active ∨ (s.sq q.toNat).st = .error) → ∃ u : State,
      exec (.sqDisable p q data) s = .next u.noteLevel ∧ Only [.regs, .rng] s u ∧
      u.rng = ((s.updCq (s.sqCq q.toNat) fun c =>
          { c with reserved := c.reserved - 2 * (s.sq q.toNat).fetch.foldl (fun a e => a + e.2.2.1) 0 }).updSq q.toNat
        fun x => { x with st := if x.out = 0 then .disabled else .draining, fetch := [] }).rng) ∧
    (((s.sq q.toNat).st = .disabled ∨ (s.sq q.toNat).st = .draining) → ∃ u : State,
      exec (.sqDisable p q data) s = .next u.noteLevel ∧ Only [.regs] s u ∧ u.regs.clampNew = true)

/-- R172 and R201. ENABLE of a DISABLED completion ring starts it empty with PHASE 1; DISABLE succeeds only with no ring and no reservation left;
RESUME leaves ERROR with the HEAD written, and the held entries are written in the order they arose. -/
def Obligations.CompletionRingsEnableDisableResume : Prop :=
  ∀ (p : Path) (q : BitVec 12) (s : State), Acts p .cqcW7 q.toNat s →
    ((s.cq q.toNat).st = .disabled → exec (.cqEnable p q) s = .next (s.updCq q.toNat fun c => { c with
      st := .active, head := 0, accepted := 0, tail := 0, phase := true, unNote := 0, oldest := none, reserved := 0,
      held := [] }).flushHeld.noteLevel) ∧
    ((s.cq q.toNat).st ≠ .disabled →
      exec (.cqEnable p q) s = .next (ignored p .cqcW7 q.toNat 1 0 1 s).noteLevel) ∧
    ((s.cq q.toNat).st ≠ .disabled → s.sqsOf q.toNat = 0 → (s.cq q.toNat).reserved = 0 →
      (s.evtEn = false ∨ s.evtCq ≠ q.toNat) →
      exec (.cqDisable p q) s = .next (s.updCq q.toNat fun c => { c with st := .disabled }).noteLevel) ∧
    (((s.cq q.toNat).st = .disabled ∨ s.sqsOf q.toNat ≠ 0 ∨ (s.cq q.toNat).reserved ≠ 0 ∨
        (s.evtEn = true ∧ s.evtCq = q.toNat)) →
      exec (.cqDisable p q) s = .next (ignored p .cqcW7 q.toNat 2 1 1 s).noteLevel) ∧
    ((s.cq q.toNat).st = .error → (s.cq q.toNat).head.toNat < s.cqSize q.toNat →
      ringDist (s.cqSize q.toNat) (s.cq q.toNat).head.toNat (s.cq q.toNat).accepted.toNat ≤
        ringDist (s.cqSize q.toNat) (s.cq q.toNat).tail.toNat (s.cq q.toNat).accepted.toNat →
      exec (.cqResume p q) s = .next ((s.cq q.toNat).held.foldl (fun t e => t.releaseEntry q.toNat e)
        (s.updCq q.toNat fun c => { c with st := .active, accepted := c.head, held := [] })).settle.flushHeld.noteLevel)

/-- R109 and R104. RESUME and DISCARD of a frozen channel are remembered while its tier's clock is stopped, and are ignored where the channel is
not frozen; RETRAIN of a serving channel waits for its requests. R109. RESUME of a frozen channel whose tier is clocked reopens it; DISCARD ends
every request it holds with FROZEN first. -/
def Obligations.ChannelControl : Prop :=
  (∀ (p : Path) (i : BitVec 10) (s : State), Acts p .tchChctl i.toNat s →
      ((s.chan i.toNat).st = .frozen → (s.chan i.toNat).retired = false → (s.chan i.toNat).resume = false →
        (s.chan i.toNat).discard = false → s.tierClocked (tierOf i.toNat) = false →
        exec (.channelResume p i) s = .next (s.updChan i.toNat fun c => { c with resume := true }).noteLevel ∧
        exec (.channelDiscard p i) s = .next (s.updChan i.toNat fun c => { c with discard := true }).noteLevel) ∧
      ((s.chan i.toNat).st ≠ .frozen →
        exec (.channelResume p i) s = .next (ignored p .tchChctl i.toNat 1 0 1 s).noteLevel ∧
        exec (.channelDiscard p i) s = .next (ignored p .tchChctl i.toNat 2 1 1 s).noteLevel) ∧
      ((s.tier (tierOf i.toNat)).powered = true → s.chanCode i.toNat = 2 → (s.chan i.toNat).queue ≠ [] →
        exec (.channelRetrain p i) s = .next (s.updChan i.toNat fun c => { c with retrain := true }).noteLevel) ∧
      (((s.tier (tierOf i.toNat)).powered = false ∨ (s.chanCode i.toNat ≠ 2 ∧ s.chanCode i.toNat ≠ 6 ∧ s.chanCode i.toNat ≠ 7)) →
        exec (.channelRetrain p i) s = .next (ignored p .tchChctl i.toNat 4 2 1 s).noteLevel)) ∧
  (∀ (p : Path) (i : BitVec 10) (s : State), Acts p .tchChctl i.toNat s → (s.chan i.toNat).st = .frozen →
      (s.chan i.toNat).retired = false → (s.chan i.toNat).resume = false → (s.chan i.toNat).discard = false →
      (s.chan i.toNat).freqChg = false → s.tierClocked (tierOf i.toNat) = true → s.testing (tierOf i.toNat / 8) = false →
      s.die.blockBusy.contains (BitVec.ofNat 8 (0x20 + tierOf i.toNat)) = false →
      exec (.channelResume p i) s = .next (((s.updChan i.toNat fun c => { c with resume := true }).updChan i.toNat fun c =>
        { c with st := .serving, resume := false, discard := false, lim := s.minLimits }).letIn i.toNat |>.judgeRetrain i.toNat
        |>.actLate.noteLevel) ∧
      (∀ held, held = (s.chan i.toNat).queue ++ (s.chan i.toNat).ringq → ∃ t : State,
        exec (.channelDiscard p i) s = .next t ∧
        t = (((s.setChan i.toNat { s.chan i.toNat with discard := true, queue := [], ringq := [] }).failAll held 0x11 0).reopen
          i.toNat).actLate.noteLevel))

/-- R111 and R139. TCH_RETIRE retires the channels whose bits it sets, in rising order; where all of them are retired already it changes nothing.
PCD_RDY sets the readiness bits it names and clears none; of the named tiers' channels, format requests of that region that have not issued go and
the format walk forgets the region. -/
def Obligations.RetireAndReadinessWrites : Prop :=
  (∀ (p : Path) (n : BitVec 5) (data : Word) (s : State), Acts p .tchRetire n.toNat s →
    exec (.channelRetire p n data) s = .next (((List.range 32).filter fun c => data.getLsbD c).foldl
      (fun t c => t.retire (32 * n.toNat + c)) s).actLate.noteLevel ∧
    ((∀ c, c < 32 → data.getLsbD c = true → (s.chan (32 * n.toNat + c)).retired = true) →
      exec (.channelRetire p n data) s = .next s.noteLevel)) ∧
  (∀ (p : Path) (r : Byte) (data : Word) (s : State), Acts p .pcdRdy r.toNat s → Formed s → ∃ u : State,
    exec (.pcdRdySet p r data) s = .next u.noteLevel ∧ Only [.pcd, .tch] s u ∧
    u.pcd = { s.pcd with rdy := u.pcd.rdy } ∧
    (∀ t, t < 32 → u.ready r.toNat t = (s.ready r.toNat t || data.getLsbD t)) ∧
    (∀ r' t, r' ≠ r.toNat → t < 32 → u.ready r' t = s.ready r' t) ∧
    (∀ i, i < 1024 → u.chan i = if data.getLsbD (tierOf i) then
        { s.chan i with
          queue := (s.chan i).queue.filter fun q => !(q.src == .format && regionOf q.lbn == r.toNat)
          ringq := (s.chan i).ringq.filter fun q => !(q.src == .format && regionOf q.lbn == r.toNat)
          fmt := (s.chan i).fmt.forget r.toNat }
      else s.chan i))

/-- R58 and R72. TIM_CFG takes its phase and its acceptance window, and a moved phase starts an irregular epoch; BUD_CAP holds its value between
the larger of 12,000 mW and BUD_CAP_MIN and 60,000 mW. R286 and R203. QOS_TC takes its guarantee, LIM_MIN within 1 to 32, and LIM_MAX between
LIM_MIN and 32; RNG_EVT_CQ takes the event ring and its enable where that ring has room, and held events are written. -/
def Obligations.TimeCapClassAndEventRingWrites : Prop :=
  ((∀ (p : Path) (data : Word) (s : State), Acts p .timCfg 0 s → Formed s → ∃ u : State,
      exec (.timCfgWrite p data) s = .next u.noteLevel ∧ Only [.regs, .tim] s u ∧ u.fld .timCfg 0 0 6 = fieldOf data 0 6 ∧
      u.fld .timCfg 0 16 16 = max 16 (fieldOf data 16 16) ∧
      (fieldOf data 0 6 = s.fld .timCfg 0 0 6 → u.tim = s.tim) ∧
      (fieldOf data 0 6 ≠ s.fld .timCfg 0 0 6 → u.tim.irreg = true)) ∧
    (∀ (p : Path) (data : Word) (s : State), Acts p .budCap 0 s → Formed s → ∃ u v : State,
      exec (.budCapWrite p data) s = .next u.noteLevel ∧ Only [.regs] s v ∧ (u = v.retarget ∨ u = v) ∧
      v.fld .budCap 0 0 16 = min 60000 (max (max 12000 s.capMin) (fieldOf data 0 16)))) ∧
  ((∀ (p : Path) (n : BitVec 3) (data : Word) (s : State), Acts p .qosTc n.toNat s → Formed s → ∃ u v : State,
      exec (.qosTcWrite p n data) s = .next u.actLate.noteLevel ∧ Only [.regs] s v ∧
      v.fld .qosTc n.toNat 0 16 = fieldOf data 0 16 ∧ v.fld .qosTc n.toNat 16 6 = min 32 (max 1 (fieldOf data 16 6)) ∧
      v.fld .qosTc n.toNat 24 6 = min 32 (max (min 32 (max 1 (fieldOf data 16 6))) (fieldOf data 24 6)) ∧
      (∀ g : State, g = (if v.fld .qosTc n.toNat 0 16 = s.fld .qosTc n.toNat 0 16 then v else v.inputChange 1) →
        u = if v.fld .qosTc n.toNat 16 16 = s.fld .qosTc n.toNat 16 16 then g else g.clampLimits n.toNat)) ∧
    (∀ (p : Path) (data : Word) (s : State), Acts p .rngEvtCq 0 s → Formed s →
      ((fieldOf data 0 12 = s.evtCq ∨ (s.cq (fieldOf data 0 12)).st ≠ .active ∨ 2 ≤ s.cqSpare (fieldOf data 0 12)) → ∃ u v : State,
        exec (.rngEvtCqWrite p data) s = .next u.noteLevel ∧ Only [.regs] s v ∧ v.evtCq = fieldOf data 0 12 ∧
        v.evtEn = data.getLsbD 16 ∧ u = if v.cfgWord .rngEvtCq 0 = s.cfgWord .rngEvtCq 0 then v else v.flushHeld) ∧
      ((fieldOf data 0 12 ≠ s.evtCq ∧ (s.cq (fieldOf data 0 12)).st = .active ∧ s.cqSpare (fieldOf data 0 12) < 2) → ∃ u v : State,
        exec (.rngEvtCqWrite p data) s = .next u.noteLevel ∧ Only [.regs] s v ∧ v.evtCq = s.evtCq ∧ v.regs.clampNew = true ∧
        v.evtEn = data.getLsbD 16 ∧ u = if v.cfgWord .rngEvtCq 0 = s.cfgWord .rngEvtCq 0 then v else v.flushHeld)))

/-- R133 and R158. A strength written to PCD_SMAP is held at most 4 and restarts the region's format; in a region with an open window the write is
ignored. MAX_MULT written below a tier's multipliers lowers both at once. R116. A frequency written to a tier starts a change; written during a
change, or while the tier cannot act, it waits. -/
def Obligations.TierAndRegionWrites : Prop :=
  ((∀ (p : Path) (r : Byte) (data : Word) (s : State), Acts p .pcdSmap r.toNat s → Formed s →
      (s.openWindow r.toNat = none → ∃ u v : State,
        exec (.pcdSmapWrite p r data) s = .next u.noteLevel ∧ Only [.regs] s v ∧
        v.fld .pcdSmap r.toNat 0 3 = min 4 (fieldOf data 0 3) ∧
        u = (if v.fld .pcdSmap r.toNat 0 3 = s.fld .pcdSmap r.toNat 0 3 then v else v.fmtRestart r.toNat)) ∧
      (s.openWindow r.toNat ≠ none → ∃ u : State,
        exec (.pcdSmapWrite p r data) s = .next u.noteLevel ∧ Only [.regs] s u ∧
        u.fld .pcdSmap r.toNat 0 3 = s.fld .pcdSmap r.toNat 0 3 ∧
        (fieldOf data 0 3 ≠ s.fld .pcdSmap r.toNat 0 3 → u.regs.clampNew = true))) ∧
    (∀ (p : Path) (n : BitVec 5) (data : Word) (s : State), Acts p .scbSeason n.toNat s → Formed s →
      fieldOf data 6 2 ≠ s.maxMult n.toNat → ∃ u v : State,
        exec (.maxMultWrite p n data) s = .next u.noteLevel ∧ Only [.regs] s v ∧ v.maxMult n.toNat = fieldOf data 6 2 ∧
        u = v.updTier n.toNat fun x => { x with
          acceptedM := BitVec.ofNat 2 (min x.acceptedM.toNat (fieldOf data 6 2)),
          trial := BitVec.ofNat 2 (min x.trial.toNat (fieldOf data 6 2)) })) ∧
  (∀ (p : Path) (n : BitVec 5) (data : Word) (s : State), Acts p .tchTcfg n.toNat s → Formed s →
      fieldOf data 0 2 ≠ s.fld .tchTcfg n.toNat 0 2 → ∃ v : State, Only [.regs] s v ∧
      v.fld .tchTcfg n.toNat 0 2 = fieldOf data 0 2 ∧
      (((s.tier n.toNat).changing = true ∨ s.tierClocked n.toNat = false ∨ s.testing (n.toNat / 8) = true ∨
          s.die.blockBusy.contains (BitVec.ofNat 8 (0x20 + n.toNat)) = true) → exec (.tierFreqWrite p n data) s =
        .next (v.updTier n.toNat fun x => { x with freqNext := some (BitVec.ofNat 2 (fieldOf data 0 2)) }).noteLevel) ∧
      ((s.tier n.toNat).changing = false → s.tierClocked n.toNat = true →
        s.testing (n.toNat / 8) = false → s.die.blockBusy.contains (BitVec.ofNat 8 (0x20 + n.toNat)) = false →
        exec (.tierFreqWrite p n data) s = .next ((v.updTier n.toNat fun x => { x with
          changing := true, freqTo := BitVec.ofNat 2 (fieldOf data 0 2), freqNext := none }).judgeFreq n.toNat).actLate.noteLevel))

/-- R313, R306 and R304. Clearing EN takes a port DOWN; RETRAIN takes an enabled port DOWN and notes itself; RECOVER is for a port in UP. What
cannot act is ignored and reported. R335. A node that has no ID takes the one written with VALID, and on the CFG path the port the packet came in
by becomes the upstream port; held messages then go out as far as they have a path; a node that has one keeps it and its upstream port. -/
def Obligations.PortControlAndNodeId : Prop :=
  (∀ (p : Path) (n : BitVec 2) (s : State),
      (∀ data : Word, Acts p .lnkPhy0 n.toNat s → Formed s → fieldOf data 0 1 = 0 → s.fld .lnkPhy0 n.toNat 0 1 = 1 → ∃ v : State,
        Only [.regs] s v ∧ v.fld .lnkPhy0 n.toNat 0 1 = 0 ∧
        exec (.portEnWrite p n data) s = .next (v.portDown n.toNat).actLate.noteLevel) ∧
      (Acts p .lnkCtl n.toNat s → s.portEn n.toNat = true → exec (.lnkRetrain p n) s =
        .next ((s.portDown n.toNat).updPort n.toNat fun x => { x with retPend := true }).actLate.noteLevel) ∧
      (Acts p .lnkCtl n.toNat s → s.portEn n.toNat = false →
        exec (.lnkRetrain p n) s = .next (ignored p .lnkCtl n.toNat 1 0 1 s).noteLevel) ∧
      (Acts p .lnkCtl n.toNat s → (s.port n.toNat).st = .up → exec (.lnkRecover p n) s =
        .next ((s.recover n.toNat).updPort n.toNat fun x => { x with recPend := true }).actLate.noteLevel) ∧
      (Acts p .lnkCtl n.toNat s → (s.port n.toNat).st ≠ .up →
        exec (.lnkRecover p n) s = .next (ignored p .lnkCtl n.toNat 2 1 1 s).noteLevel)) ∧
  (∀ (p : Path) (port : BitVec 2) (data : Word) (s : State), Acts p .lnkNode 0 s →
      (s.lnk.valid = false → fieldOf data 6 1 = 1 → ∃ u : State,
        exec (.nodeIdAssign p port data) s = .next u.flushHeld.noteLevel ∧ Only [.regs, .lnk] s u ∧ u.regs.cfg = s.regs.cfg ∧
        u.lnk = { s.lnk with
          id := BitVec.ofNat 6 (fieldOf data 0 6), valid := true, upPort := if p = .cfg then port else s.lnk.upPort }) ∧
      (s.lnk.valid = false → fieldOf data 6 1 = 0 → ∃ u : State,
        exec (.nodeIdAssign p port data) s = .next u.noteLevel ∧ Only [.regs, .lnk] s u ∧ u.lnk = { s.lnk with id := u.lnk.id } ∧
        u.regs.clampNew = true) ∧
      (s.lnk.valid = true → ∃ u : State,
        exec (.nodeIdAssign p port data) s = .next u.noteLevel ∧ Only [.regs] s u ∧ u.regs.cfg = s.regs.cfg))

/-- R365, R366 and R367. PWR_CTL.WAKE starts an exit to P0 from a sleeping state: from P1 at once, from P2 as soon as the fabric and the islands stand
ready, from P3 and P4 later, with WAKE_N driven low from P4; 0x5A in PWR_CTL.OFF begins the entry to P5, after an OTP command that runs, and any other
code is ignored and reported; the entry's last step leaves the node in P5. R365, R310 and R392. WAKE_N falling, unless the die drives it or VDD_IO is
low and the die does not see it, and a signal on a sleeping L0 start an exit to P0; the die's own pulse ends after its millisecond. -/
def Obligations.PowerControlAndWakeCauses : Prop :=
  (∀ (p : Path) (s : State), Acts p .pwrCtl 0 s →
      exec (.pwrWake p) s = .next (s.startExit 4).noteLevel ∧
      (s.pwr.offStage = 0 → s.otp.busy = none → ∃ u : State, exec (.pwrOff p 0x5A) s = .next u.actLate.noteLevel ∧
        u.pwr.offStage = 2 ∧ u.pwr.openQ = [] ∧ u.pwr.exiting = false ∧ u.die = s.die ∧
        (∀ t, t < 32 → (t ∈ u.pwr.closeQ ↔ (u.tier t).open_ = true))) ∧
      (s.pwr.offStage = 0 → s.otp.busy.isSome = true →
        exec (.pwrOff p 0x5A) s = .next { s with pwr := { s.pwr with offStage := 1 } }.noteLevel) ∧
      (s.pwr.offStage ≠ 0 → exec (.pwrOff p 0x5A) s = .next s.noteLevel) ∧
      (∀ code : Byte, code ≠ 0 → code ≠ 0x5A →
        exec (.pwrOff p code) s = .next (ignored p .pwrCtl 0 (code.setWidth 32 <<< 8) 8 8 s).noteLevel)) ∧
  (∀ (cause : Nat) (s : State),
      ((s.pwr.exiting = true ∨ s.pwr.state = 0) → s.startExit cause = s) ∧
      (s.pwr.exiting = false → s.pwr.state = 1 → (s.startExit cause).pwr.state = 0) ∧
      (s.pwr.exiting = false → s.pwr.state = 2 → s.clk.parked = false → s.islesDone = true → s.clk.fabA = true → s.clk.fabB = true →
        (s.startExit cause).pwr.state = 0) ∧
      (s.pwr.exiting = false → (s.pwr.state = 2 ∨ s.pwr.state = 3) → (s.clk.parked = true ∨ s.islesDone = false) →
        s.startExit cause = { s with pwr := { s.pwr with
          exiting := true, exitCause := cause, restart := s.parkedTiers, restartAt := some s.now } }) ∧
      (s.pwr.exiting = false → s.pwr.state = 4 → (s.startExit cause).pwr.exiting = true ∧ (s.startExit cause).pwr.state = 4 ∧
        (s.startExit cause).pwr.restartAt = some (s.now + 200) ∧ (s.startExit cause).pwr.wakeLow = true ∧
        (s.startExit cause).pwr.wakeLeft = 1000)) ∧
  (∀ s : State, s.die.mode = .running → s.pwr.offStage = 3 → s.islesDone = true → s.otp.busy = none → ∃ u : State,
      s.offTick = u ∧ u.die.mode = .off ∧ u.die.mgmt = false ∧ u.pwr.state = 5 ∧ u.sec.slots = [] ∧ u.sec.kwk = none ∧
      u.dbg.level = 0 ∧ u.clk.fabA = false ∧ u.clk.fabB = false ∧ u.clk.tierLock = 0) ∧
  ((∀ s : State, s.pwr.wakeLow = true → exec .wakeNFall s = .next s) ∧
    (∀ s t : State, s.pwr.wakeLow = false → s.die.uvIo = true → t = { s with free := s.free + 1 } →
      exec .wakeNFall s = .next (if Config.pinSeen s.free then t.wake 3 else t)) ∧
    (∀ s : State, s.pwr.wakeLow = false → s.die.uvIo = false → s.die.mode = .running → exec .wakeNFall s = .next (s.startExit 3)) ∧
    (∀ s : State, s.pwr.wakeLow = false → s.die.uvIo = false → s.die.mode = .off → ∃ t : State, exec .wakeNFall s = .next t ∧
      t.die.mode = .startWatch ∧ t.die.cause = 3 ∧ t.pwr.wakeLow = true ∧ t.thm.clicks = s.thm.clicks ∧
      (s.otp.busy = none → t.otp.normal = s.otp.normal)) ∧
    (∀ (n : BitVec 2) (s : State), s.die.mode = .running → (s.port n.toNat).svcRx ≠ 0 →
      exec (.l0SignalWake n) s = .next (s.startExit 2)) ∧
    (∀ (n : BitVec 2) (s : State), s.die.mode = .running → (s.port n.toNat).svcRx = 0 → exec (.l0SignalWake n) s = .next s) ∧
    (∀ s : State, s.pwr.wakeLeft = 0 → exec .wakePulseEnd s = .next { s with pwr := { s.pwr with wakeLow := false } }) ∧
    (∀ s : State, s.pwr.wakeLeft ≠ 0 → exec .wakePulseEnd s = .next s))

/-- R395 and R396. A write of PWR_TIER_GATE queues the opening of every closed tier whose bit rises and the closing of every open tier whose bit
falls. R394, R395 and R398. One opening at a time: the lowest queued tier, 128 ticks at the soonest after the last one and once its inrush fits in
the allowance for load changes; it starts with TRST_N low. A tier that is good is powered and waits for its release; one that is not good 200
ticks after its opening started is closed, marked failed and reported. R87, R88 and R117. A powered tier is released from TRST_N once its PLL has
locked, TRST_N has been low for 10 ticks and no closing waits for it: its channels' refresh starts and its identity is read; a tier whose identity is accepted is marked
so, and another raises its source and serves no block. R117, R394, R395 and R398. A closing comes 32 ticks at the soonest after the last one, once
the tier's bursts and decodes have ended and the load change fits; then its gates close, its rows and readiness are gone, and what its channels
held ends UNAVAILABLE; where its bit has returned to 1 it is to open again. -/
def Obligations.TierGates : Prop :=
  (∀ (p : Path) (data : Word) (s : State), Acts p .pwrTierGate 0 s → Formed s → s.pwr.state.toNat < 2 → s.cfgWord .pwrTierGate 0 ≠ data →
      ∃ u : State, exec (.pwrTierGateWrite p data) s = .next u.noteLevel ∧ Only [.regs, .pwr] s u ∧
        u.cfgWord .pwrTierGate 0 = data ∧
        ∀ n, n < 32 →
          ((s.cfgWord .pwrTierGate 0).getLsbD n = false → data.getLsbD n = true → (s.tier n).open_ = false →
            s.pwr.opening ≠ some n → n ∈ u.pwr.openQ) ∧
          ((s.cfgWord .pwrTierGate 0).getLsbD n = true → data.getLsbD n = false → (s.tier n).open_ = true → n ∈ u.pwr.closeQ)) ∧
  ((∀ (t : Nat) (rest : List Nat) (s : State), s.pwr.openQ = t :: rest → s.gatesMove = true → s.pwr.opening = none →
      (∀ k, s.pwr.lastOpen = some k → k + 128 ≤ s.pwr.us) → s.loadFits gateLoad = true → exec .gateOpeningStart s = .next
        ({ s.grant gateLoad 96 with pwr := { (s.grant gateLoad 96).pwr with
            openQ := rest, opening := some t, lastOpen := some s.pwr.us } }.updTier t fun x =>
          { x with open_ := true, good := false, trstLow := true })) ∧
    (∀ s : State, (s.pwr.openQ = [] ∨ s.gatesMove = false ∨ s.pwr.opening.isSome ∨
      (∃ k, s.pwr.lastOpen = some k ∧ s.pwr.us < k + 128) ∨ s.loadFits gateLoad = false) → exec .gateOpeningStart s = .next s) ∧
    (∀ (t : BitVec 5) (s : State), s.pwr.opening = some t.toNat → ∃ u : State, exec (.tierGood t) s = .next u.noteLevel ∧
      u = ((({ s with pwr := { s.pwr with opening := none } }.resetTier t.toNat).updTier t.toNat fun x =>
        { x with good := true, failed := false }).inputChange 32)) ∧
    (∀ (t : BitVec 5) (s : State), s.pwr.opening = some t.toNat →
      (∀ k, s.pwr.lastOpen = some k → k + 200 ≤ s.pwr.us) → ∃ u : State, exec (.tierGateTimeout t) s = .next u ∧
      (u.tier t.toNat).failed = true ∧ (u.tier t.toNat).powered = false ∧ u.pwr.opening = none ∧
      (∃ l ∈ u.flt.lines, l.src.toNat = t.toNat ∧ l.detail = 5) ∧ Only [.pwr, .tch, .pcd, .flt] s u) ∧
    (∀ (t : BitVec 5) (s : State), s.pwr.opening ≠ some t.toNat →
      exec (.tierGood t) s = .next s ∧ exec (.tierGateTimeout t) s = .next s) ∧
    (∀ (t : BitVec 5) (k : Nat) (s : State), s.pwr.lastOpen = some k → s.pwr.us < k + 200 → exec (.tierGateTimeout t) s = .next s)) ∧
  ((∀ (t : BitVec 5) (s : State), (s.tier t.toNat).powered = true → (s.tier t.toNat).trstLow = true → t.toNat ∉ s.pwr.closeQ → s.pwr.state.toNat < 2 →
      s.die.mode = .running → s.clk.tierLock.getLsbD t.toNat = true → (s.tier t.toNat).trstAt + 10 ≤ s.now → exec (.trstRelease t) s =
        .next (((s.updTier t.toNat fun x => { x with trstLow := false }).updChans (chansOfTier t.toNat) fun i c =>
          { c with dueAt := (s.updTier t.toNat fun x => { x with trstLow := false }).firstDue i }).readIdentity t.toNat)) ∧
    (∀ (t : BitVec 5) (s : State), (s.now < (s.tier t.toNat).trstAt + 10 ∨ t.toNat ∈ s.pwr.closeQ) → exec (.trstRelease t) s = .next s) ∧
    (∀ (t : BitVec 5) (id : TierId) (s : State), (s.tier t.toNat).powered = true → (s.tier t.toNat).trstLow = false →
      (s.tier t.toNat).selfRef = false → (s.tier t.toNat).pwrDown = false → (s.tier t.toNat).awaitId = true →
      (s.identOk id = false → ∃ u : State, exec (.identityCheck t id) s = .next (u.raise t.toNat 4) ∧
        u = s.updTier t.toNat (fun x => { x with ident := id, accepted := false, awaitId := false })) ∧
      (s.identOk id = true → s.tch.group ≤ t.toNat / 8 → s.tch.groupRun = false → (s.tier t.toNat).freqNext = none →
        exec (.identityCheck t id) s =
          .next (s.updTier t.toNat fun x => { x with ident := id, accepted := true, awaitId := false })) ∧
      (s.identOk id = true → t.toNat / 8 < s.tch.group → exec (.identityCheck t id) s =
        .next (((s.updTier t.toNat fun x => { x with ident := id, accepted := true, awaitId := false }).trainTier
          t.toNat).heldFreq t.toNat)))) ∧
  (∀ (t : BitVec 5) (s : State),
      ((t.toNat ∉ s.pwr.closeQ ∨ s.tierQuiet t.toNat = false ∨ s.decodesDone t.toNat = false ∨ s.loadFits gateLoad = false ∨
          (s.pwr.offStage ≠ 2 ∧ 2 ≤ s.pwr.state.toNat) ∨ ∃ k, s.pwr.lastClose = some k ∧ s.pwr.us < k + 32) →
        exec (.gateClosing t) s = .next s) ∧
      (t.toNat ∈ s.pwr.closeQ → s.pwr.opening ≠ some t.toNat → s.tierQuiet t.toNat = true → s.decodesDone t.toNat = true →
        (s.die.mode = .running ∨ s.die.mode = .restarting) → (s.pwr.offStage = 2 ∨ (s.pwr.state.toNat < 2 ∧ s.pwr.exiting = false)) →
        ((s.tier t.toNat).selfRef = true ∨ (s.tier t.toNat).trstLow = true) → s.loadFits gateLoad = true →
        (∀ k, s.pwr.lastClose = some k → k + 32 ≤ s.pwr.us) →
        exec (.gateClosing t) s = .next (((({ s.grant gateLoad 0 with pwr := { (s.grant gateLoad 0).pwr with
            closeQ := s.pwr.closeQ.erase t.toNat, lastClose := some s.pwr.us } }.closeGates
          t.toNat).failAll ((chansOfTier t.toNat).flatMap fun i => (s.chan i).queue ++ (s.chan i).ringq) 0x10 0x08).reopenGate
          t.toNat).inputChange 32).noteLevel) ∧
      (s.die.mode = .running → s.pwr.offStage = 0 → (s.cfgWord .pwrTierGate 0).getLsbD t.toNat = true → t.toNat ∈ (s.reopenGate t.toNat).pwr.openQ) ∧
      ((s.cfgWord .pwrTierGate 0).getLsbD t.toNat = false → s.reopenGate t.toNat = s) ∧
      ((Tab.wf .init s.tch.tiers = true → ((s.closeGates t.toNat).tier t.toNat).powered = false) ∧ (∀ r, r < 256 → (s.closeGates t.toNat).ready r t.toNat = false) ∧
        (∀ k v, (k, v) ∈ (s.closeGates t.toNat).pcd.store → k / 131072 / 32 ≠ t.toNat)))

/-- R362 and R363. With no work for IDLE_US the node enters the chosen state: the tiers rest, the clocks that the state stops are stopped, and the
entry is noted. A node that has work, or whose idle time has not passed, stays. R360, R366 and R398. The next tier in the restart order leaves its
rest once it is due, its PLL has locked, the islands stand open and its load change fits, 32 ticks after the last one; a tier whose PLL has not locked is waited for. -/
def Obligations.IdleEntryAndTierRestarts : Prop :=
  ((∀ (q : BitVec 12) (s : State), s.sqCounts q.toNat = true → exec (.ringWindowExpire q) s = .next s) ∧
    (∀ s : State, s.powerMoves = false → exec .idleTimeout s = .next s ∧
      (∀ q, exec (.ringWindowExpire q) s = .next s)) ∧
    (∀ s : State, s.powerMoves = true → s.pwr.state = 1 → s.busyHost = false → s.hasWork = false → 2 ≤ s.chosen →
      s.pwr.idleSince + s.fld .pwrCfg 0 0 16 ≤ s.now → s.stackQuiet = true →
      exec .idleTimeout s = .next (s.enterDeep s.chosen 1) ∧
      (∀ q : BitVec 12, s.sqCounts q.toNat = false → exec (.ringWindowExpire q) s = .next (s.enterDeep s.chosen 1)) ∧
      (∃ v : State, s.enterDeep s.chosen 1 = v.retarget ∧ v.pwr.state.toNat = s.chosen ∧ v.pwr.restart = [] ∧
        (3 ≤ s.chosen → v.clk.fabA = false ∧ v.clk.fabB = false ∧ v.clk.tierLock = 0) ∧
        (s.chosen = 4 → v.dbg.level = 0 ∧ v.tw.busy = false))) ∧
    (∀ s : State, s.powerMoves = true → s.pwr.state = 1 → s.busyHost = false → s.chosen ≠ 0 →
      s.now < s.pwr.idleSince + s.fld .pwrCfg 0 0 16 → exec .idleTimeout s = .next s)) ∧
  (∀ (t : Nat) (rest : List Nat) (s : State), s.pwr.restart = t :: rest →
      ((s.tier t).powered = true → s.clk.tierLock.getLsbD t = false → exec .tierRestartDue s = .next s.resume) ∧
      ((∃ k, s.pwr.restartAt = some k ∧ s.now < k) → exec .tierRestartDue s = .next s.resume) ∧
      ((s.loadFits tierLoad = false ∨ s.srxSpaced = false ∨ s.islesDone = false) → exec .tierRestartDue s = .next s.resume) ∧
      ((s.tier t).powered = false → (∀ k, s.pwr.restartAt = some k → k ≤ s.now) → s.loadFits tierLoad = true → s.srxSpaced = true →
        s.islesDone = true → rest ≠ [] →
        exec .tierRestartDue s = .next { s with pwr := { s.pwr with restart := rest, restartAt := some (s.now + 32) } }.resume))

/-- R414, R419, R427 and R432. A hard reset, by RST_CTL with KEY 0xC3 or by a low pulse of 1 µs on RESET_N, leaves the die in the reset hold:
rings, budgets, links, calibration, self-test and the security engine are as they reset, the debug level is CLOSED, fault status and history stay.
R415. A low pulse of RESET_N shorter than 100 ns changes nothing, and one shorter than 1 µs is taken like one of 1 µs or not at all: the spec
leaves it open, and the model draws a free value (log 60); so too whether one is seen at all while VDD_IO is low (R392, log 9). R426, R427 and R432. A warm reset by RST_CTL with KEY 0xC3 restarts the running die
without a hold: it runs at once where the fuses have been sensed, the cause and the count are as R433 has them and the session is closed. A wrong KEY is ignored and reported for either
kind. -/
def Obligations.HardAndWarmResets : Prop :=
  (∀ (c : Instr) (cause : BitVec 4) (s : State),
      ((∃ p : Path, c = .rstCtlHard p 0xC3 ∧ Acts p .rstCtl 0 s ∧ cause = 5) ∨
        (∃ ns : Nat, c = .resetNLow ns ∧ 1000 ≤ ns ∧ cause = 4 ∧ s.die.uvIo = false ∧
          (s.die.mode = .running ∨ s.die.mode = .restarting ∨ s.die.mode = .safe ∨ s.die.mode = .clickHold))) → ∃ t : State,
      exec c s = .next t ∧ t.die.mode = .resetHold ∧ t.die.kind = .hard ∧ t.die.cause = cause ∧ t.die.mgmt = false ∧
      t.die.hardCount = satInc s.die.hardCount 1 ∧ t.die.image = [] ∧
      t.rng = State.reset.rng ∧ t.bud = State.reset.bud ∧ t.lnk = State.reset.lnk ∧ t.tim = State.reset.tim ∧ t.cal = State.reset.cal ∧
      t.bst = State.reset.bst ∧ t.sec = State.reset.sec ∧ t.scb = State.reset.scb ∧ t.qos = State.reset.qos ∧
      t.dbg.level = 0 ∧ t.dbg.lockout = false ∧ t.dbg.checking = none ∧ t.regs.clampLog = [] ∧ t.regs.late = [] ∧
      t.flt.status = s.flt.status ∧ t.flt.counts = [] ∧ t.thm.clicks = s.thm.clicks ∧ t.tw.strap = s.tw.strap) ∧
  (∀ (ns : Nat) (s : State), (ns < 100 → exec (.resetNLow ns) s = .next s) ∧
      (1000 ≤ ns → s.die.uvIo = true → ∀ t : State, t = { s with free := s.free + 1 } → exec (.resetNLow ns) s =
        .next (if Config.pinSeen s.free then ({ t with die := { t.die with resetLow := true } } : State).hardReset causeResetN else t)) ∧
      (100 ≤ ns → ns < 1000 → s.die.uvIo = true → ∀ t u : State, t = { s with free := s.free + 1 } → u = { s with free := s.free + 2 } →
        exec (.resetNLow ns) s = .next (if Config.pinSeen s.free then
          (if Config.takesPulse t.free then ({ u with die := { u.die with resetLow := true } } : State).hardReset causeResetN else u) else t)) ∧
      (100 ≤ ns → ns < 1000 → s.die.uvIo = false → exec (.resetNLow ns) s =
        if Config.takesPulse s.free then exec (.resetNLow 1000) { s with free := s.free + 1 } else .next { s with free := s.free + 1 })) ∧
  (∀ (p : Path) (s : State), Acts p .rstCtl 0 s →
      (∃ t : State, exec (.rstCtlWarm p 0xC3) s = .next t ∧ t.die.mode = (if s.otp.sensed then .running else .restarting) ∧ t.die.kind = .warm ∧ t.die.cause = 8 ∧
        t.die.warmCount = satInc s.die.warmCount 1 ∧ t.die.hardCount = s.die.hardCount ∧ t.dbg.level = 0 ∧ t.dbg.lockout = false) ∧
      (∀ key : Byte, key ≠ 0xC3 →
        exec (.rstCtlHard p key) s = .next (ignored p .rstCtl 0 (key.setWidth 32 ||| 0x100) 0 8 s).noteLevel ∧
        exec (.rstCtlWarm p key) s = .next (ignored p .rstCtl 0 (key.setWidth 32 ||| 0x200) 0 8 s).noteLevel))

/-- R419 and R425. The hold ends when RESET_N is high: by itself, a hard reset's not before its 20 µs have passed, or as RESET_N rises; while
RESET_N stays low it goes on. The count runs again from the restart. R421, R403 and R415. The start of start-up: PORST_N's release takes the strap
and starts the watchdog; RC_READY starts the count and the restart, or the hold while RESET_N is low, and leaves the safe state in force; a watchdog that runs out holds the die with
FAULT_N low and reports.
R392. While VDD_IO is low, a rise of RESET_N that a free value says the die does not see changes nothing. -/
def Obligations.ResetHoldAndStartUp : Prop :=
  (∀ s : State,
      (s.die.mode = .resetHold → s.die.resetLow = false → (s.die.kind ≠ .hard ∨ 20 ≤ s.die.markUs) → ∃ t : State, exec .resetHoldEnd s = .next t ∧ t.die.mode = .restarting ∧
        t.tim.held = false ∧ t.tim.count = s.tim.count ∧ Only [.die, .tim, .tch, .pcd] s t) ∧
      (s.die.kind = .hard → s.die.markUs < 20 → exec .resetHoldEnd s = .next s) ∧
      (s.die.mode = .resetHold → s.die.resetLow = true → exec .resetHoldEnd s = .next s) ∧
      (s.die.mode = .resetHold → s.die.cause = 4 → s.die.uvIo = false → ∃ t : State, exec .resetNRise s = .next t ∧ t.die.mode = .restarting ∧
        t.die.resetLow = false ∧ t.tim.held = false) ∧
      (s.die.mode ≠ .resetHold → s.die.uvIo = false → exec .resetNRise s = .next { s with die := { s.die with resetLow := false } }) ∧
      (s.die.mode ≠ .resetHold → s.die.uvIo = true → ∀ t : State, t = { s with free := s.free + 1 } → exec .resetNRise s =
        .next (if Config.pinSeen s.free then { t with die := { t.die with resetLow := false } } else t)) ∧
      (s.die.mode ≠ .resetHold → exec .resetHoldEnd s = .next s)) ∧
  (∀ s : State,
      (∀ strap, s.die.mode = .porstLow → exec (.porstNRelease strap) s = .next { s with
        die := { s.die with mode := .startWatch, markUs := 0 }, tw := { s.tw with strap := strap } }) ∧
      (s.die.mode = .startWatch → s.die.resetLow = false → exec .rcReady s = .next { s with
        die := { s.die with mode := .restarting, rcReady := true }, tim := { s.tim with held := false } }) ∧
      (s.die.mode = .startWatch → s.die.resetLow = true → exec .rcReady s = .next { s with
        die := { s.die with mode := .resetHold, rcReady := true } }) ∧
      (s.die.mode = .safe → exec .rcReady s = .next { s with die := { s.die with rcReady := true } }) ∧
      ((s.die.mode = .startWatch ∨ (s.die.mode = .safe ∧ s.die.rcReady = false)) → ∃ t : State, exec .startupWatchdogExpiry s = .next t ∧ t.die.mode = .rcHold ∧
        t.faultN = true ∧ (∃ l ∈ t.flt.lines, l.src = 80 ∧ l.detail = 2) ∧ Only [.die, .flt] s t) ∧
      (s.die.mode ≠ .startWatch → s.die.mode ≠ .safe → exec .rcReady s = .next s) ∧
      (s.die.mode ≠ .startWatch → (s.die.mode ≠ .safe ∨ s.die.rcReady = true) → exec .startupWatchdogExpiry s = .next s))

/-- R414. A power-on reset loses everything but the fuses: PORST_N low holds the die, and a collapsed VDD_AON or VDD_CORE starts start-up again.
A fuse command that runs is cut off; else the fuses stay as they are. -/
def Obligations.PowerOnResetLosesAllButTheFuses : Prop :=
  ∀ s : State,
    (∃ t : State, exec (.powerOnReset .porstN) s = .next t ∧ t.die.mode = .porstLow ∧ t.die.cause = 0 ∧
      t.otp = { State.reset.otp with normal := s.otpInterrupt.otp.normal, strict := s.otpInterrupt.otp.strict } ∧
      Only [.die, .otp, .dbg, .tw, .out, .free, .pending] State.reset t ∧ t.pending = s.pending ∧ t.out = s.out) ∧
    (s.otp.busy = none → s.otpInterrupt.otp.normal = s.otp.normal ∧ s.otpInterrupt.otp.strict = s.otp.strict) ∧
    (s.die.mode ≠ .porstLow → ∀ c : Instr, ((c = .powerOnReset .aonUv ∨ c = .railUndervoltage .aon) ∨
        (c = .powerOnReset .coreUv ∨ c = .railUndervoltage .core)) → ∃ t : State,
      exec c s = .next t ∧ t.die.mode = .startWatch ∧ (t.die.cause = 1 ∨ t.die.cause = 2) ∧
      t.otp = { State.reset.otp with normal := s.otpInterrupt.otp.normal, strict := s.otpInterrupt.otp.strict } ∧ t.regs = State.reset.regs ∧
      t.tch = State.reset.tch ∧ t.pcd = State.reset.pcd ∧ t.rng = State.reset.rng)

/-- R438, R440 and R441. The fuses are sensed once in a restart: with the BOOT region trusted the register file is released; with it untrusted the
die is held with FAULT_N low. R423, R421 and R534. The boot code's image: the read ends once its bytes are there, a second later the read is tried
again, and the controller is busy for the whole read. R421 step 13. Data service begins once: with the groups trained, the first rounds latched
and IDENTITY trusted it is marked, Scarab's first pass begins and admission is computed. -/
def Obligations.RestartSteps : Prop :=
  (∀ (decay : List FuseRead) (s : State),
      ((s.die.mode ≠ .restarting ∨ s.otp.sensed = true) → exec (.otpSenseDone decay) s = .next s) ∧
      (s.die.mode = .restarting → s.otp.sensed = false → ∃ t : State, exec (.otpSenseDone decay) s = .next t ∧
        t.otp = { (s.otp.senseAll decay).judge with sensed := true } ∧
        (t.otp.trusted.getLsbD 0 = true → t.die.mode = .running ∧ t.die.mgmt = true) ∧
        (t.otp.trusted.getLsbD 0 = false → t.die.mode = .bootHeld ∧ t.die.faultHold = true ∧
          Only [.die, .tch, .otp, .flt] s t))) ∧
  (∀ s : State,
      ((s.tw.bootRead = false ∨ s.clk.xtalGood = false) → exec .imageReadDone s = .next s) ∧
      (s.tw.bootRead = true → s.clk.xtalGood = true → lengthFits (imageLength s.die.image) = true → s.die.image.length = imageLength s.die.image →
        s.bst.memDone ≠ 0xFFFF → exec .imageReadDone s = .next { s with
          die := { s.die with imageRead := true }, tw := { s.tw with busy := false, bootRead := false, result := 0 } }) ∧
      (s.die.mode = .running → s.die.hiveRun = false → s.tw.busy = false → s.die.imageRead = false →
        s.bst.memDone.getLsbD 0 = true → s.bst.memFail.getLsbD 0 = false → s.die.blockBusy.contains blkHive = false →
        s.die.imageAt + 1000000 ≤ s.die.markUs → ∃ target : Byte, exec .imageRetry s = .next { s with
          die := { s.die with image := [], imageRead := false, imageOk := false, hiveMem := [] },
          sec := { s.sec with boot := 0 },
          tw := { s.tw with busy := true, bootRead := true, vqps := none, result := 0, doneN := 0, losses := 0 },
          out := s.out ++ [.twStart target] } ∧
          target.toNat = if fieldOf (s.otp.sh 1) 0 7 = 0 then 0x50 else fieldOf (s.otp.sh 1) 0 7) ∧
      ((s.die.mode ≠ .running ∨ s.die.hiveRun = true ∨ s.tw.busy = true ∨ s.die.markUs < s.die.imageAt + 1000000) → exec .imageRetry s = .next s)) ∧
  (∀ s : State,
      ((s.die.mode ≠ .running ∨ s.hiveOk = false ∨ s.die.dataService = true ∨ s.tch.group < 4 ∨ s.firstRounds = false ∨
        s.otp.trusted.getLsbD 1 = false) → exec .dataService s = .next s) ∧
      (s.die.mode = .running → s.hiveOk = true → s.die.dataService = false → 4 ≤ s.tch.group → s.firstRounds = true →
        s.otp.trusted.getLsbD 1 = true → imageField s.die.image 0xE 2 % 2 = 0 → ∃ u : State,
        exec .dataService s = .next u.admitNow.noteLevel ∧ Only [.die, .scb, .pwr] s u ∧ u.die.dataService = true ∧
        u.die.mark2 = BitVec.ofNat 32 (max 1 s.die.markUs) ∧ u.scb.running = true ∧ u.scb.passStart = s.now ∧
        u.pwr.idleSince = s.now))

/-- R429 and R461. RST_BLOCK with KEY 0x3C resets one block: a wrong KEY, a code not in the table and a block whose reset is in progress are
ignored and reported; a block under test waits for its segment; the calibration unit loses its codes and every item falls due, the thermal unit
starts its model again, and the security engine keeps no slot and no key-wrapping key. A block reset that ends leaves BUSY. -/
def Obligations.BlockResetsStartAndEnd : Prop :=
  (∀ (p : Path) (data : Word) (s : State), Acts p .rstBlock 0 s →
    (fieldOf data 8 8 ≠ 0x3C → exec (.rstBlock p data) s = .next (ignored p .rstBlock 0 data 8 8 s).noteLevel) ∧
    (fieldOf data 8 8 = 0x3C → (isBlock (data.setWidth 8) = false ∨ s.die.resetting (data.setWidth 8) = true) →
      exec (.rstBlock p data) s = .next (ignored p .rstBlock 0 data 0 8 s).noteLevel) ∧
    (fieldOf data 8 8 = 0x3C → isBlock (data.setWidth 8) = true → s.die.resetting (data.setWidth 8) = false →
      (blockPart (data.setWidth 8)).any s.testing = true →
      exec (.rstBlock p data) s = .next
        { s with die := { s.die with blockPend := s.die.blockPend ++ [(data.setWidth 8, false)] } }.noteLevel) ∧
    (fieldOf data 0 16 = 0x3C08 → s.die.resetting 8 = false → s.testing 5 = false → exec (.rstBlock p data) s = .next { s with
      die := { s.die with blockBusy := s.die.blockBusy ++ [8] }
      cal := { s.cal with due := List.range 36, running := [], pend := [], probes := [] } }.noteLevel.noteLevel) ∧
    (fieldOf data 0 16 = 0x3C09 → s.die.resetting 9 = false → exec (.rstBlock p data) s = .next { s with
      die := { s.die with blockBusy := s.die.blockBusy ++ [9] }
      thm := { s.thm with modelUp := false, converge := 64, seen := [], firstTop := 0, badRun := [], lowRun := [] } }.noteLevel.noteLevel) ∧
    (fieldOf data 0 16 = 0x3C06 → s.die.resetting 6 = false → s.testing 5 = false → ∃ u : State,
      exec (.rstBlock p data) s = .next u.noteLevel.actLate.noteLevel ∧ u.sec.slots = [] ∧ u.sec.kwk = none ∧ u.sec.err = 0 ∧
      (s.otp.busy = none → u.sec.busy = 0) ∧
      u.die = { s.die with blockBusy := s.die.blockBusy ++ [6] })) ∧
  (∀ (b : Byte) (s : State), s.regs.late = [] →
    (s.die.blockBusy.contains b = false → exec (.blockResetEnd b) s = .next s) ∧
    (b.toNat < 32 → b ≠ 10 → s.die.blockBusy.contains b = true → exec (.blockResetEnd b) s =
      .next { s with die := { s.die with blockBusy := s.die.blockBusy.erase b } }.noteLevel) ∧
    (s.die.blockBusy.contains 10 = true → s.die.mode = .running → s.bst.memDone.getLsbD 0 = true → s.bst.memFail.getLsbD 0 = false →
      s.die.imageOk = true → s.die.hiveMem = [] → s.otp.queue = [] →
      exec (.blockResetEnd 10) s =
        .next { s with die := { s.die with blockBusy := s.die.blockBusy.erase 10, hiveRun := true } }.noteLevel))

/-- R47 and R48. A cricket tick counts 1, and at most one tick in two is bent by one cycle until the slew is gone; held in reset, and in the safe state (R511), only
the marks, the WAKE_N pulse, the island moves and the rail ballast run, as the allowance for load changes has room, and without supply or clock nothing does. Nothing
waits here for a domain, a path or a fuse command, no stack test runs and no entry to P5, since what waits is carried out at a tick. R50 to R52, R64 and R67. The node epoch ends at its boundary and nowhere else: the next begins where it
ended and is 1,024 ticks long, the class counters are snapshot and start again, and then the rest of R51's list follows in its order. R348, R49,
R54 and R57. A set that is not valid changes nothing; a valid one within 1 µs of a locked node's count sets the slew; a second one that agrees
makes an orphaned node take the corrected count and clear ORPHAN. ORPHAN_TO without a set orphans the node. -/
def Obligations.TicksTimeSetsAndNodeEpochs : Prop :=
  ((∀ s : State, s.die.blockPend = [] → s.regs.late = [] → s.lnk.parked = [] → s.rng.held = [] → s.rng.evLost = 0 →
      ((s.die.mode = .off ∨ s.die.mode = .porstLow) → exec .cricketTick s = .next s) ∧
      (s.die.mode ≠ .off → s.die.mode ≠ .porstLow → (s.tim.held = true ∨ s.die.mode = .safe) → ∃ t : State,
        exec .cricketTick s = .next t ∧ Only [.die, .pwr] s t ∧
        t.die = { s.die with markUs := s.die.markUs + 1, ballastCore := t.die.ballastCore, ballastT := t.die.ballastT } ∧
        t.pwr = { s.pwr with
          wakeLeft := s.pwr.wakeLeft - 1, us := s.pwr.us + 1, grants := t.pwr.grants, isleTo := t.pwr.isleTo,
          isleWait := t.pwr.isleWait } ∧
        (s.loadFits ⟨min 3000 s.die.ballastCore, min 3000 s.die.ballastT, 0⟩ = true →
          t.die.ballastCore = s.die.ballastCore - 3000 ∧ t.die.ballastT = s.die.ballastT - 3000) ∧
        (s.loadFits ⟨min 3000 s.die.ballastCore, min 3000 s.die.ballastT, 0⟩ = false →
          t.die.ballastCore = s.die.ballastCore ∧ t.die.ballastT = s.die.ballastT)) ∧
      (s.die.mode ≠ .off → s.die.mode ≠ .porstLow → s.die.mode ≠ .safe → s.tim.held = false → s.pwr.offStage = 0 →
        s.bst.retain = none → ∃ t : State, exec .cricketTick s = .next t ∧
        t.tim = s.tim.ticked ∧ t.die.markUs = s.die.markUs + 1 ∧ (s.otp.busy = none → s.otp.queue = [] → t.otp = s.otp) ∧
        (s.tw.vqpsQ = [] → s.otp.busy = none → s.otp.queue = [] → t.regs = s.regs))) ∧
    (∀ t : Tim, t.ticked.count = t.count + 1 ∧ (t.bend ≠ 0 → t.ticked.bend = 0) ∧ (t.slew = 0 → t.bend = 0) ∧
      (t.bend ≠ 0 → t.ticked.slew.natAbs + 1 = t.slew.natAbs))) ∧
  (∀ s : State,
      ((s.scheduled = false ∨ s.now < s.tim.epochEnd) → exec .epochBoundary s = .next s) ∧
      (s.scheduled = true → s.tim.epochEnd ≤ s.now → ∃ u v : State,
        u = s.nextEpoch.budgetBoundary ∧ v = u.qosBoundary.snapCounters.snapLanes ∧
        exec .epochBoundary s = .next v.scarabBoundary.thermalBoundary.calBoundary.bistBoundary.groupBoundary ∧
        u.tim = { s.tim with
          epochStart := s.tim.epochEnd, epochEnd := s.tim.epochEnd + 1024, epochNum := s.tim.epochEnd / 1024,
          lastIrreg := s.tim.irreg, irreg := false } ∧
        u.bud = { s.bud with
          usedSnap := s.bud.used, overSnap := s.bud.overQ, ballastSnap := s.bud.ballast, used := .all 0, overQ := 0, ballast := 0 } ∧
        v.qos.bytesSnap = s.qos.bytes ∧ v.qos.bytes = [] ∧ v.pcd.corr = 0 ∧ v.pcd.ue = 0 ∧ v.tch.nref = 0 ∧
        v.tch.nrefSnap = min 1048575 s.tch.nref ∧ v.tim = u.tim ∧ v.bud = u.bud)) ∧
  ((∀ (n : BitVec 2) (ts : TimeSet) (s : State) (shelf diff : Int),
      shelf = ts.count.toNat * 16000 + ts.corr.toNat + (s.port n.toNat).delay.toNat → diff = shelf - (s.now * 16000 + ts.frac) →
      (s.timeValid n.toNat ts = false → exec (.timeSetReceived n ts) s = .next s) ∧
      (s.timeValid n.toNat ts = true → s.tim.orphan = false → diff.natAbs ≤ 16000 → exec (.timeSetReceived n ts) s =
        .next ({ s with
          lnk := { s.lnk with depth := BitVec.ofNat 3 (ts.hops.toNat + 1) }
          tim := { s.tim with prevDiff := some diff, lastSetAt := s.now, slew := slewCycles diff }
        }.forwardTime n.toNat ts (s.port n.toNat).delay.toNat)) ∧
      (s.timeValid n.toNat ts = true → s.tim.orphan = true → s.tim.prevDiff = none → exec (.timeSetReceived n ts) s =
        .next ({ s with
          lnk := { s.lnk with depth := BitVec.ofNat 3 (ts.hops.toNat + 1) }
          tim := { s.tim with prevDiff := some diff, lastSetAt := s.now }
        }.forwardTime n.toNat ts (s.port n.toNat).delay.toNat)) ∧
      (s.timeValid n.toNat ts = true → s.tim.orphan = true → (∃ d, s.tim.prevDiff = some d ∧ (diff - d).natAbs ≤ 16000) → ∃ u : State,
        exec (.timeSetReceived n ts) s = .next (u.forwardTime n.toNat ts (s.port n.toNat).delay.toNat) ∧
        u.tim.orphan = false ∧ u.tim.locked = true ∧ u.tim.everLocked = true ∧ u.tim.slew = 0 ∧ u.tim.irreg = true ∧
        u.tim.count = BitVec.ofNat 64 (shelf / 16000).toNat ∧
        (∃ l ∈ u.flt.lines, l.src = 90))) ∧
    (∀ s : State,
      (s.tim.orphan = false → s.tim.lastSetAt + s.fld .timCfg 0 16 16 ≤ s.now → ∃ t : State, exec .orphanTimeout s = .next t ∧
        t.tim.orphan = true ∧ t.tim.locked = false ∧ t.tim.count = s.tim.count ∧
        (∃ l ∈ t.flt.lines, l.src = 90 ∧ l.detail = 1) ∧ Only [.tim, .flt, .clk, .rng, .lnk, .tch, .pwr, .out] s t) ∧
      ((s.tim.orphan = true ∨ s.now < s.tim.lastSetAt + s.fld .timCfg 0 16 16) → exec .orphanTimeout s = .next s)))

/-- R270 and R271. In P0 and P1, every STEP_US ticks the limit of a class moves one step on every channel: up toward LIM_MAX at or below LWM, down by DEC toward LIM_MIN
at or above HWM for a class below the highest one waiting whose count is not below its quota; then requests enter as the limits allow. R280, R281
and R284. An admission computation follows a change of an input: every guarantee fits where the sum fits the pool, and is scaled down where it
does not; while the Hive core does not run the old result stands and is marked stale. -/
def Obligations.ClassLimitsAndAdmission : Prop :=
  (∀ s : State,
      ((s.now < s.qos.lastStep + s.fld .qosCfg 0 16 6 ∨ 2 ≤ s.pwr.state.toNat) → exec .qosAdaptStep s = .next s) ∧
      (s.qos.lastStep + s.fld .qosCfg 0 16 6 ≤ s.now → s.pwr.state.toNat < 2 → Tab.wf .init s.tch.chans = true → ∃ u : State,
        exec .qosAdaptStep s = .next u.letInAll ∧ Only [.tch, .qos] s u ∧
        u.qos = { s.qos with lastStep := s.now } ∧
        ∀ (i : Nat) (c : Chan), i < 1024 → c = s.chan i → Tab.wf 2 c.lim = true → ∀ n, n < 8 →
          Tab.get 2 (u.chan i).lim n =
            (if s.fld .qosCfg 0 8 6 ≤ c.queue.length then
              (if (∃ w, s.topWaiting i = some w ∧ n < w) ∧ s.belowQuota n = false then
                max (s.fld .qosTc n 16 6) (Tab.get 2 c.lim n - s.fld .qosCfg 0 24 4) else Tab.get 2 c.lim n)
            else if c.queue.length ≤ s.fld .qosCfg 0 0 6 then
              max (Tab.get 2 c.lim n) (min (s.fld .qosTc n 24 6) (Tab.get 2 c.lim n + 1))
            else Tab.get 2 c.lim n))) ∧
  (∀ s : State,
      (s.qos.causes = 0 → s.qos.stale = false → exec .admissionRecompute s = .next s) ∧
      ((s.qos.causes ≠ 0 ∨ s.qos.stale = true) → s.hiveOk = false →
        exec .admissionRecompute s = .next { s with qos := { s.qos with stale := true } }) ∧
      ((s.qos.causes ≠ 0 ∨ s.qos.stale = true) → s.hiveOk = true → ∃ (t : State) (a : Admission),
        exec .admissionRecompute s = .next t ∧ a = s.admission ∧ t.qos.stale = false ∧ t.qos.causes = 0 ∧ t.qos.scale = a.scale ∧
        t.qos.pool = a.pool ∧ t.qos.applied = Tab.setList 0 [] 0 (s.guars.map fun g => g * a.scale / 4096) ∧
        (a.sum ≤ a.pool → a.scale = 4096) ∧ (a.pool < a.sum → a.scale = 4096 * a.pool / a.sum) ∧ a.scale ≤ 4096 ∧
        t.qos.report.length ≤ 16 ∧ t.qos.repSeq = s.qos.repSeq + 1 ∧ t.regs = s.regs ∧ t.bud = s.bud))

/-- R392 and R418. A rail below its threshold raises its source and is noted; the die is not reset by it, but for VDD_AON and VDD_CORE; a tier
rail that falls clears every readiness bit of the powered tiers; a link rail takes the ports DOWN. A rail that is restored is no longer noted.
R380, R381, R417 and R418. A cool die restarts warm from a Click 10 seconds after the latch, unless its clicks have reached their limit; a tier
that is too late in self-refresh is not retained, and is reported. -/
def Obligations.RailsAndTheClick : Prop :=
  (∀ s : State,
      exec (.railUndervoltage .io) s = .next { s with
        die := { s.die with uvIo := true }
        flt := { s.flt with lines := (s.flt.lines.filter fun (x : FaultLine) => x.src != 88) ++ [(⟨88, 1⟩ : FaultLine)] } } ∧
      (∃ u : State, exec (.railUndervoltage .lnk) s = .next (u.portsDown false |>.raise 87 1) ∧ Only [.die] s u ∧ u.die.uvLnk = true) ∧
      (∀ (r : Rail) (d : BitVec 64), (r = .vddT ∧ d = 1) ∨ (r = .vppT ∧ d = 2) → ∃ u : State,
        exec (.railUndervoltage r) s = .next u ∧ u.tim = s.tim ∧ u.otp = s.otp ∧ u.cal = s.cal ∧ u.thm = s.thm ∧ u.dbg = s.dbg ∧
        u.tw = s.tw ∧ u.bst = s.bst ∧ u.flt.lines.getLast? = some ⟨89, d⟩ ∧
        (∀ t ∈ s.poweredTiers, ∀ q, q < 256 → Tab.wf 0 s.pcd.rdy = true → u.ready q t = false) ∧
        u.die.uvT = (s.die.uvT || r = .vddT) ∧ u.die.uvPp = (s.die.uvPp || r = .vppT)) ∧
      exec (.railRestored .lnk) s = .next { s with die := { s.die with uvLnk := false } } ∧
      exec (.railRestored .io) s = .next { s with die := { s.die with uvIo := false } } ∧
      exec (.railRestored .vddT) s = .next { s with die := { s.die with uvT := false } } ∧
      exec (.railRestored .vppT) s = .next { s with die := { s.die with uvPp := false } } ∧
      exec (.railRestored .aon) s = .next s ∧ exec (.railRestored .core) s = .next s) ∧
  ((∀ s : State,
      ((s.die.mode ≠ .clickHold ∨ s.thm.hold = false ∨ s.thm.noRestart = true ∨ s.now < s.thm.latchAt + 10000000 ∨
        (∃ k ∈ s.sources, s.thmLimit 24 ≤ s.sourceTemp k)) → exec .clickRestart s = .next s) ∧
      (s.die.mode = .clickHold → s.thm.hold = true → s.thm.noRestart = false → s.thm.latchAt + 10000000 ≤ s.now →
        (∀ k ∈ s.sources, s.sourceTemp k < s.thmLimit 24) → ∃ t : State, exec .clickRestart s = .next t ∧
        t = (s.warmReset causeClick).postEvent 0x0008 0 3 (BitVec.ofNat 32 s.thm.hotSrc) s.thm.clickTime.toNat ∧
        t.die.cause = 9 ∧ t.die.kind = .warm ∧ t.thm.hold = false)) ∧
    (∀ (t : BitVec 5) (s : State),
      ((s.die.goodAtCause.getLsbD t.toNat = false ∨ s.die.retain.getLsbD t.toNat = false ∨ s.die.dataService = true) →
        exec (.quiesceOverrun t) s = .next s) ∧
      (s.die.goodAtCause.getLsbD t.toNat = true → s.die.retain.getLsbD t.toNat = true → s.die.dataService = false → ∃ u : State,
        exec (.quiesceOverrun t) s = .next u ∧ Only [.die, .regs, .tch, .pcd, .pwr, .flt] s u ∧
        u.die.retain = s.die.retain &&& ~~~ ((1 : Word) <<< t.toNat) ∧ u.die.tierRetained = false ∧ u.pcd.rdy = [] ∧ u.pcd.windows = [] ∧
        u.flt.lines.getLast? = some ⟨94, BitVec.ofNat 64 (1 + 256 * t.toNat)⟩ ∧ u.pwr.restart = s.pwr.restart.erase t.toNat)))

/-- R404, R406, R408, R409 and R410. A crystal that is good takes CK_EPOCH back from CK_RC; after a failure both fabric PLLs relock
first, then the islands reopen, the tiers in rest restart, and every calibration item becomes due; one that is not good in 20 ms raises source 77; one that fails moves both multiplexers to CK_RC and loses every PLL,
leaves a running die at the management floor in P0, and outside a running die takes the ports DOWN and orphans the node; a CK_RC that fails holds the die, in P5 too. R405, R406 and R407. A PLL that locks is
noted, CK_HIVE goes back to VCO A with PLL 0, and what waited for its domain is carried out; a monitor that trips on loss of lock takes the lock
away, and on drift leaves it, and either raises source 78; a forced multiplexer sets its bit and raises source 79. -/
def Obligations.CrystalAndPlls : Prop :=
  (∀ s : State,
      ((s.clocksRun = false ∨ s.clk.xtalGood = true) → exec .xtalGood s = .next s) ∧
      (s.clocksRun = true → s.clk.xtalGood = false → exec .xtalGood s = .next { s with clk := { s.clk with
        xtalGood := true, xtalEver := true, onRc := false, parked := false, back := if s.clk.parked then 1 else s.clk.back } }) ∧
      (s.clk.back = 1 → (s.clk.fabA = false ∨ s.clk.fabB = false) → s.xtalBack = s) ∧
      (s.clk.back = 1 → s.clk.fabA = true → s.clk.fabB = true → s.xtalBack = { s with clk := { s.clk with back := 2 } }.moveIslands) ∧
      (s.clk.back = 2 → s.islesDone = true → s.xtalBack = { s with
        clk := { s.clk with back := 3 }, pwr := { s.pwr with restart := s.parkedTiers, restartAt := some s.now } }) ∧
      (s.clk.back = 3 → s.pwr.restart = [] → s.xtalBack = { s with
        clk := { s.clk with back := 0 }, cal := { s.cal with due := List.range 36 } }) ∧
      (s.clocksRun = true → s.clk.xtalGood = false → s.clk.xtalEver = false → exec .xtalTimeout s = .next (s.raise 77 1)) ∧
      ((s.clocksRun = false ∨ s.clk.xtalGood = true ∨ s.clk.xtalEver = true) → exec .xtalTimeout s = .next s) ∧
      ((s.clocksRun = false ∨ s.clk.xtalGood = false) → exec .xtalFail s = .next s) ∧
      (s.clocksRun = true → s.clk.xtalGood = true → ∃ u v : State, Only [.clk, .flt, .bst, .pcd] s u ∧
        u.clk = { s.clk with
          xtalGood := false, onRc := true, hiveOnRc := true, fabA := false, fabB := false, laneLock := 0, tierLock := 0, tripped := [],
          forced := s.clk.forced ||| 1, xtalFails := satInc s.clk.xtalFails 1 } ∧
        (∃ l ∈ u.flt.lines, l.src = 79 ∧ l.detail = 1) ∧
        (s.bst.state ≠ 1 → s.bst.state ≠ 2 → u.bst = s.bst ∧ u.pcd = s.pcd) ∧ (s.bst.state = 1 → u.bst.state = 0 ∧ u.bst.inSegment = false) ∧
        (s.die.mode ≠ .running → exec .xtalFail s = .next ((u.portsDown false).goOrphan.raise 77 2)) ∧
        (s.die.mode = .running → exec .xtalFail s = .next (v.noteLevel.raise 77 2) ∧ v.clk.parked = true ∧ v.rng.cmds = [] ∧
          v.pwr.restart = [] ∧ v.pwr.state = 0 ∧ v.pwr.exiting = false ∧
          v.pwr.gateA = true ∧ v.pwr.gateB = true ∧ v.pcd.merge = [])) ∧
      (s.clocksRun = false → (s.die.mode ≠ .off ∨ s.die.rcReady = false) → exec .rcWatchTrip s = .next s) ∧
      ((s.clocksRun = true ∨ (s.die.mode = .off ∧ s.die.rcReady = true)) → ∃ t : State, exec .rcWatchTrip s = .next t ∧ t.die.mode = .rcHold ∧ t.faultN = true ∧ t.die.mgmt = false ∧
        t.flt.lines.getLast? = some ⟨80, 1⟩ ∧ Only [.die, .bud, .lnk, .flt, .otp, .free] s t)) ∧
  ((∀ s : State, s.clk.xtalGood = true → s.die.mode ≠ .off →
      ((s.pwr.state.toNat < 3 ∨ s.pwr.exiting = true) →
        exec (.pllLock 0) s = .next { s with clk := { s.clk with
          fabA := true, hiveOnRc := false, tripped := s.clk.tripped.erase 0 } }.ungate.restartsDone.resume ∧
        exec (.pllLock 1) s = .next
          { s with clk := { s.clk with fabB := true, tripped := s.clk.tripped.erase 1 } }.ungate.restartsDone.resume ∧
        (∀ (k : BitVec 6) (t : Nat), k.toNat = t + 2 → t < 32 →
          ((s.tier t).changing = false ∨ (s.tier t).selfRef = false ∨ s.loadFits tierLoad = false ∨ s.srxSpaced = false) → exec (.pllLock k) s =
          .next { s with clk := { s.clk with
            tripped := s.clk.tripped.erase k.toNat, tierLock := s.clk.tierLock ||| (1 : Word) <<< t } }.resume) ∧
        (∀ (k : BitVec 6) (t : Nat), k.toNat = t + 2 → t < 32 → (s.tier t).changing = true → (s.tier t).selfRef = true →
          s.loadFits tierLoad = true → s.srxSpaced = true → exec (.pllLock k) s = .next ({ s with clk := { s.clk with
            tripped := s.clk.tripped.erase k.toNat, tierLock := s.clk.tierLock ||| (1 : Word) <<< t } }.endFreq t).resume)) ∧
      (∀ (k : BitVec 6) (n : Nat), k.toNat = n + 34 → n < 4 → exec (.pllLock k) s = .next { s with clk := { s.clk with
        tripped := s.clk.tripped.erase k.toNat, laneLock := s.clk.laneLock ||| (1 : BitVec 4) <<< n } }.resume) ∧
      (∀ k : BitVec 6, k.toNat < 34 → 3 ≤ s.pwr.state.toNat → s.pwr.exiting = false → exec (.pllLock k) s = .next s.resume)) ∧
    (∀ (k : BitVec 6) (s : State), (s.clk.xtalGood = false ∨ 38 ≤ k.toNat ∨ s.die.mode = .off) → exec (.pllLock k) s = .next s.resume) ∧
    (∀ (k : BitVec 6) (drift : Bool) (s : State),
      ((s.pllLocked k.toNat = false ∨ s.clocksRun = false) → exec (.pllMonitorTrip k drift) s = .next s) ∧
      (s.pllLocked k.toNat = true → s.clocksRun = true → ∃ t : State, exec (.pllMonitorTrip k drift) s = .next t ∧
        Only [.clk, .flt] s t ∧ t.clk.tripped = insertSorted k.toNat s.clk.tripped ∧
        t.flt.lines.getLast? = some ⟨78, BitVec.ofNat 64 ((if drift then 2 else 1) + 256 * k.toNat)⟩ ∧
        (k.toNat < 38 → t.pllLocked k.toNat = drift) ∧ (∀ j, j < 38 → j ≠ k.toNat → t.pllLocked j = s.pllLocked j))) ∧
    (∀ (h : Bool) (s : State),
      (s.clocksRun = false → exec (.muxForce h) s = .next s) ∧
      (s.clocksRun = true → exec (.muxForce h) s = .next ({ s with clk := { s.clk with
        forced := s.clk.forced ||| (if h then 2 else 1) } }.raise 79 (if h then 2 else 1)))))

/-- R372, R373, R375, R378 and R379. A frame of a tier's sensor that is valid is its sample and ends its run of bad ones, and while the thermal unit takes no samples Click alone judges it; the eighth bad one in a
row makes the sensor suspect. Base-die sensors give their samples together, and are judged. A grace period that ends while a source still holds
the condition enforces the cut; one that has not ended does nothing. R311, R312, R383 and R384. The end of an item's round, once its probes have
issued, keeps what it measured for the next boundary; a round that does not run, or has probes left, changes nothing. An eye that is measured is
noted, and in LANE_TRAIN a locked lane passes at EYE_MIN. -/
def Obligations.SensorsCalibrationAndEyes : Prop :=
  ((∀ (t : BitVec 5) (frame : BitVec 12) (s : State),
      ((s.tier t.toNat).powered = false → exec (.tierSensorFrame t frame) s = .next s) ∧
      ((s.tier t.toNat).powered = true → s.samples = false → frame.getLsbD 11 = true → oddOnes frame = false →
        exec (.tierSensorFrame t frame) s = .next (s.judgeRaw t.toNat (frame.toNat % 1024))) ∧
      ((s.tier t.toNat).powered = true → s.samples = true → (frame.getLsbD 11 = false ∨ oddOnes frame = true) → ∀ k,
        k = Tab.get 0 s.thm.badRun t.toNat + 1 →
        (k < 8 → exec (.tierSensorFrame t frame) s = .next
          { s with thm := { s.thm with badRun := Tab.set 0 s.thm.badRun t.toNat k } }) ∧
        (8 ≤ k → s.thm.suspect.getLsbD t.toNat = false → ∃ u : State, exec (.tierSensorFrame t frame) s = .next u ∧
          u.thm.suspect = s.thm.suspect ||| (1 : Word) <<< t.toNat ∧ u.thm.invalid = s.thm.invalid ||| (1 : Word) <<< t.toNat ∧
          u.thm.sample = s.thm.sample ∧
          u.flt.lines.getLast? = some ⟨75, BitVec.ofNat 64 (1 + 256 * t.toNat + 8192)⟩ ∧
          Only [.thm, .flt, .clk, .rng, .lnk, .tch, .pwr, .out] s u)) ∧
      ((s.tier t.toNat).powered = true → s.samples = true → frame.getLsbD 11 = true → oddOnes frame = false → ∃ u : State,
        exec (.tierSensorFrame t frame) s = .next ((u.judgeDistrust t.toNat).newTemp t.toNat) ∧ Only [.thm] s u ∧
        u.thm.sample = Tab.set 0 s.thm.sample t.toNat (frame.toNat % 1024) ∧ u.thm.badRun = Tab.set 0 s.thm.badRun t.toNat 0 ∧
        u.thm.suspect = s.thm.suspect ∧ t.toNat ∈ u.thm.seen)) ∧
    (∀ (base : List (BitVec 10)) (s : State), s.samples = true → base.length = 16 → ∃ u : State,
      exec (.sensorSample base) s = .next ((List.range 16).foldl (fun v k => v.newTemp (32 + k)) u) ∧ Only [.thm] s u ∧
      u.thm = { s.thm with base := u.thm.base, seen := u.thm.seen, firstTop := u.thm.firstTop } ∧ s.thm.firstTop ≤ u.thm.firstTop ∧ (∀ k, k < 16 → 32 + k ∈ u.thm.seen) ∧
      (Tab.wf 0 s.thm.base = true → ∀ k, k < 16 → u.baseOf k = (base.getD k 0).toNat)) ∧
    (∀ s : State,
      (s.thm.graceAt = none ∨ s.thm.throt = [] ∨ (∃ a, s.thm.graceAt = some a ∧ s.now < a + 1000 * s.thm.graceLen) →
        exec .graceTimeout s = .next s) ∧
      (∀ a, s.thm.graceAt = some a → s.thm.throt ≠ [] → a + 1000 * s.thm.graceLen ≤ s.now → ∃ u : State,
        exec .graceTimeout s = .next ((s.cut true).postEvent 0x0007 0 2 (BitVec.ofNat 32 (s.fld .thmThrot 0 16 7)) 0) ∧ u = s.cut true ∧
        u.thm.enforced = true ∧ u.thm.graceAt = none ∧ u.bud.throttled = true ∧ Only [.thm, .bud, .qos, .tch] s u)) ∧
    (∀ (k : Nat) (s : State), k < 32 → s.thm.hold = false → s.die.mode = .running → s.thmLimit 16 ≤ s.sampleOf k →
      (s.judgeShut k).thm.hold = true ∧ (s.judgeShut k).die.mode = .clickHold ∧ (s.judgeShut k).die.hiveRun = false ∧
      (s.judgeShut k).thm.clicks = satInc s.thm.clicks 1)) ∧
  ((∀ (item : CalItem) (res : CalResult) (s : State),
      ((s.cal.running.contains (CalItem.index item) = false ∨ s.probesDone (CalItem.index item) = false) →
        exec (.calRoundDone item res) s = .next s) ∧
      (s.cal.running.contains (CalItem.index item) = true → s.probesDone (CalItem.index item) = true → ∃ t : State, exec (.calRoundDone item res) s = .next t ∧
        Only [.cal] s t ∧ t.cal.pend = s.cal.pend ++ [(item, s.measured item res)] ∧
        t.cal.running = s.cal.running.erase (CalItem.index item) ∧ t.cal.due = s.cal.due ∧ t.cal.rounds = s.cal.rounds)) ∧
    (∀ (n : BitVec 2) (k : BitVec 3) (m : BitVec 7) (s : State) (eye : Byte), eye.toNat = min 255 (4 * m.toNat) →
      ((s.port n.toNat).phase = .laneTrain → ((s.port n.toNat).lane k.toNat).enabled = true → ∃ t : State,
        exec (.eyeMeasureDone n k m) s = .next t ∧ Only [.lnk, .cal] s t ∧
        t.lnk = (s.updPort n.toNat fun p => p.updLane k.toNat fun l =>
          { l with eye := eye, eyeDone := true, passed := l.locked && decide (s.fld .lnkPhy0 n.toNat 16 8 ≤ eye.toNat) }).lnk) ∧
      ((s.port n.toNat).phase ≠ .laneTrain → (s.port n.toNat).st ≠ .up → exec (.eyeMeasureDone n k m) s = .next s) ∧
      ((s.port n.toNat).st = .up → s.fld .lnkPhy0 n.toNat 16 8 ≤ eye.toNat → ∃ t : State,
        exec (.eyeMeasureDone n k m) s = .next t ∧ Only [.lnk, .cal] s t ∧
        t.lnk = (s.updPort n.toNat fun p => p.updLane k.toNat fun l => { l with eye := eye }).lnk) ∧
      ((s.port n.toNat).st = .up → eye.toNat < s.fld .lnkPhy0 n.toNat 16 8 → (s.port n.toNat).lanes.getLsbD k.toNat = true →
        s.flag .lnkPhy0 n.toNat 24 = true → ∃ u : State, exec (.eyeMeasureDone n k m) s = .next (u.recover n.toNat) ∧
        Only [.lnk, .cal, .clk, .rng, .tch, .pwr, .out] s u)))

/-- R187 to R190, R204 and R210. A turn of a command that is not there, is another's, is judged, waits behind a fence or needs an engine under test (R460) changes nothing, and so
does a turn of a command whose blocks have all been started or that has stopped. R208, R215 to R223, R226 and R230. The first turn of a command
with blocks passes its start checks; an empty slot K ends a WRITE, and a FILL of a pattern, with KEY_ABSENT. -/
def Obligations.CommandTurnsAndStarts : Prop :=
  (∀ (op : Op) (id : Nat) (s : State),
      (s.cmd id = none → exec (turnBy op id) s = .next s) ∧
      (∀ c, s.cmd id = some c → (c.op ≠ op ∨ c.final.isSome = true) → exec (turnBy op id) s = .next s) ∧
      (∀ c, s.cmd id = some c → s.engineTested c = true → exec (turnBy op id) s = .next s) ∧
      (∀ c x, s.cmd id = some c → c.started = false → op ≠ .abort → x ∈ s.rng.cmds → x.id < c.id → x.sq = c.sq →
        (c.desc.fence = true ∨ x.desc.fence = true) → exec (turnBy op id) s = .next s) ∧
      (∀ c, s.cmd id = some c → c.started = true → (c.count ≤ c.next ∨ c.stopped = true ∨ c.aborted = true) →
        exec (turnBy op id) s = .next s)) ∧
  (∀ (c : Cmd) (s : State), Sole c s → c.waitIds = [] → c.waitMrg = [] →
      ((c.op = .read ∨ c.op = .copy ∨ c.op = .compare ∨ c.op = .check ∨ c.op = .verify ∨ c.op = .repair ∨
        (c.op = .sanitize ∧ (c.key = 0 ∨ c.phase = 2)) ∨ ((c.op = .write ∨ c.op = .fill) ∧ s.keyEmpty c = false)) →
        exec (turnBy c.op c.id) s = .next (s.updCmd c.id fun c => { c with started := true })) ∧
      (((c.op = .write ∧ s.sqStream c.sq = false) ∨ (c.op = .fill ∧ c.desc.opnd0 ≠ 0 ∧ c.desc.opnd3 = 0)) → s.keyEmpty c = true → ∃ t : State,
        exec (turnBy c.op c.id) s = .next t ∧ Ended c 0x16 0 0 0 s t ∧ t.pcd = s.pcd) ∧
      (c.op = .sanitize → c.key ≠ 0 → c.phase = 1 → exec (.sanitize c.id) s = .next s))

/-- R218, R233, R234 and R236. NOP, FLUSH, SET_LATENCY and ABORT that wait for nothing end in their first turn, with status 0 and their results:
OPND0 and the time, the commands waited for, the old tolerance, and for an ABORT without a match the status that tells whether the pair was
remembered when it was checked. SET_LATENCY acts with its entry. -/
def Obligations.CommandsWithoutBlocksEnd : Prop :=
  ∀ (c : Cmd) (s : State), Sole c s → c.waitIds = [] → c.waitMrg = [] →
    (c.op = .nop → ∃ t : State, exec (.nop c.id) s = .next t ∧ Ended c 0 0 c.desc.opnd0 (s.now % 2 ^ 31) s t ∧ t.regs = s.regs) ∧
    (c.op = .flush → ∃ t : State, exec (.flush c.id) s = .next t ∧ Ended c 0 0 (BitVec.ofNat 32 c.aux) 0 s t ∧ t.regs = s.regs) ∧
    (c.op = .setLatency → (s.regs.cfg.map Prod.fst).Pairwise (· < ·) → c.desc.opnd0.getLsbD 16 = true → ∃ t : State, exec (.setLatency c.id) s = .next t ∧
      Ended c 0 0 (BitVec.ofNat 32 (s.fld .pwrLatTol 0 0 16)) 0 s t ∧
      t.regs = (s.setCfg .pwrLatTol 0 (c.desc.opnd0 &&& 0xFFFF)).regs) ∧
    (c.op = .setLatency → (s.regs.cfg.map Prod.fst).Pairwise (· < ·) → c.desc.opnd0.getLsbD 16 = false → ∃ t : State, exec (.setLatency c.id) s = .next t ∧
      Ended c 0 0 (BitVec.ofNat 32 (s.fld .sqcW4 c.sq 0 16)) 0 s t ∧
      t.regs = (s.setCfg .sqcW4 c.sq (withField (s.cfgWord .sqcW4 c.sq) 0 16 (fieldOf c.desc.opnd0 0 16))).regs) ∧
    (c.op = .abort → c.abOk = 0 → ∃ t : State, exec (.abort c.id) s = .next t ∧ t.regs = s.regs ∧
      Ended c (if c.aux = 1 then 0x21 else 0x22) 0 0 0 s t)

/-- R227 to R229. KEY_DESTROY waits for its erasure, and then ends with what the erasure found; KEY_ERASE overwrites a slot that no older command
needs, and ends the command UNAVAILABLE where the engine is out of service (R44); KEY_LOAD and ATTEST end UNAVAILABLE without the engine or the key pair, KEY_LOAD ends with KEY_MISMATCH on a slot that holds a key, and
else they ask the host for the record and the nonce. -/
def Obligations.KeyCommands : Prop :=
  (∀ (c : Cmd) (s : State), Sole c s → c.waitIds = [] → c.waitMrg = [] →
    (c.op = .keyDestroy → c.phase = 2 → ∃ t : State, exec (.keyDestroy c.id) s = .next t ∧
      Ended c 0 0 (BitVec.ofNat 32 c.aux) 0 s t ∧ t.regs = s.regs ∧ t.sec = s.sec) ∧
    (c.op = .keyDestroy → c.phase = 0 → ∃ t : State, exec (.keyDestroy c.id) s = .next t ∧ Ended c 0x10 0x03 0 0 s t ∧ t.sec = s.sec) ∧
    (c.op = .keyDestroy → c.phase = 1 → exec (.keyDestroy c.id) s = .next s) ∧
    (c.op = .keyLoad → s.sec.erasing = [] → s.secOut = true → ∃ t : State, exec (.keyLoad c.id) s = .next t ∧
      Ended c 0x10 0x03 0 0 s t ∧ t.sec = s.sec) ∧
    (c.op = .keyLoad → s.sec.erasing = [] → s.secOut = false → s.keyPair = false → ∃ t : State, exec (.keyLoad c.id) s = .next t ∧
      Ended c 0x10 0x07 0 0 s t ∧ t.sec = s.sec) ∧
    (c.op = .keyLoad → s.sec.erasing = [] → s.secOut = false → s.keyPair = true → Tab.get [] s.sec.slots c.key.toNat ≠ [] →
      ∃ t : State, exec (.keyLoad c.id) s = .next t ∧ Ended c 0x15 0x02 0 0 s t ∧ t.sec = s.sec) ∧
    (c.op = .keyLoad → s.sec.erasing = [] → s.secOut = false → s.keyPair = true → Tab.get [] s.sec.slots c.key.toNat = [] →
      s.rng.mrdQ = [] → s.freeTag.isSome = true →
      ∃ t : State, exec (.keyLoad c.id) s = .next t ∧ Only [.rng, .lnk, .clk, .out] s t ∧
      t.rng.mrds.map (fun m => (m.use, m.words)) = s.rng.mrds.map (fun m => (m.use, m.words)) ++ [(.block c.id 0 0, 32)]) ∧
    (c.op = .attest → s.hiveOk = false → exec (.attest c.id) s = .next s) ∧
    (c.op = .attest → s.hiveOk = true → s.secOut = true → ∃ t : State, exec (.attest c.id) s = .next t ∧ Ended c 0x10 0x03 0 0 s t) ∧
    (c.op = .attest → s.hiveOk = true → s.secOut = false → s.keyPair = false → ∃ t : State, exec (.attest c.id) s = .next t ∧
      Ended c 0x10 0x07 0 0 s t) ∧
    (c.op = .attest → s.hiveOk = true → s.secOut = false → s.keyPair = true → s.rng.mrdQ = [] → s.freeTag.isSome = true → ∃ t : State, exec (.attest c.id) s = .next t ∧
      Only [.rng, .lnk, .clk, .out] s t ∧
      t.rng.mrds.map (fun m => (m.use, m.words)) = s.rng.mrds.map (fun m => (m.use, m.words)) ++ [(.block c.id 0 0, 8)])) ∧
  (∀ (k : BitVec 10) (s : State), s.dbg.erasing = false →
    ((∀ e ∈ s.sec.erasing, e.1 ≠ k.toNat) → exec (.keyErase k) s = .next s) ∧
    (∀ id l, s.sec.erasing = (k.toNat, id) :: l → s.keyUsers k.toNat id = [] → s.secOut = true →
      exec (.keyErase k) s = .next (s.failErasure (k.toNat, id))) ∧
    (∀ id l, s.sec.erasing = (k.toNat, id) :: l → s.keyUsers k.toNat id = [] → s.secOut = false → exec (.keyErase k) s =
      .next ({ s with sec := { s.sec with slots := Tab.set [] s.sec.slots k.toNat [], erasing := l } }.updCmd id
        fun c => { c with phase := 2, aux := if Tab.get [] s.sec.slots k.toNat = [] then 0 else 1 })))

/-- R231 and R232. GET_LOG writes the header and the entries that the buffer takes from FIRST on, and ends with their number; it waits while the
Hive core does not run. R134, R224 and R225. A RECODE opens a window of its region where the map holds OLD; ends at once where the map already
holds NEW; ends INVALID where it holds neither; waits while another RECODE of the region runs; and with no window free and no other RECODE ends
UNAVAILABLE. -/
def Obligations.GetLogAndRecode : Prop :=
  ((∀ (c : Cmd) (s : State), Sole c s → c.op = .getLog → c.waitIds = [] → c.waitMrg = [] →
      (s.hiveOk = false → exec (.getLog c.id) s = .next s) ∧
      (s.hiveOk = true → ∀ (log : Nat × List (List Byte)) (l : List (List Byte)), log = s.logOf (fieldOf c.desc.opnd0 0 8) →
        l = (log.2.drop c.desc.opnd2.toNat).take ((c.desc.opnd1.toNat - 64) / log.1) → ∃ u : State, exec (.getLog c.id) s = .next
          ((u.mwrAll c.tc.toNat c.desc.addr.toNat (leBytes 1 (fieldOf c.desc.opnd0 0 8) ++ [0] ++ leBytes 2 log.1 ++
            leBytes 4 log.2.length ++ leBytes 4 c.desc.opnd2.toNat ++ leBytes 4 l.length ++ leBytes 8 s.tim.count.toNat ++
            List.replicate 40 0 ++ l.flatten)).finish c.id (plainFinal 0 0 (BitVec.ofNat 32 l.length) log.2.length)) ∧
          u = s.updCmd c.id fun c => { c with started := true })) ∧
    (∀ s : State, s.logOf 2 = (32, s.flt.hist.map FltEntry.bytes) ∧ s.logOf 3 = (32, s.regs.clampLog.map ClampEntry.bytes) ∧
        s.logOf 7 = (16, s.pwr.history.map PwrEntry.bytes) ∧ (s.logOf 1).2.length = 64 ∧ (s.logOf 8).2.length = 1056 ∧
        (s.logOf 9).2.length = 24)) ∧
  (∀ (c : Cmd) (s : State) (r : Nat), Sole c s → c.op = .recode → c.waitIds = [] → c.waitMrg = [] → r = fieldOf c.desc.opnd0 0 8 →
      s.openWindow r = none →
      (s.fld .pcdSmap r 0 3 = fieldOf c.desc.opnd0 12 3 → c.desc.opnd3 = 0 → ∃ t : State, exec (.recode c.id) s = .next t ∧
        Ended c 0 0 0x40000 0 s t ∧ t.pcd = s.pcd) ∧
      (s.fld .pcdSmap r 0 3 ≠ fieldOf c.desc.opnd0 12 3 → s.fld .pcdSmap r 0 3 = fieldOf c.desc.opnd0 8 3 →
        ∀ k, (List.range 4).find? (fun k => !(s.window k).open_) = some k → exec (.recode c.id) s =
          .next ((s.setWindow k { open_ := true, region := BitVec.ofNat 8 r, old := BitVec.ofNat 3 (fieldOf c.desc.opnd0 8 3),
                                  new := BitVec.ofNat 3 (fieldOf c.desc.opnd0 12 3), pointer := 0, mask := [] }).updCmd c.id
            fun c => { c with started := true })) ∧
      (s.fld .pcdSmap r 0 3 ≠ fieldOf c.desc.opnd0 12 3 → s.fld .pcdSmap r 0 3 ≠ fieldOf c.desc.opnd0 8 3 → c.desc.opnd3 = 0 →
        ∃ t : State, exec (.recode c.id) s = .next t ∧ Ended c 0x02 0x20 0 0 s t ∧ t.pcd = s.pcd) ∧
      (s.fld .pcdSmap r 0 3 ≠ fieldOf c.desc.opnd0 12 3 → s.fld .pcdSmap r 0 3 = fieldOf c.desc.opnd0 8 3 → c.desc.opnd3 = 0 →
        (∀ k, k < 4 → (s.window k).open_ = true) → ∃ t : State, exec (.recode c.id) s = .next t ∧ Ended c 0x10 0x06 0 0 s t ∧
        t.pcd = s.pcd))

/-- R28, R209, R215, R217 and R219 to R226. A turn of a started command starts its next block: one whose place is refused fails with the cause;
else a READ, CHECK, VERIFY, REPAIR, COPY, COMPARE of two ranges and a SANITIZE by key submit the read of its slot, a FILL of zero and a SANITIZE
of all submit the write, and a WRITE asks the host for its data. -/
def Obligations.BlockTurnsSubmitRequests : Prop :=
  ∀ (id : Nat) (c : Cmd) (s u : State), s.cmd id = some c → c.id = id → c.final = none → c.started = true → c.stopped = false →
    c.aborted = false → s.abortedLate c = false → s.engineTested c = false → c.next < c.count → u = s.openBlock id c.next .empty →
    (s.refuses c.intlv (c.base + c.next) = none → ∀ v, v = u.submit (c.req .cmdRead c.next (c.base + c.next) false) →
      (c.op = .read → exec (.read id) s = .next v) ∧ (c.op = .check → exec (.check id) s = .next v) ∧
      (c.op = .repair → exec (.repair id) s = .next v) ∧
      (c.op = .sanitize → c.desc.opnd0.getLsbD 0 = false → exec (.sanitize id) s = .next v)) ∧
    (∀ st sd, s.refuses c.intlv (c.base + c.next) = some (st, sd) → ∀ v, v = u.endBlock id c.next false (some (st, sd)) false →
      (c.op = .read → exec (.read id) s = .next v) ∧ (c.op = .check → exec (.check id) s = .next v) ∧
      (c.op = .repair → exec (.repair id) s = .next v)) ∧
    (c.op = .copy → s.refuses c.intlv (c.base + c.next) = none →
      s.refuses c.intlv (c.desc.addr2.toNat % 2 ^ 26 + c.next) = none →
      exec (.copy id) s = .next (u.submit (c.req .cmdRead c.next (c.base + c.next) false))) ∧
    (c.op = .sanitize → c.desc.opnd0.getLsbD 0 = true → s.refuses c.intlv (c.base + c.next) = none →
      exec (.sanitize id) s = .next (u.submit
        { c.req .cmdWrite c.next (c.base + c.next) true with slot := some (zeroSlot true false 0), fresh := true })) ∧
    (c.op = .fill → c.desc.opnd0 = 0 → s.refuses c.intlv (c.base + c.next) = none → exec (.fill id) s = .next (u.submit
        { c.req .cmdWrite c.next (c.base + c.next) true with slot := some (zeroSlot false false c.desc.owner), fresh := true })) ∧
    (c.op = .write → s.refusesFor c.intlv (c.base + c.next) (c.key != 0) = none → ∀ parts,
      parts = partsOf (c.dataAddr c.next) (c.blockBytes c.next) ++
        (if c.raw then [] else [(trailerPart, c.trailerAddr c.next, 1)]) → exec (.write id) s =
      .next ((s.openBlock id c.next { BlockBuf.empty with waits := parts.map fun p => p.1 }).askParts c c.next parts)) ∧
    (c.op = .compare → c.desc.opnd0.getLsbD 0 = true → s.refuses c.intlv (c.base + c.next) = none →
      s.refuses c.intlv (c.desc.addr2.toNat % 2 ^ 26 + c.next) = none → exec (.compare id) s =
      .next (((s.openBlock id c.next { BlockBuf.empty with rdLeft := 2 }).submit
        (c.req .cmdRead c.next (c.base + c.next) false)).trySubmit c
        (c.req .cmdRead2 c.next (c.desc.addr2.toNat % 2 ^ 26 + c.next) false))) ∧
    (c.op = .verify → c.desc.addr = 0 → s.refuses c.intlv (c.base + c.next) = none → exec (.verify id) s =
      .next ((s.openBlock id c.next { BlockBuf.empty with rdLeft := 1 }).submit
        (c.req .cmdRead c.next (c.base + c.next) false))) ∧
    (c.op = .recode → ∀ k, s.openWindow (fieldOf c.desc.opnd0 0 8) = some k → (s.window k).pointer ≤ c.next →
      c.next < (s.window k).pointer + 256 → (s.window k).mask.contains (c.next - (s.window k).pointer) = false →
      s.refuses c.intlv (c.base + c.next) = none →
      exec (.recode id) s = .next (u.submit (c.req .cmdRead c.next (c.base + c.next) false)))

/-- R61, R62, R90 and R268. A channel that serves issues its owed refreshes, lets requests in and issues one request: of those that may issue, one
that no other beats in class priority, rank, traffic class and age, unless it comes after CAL and a probe of a calibration round may issue. A
channel that does not serve, or that must not issue, issues nothing. R91 to R94 and R99. A due instant that has come raises the debt by 1, to at
most 8, and counts in the channel's window, which starts with an empty table, and the next follows at the interval in force; owed REF issue then,
and neighbour refreshes. Ahead of time a REF issues only on an empty queue and with a place, outside a segment of logic BIST, down to a debt of -8. A REF lowers the debt by 1 and
goes to the next bank. -/
def Obligations.RequestIssueAndRefresh : Prop :=
  (∀ (i : BitVec 10) (s : State),
      ((s.serves i.toNat = false ∨ s.refreshes i.toNat = false ∨ (s.chan i.toNat).parWait = true ∨
        s.die.blockBusy.contains (BitVec.ofNat 8 (0x20 + tierOf i.toNat)) = true ∨ 0 ∈ s.clk.tripped ∨
        (s.tier (tierOf i.toNat)).changing = true ∨ s.bst.state = 2 ∨ 2 ≤ s.pwr.state.toNat ∨ s.pwr.gateA = true ∨ s.pwr.gateB = true ∨ tierOf i.toNat ∈ s.pwr.closeQ ∨ 1 ∈ s.clk.tripped ∨
        s.underTest i.toNat = true) → exec (.requestIssue i) s = .next s) ∧
      (s.serves i.toNat = true → s.refreshes i.toNat = true → (s.chan i.toNat).parWait = false →
        (s.tier (tierOf i.toNat)).changing = false → s.pwr.state.toNat < 2 → tierOf i.toNat ∉ s.pwr.closeQ → 0 ∉ s.clk.tripped → 1 ∉ s.clk.tripped →
        s.underTest i.toNat = false → s.bst.state ≠ 2 → s.pwr.gateA = false → s.pwr.gateB = false →
        s.die.blockBusy.contains (BitVec.ofNat 8 (0x20 + tierOf i.toNat)) = false → ∃ u : State,
        u = ((s.issueOwed i.toNat).issueNrefs i.toNat).letIn i.toNat ∧
        ((∀ r ∈ (u.chan i.toNat).queue, u.issuable i.toNat r = false) → exec (.requestIssue i) s = .next ((u.calProbe i.toNat).getD u)) ∧
        ((∃ r ∈ (u.chan i.toNat).queue, u.issuable i.toNat r = true) → ∃ r, exec (.requestIssue i) s =
            .next (if u.classRank i.toNat r.cls < 4 then u.issue i.toNat r else (u.calProbe i.toNat).getD (u.issue i.toNat r)) ∧
          r ∈ (u.chan i.toNat).queue ∧ u.issuable i.toNat r = true ∧
          ∀ x ∈ (u.chan i.toNat).queue, u.issuable i.toNat x = true → u.urgency i.toNat r < u.urgency i.toNat x ∨
            (u.urgency i.toNat r = u.urgency i.toNat x ∧ r.age ≤ x.age)))) ∧
  ((∀ (i : BitVec 10) (s : State),
      (s.refreshes i.toNat = false → ∀ a, exec (.refreshDue i a) s = .next s) ∧
      (s.now < (s.chan i.toNat).dueAt → exec (.refreshDue i false) s = .next s) ∧
      (s.refreshes i.toNat = true → (s.chan i.toNat).dueAt ≤ s.now → ∃ u : State, exec (.refreshDue i false) s = .next ((u.issueOwed i.toNat).issueNrefs i.toNat) ∧
        (∀ c, c = s.chan i.toNat → c.dueCount ≠ 0 → u = s.setChan i.toNat
          { c with dueCount := (c.dueCount + 1) % 4128, debt := min 8 (c.debt + 1), dueAt := c.dueAt + s.refreshTicks (tierOf i.toNat) }) ∧
        (∀ c, c = s.chan i.toNat → c.dueCount = 0 → u = s.setChan i.toNat
          { c with
            weevil := [], floorF := 0, dueCount := 1, debt := min 8 (c.debt + 1), dueAt := c.dueAt + s.refreshTicks (tierOf i.toNat) })) ∧
      (s.underTest i.toNat = true → exec (.refreshDue i true) s = .next s) ∧
      (s.refreshes i.toNat = true → s.underTest i.toNat = false → 0 < (s.chan i.toNat).debt → exec (.refreshDue i true) s = .next (s.issueOwed i.toNat)) ∧
      (s.refreshes i.toNat = true → s.underTest i.toNat = false → (s.chan i.toNat).debt ≤ 0 → -8 < (s.chan i.toNat).debt → (s.chan i.toNat).queue = [] →
        s.placeOpen i.toNat true = true → exec (.refreshDue i true) s = .next (s.issueRef i.toNat)) ∧
      (s.refreshes i.toNat = true → (s.chan i.toNat).debt ≤ 0 → ((s.chan i.toNat).debt ≤ -8 ∨ (s.chan i.toNat).queue ≠ [] ∨
          s.placeOpen i.toNat true = false) →
        exec (.refreshDue i true) s = .next s)) ∧
    (∀ (s : State) (n : Nat), s.refreshTicks n = if (s.tier n).hot then 4 else 8) ∧
    (∀ (i : Nat) (s : State), Tab.wf .init s.tch.chans = true → ((s.issueRef i).chan i).debt = (s.chan i).debt - 1 ∧ ((s.issueRef i).chan i).bank = s.refBank i + 1 ∧
      (s.issueRef i).out = s.out ++ [.word i (cmdWord 6 (s.refBank i).toNat 0)] ∧ (s.bst.retain = none → s.refBank i = (s.chan i).bank) ∧
      ((s.issueRef i).chan i).charged.maint = (s.chan i).charged.maint + s.refQ i ∧ Only [.tch, .bud, .out] s (s.issueRef i)))

/-- R29, R131, R143, R209 and R412. The oldest burst of a channel ends: what a WR burst carries stands in its tier row and its merge slot is free,
and what a RD burst read waits in the codec with the strength in force; a channel without a burst is left alone. R131, R106, R215, R242 and R244.
The oldest slot in the codec is decoded: with no bit error beyond the strength a raw READ of a clear block gets its granules, and one that is
uncorrectable freezes the channel and fails its block. -/
def Obligations.BurstsAndDecodesEnd : Prop :=
  (∀ (i : BitVec 10) (errs : List Nat) (s : State),
      ((s.chan i.toNat).active = [] → exec (.burstComplete i errs) s = .next s) ∧
      (∀ r rest, (s.chan i.toNat).active = r :: rest → r.wr = true → ∃ u : State, Only [.tch, .rng, .pcd] s u ∧
        u.pcd.store = Tab.set none s.pcd.store (storeKey r.inst r.bank r.phys) (if s.codecSlow (tierOf r.inst) then none else r.slot) ∧
        (∀ k, r.merge = some k → u.pcd.merge = Tab.set none s.pcd.merge k none) ∧ (r.merge = none → u.pcd.merge = s.pcd.merge) ∧
        (r.src = .cmdWrite → exec (.burstComplete i errs) s = .next ((u.cmdWritten r).afterTransfer i.toNat)) ∧
        (r.src = .format → exec (.burstComplete i errs) s = .next ((u.fmtWritten r).afterTransfer i.toNat)) ∧
        (∀ c, r.cmd = some c.id → u.cmd c.id = some c → c.running.contains r.off = true → c.op ≠ .recode → c.op ≠ .repair →
          u.cmdWritten r = u.endBlock c.id r.off false none r.sawForced)) ∧
      (∀ r rest, (s.chan i.toNat).active = r :: rest → r.wr = false → ∃ u : State, Only [.tch, .rng] s u ∧
        u = ((s.updChan i.toNat fun c => { c with active := rest }).examine r).updChan r.inst
          (fun c => { c with dec := c.dec ++ [{ r with
            errs := errs, dstr := s.strengthOf r.lbn, scb := withField (s.cfgWord .scbCfg 0) 2 1 (fieldOf r.scb 2 1) }] }) ∧
        ((∀ c, r.cmd.bind s.cmd = some c → c.early = false) →
          exec (.burstComplete i errs) s = .next (u.afterTransfer i.toNat))) ∧
      (∀ j b phys x, Tab.wf none s.pcd.store = true → (s.putSlot j b phys x).slotAt j b phys = x ∧
        ∀ j' b' phys', storeKey j' b' phys' ≠ storeKey j b phys → (s.putSlot j b phys x).slotAt j' b' phys' = s.slotAt j' b' phys')) ∧
  (∀ (i : BitVec 10) (mis : Option Slot) (s : State),
      ((s.chan i.toNat).dec = [] → exec (.decodeEnd i mis) s = .next s) ∧
      (∀ (r : Req) (rest : List Req) (c : Cmd) (x : Slot) (d : Decode), (s.chan i.toNat).dec = r :: rest → r.src = .cmdRead →
        r.cmd = some c.id → s.cmd c.id = some c → c.op = .read → c.running.contains r.off = true → c.key = 0 → c.raw = true → c.early = false →
        c.desc.opnd1.getLsbD 0 = false → s.codecSlow (tierOf i.toNat) = false →
        decodeOutcome (s.slotAt r.inst r.bank r.phys) r.dstr r.errs mis = (d, some x) → d = .clean → x.key = 0 → x.zero = false →
        crc32c x.data = x.crc → ∃ u : State, exec (.decodeEnd i mis) s = .next (((u.mwrAll c.tc.toNat (c.dataAddr r.off)
          (granules (c.gFirst r.off) (c.gLast r.off) x.data)).endBlock c.id r.off true none r.sawForced).afterTransfer i.toNat) ∧
        Only [.tch, .rng] s u ∧ (∀ k, u.cmd c.id = some k → k.gen0 = (if r.off = 0 then x.gen else c.gen0) ∧
          k.tally = { c.tally with clean := c.tally.clean + 1 })) ∧
      (∀ (r : Req) (rest : List Req) (y : Option Slot), (s.chan i.toNat).dec = r :: rest → r.src = .cmdRead →
        decodeOutcome (if s.codecSlow (tierOf i.toNat) then none else s.slotAt r.inst r.bank r.phys) r.dstr r.errs mis =
          (.uncorrectable, y) → ∃ u v : State,
        v = u.freezeRead i.toNat r.bank r.phys ∧ Only [.tch, .rng, .pcd, .scb] s u ∧
        u.pcd.ue = s.pcd.ue + 1 ∧ (u.tier (tierOf i.toNat)).passBad = true ∧
        (∀ c, r.cmd.bind v.cmd = some c → c.running.contains r.off = true → c.op = .read → exec (.decodeEnd i mis) s =
          .next ((v.failReq r 0x12 0).afterTransfer i.toNat)) ∧
        (r.cmd.bind v.cmd = none → exec (.decodeEnd i mis) s = .next ((v.mergeRelease r.merge).afterTransfer i.toNat))))

/-- R106 and R107. TALERT_N low stops every serving channel of the tier and reads mode register 6 of each, in rising order; a channel that reads
PAR_ERR 0 goes on at once, but for an uncorrectable read that came meanwhile, which then freezes it; one that reads 1 freezes by the command
error, and one that does not wait for a read is left alone. R101 and R102. Refreshes that wait go first (R61). A probe needs a sweep whose mode-register writes have issued,
a place, budget and a running refresh with nothing owed, and no segment of logic BIST; it is charged to TRAIN and judged, and the sweep goes on with its next code. The run chosen is the longest; the code
chosen is its centre, the lower of two, and the eye is four per code, at most 255. -/
def Obligations.CommandErrorsAndTraining : Prop :=
  ((∀ (t : BitVec 5) (s : State) (live : List Nat), live = (chansOfTier t.toNat).filter s.serves → ∃ u : State,
      exec (.talertLow t) s = .next u ∧ Only [.tch, .out] s u ∧
      u.out = s.out ++ live.map (fun i => .word i (cmdWord 0xB 0 0x600)) ∧ (∀ i ∈ live, (u.chan i).parWait = true) ∧
      (live = [] → u = s)) ∧
    (∀ (i : BitVec 10) (win : Nat) (idle : Bool) (s : State),
      ((s.chan i.toNat).parWait = false → ∀ e, exec (.mr6ReadDone i e win idle) s = .next s) ∧
      ((s.chan i.toNat).parWait = true → ∀ u, u = s.updChan i.toNat (fun c => { c with parWait := false, uncWait := none }) →
        ((s.chan i.toNat).uncWait = none → exec (.mr6ReadDone i false win idle) s = .next u) ∧
        (∀ f, (s.chan i.toNat).uncWait = some f → exec (.mr6ReadDone i false win idle) s =
          .next ((u.failLate i.toNat f.age).freeze i.toNat 1 f.bank f.row f.word)) ∧
        exec (.mr6ReadDone i true win idle) s = .next (u.freezeParity i.toNat win idle))) ∧
    (∀ (i cause bank row : Nat) (w : BitVec 24) (s : State),
      (((s.chan i).st = .frozen ∨ (s.chan i).retired = true) → s.freeze i cause bank row w = s) ∧
      ((s.chan i).st ≠ .frozen → (s.chan i).retired = false → ∃ u : State, ∃ k : Word, k = packed
          [(cause, 0, 2), (min 32 (s.chan i).queue.length, 2, 6), (bank, 8, 4), (row, 12, 13)] ∧
        s.freeze i cause bank row w = u.postEvent 0x000A 0 2 (BitVec.ofNat 32 i) k.toNat ∧
        (u.chan i).st = .frozen ∧ (u.chan i).frzCause = k ∧ (u.chan i).frzCmd = w.setWidth 32 ∧ (u.chan i).queue = (s.chan i).queue ∧
        u.flt.lines.getLast?.map (·.src) = some (BitVec.ofNat 7 (tierOf i)) ∧ Only [.tch, .flt] s u))) ∧
  ((∀ (i : BitVec 10) (res : ProbeEnd) (s : State),
      ((s.chan i.toNat).sweep = none → exec (.trainingProbeDone i res) s = .next (s.maintFirst i.toNat)) ∧
      (∀ w x l, (s.chan i.toNat).sweep = some w → w.todo = x :: l → s.maintFirst i.toNat = s →
        s.mayTrain i.toNat (s.cyclesQ i.toNat 1) = false → exec (.trainingProbeDone i res) s = .next s) ∧
      (∀ w q v, (s.chan i.toNat).sweep = some w → w.todo = [] → v = s.maintFirst i.toNat →
          q = v.cyclesQ i.toNat (probeCycles w.which res) →
        (v.mayTrain i.toNat q = false → exec (.trainingProbeDone i res) s = .next v) ∧
        (v.mayTrain i.toNat q = true → w.code + 1 < w.codes → ∃ u : State, exec (.trainingProbeDone i res) s =
          .next (u.updChan i.toNat fun c => { c with sweep := some (w.judge (res == .pass)) }) ∧ Only [.tch, .bud, .out] s u ∧
          u = ((v.takePlace i.toNat false q).charge i.toNat .train q).probeWords i.toNat w.which res))) ∧
    (∀ (i q : Nat) (s : State), s.mayTrain i q = true ↔ s.placeOpen i false = true ∧ s.mayIssue i .train q = true ∧ s.refreshes i = true ∧
      s.underTest i = false ∧ (s.chan i).nrefQ = [] ∧ ((s.chan i).debt ≤ 0 ∨ s.postponed i = true)) ∧
    (∀ w : Sweep, (w.judge false) = { w with runLen := 0, code := w.code + 1 } ∧ (w.judge true).runLen = w.runLen + 1 ∧
      (w.judge true).code = w.code + 1 ∧ (w.judge true).bestLen = max w.bestLen (w.runLen + 1) ∧
      (w.bestLen < w.runLen + 1 → w.runLen = 0 → (w.judge true).bestAt = w.code)) ∧
    (∀ a n, 0 < n → centre a n = a + (n - 1) / 2 ∧ (eyeOf n).toNat = min 255 (4 * n)))

/-- R154. A dismissal whose low LBN matches a candidate removes it from the correctable log; one that does not match is ignored and reported. R138
and R151. A format write is queued where FORMAT is 1, the channel serves and none of it waits, at the walk's place; a Scarab read where a slot is
due and none of Scarab's waits. Else nothing is queued. R155, R157 and R158. A pass that has ended on every serving channel is counted, and the
next starts; two clean passes season a tier. A wake pass that has ended is judged as R157's table says, and reported. The Hive core judges, so it
all waits while that does not run. -/
def Obligations.ScarabQueuesLogsAndPasses : Prop :=
  (∀ (p : Path) (data : Word) (s : State), Acts p .scbLogDismiss 0 s →
      (∀ e, Tab.get none s.scb.log (fieldOf data 0 6) = some e → e.cand = true →
        (e.lbn.toNat % 65536 = fieldOf data 16 16 → exec (.scbLogDismiss p data) s = .next { s with scb := { s.scb with
          log := Tab.set none s.scb.log (fieldOf data 0 6) none } }.noteLevel) ∧
        (e.lbn.toNat % 65536 ≠ fieldOf data 16 16 →
          exec (.scbLogDismiss p data) s = .next (ignored p .scbLogDismiss 0 data 16 16 s).noteLevel)) ∧
      (Tab.get none s.scb.log (fieldOf data 0 6) = none →
        exec (.scbLogDismiss p data) s = .next (ignored p .scbLogDismiss 0 data 0 6 s).noteLevel)) ∧
  (∀ (i : BitVec 10) (s : State),
      ((s.flag .scbCfg 0 0 = false ∨ s.flag .scbCfg 0 1 = false ∨ s.serves i.toNat = false ∨ 2 ≤ s.pwr.state.toNat ∨
        (s.chan i.toNat).hasSrc (· == .format) = true ∨ s.fmtRegion i.toNat = none) → exec (.formatWrite i) s = .next s) ∧
      (s.flag .scbCfg 0 0 = true → s.flag .scbCfg 0 1 = true → s.serves i.toNat = true → s.pwr.state.toNat < 2 →
        (s.chan i.toNat).hasSrc (· == .format) = false → ∀ r, s.fmtRegion i.toNat = some r → (s.chan i.toNat).fmt.region = r →
        0 < fmtSlots s.intlv i.toNat r → ∃ u : State, ∃ pl : Nat × Nat, pl = fmtPlace s.intlv r (s.chan i.toNat).fmt.idx ∧ exec (.formatWrite i) s =
          .next (u.submit { mkReq .format none (s.chan i.toNat).fmt.idx (lbnOf s.intlv i.toNat pl.1 pl.2) (i.toNat, pl.1, pl.2) true
            .scarab none s.rng.nextId with slot := some (zeroSlot false true 0), fresh := true }) ∧
          Only [.rng, .tch] s u ∧ u.rng = { s.rng with nextId := s.rng.nextId + 1 }) ∧
      ((s.flag .scbCfg 0 0 = false ∨ s.serves i.toNat = false ∨ 2 ≤ s.pwr.state.toNat ∨ (s.chan i.toNat).hasSrc isScarab = true ∨
        ((s.chan i.toNat).wakeAt = none ∧ (s.scb.running = false ∨ s.scarabDue ≤ (s.chan i.toNat).done))) →
        exec (.scarabRead i) s = .next s) ∧
      (s.flag .scbCfg 0 0 = true → s.serves i.toNat = true → s.pwr.state.toNat < 2 → (s.chan i.toNat).hasSrc isScarab = false →
        (s.chan i.toNat).wakeAt = none → s.scb.running = true → (s.chan i.toNat).done < s.scarabDue → ∀ k,
        k = s.walkFrom i.toNat (s.chan i.toNat).done →
        (k < 65536 → exec (.scarabRead i) s = .next ((s.updChan i.toNat fun c => { c with done := k }).queueScarab i.toNat k k)) ∧
        (65536 ≤ k → exec (.scarabRead i) s = .next (s.updChan i.toNat fun c => { c with done := 65536 }))) ∧
      (s.flag .scbCfg 0 0 = true → s.serves i.toNat = true → s.pwr.state.toNat < 2 → (s.chan i.toNat).hasSrc isScarab = false →
        ∀ k j, (s.chan i.toNat).wakeAt = some k → j = s.walkFrom i.toNat k → j < 65536 →
        exec (.scarabRead i) s = .next ((s.updChan i.toNat fun c => { c with wakeAt := some j }).queueScarab i.toNat j (65536 + j))) ∧
      (∀ (c : Chan) (k : Nat), k < 65536 → (c.readDone k).done = max c.done (k + 1) ∧ (c.readDone k).wakeAt = c.wakeAt ∧
        (c.readDone (65536 + k)).wakeAt = c.wakeAt.map (fun j => max j (k + 1)) ∧ (c.readDone (65536 + k)).done = c.done)) ∧
  ((∀ s : State,
      ((s.scb.running = false ∨ s.walked s.servingChans Chan.done = false) → exec .scarabPassEnd s = .next s) ∧
      (s.scb.running = true → s.walked s.servingChans Chan.done = true → ∃ t : State, exec .scarabPassEnd s = .next t.judgeSeasons ∧
        Only [.tch, .scb] s t ∧ t.scb = { s.scb with pass := s.scb.pass + 1, passStart := s.now } ∧
        (Tab.wf .init s.tch.tiers = true → ∀ n, n < 32 → t.tier n = { s.tier n with
          ended := (s.tier n).ended ++ [((s.tier n).passBad, (s.tier n).passMult)], passBad := false
          passMult := decide ((s.tier n).usedMult ≠ 0 ∧ (s.tier n).selfRef) }) ∧
        (Tab.wf .init s.tch.chans = true → ∀ i, (t.chan i).done = 0))) ∧
    (∀ s : State, (s.hiveOk = false → s.judgeSeasons = s) ∧
      (s.hiveOk = true → Tab.wf .init s.tch.tiers = true → ∀ n, n < 32 → (s.judgeSeasons.tier n).ended = [] ∧
        ((s.tier n).wakeJudge = false → s.judgeSeasons.tier n =
          { (s.tier n).ended.foldl (Tier.judgePass (s.maxMult n)) (s.tier n) with ended := [] }))) ∧
    (∀ (x y : Tier) (m : Nat), y = x.judgePass m (false, false) →
      (x.season = 0 → y.season = 1 ∧ y.trial = x.trial) ∧
      (x.season = 1 → y.season = 2 ∧ y.trial.toNat = min 1 m) ∧
      (x.season = 2 → 1 < x.hold.toNat → y.hold = x.hold - 1 ∧ y.trial = x.trial) ∧
      (x.season = 2 → x.hold = 1 → y.hold = 0 ∧ y.trial = BitVec.ofNat 2 (min (x.acceptedM.toNat + 1) m))) ∧
    (∀ (x : Tier) (m : Nat) (b : Bool), x.season = 1 → (x.judgePass m (true, b)).season = 0) ∧
    (∀ (t : BitVec 5) (s : State),
      (((s.tier t.toNat).wake = false ∨ s.walked ((chansOfTier t.toNat).filter s.isServing) (fun c => c.wakeAt.getD 65536) = false) →
        exec (.wakePassEnd t) s = .next s) ∧
      ((s.tier t.toNat).wake = true → s.walked ((chansOfTier t.toNat).filter s.isServing) (fun c => c.wakeAt.getD 65536) = true →
        ∀ v : State, v = (s.updTier t.toNat fun x => { x with wake := false }).updChans (chansOfTier t.toNat) (fun _ c =>
          { c with wakeAt := none }) →
        ((s.tier t.toNat).wakeJudge = false → exec (.wakePassEnd t) s =
          .next (v.postEvent 0x0011 0 0 (BitVec.ofNat 32 t.toNat) (v.seasonWord t.toNat).toNat)) ∧
        ((s.tier t.toNat).wakeJudge = true → exec (.wakePassEnd t) s = .next v.judgeSeasons))) ∧
    (∀ (t : Nat) (s : State) (x : Tier) (much : Bool), x = s.tier t →
      much = decide (s.fld .scbSeasonCfg 0 16 7 * x.wakeT < 100 * x.wakeK) →
      (x.wakeBad = true → s.judgeWake t = s.setTier t { x with season := 0, acceptedM := 0, trial := 0 }) ∧
      (x.wakeBad = false → much = true → x.usedMult = x.trial → x.acceptedM.toNat < x.trial.toNat → s.judgeWake t =
        s.setTier t { x with trial := x.acceptedM, hold := BitVec.ofNat 8 (s.fld .scbSeasonCfg 0 24 8) }) ∧
      (x.wakeBad = false → much = true → x.usedMult = x.acceptedM → 0 < x.usedMult.toNat → s.judgeWake t = s.setTier t { x with
        acceptedM := x.acceptedM - 1, trial := x.acceptedM - 1, hold := BitVec.ofNat 8 (s.fld .scbSeasonCfg 0 24 8) }) ∧
      (x.wakeBad = false → much = false → x.usedMult = x.trial → x.acceptedM.toNat < x.trial.toNat →
        s.fld .scbSeasonCfg 0 0 16 * 60000000 ≤ s.pwr.p4Stay → s.judgeWake t = s.setTier t { x with
          acceptedM := x.trial, trial := BitVec.ofNat 2 (min (x.trial.toNat + 1) (s.maxMult t)) }) ∧
      (x.wakeBad = false → much = false → s.pwr.p4Stay < s.fld .scbSeasonCfg 0 0 16 * 60000000 → s.judgeWake t = s.setTier t x)))

/-- R296 to R298. A port that may leaves DOWN for DETECT with its enabled lanes; a signal takes it to ALIGN, and a lock of L0 to CONFIG with the
rates it offers. Sets count in CONFIG: after eight TS1 alike and sixteen sent since the first of them the port sends TS2; in CONFIRM the sets sent
count from entry on. R295, R304, R306 and R352. A TS1 with RECOVER,
RETRAIN or HOT_RESET acts on a port in UP: recovery, a retraining from DOWN, or, where the node follows it, a hard reset. -/
def Obligations.LinkBringUpToConfig : Prop :=
  (∀ (n : BitVec 2) (s : State),
      (((s.port n.toNat).st ≠ .down ∨ s.portEn n.toNat = false ∨ s.clk.xtalGood = false ∨ s.portHeld n.toNat = true) →
        exec (.linkDetect n) s = .next s) ∧
      ((s.port n.toNat).st = .down → s.portEn n.toNat = true → s.clk.xtalGood = true → s.portHeld n.toNat = false → ∃ t : State,
        exec (.linkDetect n) s = .next t ∧ Only [.lnk, .out] s t ∧ (∃ x : TrainSet, x.ctrl = 0 ∧ x.chk = x.sum ∧ t.out = s.out ++ [.set n.toNat 1 (.ts1 x)]) ∧
        (t.port n.toNat).st = .detect ∧ (t.port n.toNat).rate = 0 ∧ (t.port n.toNat).rateCap = 6 ∧ (t.port n.toNat).retPend = false) ∧
      ((s.port n.toNat).st ≠ .detect → exec (.signalDetected n) s = .next s) ∧
      ((s.port n.toNat).st = .detect → ∀ p, p = s.port n.toNat → exec (.signalDetected n) s =
        .next (s.setPort n.toNat { p with st := .align, runLen := 0, runSet := none, tsSent := 0, runFull := false, phaseAt := s.now })) ∧
      (∀ l (i : LockSeen), ((s.port n.toNat).st = .down ∨ i.coms < 8) → exec (.symbolLock n l i) s = .next s) ∧
      ((s.port n.toNat).st = .align → ∀ i : LockSeen, 8 ≤ i.coms → ∃ t : State, exec (.symbolLock n 0 i) s = .next t ∧ Only [.lnk, .out] s t ∧
        (∃ x : TrainSet, x.ctrl = 0 ∧ x.chk = x.sum ∧ t.out = s.out ++ [.set n.toNat 1 (.ts1 x)]) ∧
        (t.port n.toNat).st = .config ∧ (t.port n.toNat).chosen = BitVec.ofNat 3 (s.topOffer n.toNat) ∧
        (t.port n.toNat).cfgTs2 = false ∧ ((t.port n.toNat).lane 0).locked = true ∧ ((t.port n.toNat).lane 0).inverted = (((s.port n.toNat).lane 0).inverted || i.inverted)) ∧
      ((s.port n.toNat).st ≠ .down → ∀ (l : BitVec 3) (i : LockSeen), 8 ≤ i.coms → ((s.port n.toNat).st ≠ .align ∨ l ≠ 0) → ∃ t : State, exec (.symbolLock n l i) s = .next t ∧ Only [.lnk] s t ∧
        (t.port n.toNat).st = (s.port n.toNat).st ∧ ((t.port n.toNat).lane l.toNat).locked = true) ∧
      (∀ lane (rx : TrainRx), (lane ≠ 0 ∨ rx.set.chk ≠ rx.set.sum ∨ (s.port n.toNat).st = .down) → exec (.ts1Received n lane rx) s = .next s) ∧
      (∀ (ts : TrainSet) (k : List Nat), ts.chk = ts.sum → ts.ctrl.getLsbD 0 = false → ts.ctrl.getLsbD 1 = false → ts.ctrl.getLsbD 2 = false →
        (s.port n.toNat).st = .config → (s.port n.toNat).cfgTs2 = false → ∀ p, p = { (s.port n.toNat).setsSent k.length with lastTag := ts.tag }.countSet ts false false →
        (p.runDone = false → ∃ t : State, exec (.ts1Received n 0 ⟨ts, k⟩) s = .next t ∧ Only [.lnk] s t ∧ t.port n.toNat = p) ∧
        (p.runDone = true → ∃ t : State, exec (.ts1Received n 0 ⟨ts, k⟩) s = .next t ∧ Only [.lnk, .out] s t ∧ (t.port n.toNat).cfgTs2 = true ∧
          ∃ x : TrainSet, x.lanesOk = (p.laneMask fun l => l.enabled) ∧ x.chk = x.sum ∧ t.out = s.out ++ [.set n.toNat 1 (.ts2 x)])) ∧
      (∀ (p : Port) (a : TrainSet) (two want : Bool), (p.runFull = true → p.countSet a two want = p) ∧
        (p.runFull = false → two ≠ want → (p.countSet a two want).runLen = 0 ∧ (p.countSet a two want).runFull = false) ∧
        (p.runFull = false → two = want → p.runSet = none → (p.countSet a two want).runLen = 1 ∧
          (p.countSet a two want).tsSent = if p.phase = .confirm then p.tsSent else 0) ∧
        (p.runFull = false → two = want → ∀ r, p.runSet = some r → (r.same a = true → (p.countSet a two want).runLen = p.runLen + 1 ∧
            (p.countSet a two want).runFull = decide (8 ≤ p.runLen + 1) ∧ (p.countSet a two want).tsSent = p.tsSent) ∧
          (r.same a = false → (p.countSet a two want).runLen = 1 ∧
            (p.countSet a two want).tsSent = if p.phase = .confirm then p.tsSent else 0)) ∧
        (p.runDone = true ↔ p.runFull = true ∧ 16 ≤ p.tsSent))) ∧
  (∀ (n : BitVec 2) (ts : TrainSet) (k : List Nat) (s : State), ts.chk = ts.sum → (s.port n.toNat).st = .up → ∃ u : State, Only [.lnk] s u ∧
      u = (s.updPort n.toNat fun p => { p.setsSent k.length with lastTag := ts.tag }) ∧
      (ts.ctrl.getLsbD 2 = true → s.lnk.valid = true → n.toNat = s.lnk.upPort.toNat → s.flag .lnkCfg 0 0 = true →
        exec (.ts1Received n 0 ⟨ts, k⟩) s = .next (u.hardReset 6)) ∧
      (ts.ctrl.getLsbD 2 = true → (s.lnk.valid = false ∨ n.toNat ≠ s.lnk.upPort.toNat ∨ s.flag .lnkCfg 0 0 = false) →
        exec (.ts1Received n 0 ⟨ts, k⟩) s = .next (u.portDown n.toNat)) ∧
      (ts.ctrl.getLsbD 2 = false → ts.ctrl.getLsbD 1 = true → exec (.ts1Received n 0 ⟨ts, k⟩) s = .next (u.portDown n.toNat)) ∧
      (ts.ctrl.getLsbD 2 = false → ts.ctrl.getLsbD 1 = false → ts.ctrl.getLsbD 0 = true →
        exec (.ts1Received n 0 ⟨ts, k⟩) s = .next (u.recover n.toNat)) ∧
      (ts.ctrl.getLsbD 2 = false → ts.ctrl.getLsbD 1 = false → ts.ctrl.getLsbD 0 = false →
        exec (.ts1Received n 0 ⟨ts, k⟩) s = .next u))

/-- R297 to R300. From CONFIG to UP: TS2 in CONFIG end it at the highest rate both offer, the rate switch leads to LANE_TRAIN, passing lanes to
DESKEW and aligned ones to CONFIRM, whose TS2 end it: on an agreed L0, with the lanes needed, the port is UP, else it falls back. R298, R300 and
R304. The bound of a state: ALIGN and CONFIG go back to DETECT, LANE_TRAIN goes on to DESKEW with the lanes that passed, DESKEW to CONFIRM with
those that aligned, CONFIRM falls back; in RECOVERY a port that does not end in time goes DOWN. Before its bound nothing happens, and other states
have none. A fallback starts from the rate below. -/
def Obligations.LinkBringUpToUp : Prop :=
  (∀ (n : BitVec 2) (s : State),
      (∀ lane ts st sa, (lane ≠ 0 ∨ ts.chk ≠ TrainSet.sum ts ∨ (s.port n.toNat).st = .down) →
        exec (.ts2Received n lane ts st sa) s = .next s) ∧
      (∀ (ts : TrainSet) (st : Nat) (sa : List Nat), ts.chk = ts.sum → (s.port n.toNat).st = .config → (s.port n.toNat).cfgTs2 = true → ∃ u : State,
        Only [.lnk] s u ∧ u.port n.toNat = (((s.port n.toNat).setsSent sa.length).notePartner ts).countSet ts true true ∧
        ((u.port n.toNat).runDone = false → exec (.ts2Received n 0 ts st sa) s = .next u) ∧
        ((u.port n.toNat).runDone = true → exec (.ts2Received n 0 ts st sa) s = .next (u.endConfig n.toNat))) ∧
      (∀ (ts : TrainSet) (st : Nat) (sa : List Nat), ts.chk = ts.sum → (s.port n.toNat).phase = .confirm → ∃ u : State, Only [.lnk] s u ∧
        u.port n.toNat = (((s.port n.toNat).stamp ts st sa).notePartner ts).countSet ts true true ∧
        ((u.port n.toNat).runDone = false → exec (.ts2Received n 0 ts st sa) s = .next u) ∧
        ((u.port n.toNat).runDone = true → exec (.ts2Received n 0 ts st sa) s = .next (u.endConfirm n.toNat))) ∧
      (((s.port n.toNat).st ≠ .rateSwitch ∨ (s.port n.toNat).fbIdle = true ∨ s.now < (s.port n.toNat).phaseAt + 50) → exec (.rateSwitchEnd n) s = .next s) ∧
      ((s.port n.toNat).st = .rateSwitch → (s.port n.toNat).fbIdle = false → (s.port n.toNat).phaseAt + 50 ≤ s.now → ∃ t : State, exec (.rateSwitchEnd n) s = .next t ∧
        Only [.lnk, .out] s t ∧ (∃ x : TrainSet, x.ctrl = 0 ∧ x.chk = x.sum ∧
          t.out = s.out ++ [.set n.toNat ((s.port n.toNat).laneMask fun l => l.enabled) (.ts1 x)]) ∧ (t.port n.toNat).st = .laneTrain ∧
        (t.port n.toNat).rate = (s.port n.toNat).chosen) ∧
      (((s.port n.toNat).st ≠ .rateSwitch ∨ (s.port n.toNat).fbIdle = false ∨ s.now < (s.port n.toNat).phaseAt + 50) → exec (.fallbackIdleEnd n) s = .next s) ∧
      ((s.port n.toNat).st = .rateSwitch → (s.port n.toNat).fbIdle = true → (s.port n.toNat).phaseAt + 50 ≤ s.now → exec (.fallbackIdleEnd n) s =
        .next ((s.updPort n.toNat fun p => { p with
          st := .align, runLen := 0, runSet := none, tsSent := 0, runFull := false, phaseAt := s.now, fbIdle := false, rate := 0 }).sendTs1 n.toNat 1 0)) ∧
      (((s.port n.toNat).phase ≠ .laneTrain ∨ (s.port n.toNat).laneMask (fun l => l.enabled && !l.passed) ≠ 0) →
        exec (.laneTrainDone n) s = .next s) ∧
      ((s.port n.toNat).phase = .laneTrain → (s.port n.toNat).laneMask (fun l => l.enabled && !l.passed) = 0 →
        exec (.laneTrainDone n) s = .next (s.toDeskew n.toNat)) ∧
      (∀ lane num count delay, ((s.port n.toNat).phase ≠ .deskew ∨ 16 ≤ count.toNat ∨
          ((s.port n.toNat).lane lane.toNat).passed = false) → exec (.lmkReceived n lane num count delay) s = .next s) ∧
      (∀ (lane : BitVec 3) (num count : Byte) (delay : Nat), (s.port n.toNat).phase = .deskew → count.toNat < 16 →
        ((s.port n.toNat).lane lane.toNat).passed = true → exec (.lmkReceived n lane num count delay) s =
        .next ((s.updPort n.toNat fun p => p.updLane lane.toNat fun l =>
          if num.toNat = lane.toNat ∧ delay ≤ 20 then { l with aligned := true, skew := BitVec.ofNat 5 delay }
          else { l with passed := false, aligned := false }).judgeDeskew n.toNat))) ∧
  (∀ (n : BitVec 2) (s : State),
      (((s.port n.toNat).st = .align ∨ (s.port n.toNat).st = .config) →
        ((s.port n.toNat).phaseAt + (if (s.port n.toNat).st = .align then 1000 else 2000) ≤ s.now →
          exec (.linkStateTimeout n) s = .next (s.toDetect n.toNat)) ∧
        (s.now < (s.port n.toNat).phaseAt + (if (s.port n.toNat).st = .align then 1000 else 2000) →
          exec (.linkStateTimeout n) s = .next s)) ∧
      ((s.port n.toNat).phase = .laneTrain → ((s.port n.toNat).st = .recovery → s.now < (s.port n.toNat).recAt + 2000) →
        ∀ b : Nat, b = (if (s.port n.toNat).rate = 0 then 4000 else if (s.port n.toNat).rate = 1 then 3000 else if (s.port n.toNat).rate = 2 then 2000 else 1000) →
        ((s.port n.toNat).phaseAt + b ≤ s.now → exec (.linkStateTimeout n) s = .next (s.toDeskew n.toNat)) ∧
        (s.now < (s.port n.toNat).phaseAt + b → exec (.linkStateTimeout n) s = .next s)) ∧
      ((s.port n.toNat).phase = .deskew → ((s.port n.toNat).st = .recovery → s.now < (s.port n.toNat).recAt + 2000) →
        ((s.port n.toNat).phaseAt + 100 ≤ s.now → exec (.linkStateTimeout n) s = .next ((s.updPort n.toNat fun p =>
          p.mapLanes fun _ l => { l with passed := l.passed && l.aligned }).toConfirm n.toNat)) ∧
        (s.now < (s.port n.toNat).phaseAt + 100 → exec (.linkStateTimeout n) s = .next s)) ∧
      ((s.port n.toNat).st = .confirm →
        ((s.port n.toNat).phaseAt + 1000 ≤ s.now → exec (.linkStateTimeout n) s = .next (s.fallback n.toNat)) ∧
        (s.now < (s.port n.toNat).phaseAt + 1000 → exec (.linkStateTimeout n) s = .next s)) ∧
      ((s.port n.toNat).st = .recovery → (s.port n.toNat).recStep = .confirm → (s.port n.toNat).phaseAt + 1000 ≤ s.now →
        exec (.linkStateTimeout n) s = .next (s.portDown n.toNat)) ∧
      ((s.port n.toNat).st = .recovery → (s.port n.toNat).recAt + 2000 ≤ s.now →
        exec (.linkStateTimeout n) s = .next (s.portDown n.toNat)) ∧
      (((s.port n.toNat).st = .down ∨ (s.port n.toNat).st = .detect ∨ (s.port n.toNat).st = .rateSwitch ∨
        (s.port n.toNat).st = .up) → exec (.linkStateTimeout n) s = .next s) ∧
      ((s.port n.toNat).st = .confirm → ∀ m, m = ((s.port n.toNat).laneMask fun l => l.passed && l.aligned) &&& (s.port n.toNat).pLanesOk →
        (m.getLsbD 0 = false → s.endConfirm n.toNat = (if (s.port n.toNat).rate = 0 then s.toDetect n.toNat else s.fallback n.toNat)) ∧
        ((s.port n.toNat).rate ≠ 0 → (laneCount m < (s.port n.toNat).myMin.toNat ∨ laneCount m < (s.port n.toNat).pMin.toNat) →
          s.endConfirm n.toNat = s.fallback n.toNat) ∧
        (m.getLsbD 0 = true → ((s.port n.toNat).rate = 0 ∨ ((s.port n.toNat).myMin.toNat ≤ laneCount m ∧ (s.port n.toNat).pMin.toNat ≤ laneCount m)) →
          s.endConfirm n.toNat = s.linkUp n.toNat m)) ∧
      ((s.port n.toNat).st ≠ .recovery → Only [.lnk, .out] s (s.fallback n.toNat) ∧
        (s.fallback n.toNat).out = s.out ++ [.set n.toNat ((s.port n.toNat).laneMask fun l => l.enabled) .idlE] ∧
        ((s.fallback n.toNat).port n.toNat).st = .rateSwitch ∧ ((s.fallback n.toNat).port n.toNat).fbIdle = true ∧
        ((s.fallback n.toNat).port n.toNat).rateCap = (s.port n.toNat).rate.toNat ∧
        ((s.fallback n.toNat).port n.toNat).fallbacks = satInc (s.port n.toNat).fallbacks 1) ∧
      ((s.port n.toNat).st = .down → s.portDown n.toNat = s))

/-- R296, R299, R303, R304, R307 to R309 and R325. A port in UP: a lane error counts, and lost lock of L0, ERR_THR errors of an agreed lane or an
elastic buffer start RECOVERY; a lost signal and a SKP out of alignment do too; a SKP that comes adds or removes one K28.0 in the elastic buffers, which
a free value says (log 142); a SKP is sent where the port sends, with IDLE after it, unless its lane PLL has tripped; IDL_E idles the receivers, a
Firefly burst wakes them, or starts RECOVERY without lock; L0 sleeps once it has been idle. -/
def Obligations.PortEventsInUp : Prop :=
  ∀ (n : BitVec 2) (s : State),
    (∀ l rx place, ((s.port n.toNat).st = .down ∨ (place ≠ .buffer ∧ codeBad rx.plus rx.code = false)) →
      exec (.laneError n l rx place) s = .next s) ∧
    (∀ (l : BitVec 3) (rx : RxError) (place : ErrPlace), (place = .buffer ∨ codeBad rx.plus rx.code = true) → ∃ u v : State,
      u = (s.updPort n.toNat fun p => p.updLane l.toNat fun x => { x.erred rx.sym with rxPlus := plusAfter rx.plus rx.code }) ∧
      v = (if place = .inPacket then u.sendNak n.toNat else u) ∧
      ((s.port n.toNat).st ≠ .down → (s.port n.toNat).st ≠ .up → exec (.laneError n l rx place) s = .next u) ∧
      ((s.port n.toNat).st = .up → ((l = 0 ∧ ((s.port n.toNat).lane 0).locked = true ∧ (((s.port n.toNat).lane 0).erred rx.sym).locked = false) ∨
        ((s.port n.toNat).lanes.getLsbD l.toNat = true ∧ s.fld .lnkPhy1 n.toNat 24 8 ≤ ((s.port n.toNat).lane l.toNat).errs + 1) ∨
        place = .buffer) → exec (.laneError n l rx place) s = .next (v.recover n.toNat)) ∧
      ((s.port n.toNat).st = .up → (l ≠ 0 ∨ ((s.port n.toNat).lane 0).locked = false ∨ (((s.port n.toNat).lane 0).erred rx.sym).locked = true) →
        ((s.port n.toNat).lanes.getLsbD l.toNat = false ∨ ((s.port n.toNat).lane l.toNat).errs + 1 < s.fld .lnkPhy1 n.toNat 24 8) →
        place ≠ .buffer → exec (.laneError n l rx place) s = .next v)) ∧
    (∀ (x : Lane) (sym : Nat), (x.erred sym).errs = x.errs + 1 ∧
      (x.errAt.length < 7 → (x.erred sym).locked = x.locked) ∧
      (x.errAt.length = 7 → (x.erred sym).locked = (x.locked && !decide (sym < x.errAt.headD 0 + 256)))) ∧
    ((s.port n.toNat).svcRx = 0 → exec (.signalLoss n) s = .next (s.recover n.toNat)) ∧
    ((s.port n.toNat).svcRx ≠ 0 → exec (.signalLoss n) s = .next s) ∧
    (∀ c : BitVec 4, 1 ≤ c.toNat → c.toNat ≤ 5 → ∃ u : State,
      u = ({ s with free := s.free + 1 }.updPort n.toNat fun p =>
        { p.mapLanes fun _ l => { l with phase := l.phase + l.shift, shift := 0 } with
          elastic := p.elastic + if Config.addsSkip s.free then 1 else -1 }) ∧
      exec (.skpReceived n c true) s = .next u ∧ exec (.skpReceived n c false) s = .next (u.recover n.toNat)) ∧
    (∀ c a, (c = 0 ∨ 5 < c.toNat) → exec (.skpReceived n c a) s = .next s) ∧
    ((s.port n.toNat).canSend = true → 34 + n.toNat ∉ s.clk.tripped → exec (.skpDue n) s = .next
      ((s.emit (.set n.toNat (s.port n.toNat).setLanes .skp)).emit (.set n.toNat (s.port n.toNat).setLanes .idle))) ∧
    (((s.port n.toNat).canSend = false ∨ 34 + n.toNat ∈ s.clk.tripped) → exec (.skpDue n) s = .next s) ∧
    (((s.port n.toNat).st = .laneTrain ∨ (s.port n.toNat).st = .deskew ∨ (s.port n.toNat).st = .confirm) →
      ∀ b, exec (.idlEReceived n b) s = .next (s.fallback n.toNat)) ∧
    ((s.port n.toNat).st = .up → ∀ b, ∃ (u : State) (deep : Bool), exec (.idlEReceived n b) s = .next u.retarget ∧ Only [.lnk, .free] s u ∧
      u.free = s.free + 1 ∧ u.port n.toNat = (if b then { s.port n.toNat with svcRx := if deep then 2 else 1 }
        else { s.port n.toNat with bulkRx := if deep then 3 else 2 })) ∧
    (((s.port n.toNat).st = .down ∨ (s.port n.toNat).st = .detect ∨ (s.port n.toNat).st = .align ∨ (s.port n.toNat).st = .config ∨
      (s.port n.toNat).st = .rateSwitch ∨ (s.port n.toNat).st = .recovery) → ∀ b, exec (.idlEReceived n b) s = .next s) ∧
    ((s.port n.toNat).st ≠ .up → (∀ sv l, exec (.fireflyBurstEnd n sv l) s = .next s) ∧ exec (.l0Sleep n) s = .next s ∧
      s.recover n.toNat = s) ∧
    ((s.port n.toNat).st = .up → ∀ sv, exec (.fireflyBurstEnd n sv false) s = .next (s.recover n.toNat) ∧
      exec (.fireflyBurstEnd n sv true) s = .next (s.updPort n.toNat fun p =>
        if sv then { p with svcRx := 0 } else { p with bulkRx := 0 }).retarget) ∧
    ((s.port n.toNat).st = .up → (s.port n.toNat).svcTx = 0 → 2 ≤ (s.port n.toNat).bulkTx.toNat → s.flag .lnkPhy1 n.toNat 16 = true →
      (s.port n.toNat).txq = [] → (s.port n.toNat).ackOwed = 0 → (s.port n.toNat).replay = [] →
      (s.port n.toNat).sentAt + s.fld .lnkPhy1 n.toNat 8 8 ≤ s.now →
      ((s.pwr.state = 2 ∨ s.pwr.state = 3) → exec (.l0Sleep n) s =
        .next ((s.emit (.set n.toNat 1 .idlE)).updPort n.toNat fun p => { p with svcTx := 1 }).retarget) ∧
      (s.pwr.state = 4 → ∃ u : State, exec (.l0Sleep n) s = .next u.retarget ∧ Only [.lnk, .out, .clk] s u ∧
        u.clk = { s.clk with laneLock := s.clk.laneLock &&& ~~~ ((1 : BitVec 4) <<< n.toNat) } ∧ (u.port n.toNat).svcTx = 2) ∧
      ((s.pwr.state.toNat < 2 ∨ 4 < s.pwr.state.toNat) → exec (.l0Sleep n) s = .next s)) ∧
    ((s.port n.toNat).st = .up → ∃ v : State, s.recover n.toNat = v.retarget ∧
      (v.port n.toNat).st = .recovery ∧ (v.port n.toNat).recStep = .laneTrain ∧ (v.port n.toNat).dvalid = false ∧
      (v.port n.toNat).recAt = s.now ∧ (v.port n.toNat).phaseAt = s.now)

/-- R324 to R328. An ACK frees the packets it acknowledges and carries the partner's limits, and one that names a packet not yet sent is ignored;
a NAK replays the rest; a packet whose CRC does not match is counted, and it and one framed wrongly are answered with one NAK, an abandoned one is
not; packets owed an ACK get it in the tick in which their latency ends, and an unacknowledged packet is sent again, until REPLAY_MAX replays have passed. -/
def Obligations.AcknowledgeAndReplay : Prop :=
  ∀ (n : BitVec 2) (s : State),
    (∀ (a : BitVec 12) (w : Word), ((s.port n.toNat).st ≠ .up ∨ (a.toNat + 4096 - (s.port n.toNat).nextTx.toNat) % 4096 < 2048) →
      exec (.ackReceived n a w) s = .next s ∧ exec (.nakReceived n a w) s = .next s) ∧
    (∀ (a : BitVec 12) (w : Word), (s.port n.toNat).st = .up → 2048 ≤ (a.toNat + 4096 - (s.port n.toNat).nextTx.toNat) % 4096 → ∃ u : State,
      Only [.lnk] s u ∧ exec (.ackReceived n a w) s = .next (u.pumpAll n.toNat) ∧
      exec (.nakReceived n a w) s = .next ((u.replayAll n.toNat).pumpAll n.toNat) ∧
      (u.port n.toNat).txq = (s.port n.toNat).txq ∧
      (u.port n.toNat).replay = (s.port n.toNat).replay.drop
        ((s.port n.toNat).replay.length - ((s.port n.toNat).nextTx.toNat + 4095 - a.toNat) % 4096) ∧
      (∀ k, k < 3 → Tab.get 0 (u.port n.toNat).limit k = BitVec.ofNat 10 (fieldOf w (10 * k) 10))) ∧
    (∀ (rx : List Byte) (framing : Bool), ((s.port n.toNat).st ≠ .up ∨ (framing = false ∧ wireShort rx = false ∧ wireCrcBad rx = false)) →
      exec (.packetError n rx framing) s = .next s) ∧
    ((s.port n.toNat).st = .up → ∀ (rx : List Byte) (framing : Bool), (framing = true ∨ wireShort rx = true) →
      exec (.packetError n rx framing) s = .next (if wireAck rx then s else s.sendNak n.toNat)) ∧
    ((s.port n.toNat).st = .up → ∀ rx : List Byte, wireShort rx = false → wireCrcBad rx = true → ∃ u : State,
      u = (s.updPort n.toNat fun p => { p with crcErrs := satInc p.crcErrs 1 }) ∧
      exec (.packetError n rx false) s = .next (if wireAck rx then u else u.sendNak n.toNat)) ∧
    (∀ body : List Byte, wireCrcBad (body ++ leBytes 4 (crc32 body).toNat) = false) ∧
    exec (.packetAbandoned n) s = .next s ∧
    ((s.port n.toNat).st = .up → 0 < (s.port n.toNat).ackOwed → (s.port n.toNat).ackDue < 10 * (s.now + 1) →
      exec (.ackLatencyTimeout n) s = .next (s.sendAck n.toNat)) ∧
    (((s.port n.toNat).st ≠ .up ∨ (s.port n.toNat).ackOwed = 0 ∨ 10 * (s.now + 1) ≤ (s.port n.toNat).ackDue) → exec (.ackLatencyTimeout n) s = .next s) ∧
    (((s.port n.toNat).st ≠ .up ∨ s.now < (s.port n.toNat).replayDue) → exec (.replayTimeout n) s = .next s) ∧
    ((s.port n.toNat).st = .up → (s.port n.toNat).replayDue ≤ s.now → exec (.replayTimeout n) s = .next (s.replayAll n.toNat)) ∧
    ((s.port n.toNat).replay = [] → s.replayAll n.toNat = s) ∧
    ((s.port n.toNat).replay ≠ [] → s.fld .lnkLlc n.toNat 16 3 ≤ (s.port n.toNat).replays →
      s.replayAll n.toNat = (s.raise (64 + n.toNat) 1).recover n.toNat) ∧
    ((s.port n.toNat).replay ≠ [] → (s.port n.toNat).replays < s.fld .lnkLlc n.toNat 16 3 → (s.port n.toNat).svcTx = 0 →
      (s.port n.toNat).st = .up → Only [.lnk, .out] s (s.replayAll n.toNat) ∧
      (s.replayAll n.toNat).out = s.out ++ (s.port n.toNat).replay.map (fun x => .replay n.toNat (s.port n.toNat).sendLanes x (crc32 (packetBody x))) ∧
      ((s.replayAll n.toNat).port n.toNat).replays = (s.port n.toNat).replays + 1 ∧
      ((s.replayAll n.toNat).port n.toNat).replayDue = s.now + s.fld .lnkLlc n.toNat 8 8)

/-- R325, R328 and R331. An accepted packet has the sequence number expected next: it advances the number, frees its units, and is owed an ACK,
sent at once after the sixteenth; a duplicate is answered with an ACK and a packet out of order with a NAK. What a port that is not UP receives is
nothing. R173 to R175, R322, R333 to R336, R338 and R341. A packet that is accepted whole: a malformed one is counted, one for another node is
forwarded, one for nobody is dropped and counted; what the node consumes reaches its doorbells, its register space, its MRDs or its hop delay. -/
def Obligations.PacketsAreAcceptedAndRouted : Prop :=
  (∀ (n : BitVec 2) (pkt : Packet) (s : State) (back : Nat),
      back = ((s.port n.toNat).nextRcv.toNat + 4096 - pkt.seq) % 4096 →
      ((s.port n.toNat).st ≠ .up → s.arrive n.toNat pkt = (s, false) ∧ exec (.duplicatePacket n pkt) s = .next s ∧
        exec (.packetForward n pkt) s = .next s ∧ exec (.malformedPacket n pkt) s = .next s) ∧
      ((s.port n.toNat).st = .up → back ≠ 0 → back ≤ 2048 → s.arrive n.toNat pkt = (s.sendAck n.toNat, false) ∧
        exec (.duplicatePacket n pkt) s = .next (s.sendAck n.toNat)) ∧
      ((s.port n.toNat).st = .up → 2048 < back → s.arrive n.toNat pkt = (s.sendNak n.toNat, false) ∧
        exec (.duplicatePacket n pkt) s = .next s) ∧
      (back = 0 → exec (.duplicatePacket n pkt) s = .next s ∧ ∃ u : State, s.acceptSeq n.toNat pkt = (u.judgeAck n.toNat, true) ∧
        u = (s.updPort n.toNat fun q => { q with
          nextRcv := q.nextRcv + 1, ackOwed := q.ackOwed + 1, nakSent := false,
          ackDue := if q.ackOwed = 0 then 10 * s.now + s.fld .lnkLlc n.toNat 0 8 else q.ackDue,
          freed := Tab.upd 0 q.freed (poolOf pkt.typ) fun x => x + pkt.cost }) ∧
        (16 ≤ (u.port n.toNat).ackOwed → u.judgeAck n.toNat = u.sendAck n.toNat)) ∧
      ((s.port n.toNat).svcTx = 0 → Only [.lnk, .out] s (s.sendAck n.toNat) ∧
        (s.sendAck n.toNat).out = s.out ++ [.ack n.toNat (s.port n.toNat).sendLanes ((s.port n.toNat).ackWord 8) (s.port n.toNat).limitsWord
          (crc32 (ackBody ((s.port n.toNat).ackWord 8) (s.port n.toNat).limitsWord))] ∧
        Only [.lnk, .out] s (s.sendNak n.toNat) ∧
        ((s.port n.toNat).nakSent = true → s.now < (s.port n.toNat).nakDue → s.sendNak n.toNat = s) ∧
        (((s.port n.toNat).nakSent = false ∨ (s.port n.toNat).nakDue ≤ s.now) → (s.sendNak n.toNat).out =
          s.out ++ [.nak n.toNat (s.port n.toNat).sendLanes ((s.port n.toNat).ackWord 9) (s.port n.toNat).limitsWord
            (crc32 (ackBody ((s.port n.toNat).ackWord 9) (s.port n.toNat).limitsWord))] ∧
          ((s.sendNak n.toNat).port n.toNat).nakDue = s.now + s.fld .lnkLlc n.toNat 8 8))) ∧
  (∀ (n : BitVec 2) (pkt : Packet) (s t : State), (s.port n.toNat).st = .up → s.acceptSeq n.toNat pkt = (t, true) →
      t.fld .clkDiv 0 0 2 = 0 →
      (illFormed pkt = true → s.arrive n.toNat pkt = (t.discardMalformed n.toNat pkt, false) ∧
        exec (.malformedPacket n pkt) s = .next (t.discardMalformed n.toNat pkt)) ∧
      (illFormed pkt = false → pkt.typ ≠ 1 → pkt.typ ≠ 2 → exec (.malformedPacket n pkt) s = .next s ∧ ∀ v b, t.route n.toNat pkt = (v, b) →
        (b = false → exec (.packetForward n pkt) s = .next v) ∧
        (b = true → pkt.typ = 4 → v.pwr.gateA = false → v.lnk.parked.any Parked.isBell = false → exec (.sqDoorbell n pkt) s = .next (v.bell (pkt.payload.headD 0)) ∧
          exec (.cqDoorbell n pkt) s = .next (v.bell (pkt.payload.headD 0))) ∧
        (b = true → pkt.typ = 4 → (v.pwr.gateA = true ∨ v.lnk.parked.any Parked.isBell = true) → exec (.sqDoorbell n pkt) s = .next (v.park (.packet n.toNat pkt)) ∧
          exec (.cqDoorbell n pkt) s = .next (v.park (.packet n.toNat pkt))) ∧
        (b = true → pkt.typ = 5 → exec (.cfgRd n pkt) s = .next (v.takeCfgRd n.toNat pkt)) ∧
        (b = true → pkt.typ = 6 → exec (.cfgWr n pkt) s = .next (v.takeCfgWr n.toNat pkt)) ∧
        (b = true → pkt.typ = 3 → exec (.cplReceived n pkt) s = .next (v.takeCpl pkt)) ∧
        (b = true → pkt.typ = 7 → pkt.dkind = 3 → pkt.w2 = 0x10 → exec (.turn n pkt) s = .next (v.takeTurn n.toNat pkt.payload)) ∧
        (b = true → pkt.typ = 7 → (pkt.dkind ≠ 3 ∨ pkt.w2 ≠ 0x10) → exec (.turn n pkt) s = .next v.countBadMsg)) ∧
      (pkt.dkind = 3 → t.route n.toNat pkt = (t, true)) ∧
      (t.lnk.valid = true → n.toNat = t.lnk.upPort.toNat → pkt.dkind = 0 →
        (pkt.dst = t.lnk.id.toNat → t.route n.toNat pkt = (t, true)) ∧
        (pkt.dst ≠ t.lnk.id.toNat → (∀ k, k < 4 → t.rangeHolds k pkt.dst = false) →
          t.route n.toNat pkt = (t.dropPacket pkt, false)) ∧
        (∀ k, pkt.dst ≠ t.lnk.id.toNat → (List.range 4).find? (fun k => t.rangeHolds k pkt.dst) = some k → (t.port k).laneTrained = true →
          t.route n.toNat pkt = (t.enqueue k n.toNat pkt, false))) ∧
      (t.lnk.valid = false → (isCfg pkt = false ∨ pkt.dkind ≠ 2) → pkt.dkind ≠ 3 →
        t.route n.toNat pkt = ({ t with lnk := { t.lnk with unroutable := satInc t.lnk.unroutable 1 } }, false)) ∧
      (t.lnk.valid = false → isCfg pkt = true → pkt.dkind = 2 → pathLen pkt = 0 →
        t.route n.toNat pkt = ({ t with lnk := { t.lnk with upPort := BitVec.ofNat 2 n.toNat } }, true)) ∧
      (t.lnk.valid = false → isCfg pkt = true → pkt.dkind = 2 → pathLen pkt ≠ 0 → t.route n.toNat pkt =
        ({ t with lnk := { t.lnk with upPort := BitVec.ofNat 2 n.toNat, unroutable := satInc t.lnk.unroutable 1 } }.answer pkt 1 [], false)) ∧
      (isCfg pkt = false → t.dropPacket pkt = { t with lnk := { t.lnk with unroutable := satInc t.lnk.unroutable 1 } }))

/-- R338, R339 and R543. A CFG_RD returns the registers it names, in order, in a CPL with its tag; a CFG_WR writes them; either that names what is
no register space is answered ERR, and a node whose registers are not served answers nothing. R340, R343 and R344. A CPL ends the MRD of its tag,
and one without an MRD is counted as late; an MRD that has been sent and whose time has passed fails; a TURN that names one of the port's own TS2 gives the hop delay
where it comes within 100 µs of UP, after which none is waited for. -/
def Obligations.CfgRequestsAndHostReads : Prop :=
  (∀ (n : Nat) (pkt : Packet) (s : State), s.pwr.state.toNat < 2 →
      (s.pathReads .cfg = false → s.takeCfgRd n pkt = s ∧ s.takeCfgWr n pkt = s) ∧
      (s.pathReads .cfg = true → cfgFits pkt pkt.len = false → s.takeCfgRd n pkt = s.answer pkt 2 []) ∧
      (s.pathReads .cfg = true → cfgFits pkt pkt.payload.length = false → s.takeCfgWr n pkt = s.answer pkt 2 []) ∧
      (∀ m i, s.pathReads .cfg = true → cfgFits pkt 1 = true → pkt.len = 1 → locateDirect pkt.w2.toNat = some (m, i) → m ≠ .indWin → m ≠ .fltStat →
        s.takeCfgRd n pkt = s.answer pkt 0 [s.readReg 1 m i]) ∧
      (∀ x m i, s.pathReads .cfg = true → pkt.payload = [x] → cfgFits pkt 1 = true → locateDirect pkt.w2.toNat = some (m, i) → m ≠ .indWin →
        m ≠ .otpCmd → ∃ t : State, t = (s.writeReg ⟨1, false, pkt.w2.toNat, x, n, none⟩ m i).noteLevel ∧
        (t.die.mode ≠ s.die.mode → s.takeCfgWr n pkt = t) ∧
        (t.die.mode = s.die.mode → t.regs.clampNext = s.regs.clampNext → s.takeCfgWr n pkt = t.answer pkt 0 []) ∧
        (t.die.mode = s.die.mode → t.regs.clampNext ≠ s.regs.clampNext → s.takeCfgWr n pkt = t.answer pkt 3 [])) ∧
      (∀ status ws, s.answer pkt status ws = s.enqueue s.lnk.upPort.toNat 4
        { w0 := headWord .cpl ws.length, w1 := s.ownW1 0 1 pkt.tc pkt.tag, w2 := BitVec.ofNat 32 status, w3 := 0, payload := ws })) ∧
  ((∀ (pkt : Packet) (s : State), (∀ m ∈ s.rng.mrds, m.tag.toNat ≠ pkt.tag) →
      s.takeCpl pkt = { s with lnk := { s.lnk with lateCpl := satInc s.lnk.lateCpl 1 } }) ∧
    (∀ (pkt : Packet) (m : Mrd) (s : State), s.rng.mrds = [m] → s.rng.mrdQ = [] → m.tag.toNat = pkt.tag → pkt.w2 = 0 → pkt.payload.length = m.words →
      (∀ id o part, m.use = .block id o part → s.takeCpl pkt =
        { s with rng := { s.rng with mrds := [] } }.partArrived id o part (some (wordsBytes pkt.payload))) ∧
      (∀ q i k, m.use = .descs q i k → s.takeCpl pkt =
        { s with rng := { s.rng with mrds := [] } }.descsArrived q i pkt.payload)) ∧
    (∀ (tag : BitVec 12) (s : State),
      ((∀ m ∈ s.rng.mrds, m.tag ≠ tag) → exec (.mrdTimeout tag) s = .next s) ∧
      (∀ m, s.rng.mrds = [m] → m.tag = tag → (m.sent = false ∨ s.now < m.at_ + m.limit) → exec (.mrdTimeout tag) s = .next s) ∧
      (∀ m id o part, s.rng.mrds = [m] → s.rng.mrdQ = [] → m.tag = tag → m.sent = true → m.at_ + m.limit ≤ s.now → m.use = .block id o part → exec (.mrdTimeout tag) s =
        .next ({ s with rng := { s.rng with mrds := [] } }.partArrived id o part none)) ∧
      (∀ m q i k, s.rng.mrds = [m] → s.rng.mrdQ = [] → m.tag = tag → m.sent = true → m.at_ + m.limit ≤ s.now → m.use = .descs q i k →
        (s.sq q).fetch.any (fun e => e.1 == i) = true → exec (.mrdTimeout tag) s =
        .next ({ s with rng := { s.rng with mrds := [] } }.sqError q 4))) ∧
    (∀ (n : BitVec 2) (s : State), ((s.port n.toNat).phaseAt + 100 ≤ s.now →
      exec (.turnTimeout n) s = .next (s.updPort n.toNat fun p => { p with turnWait := false })) ∧
      (s.now < (s.port n.toNat).phaseAt + 100 → exec (.turnTimeout n) s = .next s)) ∧
    (∀ (n : Nat) (x y : Word) (s : State) (t1 t4 : Nat) (g : BitVec 16) (d : Int), (s.port n).turnWait = true → s.now ≤ (s.port n).phaseAt + 100 → (s.port n).st = .up →
      (s.port n).stamps.find? (fun e => e.1 == x.setWidth 16) = some (x.setWidth 16, t1) → (s.port n).lastTs2 = some (x.setWidth 16, t4, g) →
      d = ((t4 : Int) - t1 - y.toNat) / 2 + (BitVec.ofNat 16 (s.fld .lnkTadj n 0 16)).toInt →
      (0 ≤ d → Only [.lnk] s (s.takeTurn n [x, y]) ∧ ((s.takeTurn n [x, y]).port n).dvalid = true ∧
        ((s.takeTurn n [x, y]).port n).delay = BitVec.ofNat 20 d.toNat ∧ ((s.takeTurn n [x, y]).port n).turnWait = false) ∧
      (d < 0 → s.takeTurn n [x, y] = s.updPort n fun p => { p with turnWait := false })))

/-- R173 to R176 and R200. A doorbell moves TAIL of an ACTIVE SQ, or frees entries of an ACTIVE CQ; below the data floor, or for a ring that is
not ACTIVE, it is counted as dropped; a value that is no index, or that passes the ring's free space, is an error of the ring. -/
def Obligations.DoorbellsMoveTheirRings : Prop :=
  ∀ (w : Word) (s : State) (q v : Nat), q = fieldOf w 16 12 → v = fieldOf w 0 16 →
    (fieldOf w 29 3 ≠ 0 → s.bell w = { s with rng := { s.rng with dblDrop := satInc s.rng.dblDrop 1 } }) ∧
    (fieldOf w 29 3 = 0 → w.getLsbD 28 = false → (s.dataFloor = false ∨ (s.sq q).st ≠ .active) →
      s.bell w = { s with rng := { s.rng with dblDrop := satInc s.rng.dblDrop 1 } }) ∧
    (fieldOf w 29 3 = 0 → w.getLsbD 28 = false → s.dataFloor = true → (s.sq q).st = .active →
      (s.sqSize q ≤ v → s.bell w = s.sqError q 2) ∧
      (v < s.sqSize q → s.sqSize q ≤ ringDist (s.sqSize q) v (s.sq q).tail.toNat + s.pend q → s.bell w = s.sqError q 3) ∧
      (v < s.sqSize q → ringDist (s.sqSize q) v (s.sq q).tail.toNat + s.pend q < s.sqSize q →
        s.bell w = s.updSq q fun x => { x with tail := BitVec.ofNat 16 v })) ∧
    (fieldOf w 29 3 = 0 → w.getLsbD 28 = true → (s.dataFloor = false ∨ (s.cq q).st ≠ .active) →
      s.bell w = { s with rng := { s.rng with dblDrop := satInc s.rng.dblDrop 1 } }) ∧
    (fieldOf w 29 3 = 0 → w.getLsbD 28 = true → s.dataFloor = true → (s.cq q).st = .active →
      ((s.cqSize q ≤ v ∨ s.cqUsed q < ringDist (s.cqSize q) v (s.cq q).head.toNat) → s.bell w = s.cqError q v) ∧
      (∀ u, v < s.cqSize q → ringDist (s.cqSize q) v (s.cq q).head.toNat ≤ s.cqUsed q →
        u = (s.updCq q fun x => { x with head := BitVec.ofNat 16 v, accepted := BitVec.ofNat 16 v }) →
        s.bell w = if s.evtEn = true ∧ s.evtCq = q then u.reportLost else u)) ∧
    (∀ e, e < 8 → ∃ u : State, s.sqError q e = u.postEvent 0x000E q 2 (BitVec.ofNat 32 e) (u.sq q).head.toNat ∧ (u.sq q).st = .error ∧
      (u.sq q).err.toNat = e ∧ Only [.rng] s u) ∧
    (∃ u : State, s.cqError q v = u.postEvent 0x000F 0 2 (BitVec.ofNat 32 q) v ∧ (u.cq q).st = .error ∧ Only [.rng] s u)

/-- R178, R179, R193, R195 and R199. An SQ whose turn it is asks for as many descriptors as its window, its load, its command limit and the room
of its CQ allow, and reserves two entries for each; a ring that is not ACTIVE, or below the data floor, fetches none. A CQ whose oldest entry has
waited COAL_US is notified, and reaching the data floor delivers what was held. R180, R187 and R200. A descriptor of the ring's generation that
passes its checks becomes an outstanding command, and HEAD passes it; one that fails a check ends with that status; one of another generation ends
STALE and stops the ring. -/
def Obligations.FetchReservesAndDescriptorsBecomeCommands : Prop :=
  ((∀ (q : BitVec 12) (s : State), (s.sq q.toNat).fetch = [] → s.rng.evLost = 0 →
      (s.nextSq ≠ some q.toNat → exec (.descriptorFetch q) s = .next s) ∧
      (s.nextSq = some q.toNat → exec (.descriptorFetch q) s = .next (s.turnOf q.toNat)) ∧
      ((s.dataFloor = false ∨ (s.sq q.toNat).st ≠ .active ∨ (s.cq (s.sqCq q.toNat)).st ≠ .active ∨ 2 ≤ s.pwr.state.toNat) →
        s.fetchCount q.toNat = 0 ∧ s.turnOf q.toNat = s) ∧
      (∀ n, s.fetchCount q.toNat = n → n ≠ 0 → n ≤ s.fld .sqcW3 q.toNat 12 4 ∧ n ≤ s.pend q.toNat ∧
        n + (s.sq q.toNat).out ≤ s.fld .sqcW7 q.toNat 16 11 ∧ s.rng.cmds.length + n ≤ 4096 ∧
        2 * n + (s.cq (s.sqCq q.toNat)).reserved + s.cqUsed (s.sqCq q.toNat) + 1 ≤ s.cqSize (s.sqCq q.toNat) ∧
        ∃ u : State, s.turnOf q.toNat = u.askDescs q.toNat ((s.sq q.toNat).head.toNat % s.sqSize q.toNat) n ∧ Only [.rng] s u ∧
          (u.cq (s.sqCq q.toNat)).reserved = (s.cq (s.sqCq q.toNat)).reserved + 2 * n ∧ (u.sq q.toNat).usedAt = some s.now)) ∧
    (∀ (q : BitVec 12) (s : State),
      ((s.fld .cqcW3 q.toNat 8 16 = 0 ∨ (s.cq q.toNat).unNote = 0 ∨ s.flag .cqcW3 q.toNat 24 = false) →
        exec (.coalTimeout q) s = .next s) ∧
      (∀ a, s.fld .cqcW3 q.toNat 8 16 ≠ 0 → 0 < (s.cq q.toNat).unNote → s.flag .cqcW3 q.toNat 24 = true →
        (s.cq q.toNat).oldest = some a → (a + s.fld .cqcW3 q.toNat 8 16 ≤ s.now →
          exec (.coalTimeout q) s = .next (s.notify q.toNat)) ∧
        (s.now < a + s.fld .cqcW3 q.toNat 8 16 → exec (.coalTimeout q) s = .next s))) ∧
    (∀ s : State, (s.dataFloor = false → exec .dataFloorReached s = .next s) ∧
      (s.dataFloor = true → exec .dataFloorReached s = .next s.noteLevel.flushHeld))) ∧
  (∀ (q : Nat) (d : Desc) (s : State), s.sqStream q = false → (s.sq q).st ≠ .disabled → (s.cq (s.sqCq q)).st ≠ .disabled →
      (∀ op, d.gen = (s.sq q).gen → s.checkDesc q d = .ok op → op = .read ∨ op = .write ∨ op = .check ∨ op = .copy → ∃ u : State,
        s.takeDesc q d = (u, true) ∧ Only [.rng] s u ∧ u.rng.cmds = s.rng.cmds ++ [s.newCmd q op d] ∧ u.rng.nextId = s.rng.nextId + 1 ∧
        (u.sq q).out = (s.sq q).out + 1 ∧
        (u.sq q).head = (if (s.sq q).head.toNat + 1 = s.sqSize q then 0 else (s.sq q).head + 1) ∧
        ((s.sq q).head.toNat + 1 = s.sqSize q → (u.sq q).gen = (s.sq q).gen + 1)) ∧
      (∀ st sd, d.gen = (s.sq q).gen → s.checkDesc q d = .error (st, sd) → ∃ u : State,
        s.takeDesc q d = (u.finish s.rng.nextId (plainFinal st sd 0 0), true) ∧ Only [.rng] s u) ∧
      (d.gen ≠ (s.sq q).gen → ∃ w u : State,
        w = s.writeEntry (s.sqCq q)
          { entry := mkEntry d.cid.toNat q kindFinal 0x03 0 0 (BitVec.ofNat 32 d.gen.toNat) (s.sq q).gen.toNat
            sq := q, urgent := d.urgent, tc := (s.resolvedTc q d).toNat, use := .pair d.cid } ∧ s.takeDesc q d = (u.sqError q 1, true) ∧ Only [.rng] w u ∧ u.rng.cmds = w.rng.cmds ∧
        (u.cq (s.sqCq q)).reserved = (w.cq (s.sqCq q)).reserved - 1 ∧
        ((s.cq (s.sqCq q)).st ≠ .error → u.rng.remembered.getLast? = some (q, d.cid)) ∧
        ((s.cq (s.sqCq q)).st = .error → u.rng.remembered = s.rng.remembered)))
end

