-- ==== Sys2Proof/Laws/PerInstr.lean ====
section
/-! SUPPORT. A property of every command as syntax, one lemma for each constructor: where a command is the write of one named register,
the register's instance is one that the map has. -/

namespace Sys2Proof.Laws.Named
open Sys2Proof.Machine Sys2Proof.Safety
set_option Elab.async false

/-- The register a command names lies in the map (R545, R549). -/
def Statement (c : Instr) : Prop := ∀ p n i d, named c = some (p, n, i, d) → i < (regPlace n).count

/-- A command that names no register. -/
theorem of_none (c : Instr) (h : named c = none) : Statement c := by
  intro p n i d e
  rw [h] at e
  exact absurd e (by simp)

/-- A command that names one register. -/
theorem of_some (c : Instr) (p : Path) (n : RegName) (i : Nat) (d : Word) (h : named c = some (p, n, i, d))
    (hi : i < (regPlace n).count) : Statement c := by
  intro p' n' i' d' e
  rw [h] at e
  cases e
  exact hi

theorem registerWrite a b c : Statement (.registerWrite a b c) := of_none _ rfl
theorem indWinAccess a b c : Statement (.indWinAccess a b c) := of_none _ rfl
theorem fltStat0Read a : Statement (.fltStat0Read a) := of_none _ rfl
theorem fltAck a b : Statement (.fltAck a b) := of_some _ _ _ _ _ rfl (by simp only [regPlace]; omega)
theorem clampAck a b : Statement (.clampAck a b) := of_some _ _ _ _ _ rfl (by simp only [regPlace]; omega)
theorem fltInject a b : Statement (.fltInject a b) := of_some _ _ _ _ _ rfl (by simp only [regPlace]; omega)
theorem timCfgWrite a b : Statement (.timCfgWrite a b) := of_some _ _ _ _ _ rfl (by simp only [regPlace]; omega)
theorem budCapWrite a b : Statement (.budCapWrite a b) := of_some _ _ _ _ _ rfl (by simp only [regPlace]; omega)
theorem pcdSmapWrite a b c : Statement (.pcdSmapWrite a b c) := of_some _ _ _ _ _ rfl (by simp only [regPlace]; omega)
theorem pcdRdySet a b c : Statement (.pcdRdySet a b c) := of_some _ _ _ _ _ rfl (by simp only [regPlace]; omega)
theorem scbLogDismiss a b : Statement (.scbLogDismiss a b) := of_some _ _ _ _ _ rfl (by simp only [regPlace]; omega)
theorem maxMultWrite a b c : Statement (.maxMultWrite a b c) := of_some _ _ _ _ _ rfl (by simp only [regPlace]; omega)
theorem tierFreqWrite a b c : Statement (.tierFreqWrite a b c) := of_some _ _ _ _ _ rfl (by simp only [regPlace]; omega)
theorem channelRetire a b c : Statement (.channelRetire a b c) := of_some _ _ _ _ _ rfl (by simp only [regPlace]; omega)
theorem channelResume a b : Statement (.channelResume a b) := of_some _ _ _ _ _ rfl (by simp only [regPlace]; omega)
theorem channelDiscard a b : Statement (.channelDiscard a b) := of_some _ _ _ _ _ rfl (by simp only [regPlace]; omega)
theorem channelRetrain a b : Statement (.channelRetrain a b) := of_some _ _ _ _ _ rfl (by simp only [regPlace]; omega)
theorem sqEnable a b c : Statement (.sqEnable a b c) := of_some _ _ _ _ _ rfl (by simp only [regPlace]; omega)
theorem sqDisable a b c : Statement (.sqDisable a b c) := of_some _ _ _ _ _ rfl (by simp only [regPlace]; omega)
theorem cqEnable a b : Statement (.cqEnable a b) := of_some _ _ _ _ _ rfl (by simp only [regPlace]; omega)
theorem cqDisable a b : Statement (.cqDisable a b) := of_some _ _ _ _ _ rfl (by simp only [regPlace]; omega)
theorem cqResume a b : Statement (.cqResume a b) := of_some _ _ _ _ _ rfl (by simp only [regPlace]; omega)
theorem rngEvtCqWrite a b : Statement (.rngEvtCqWrite a b) := of_some _ _ _ _ _ rfl (by simp only [regPlace]; omega)
theorem qosTcWrite a b c : Statement (.qosTcWrite a b c) := of_some _ _ _ _ _ rfl (by simp only [regPlace]; omega)
theorem portEnWrite a b c : Statement (.portEnWrite a b c) := of_some _ _ _ _ _ rfl (by simp only [regPlace]; omega)
theorem lnkRetrain a b : Statement (.lnkRetrain a b) := of_some _ _ _ _ _ rfl (by simp only [regPlace]; omega)
theorem lnkRecover a b : Statement (.lnkRecover a b) := of_some _ _ _ _ _ rfl (by simp only [regPlace]; omega)
theorem nodeIdAssign a b c : Statement (.nodeIdAssign a b c) := of_some _ _ _ _ _ rfl (by simp only [regPlace]; omega)
theorem pwrWake a : Statement (.pwrWake a) := of_some _ _ _ _ _ rfl (by simp only [regPlace]; omega)
theorem pwrOff a b : Statement (.pwrOff a b) := of_some _ _ _ _ _ rfl (by simp only [regPlace]; omega)
theorem pwrTierGateWrite a b : Statement (.pwrTierGateWrite a b) := of_some _ _ _ _ _ rfl (by simp only [regPlace]; omega)
theorem thmRetrust a b : Statement (.thmRetrust a b) := of_some _ _ _ _ _ rfl (by simp only [regPlace]; omega)
theorem calNow a : Statement (.calNow a) := of_some _ _ _ _ _ rfl (by simp only [regPlace]; omega)
theorem rstCtlHard a b : Statement (.rstCtlHard a b) := of_some _ _ _ _ _ rfl (by simp only [regPlace]; omega)
theorem rstCtlWarm a b : Statement (.rstCtlWarm a b) := of_some _ _ _ _ _ rfl (by simp only [regPlace]; omega)
theorem rstBlock a b : Statement (.rstBlock a b) := of_some _ _ _ _ _ rfl (by simp only [regPlace]; omega)
theorem blockResetEnd a : Statement (.blockResetEnd a) := of_none _ rfl
theorem otpProgram a b : Statement (.otpProgram a b) := of_some _ _ _ _ _ rfl (by simp only [regPlace]; omega)
theorem otpLock a b c : Statement (.otpLock a b c) := of_some _ _ _ _ _ rfl (by simp only [regPlace]; omega)
theorem otpCommandEnd a b : Statement (.otpCommandEnd a b) := of_none _ rfl
theorem bistRun a : Statement (.bistRun a) := of_some _ _ _ _ _ rfl (by simp only [regPlace]; omega)
theorem bistStop a : Statement (.bistStop a) := of_some _ _ _ _ _ rfl (by simp only [regPlace]; omega)
theorem stackTest a b : Statement (.stackTest a b) := of_some _ _ _ _ _ rfl (by simp only [regPlace]; omega)
theorem keygen a b : Statement (.keygen a b) := of_some _ _ _ _ _ rfl (by simp only [regPlace]; omega)
theorem kxSet a b : Statement (.kxSet a b) := of_some _ _ _ _ _ rfl (by simp only [regPlace]; omega)
theorem revoke a b : Statement (.revoke a b) := of_some _ _ _ _ _ rfl (by simp only [regPlace]; omega)
theorem lifeAdv a b c : Statement (.lifeAdv a b c) := of_some _ _ _ _ _ rfl (by simp only [regPlace]; omega)
theorem dbgLevelRequest a b : Statement (.dbgLevelRequest a b) := of_some _ _ _ _ _ rfl (by simp only [regPlace]; omega)
theorem debugTokenChecked : Statement (.debugTokenChecked) := of_none _ rfl
theorem dbgEnd a : Statement (.dbgEnd a) := of_some _ _ _ _ _ rfl (by simp only [regPlace]; omega)
theorem newchal a : Statement (.newchal a) := of_some _ _ _ _ _ rfl (by simp only [regPlace]; omega)
theorem debugSessionExpire : Statement (.debugSessionExpire) := of_none _ rfl
theorem twGo a b : Statement (.twGo a b) := of_some _ _ _ _ _ rfl (by simp only [regPlace]; omega)
theorem nop a : Statement (.nop a) := of_none _ rfl
theorem read a : Statement (.read a) := of_none _ rfl
theorem write a : Statement (.write a) := of_none _ rfl
theorem flush a : Statement (.flush a) := of_none _ rfl
theorem fill a : Statement (.fill a) := of_none _ rfl
theorem copy a : Statement (.copy a) := of_none _ rfl
theorem compare a : Statement (.compare a) := of_none _ rfl
theorem check a : Statement (.check a) := of_none _ rfl
theorem verify a : Statement (.verify a) := of_none _ rfl
theorem recode a : Statement (.recode a) := of_none _ rfl
theorem sanitize a : Statement (.sanitize a) := of_none _ rfl
theorem keyLoad a : Statement (.keyLoad a) := of_none _ rfl
theorem keyDestroy a : Statement (.keyDestroy a) := of_none _ rfl
theorem keyErase a : Statement (.keyErase a) := of_none _ rfl
theorem attest a : Statement (.attest a) := of_none _ rfl
theorem repair a : Statement (.repair a) := of_none _ rfl
theorem getLog a : Statement (.getLog a) := of_none _ rfl
theorem setLatency a : Statement (.setLatency a) := of_none _ rfl
theorem abort a : Statement (.abort a) := of_none _ rfl
theorem descriptorFetch a : Statement (.descriptorFetch a) := of_none _ rfl
theorem sqDoorbell a b : Statement (.sqDoorbell a b) := of_none _ rfl
theorem cqDoorbell a b : Statement (.cqDoorbell a b) := of_none _ rfl
theorem dataFloorReached : Statement (.dataFloorReached) := of_none _ rfl
theorem coalTimeout a : Statement (.coalTimeout a) := of_none _ rfl
theorem cricketTick : Statement (.cricketTick) := of_none _ rfl
theorem timeSetReceived a b : Statement (.timeSetReceived a b) := of_none _ rfl
theorem orphanTimeout : Statement (.orphanTimeout) := of_none _ rfl
theorem epochBoundary : Statement (.epochBoundary) := of_none _ rfl
theorem bistSegmentEnd a : Statement (.bistSegmentEnd a) := of_none _ rfl
theorem bistPeriodicDue : Statement (.bistPeriodicDue) := of_none _ rfl
theorem requestIssue a : Statement (.requestIssue a) := of_none _ rfl
theorem burstComplete a b : Statement (.burstComplete a b) := of_none _ rfl
theorem decodeEnd a b : Statement (.decodeEnd a b) := of_none _ rfl
theorem refreshDue a b : Statement (.refreshDue a b) := of_none _ rfl
theorem talertLow a : Statement (.talertLow a) := of_none _ rfl
theorem mr6ReadDone a b c d : Statement (.mr6ReadDone a b c d) := of_none _ rfl
theorem trainingProbeDone a b : Statement (.trainingProbeDone a b) := of_none _ rfl
theorem gateOpeningStart : Statement (.gateOpeningStart) := of_none _ rfl
theorem tierGood a : Statement (.tierGood a) := of_none _ rfl
theorem tierGateTimeout a : Statement (.tierGateTimeout a) := of_none _ rfl
theorem gateClosing a : Statement (.gateClosing a) := of_none _ rfl
theorem trstRelease a : Statement (.trstRelease a) := of_none _ rfl
theorem identityCheck a b : Statement (.identityCheck a b) := of_none _ rfl
theorem formatWrite a : Statement (.formatWrite a) := of_none _ rfl
theorem scarabRead a : Statement (.scarabRead a) := of_none _ rfl
theorem scarabPassEnd : Statement (.scarabPassEnd) := of_none _ rfl
theorem wakePassEnd a : Statement (.wakePassEnd a) := of_none _ rfl
theorem qosAdaptStep : Statement (.qosAdaptStep) := of_none _ rfl
theorem admissionRecompute : Statement (.admissionRecompute) := of_none _ rfl
theorem linkDetect a : Statement (.linkDetect a) := of_none _ rfl
theorem signalDetected a : Statement (.signalDetected a) := of_none _ rfl
theorem symbolLock a b c : Statement (.symbolLock a b c) := of_none _ rfl
theorem ts1Received a b c : Statement (.ts1Received a b c) := of_none _ rfl
theorem ts2Received a b c d e : Statement (.ts2Received a b c d e) := of_none _ rfl
theorem rateSwitchEnd a : Statement (.rateSwitchEnd a) := of_none _ rfl
theorem laneTrainDone a : Statement (.laneTrainDone a) := of_none _ rfl
theorem lmkReceived a b c d e : Statement (.lmkReceived a b c d e) := of_none _ rfl
theorem linkStateTimeout a : Statement (.linkStateTimeout a) := of_none _ rfl
theorem laneError a b c d : Statement (.laneError a b c d) := of_none _ rfl
theorem signalLoss a : Statement (.signalLoss a) := of_none _ rfl
theorem skpReceived a b c : Statement (.skpReceived a b c) := of_none _ rfl
theorem skpDue a : Statement (.skpDue a) := of_none _ rfl
theorem idlEReceived a b : Statement (.idlEReceived a b) := of_none _ rfl
theorem fireflyBurstEnd a b c : Statement (.fireflyBurstEnd a b c) := of_none _ rfl
theorem l0Sleep a : Statement (.l0Sleep a) := of_none _ rfl
theorem l0SignalWake a : Statement (.l0SignalWake a) := of_none _ rfl
theorem eyeMeasureDone a b c : Statement (.eyeMeasureDone a b c) := of_none _ rfl
theorem ackReceived a b c : Statement (.ackReceived a b c) := of_none _ rfl
theorem nakReceived a b c : Statement (.nakReceived a b c) := of_none _ rfl
theorem packetError a b c : Statement (.packetError a b c) := of_none _ rfl
theorem packetAbandoned a : Statement (.packetAbandoned a) := of_none _ rfl
theorem cplReceived a b : Statement (.cplReceived a b) := of_none _ rfl
theorem cfgRd a b : Statement (.cfgRd a b) := of_none _ rfl
theorem cfgWr a b : Statement (.cfgWr a b) := of_none _ rfl
theorem turn a b : Statement (.turn a b) := of_none _ rfl
theorem packetForward a b : Statement (.packetForward a b) := of_none _ rfl
theorem ackLatencyTimeout a : Statement (.ackLatencyTimeout a) := of_none _ rfl
theorem replayTimeout a : Statement (.replayTimeout a) := of_none _ rfl
theorem mrdTimeout a : Statement (.mrdTimeout a) := of_none _ rfl
theorem turnTimeout a : Statement (.turnTimeout a) := of_none _ rfl
theorem idleTimeout : Statement (.idleTimeout) := of_none _ rfl
theorem ringWindowExpire a : Statement (.ringWindowExpire a) := of_none _ rfl
theorem wakeNFall : Statement (.wakeNFall) := of_none _ rfl
theorem wakePulseEnd : Statement (.wakePulseEnd) := of_none _ rfl
theorem tierRestartDue : Statement (.tierRestartDue) := of_none _ rfl
theorem sensorSample a : Statement (.sensorSample a) := of_none _ rfl
theorem tierSensorFrame a b : Statement (.tierSensorFrame a b) := of_none _ rfl
theorem graceTimeout : Statement (.graceTimeout) := of_none _ rfl
theorem clickRestart : Statement (.clickRestart) := of_none _ rfl
theorem calRoundDone a b : Statement (.calRoundDone a b) := of_none _ rfl
theorem railUndervoltage a : Statement (.railUndervoltage a) := of_none _ rfl
theorem railRestored a : Statement (.railRestored a) := of_none _ rfl
theorem rcReady : Statement (.rcReady) := of_none _ rfl
theorem startupWatchdogExpiry : Statement (.startupWatchdogExpiry) := of_none _ rfl
theorem xtalGood : Statement (.xtalGood) := of_none _ rfl
theorem xtalTimeout : Statement (.xtalTimeout) := of_none _ rfl
theorem xtalFail : Statement (.xtalFail) := of_none _ rfl
theorem rcWatchTrip : Statement (.rcWatchTrip) := of_none _ rfl
theorem pllLock a : Statement (.pllLock a) := of_none _ rfl
theorem pllMonitorTrip a b : Statement (.pllMonitorTrip a b) := of_none _ rfl
theorem muxForce a : Statement (.muxForce a) := of_none _ rfl
theorem powerOnReset a : Statement (.powerOnReset a) := of_none _ rfl
theorem porstNRelease a : Statement (.porstNRelease a) := of_none _ rfl
theorem resetNLow a : Statement (.resetNLow a) := of_none _ rfl
theorem resetNRise : Statement (.resetNRise) := of_none _ rfl
theorem resetHoldEnd : Statement (.resetHoldEnd) := of_none _ rfl
theorem quiesceOverrun a : Statement (.quiesceOverrun a) := of_none _ rfl
theorem otpSenseDone a : Statement (.otpSenseDone a) := of_none _ rfl
theorem memoryBistDone a b : Statement (.memoryBistDone a b) := of_none _ rfl
theorem imageReadDone : Statement (.imageReadDone) := of_none _ rfl
theorem imageRetry : Statement (.imageRetry) := of_none _ rfl
theorem dataService : Statement (.dataService) := of_none _ rfl
theorem faultEvent a : Statement (.faultEvent a) := of_none _ rfl
theorem faultWindowEnd a : Statement (.faultWindowEnd a) := of_none _ rfl
theorem shadowEnd a : Statement (.shadowEnd a) := of_none _ rfl
theorem collectorParity a : Statement (.collectorParity a) := of_none _ rfl
theorem configParityScan a : Statement (.configParityScan a) := of_none _ rfl
theorem twAddress a : Statement (.twAddress a) := of_none _ rfl
theorem twWriteByte a : Statement (.twWriteByte a) := of_none _ rfl
theorem twReadByte a : Statement (.twReadByte a) := of_none _ rfl
theorem twStop a : Statement (.twStop a) := of_none _ rfl
theorem twMisplacedCondition a b : Statement (.twMisplacedCondition a b) := of_none _ rfl
theorem twSdaTimeout : Statement (.twSdaTimeout) := of_none _ rfl
theorem twTransactionEnd a b c : Statement (.twTransactionEnd a b c) := of_none _ rfl
theorem twArbLost a b c : Statement (.twArbLost a b c) := of_none _ rfl
theorem twStretchTimeout a b : Statement (.twStretchTimeout a b) := of_none _ rfl
theorem twBusRecovery a : Statement (.twBusRecovery a) := of_none _ rfl
theorem tapReset : Statement (.tapReset) := of_none _ rfl
theorem tapInstruction a : Statement (.tapInstruction a) := of_none _ rfl
theorem fallbackIdleEnd a : Statement (.fallbackIdleEnd a) := of_none _ rfl
theorem malformedPacket a b : Statement (.malformedPacket a b) := of_none _ rfl
theorem duplicatePacket a b : Statement (.duplicatePacket a b) := of_none _ rfl

end Sys2Proof.Laws.Named
end

