-- ==== Sys2Proof/Laws/Registers.lean ====
section
/-! SUPPORT. What one register write does, said once: a path that is not served, a register whose fields are all actions, and the
late writes of a state that has none. -/

namespace Sys2Proof.Machine
open Sys2Proof.Safety

/-- With no write waiting there is nothing to act on. -/
@[simp] theorem State.actLate_nil (s : State) (h : s.regs.late = []) : s.actLate = s := by
  simp [State.actLate, h]

/-- A register without stored fields keeps nothing. -/
theorem State.commitFields_actions (s : State) (w : RegWrite) (n : RegName) (i : Nat)
    (h : (regFields n i).all (fun f => !f.typ.stored) = true) :
    s.commitFields w n i = (s, s.present w.src n i, s.present w.src n i) := by
  unfold State.commitFields
  simp only [h, if_true]

/-- A node in P0 or P1 needs no wake for a CFG access. -/
theorem State.cfgWake_awake (s : State) (h : s.pwr.state.toNat < 2) : s.cfgWake = s := by
  simp [State.cfgWake]
  omega

/-- A served path accesses the register file as it stands. -/
theorem State.onPath_served (s : State) (p : Path) (x : Parked) (go : State → State) (h : p = .cfg → s.pwr.state.toNat < 2) :
    s.onPath p true x go = go s := by
  by_cases hp : p = .cfg
  · simp [State.onPath, hp, State.cfgWake_awake s (h hp)]
  · simp [State.onPath, hp]

/-- A path that is not served changes nothing, but for a CFG access that waits until the node has left P4. -/
theorem State.namedWrite_unserved (s : State) (p : Path) (n : RegName) (i : Nat) (data : Word) (port : Nat)
    (fail : Option (BitVec 4)) (h : s.pathWrites p = false) (hc : s.cfgSleeps p = false) :
    s.namedWrite p n i data port fail = s := by
  simp [State.namedWrite, State.onPath, h, hc]

/-- A write to a register whose fields are all actions: the action, late writes, and the service level. -/
theorem State.namedWrite_action (s : State) (p : Path) (n : RegName) (i : Nat) (data : Word) (port : Nat)
    (fail : Option (BitVec 4)) (h : Acts p n i s) (ha : (regFields n i).all (fun f => !f.typ.stored) = true)
    (hf : fieldsFirst n = false) :
    s.namedWrite p n i data port fail =
      (s.act ⟨pathSource p, (regPlace n).ind, regAddr n i, data, port, fail⟩ n i).actLate.noteLevel := by
  obtain ⟨h1, h2, h3, h4, h5⟩ := h
  simp [State.namedWrite, State.onPath_served _ _ _ _ h5, State.writeReg, h1, h2, h3, h4, hf, State.commitFields_actions _ _ _ _ ha, State.takeFields]

/-- The same where the action leaves no late write behind. -/
theorem State.namedWrite_does (s u : State) (p : Path) (n : RegName) (i : Nat) (data : Word) (port : Nat)
    (fail : Option (BitVec 4)) (h : Acts p n i s) (ha : (regFields n i).all (fun f => !f.typ.stored) = true)
    (hf : fieldsFirst n = false)
    (hu : s.act ⟨pathSource p, (regPlace n).ind, regAddr n i, data, port, fail⟩ n i = u) (hl : u.regs.late = []) :
    s.namedWrite p n i data port fail = u.noteLevel := by
  rw [State.namedWrite_action s p n i data port fail h ha hf, hu, State.actLate_nil u hl]

/-- The clamp log's entries leave the late writes alone. -/
@[simp] theorem State.clampNote_late (s : State) (w : RegWrite) (k lo hi a b : Nat) :
    (s.clampNote w k lo hi a b).regs.late = s.regs.late := by simp only [State.clampNote]

@[simp] theorem State.ignoredField_late (s : State) (w : RegWrite) (lo wd : Nat) :
    (s.ignoredField w lo wd).regs.late = s.regs.late := by simp only [State.ignoredField, State.clampNote_late]

@[simp] theorem State.ignoredWhole_late (s : State) (w : RegWrite) (x : Word) :
    (s.ignoredWhole w x).regs.late = s.regs.late := by simp only [State.ignoredWhole, State.clampNote_late]

end Sys2Proof.Machine
end

