-- ==== Sys2Proof/Laws/State.lean ====
section
/-! SUPPORT. Each basic operation on the state leaves every part but its own as it is: one lemma for each part, by rfl, so that no
proof unfolds a record update. -/

namespace Sys2Proof.Machine

variable (s : State)

/-! ## setChan -/

@[simp] theorem State.setChan_die (i : Nat) (c : Chan) : (s.setChan i c).die = s.die := rfl
@[simp] theorem State.setChan_regs (i : Nat) (c : Chan) : (s.setChan i c).regs = s.regs := rfl
@[simp] theorem State.setChan_tim (i : Nat) (c : Chan) : (s.setChan i c).tim = s.tim := rfl
@[simp] theorem State.setChan_clk (i : Nat) (c : Chan) : (s.setChan i c).clk = s.clk := rfl
@[simp] theorem State.setChan_bud (i : Nat) (c : Chan) : (s.setChan i c).bud = s.bud := rfl
@[simp] theorem State.setChan_qos (i : Nat) (c : Chan) : (s.setChan i c).qos = s.qos := rfl
@[simp] theorem State.setChan_rng (i : Nat) (c : Chan) : (s.setChan i c).rng = s.rng := rfl
@[simp] theorem State.setChan_lnk (i : Nat) (c : Chan) : (s.setChan i c).lnk = s.lnk := rfl
@[simp] theorem State.setChan_pcd (i : Nat) (c : Chan) : (s.setChan i c).pcd = s.pcd := rfl
@[simp] theorem State.setChan_scb (i : Nat) (c : Chan) : (s.setChan i c).scb = s.scb := rfl
@[simp] theorem State.setChan_pwr (i : Nat) (c : Chan) : (s.setChan i c).pwr = s.pwr := rfl
@[simp] theorem State.setChan_thm (i : Nat) (c : Chan) : (s.setChan i c).thm = s.thm := rfl
@[simp] theorem State.setChan_cal (i : Nat) (c : Chan) : (s.setChan i c).cal = s.cal := rfl
@[simp] theorem State.setChan_otp (i : Nat) (c : Chan) : (s.setChan i c).otp = s.otp := rfl
@[simp] theorem State.setChan_bst (i : Nat) (c : Chan) : (s.setChan i c).bst = s.bst := rfl
@[simp] theorem State.setChan_sec (i : Nat) (c : Chan) : (s.setChan i c).sec = s.sec := rfl
@[simp] theorem State.setChan_dbg (i : Nat) (c : Chan) : (s.setChan i c).dbg = s.dbg := rfl
@[simp] theorem State.setChan_flt (i : Nat) (c : Chan) : (s.setChan i c).flt = s.flt := rfl
@[simp] theorem State.setChan_tw (i : Nat) (c : Chan) : (s.setChan i c).tw = s.tw := rfl
@[simp] theorem State.setChan_out (i : Nat) (c : Chan) : (s.setChan i c).out = s.out := rfl
@[simp] theorem State.setChan_free (i : Nat) (c : Chan) : (s.setChan i c).free = s.free := rfl
@[simp] theorem State.setChan_pending (i : Nat) (c : Chan) : (s.setChan i c).pending = s.pending := rfl

/-! ## updChan -/

@[simp] theorem State.updChan_die (i : Nat) (f : Chan → Chan) : (s.updChan i f).die = s.die := rfl
@[simp] theorem State.updChan_regs (i : Nat) (f : Chan → Chan) : (s.updChan i f).regs = s.regs := rfl
@[simp] theorem State.updChan_tim (i : Nat) (f : Chan → Chan) : (s.updChan i f).tim = s.tim := rfl
@[simp] theorem State.updChan_clk (i : Nat) (f : Chan → Chan) : (s.updChan i f).clk = s.clk := rfl
@[simp] theorem State.updChan_bud (i : Nat) (f : Chan → Chan) : (s.updChan i f).bud = s.bud := rfl
@[simp] theorem State.updChan_qos (i : Nat) (f : Chan → Chan) : (s.updChan i f).qos = s.qos := rfl
@[simp] theorem State.updChan_rng (i : Nat) (f : Chan → Chan) : (s.updChan i f).rng = s.rng := rfl
@[simp] theorem State.updChan_lnk (i : Nat) (f : Chan → Chan) : (s.updChan i f).lnk = s.lnk := rfl
@[simp] theorem State.updChan_pcd (i : Nat) (f : Chan → Chan) : (s.updChan i f).pcd = s.pcd := rfl
@[simp] theorem State.updChan_scb (i : Nat) (f : Chan → Chan) : (s.updChan i f).scb = s.scb := rfl
@[simp] theorem State.updChan_pwr (i : Nat) (f : Chan → Chan) : (s.updChan i f).pwr = s.pwr := rfl
@[simp] theorem State.updChan_thm (i : Nat) (f : Chan → Chan) : (s.updChan i f).thm = s.thm := rfl
@[simp] theorem State.updChan_cal (i : Nat) (f : Chan → Chan) : (s.updChan i f).cal = s.cal := rfl
@[simp] theorem State.updChan_otp (i : Nat) (f : Chan → Chan) : (s.updChan i f).otp = s.otp := rfl
@[simp] theorem State.updChan_bst (i : Nat) (f : Chan → Chan) : (s.updChan i f).bst = s.bst := rfl
@[simp] theorem State.updChan_sec (i : Nat) (f : Chan → Chan) : (s.updChan i f).sec = s.sec := rfl
@[simp] theorem State.updChan_dbg (i : Nat) (f : Chan → Chan) : (s.updChan i f).dbg = s.dbg := rfl
@[simp] theorem State.updChan_flt (i : Nat) (f : Chan → Chan) : (s.updChan i f).flt = s.flt := rfl
@[simp] theorem State.updChan_tw (i : Nat) (f : Chan → Chan) : (s.updChan i f).tw = s.tw := rfl
@[simp] theorem State.updChan_out (i : Nat) (f : Chan → Chan) : (s.updChan i f).out = s.out := rfl
@[simp] theorem State.updChan_free (i : Nat) (f : Chan → Chan) : (s.updChan i f).free = s.free := rfl
@[simp] theorem State.updChan_pending (i : Nat) (f : Chan → Chan) : (s.updChan i f).pending = s.pending := rfl

/-! ## setTier -/

@[simp] theorem State.setTier_die (t : Nat) (x : Tier) : (s.setTier t x).die = s.die := rfl
@[simp] theorem State.setTier_regs (t : Nat) (x : Tier) : (s.setTier t x).regs = s.regs := rfl
@[simp] theorem State.setTier_tim (t : Nat) (x : Tier) : (s.setTier t x).tim = s.tim := rfl
@[simp] theorem State.setTier_clk (t : Nat) (x : Tier) : (s.setTier t x).clk = s.clk := rfl
@[simp] theorem State.setTier_bud (t : Nat) (x : Tier) : (s.setTier t x).bud = s.bud := rfl
@[simp] theorem State.setTier_qos (t : Nat) (x : Tier) : (s.setTier t x).qos = s.qos := rfl
@[simp] theorem State.setTier_rng (t : Nat) (x : Tier) : (s.setTier t x).rng = s.rng := rfl
@[simp] theorem State.setTier_lnk (t : Nat) (x : Tier) : (s.setTier t x).lnk = s.lnk := rfl
@[simp] theorem State.setTier_pcd (t : Nat) (x : Tier) : (s.setTier t x).pcd = s.pcd := rfl
@[simp] theorem State.setTier_scb (t : Nat) (x : Tier) : (s.setTier t x).scb = s.scb := rfl
@[simp] theorem State.setTier_pwr (t : Nat) (x : Tier) : (s.setTier t x).pwr = s.pwr := rfl
@[simp] theorem State.setTier_thm (t : Nat) (x : Tier) : (s.setTier t x).thm = s.thm := rfl
@[simp] theorem State.setTier_cal (t : Nat) (x : Tier) : (s.setTier t x).cal = s.cal := rfl
@[simp] theorem State.setTier_otp (t : Nat) (x : Tier) : (s.setTier t x).otp = s.otp := rfl
@[simp] theorem State.setTier_bst (t : Nat) (x : Tier) : (s.setTier t x).bst = s.bst := rfl
@[simp] theorem State.setTier_sec (t : Nat) (x : Tier) : (s.setTier t x).sec = s.sec := rfl
@[simp] theorem State.setTier_dbg (t : Nat) (x : Tier) : (s.setTier t x).dbg = s.dbg := rfl
@[simp] theorem State.setTier_flt (t : Nat) (x : Tier) : (s.setTier t x).flt = s.flt := rfl
@[simp] theorem State.setTier_tw (t : Nat) (x : Tier) : (s.setTier t x).tw = s.tw := rfl
@[simp] theorem State.setTier_out (t : Nat) (x : Tier) : (s.setTier t x).out = s.out := rfl
@[simp] theorem State.setTier_free (t : Nat) (x : Tier) : (s.setTier t x).free = s.free := rfl
@[simp] theorem State.setTier_pending (t : Nat) (x : Tier) : (s.setTier t x).pending = s.pending := rfl

/-! ## updTier -/

@[simp] theorem State.updTier_die (t : Nat) (f : Tier → Tier) : (s.updTier t f).die = s.die := rfl
@[simp] theorem State.updTier_regs (t : Nat) (f : Tier → Tier) : (s.updTier t f).regs = s.regs := rfl
@[simp] theorem State.updTier_tim (t : Nat) (f : Tier → Tier) : (s.updTier t f).tim = s.tim := rfl
@[simp] theorem State.updTier_clk (t : Nat) (f : Tier → Tier) : (s.updTier t f).clk = s.clk := rfl
@[simp] theorem State.updTier_bud (t : Nat) (f : Tier → Tier) : (s.updTier t f).bud = s.bud := rfl
@[simp] theorem State.updTier_qos (t : Nat) (f : Tier → Tier) : (s.updTier t f).qos = s.qos := rfl
@[simp] theorem State.updTier_rng (t : Nat) (f : Tier → Tier) : (s.updTier t f).rng = s.rng := rfl
@[simp] theorem State.updTier_lnk (t : Nat) (f : Tier → Tier) : (s.updTier t f).lnk = s.lnk := rfl
@[simp] theorem State.updTier_pcd (t : Nat) (f : Tier → Tier) : (s.updTier t f).pcd = s.pcd := rfl
@[simp] theorem State.updTier_scb (t : Nat) (f : Tier → Tier) : (s.updTier t f).scb = s.scb := rfl
@[simp] theorem State.updTier_pwr (t : Nat) (f : Tier → Tier) : (s.updTier t f).pwr = s.pwr := rfl
@[simp] theorem State.updTier_thm (t : Nat) (f : Tier → Tier) : (s.updTier t f).thm = s.thm := rfl
@[simp] theorem State.updTier_cal (t : Nat) (f : Tier → Tier) : (s.updTier t f).cal = s.cal := rfl
@[simp] theorem State.updTier_otp (t : Nat) (f : Tier → Tier) : (s.updTier t f).otp = s.otp := rfl
@[simp] theorem State.updTier_bst (t : Nat) (f : Tier → Tier) : (s.updTier t f).bst = s.bst := rfl
@[simp] theorem State.updTier_sec (t : Nat) (f : Tier → Tier) : (s.updTier t f).sec = s.sec := rfl
@[simp] theorem State.updTier_dbg (t : Nat) (f : Tier → Tier) : (s.updTier t f).dbg = s.dbg := rfl
@[simp] theorem State.updTier_flt (t : Nat) (f : Tier → Tier) : (s.updTier t f).flt = s.flt := rfl
@[simp] theorem State.updTier_tw (t : Nat) (f : Tier → Tier) : (s.updTier t f).tw = s.tw := rfl
@[simp] theorem State.updTier_out (t : Nat) (f : Tier → Tier) : (s.updTier t f).out = s.out := rfl
@[simp] theorem State.updTier_free (t : Nat) (f : Tier → Tier) : (s.updTier t f).free = s.free := rfl
@[simp] theorem State.updTier_pending (t : Nat) (f : Tier → Tier) : (s.updTier t f).pending = s.pending := rfl

/-! ## setPort -/

@[simp] theorem State.setPort_die (n : Nat) (p : Port) : (s.setPort n p).die = s.die := rfl
@[simp] theorem State.setPort_regs (n : Nat) (p : Port) : (s.setPort n p).regs = s.regs := rfl
@[simp] theorem State.setPort_tim (n : Nat) (p : Port) : (s.setPort n p).tim = s.tim := rfl
@[simp] theorem State.setPort_clk (n : Nat) (p : Port) : (s.setPort n p).clk = s.clk := rfl
@[simp] theorem State.setPort_bud (n : Nat) (p : Port) : (s.setPort n p).bud = s.bud := rfl
@[simp] theorem State.setPort_qos (n : Nat) (p : Port) : (s.setPort n p).qos = s.qos := rfl
@[simp] theorem State.setPort_rng (n : Nat) (p : Port) : (s.setPort n p).rng = s.rng := rfl
@[simp] theorem State.setPort_tch (n : Nat) (p : Port) : (s.setPort n p).tch = s.tch := rfl
@[simp] theorem State.setPort_pcd (n : Nat) (p : Port) : (s.setPort n p).pcd = s.pcd := rfl
@[simp] theorem State.setPort_scb (n : Nat) (p : Port) : (s.setPort n p).scb = s.scb := rfl
@[simp] theorem State.setPort_pwr (n : Nat) (p : Port) : (s.setPort n p).pwr = s.pwr := rfl
@[simp] theorem State.setPort_thm (n : Nat) (p : Port) : (s.setPort n p).thm = s.thm := rfl
@[simp] theorem State.setPort_cal (n : Nat) (p : Port) : (s.setPort n p).cal = s.cal := rfl
@[simp] theorem State.setPort_otp (n : Nat) (p : Port) : (s.setPort n p).otp = s.otp := rfl
@[simp] theorem State.setPort_bst (n : Nat) (p : Port) : (s.setPort n p).bst = s.bst := rfl
@[simp] theorem State.setPort_sec (n : Nat) (p : Port) : (s.setPort n p).sec = s.sec := rfl
@[simp] theorem State.setPort_dbg (n : Nat) (p : Port) : (s.setPort n p).dbg = s.dbg := rfl
@[simp] theorem State.setPort_flt (n : Nat) (p : Port) : (s.setPort n p).flt = s.flt := rfl
@[simp] theorem State.setPort_tw (n : Nat) (p : Port) : (s.setPort n p).tw = s.tw := rfl
@[simp] theorem State.setPort_out (n : Nat) (p : Port) : (s.setPort n p).out = s.out := rfl
@[simp] theorem State.setPort_free (n : Nat) (p : Port) : (s.setPort n p).free = s.free := rfl
@[simp] theorem State.setPort_pending (n : Nat) (p : Port) : (s.setPort n p).pending = s.pending := rfl

/-! ## updPort -/

@[simp] theorem State.updPort_die (n : Nat) (f : Port → Port) : (s.updPort n f).die = s.die := rfl
@[simp] theorem State.updPort_regs (n : Nat) (f : Port → Port) : (s.updPort n f).regs = s.regs := rfl
@[simp] theorem State.updPort_tim (n : Nat) (f : Port → Port) : (s.updPort n f).tim = s.tim := rfl
@[simp] theorem State.updPort_clk (n : Nat) (f : Port → Port) : (s.updPort n f).clk = s.clk := rfl
@[simp] theorem State.updPort_bud (n : Nat) (f : Port → Port) : (s.updPort n f).bud = s.bud := rfl
@[simp] theorem State.updPort_qos (n : Nat) (f : Port → Port) : (s.updPort n f).qos = s.qos := rfl
@[simp] theorem State.updPort_rng (n : Nat) (f : Port → Port) : (s.updPort n f).rng = s.rng := rfl
@[simp] theorem State.updPort_tch (n : Nat) (f : Port → Port) : (s.updPort n f).tch = s.tch := rfl
@[simp] theorem State.updPort_pcd (n : Nat) (f : Port → Port) : (s.updPort n f).pcd = s.pcd := rfl
@[simp] theorem State.updPort_scb (n : Nat) (f : Port → Port) : (s.updPort n f).scb = s.scb := rfl
@[simp] theorem State.updPort_pwr (n : Nat) (f : Port → Port) : (s.updPort n f).pwr = s.pwr := rfl
@[simp] theorem State.updPort_thm (n : Nat) (f : Port → Port) : (s.updPort n f).thm = s.thm := rfl
@[simp] theorem State.updPort_cal (n : Nat) (f : Port → Port) : (s.updPort n f).cal = s.cal := rfl
@[simp] theorem State.updPort_otp (n : Nat) (f : Port → Port) : (s.updPort n f).otp = s.otp := rfl
@[simp] theorem State.updPort_bst (n : Nat) (f : Port → Port) : (s.updPort n f).bst = s.bst := rfl
@[simp] theorem State.updPort_sec (n : Nat) (f : Port → Port) : (s.updPort n f).sec = s.sec := rfl
@[simp] theorem State.updPort_dbg (n : Nat) (f : Port → Port) : (s.updPort n f).dbg = s.dbg := rfl
@[simp] theorem State.updPort_flt (n : Nat) (f : Port → Port) : (s.updPort n f).flt = s.flt := rfl
@[simp] theorem State.updPort_tw (n : Nat) (f : Port → Port) : (s.updPort n f).tw = s.tw := rfl
@[simp] theorem State.updPort_out (n : Nat) (f : Port → Port) : (s.updPort n f).out = s.out := rfl
@[simp] theorem State.updPort_free (n : Nat) (f : Port → Port) : (s.updPort n f).free = s.free := rfl
@[simp] theorem State.updPort_pending (n : Nat) (f : Port → Port) : (s.updPort n f).pending = s.pending := rfl

/-! ## updSq -/

@[simp] theorem State.updSq_die (q : Nat) (f : SqCtx → SqCtx) : (s.updSq q f).die = s.die := rfl
@[simp] theorem State.updSq_regs (q : Nat) (f : SqCtx → SqCtx) : (s.updSq q f).regs = s.regs := rfl
@[simp] theorem State.updSq_tim (q : Nat) (f : SqCtx → SqCtx) : (s.updSq q f).tim = s.tim := rfl
@[simp] theorem State.updSq_clk (q : Nat) (f : SqCtx → SqCtx) : (s.updSq q f).clk = s.clk := rfl
@[simp] theorem State.updSq_bud (q : Nat) (f : SqCtx → SqCtx) : (s.updSq q f).bud = s.bud := rfl
@[simp] theorem State.updSq_qos (q : Nat) (f : SqCtx → SqCtx) : (s.updSq q f).qos = s.qos := rfl
@[simp] theorem State.updSq_lnk (q : Nat) (f : SqCtx → SqCtx) : (s.updSq q f).lnk = s.lnk := rfl
@[simp] theorem State.updSq_tch (q : Nat) (f : SqCtx → SqCtx) : (s.updSq q f).tch = s.tch := rfl
@[simp] theorem State.updSq_pcd (q : Nat) (f : SqCtx → SqCtx) : (s.updSq q f).pcd = s.pcd := rfl
@[simp] theorem State.updSq_scb (q : Nat) (f : SqCtx → SqCtx) : (s.updSq q f).scb = s.scb := rfl
@[simp] theorem State.updSq_pwr (q : Nat) (f : SqCtx → SqCtx) : (s.updSq q f).pwr = s.pwr := rfl
@[simp] theorem State.updSq_thm (q : Nat) (f : SqCtx → SqCtx) : (s.updSq q f).thm = s.thm := rfl
@[simp] theorem State.updSq_cal (q : Nat) (f : SqCtx → SqCtx) : (s.updSq q f).cal = s.cal := rfl
@[simp] theorem State.updSq_otp (q : Nat) (f : SqCtx → SqCtx) : (s.updSq q f).otp = s.otp := rfl
@[simp] theorem State.updSq_bst (q : Nat) (f : SqCtx → SqCtx) : (s.updSq q f).bst = s.bst := rfl
@[simp] theorem State.updSq_sec (q : Nat) (f : SqCtx → SqCtx) : (s.updSq q f).sec = s.sec := rfl
@[simp] theorem State.updSq_dbg (q : Nat) (f : SqCtx → SqCtx) : (s.updSq q f).dbg = s.dbg := rfl
@[simp] theorem State.updSq_flt (q : Nat) (f : SqCtx → SqCtx) : (s.updSq q f).flt = s.flt := rfl
@[simp] theorem State.updSq_tw (q : Nat) (f : SqCtx → SqCtx) : (s.updSq q f).tw = s.tw := rfl
@[simp] theorem State.updSq_out (q : Nat) (f : SqCtx → SqCtx) : (s.updSq q f).out = s.out := rfl
@[simp] theorem State.updSq_free (q : Nat) (f : SqCtx → SqCtx) : (s.updSq q f).free = s.free := rfl
@[simp] theorem State.updSq_pending (q : Nat) (f : SqCtx → SqCtx) : (s.updSq q f).pending = s.pending := rfl

/-! ## updCq -/

@[simp] theorem State.updCq_die (q : Nat) (f : CqCtx → CqCtx) : (s.updCq q f).die = s.die := rfl
@[simp] theorem State.updCq_regs (q : Nat) (f : CqCtx → CqCtx) : (s.updCq q f).regs = s.regs := rfl
@[simp] theorem State.updCq_tim (q : Nat) (f : CqCtx → CqCtx) : (s.updCq q f).tim = s.tim := rfl
@[simp] theorem State.updCq_clk (q : Nat) (f : CqCtx → CqCtx) : (s.updCq q f).clk = s.clk := rfl
@[simp] theorem State.updCq_bud (q : Nat) (f : CqCtx → CqCtx) : (s.updCq q f).bud = s.bud := rfl
@[simp] theorem State.updCq_qos (q : Nat) (f : CqCtx → CqCtx) : (s.updCq q f).qos = s.qos := rfl
@[simp] theorem State.updCq_lnk (q : Nat) (f : CqCtx → CqCtx) : (s.updCq q f).lnk = s.lnk := rfl
@[simp] theorem State.updCq_tch (q : Nat) (f : CqCtx → CqCtx) : (s.updCq q f).tch = s.tch := rfl
@[simp] theorem State.updCq_pcd (q : Nat) (f : CqCtx → CqCtx) : (s.updCq q f).pcd = s.pcd := rfl
@[simp] theorem State.updCq_scb (q : Nat) (f : CqCtx → CqCtx) : (s.updCq q f).scb = s.scb := rfl
@[simp] theorem State.updCq_pwr (q : Nat) (f : CqCtx → CqCtx) : (s.updCq q f).pwr = s.pwr := rfl
@[simp] theorem State.updCq_thm (q : Nat) (f : CqCtx → CqCtx) : (s.updCq q f).thm = s.thm := rfl
@[simp] theorem State.updCq_cal (q : Nat) (f : CqCtx → CqCtx) : (s.updCq q f).cal = s.cal := rfl
@[simp] theorem State.updCq_otp (q : Nat) (f : CqCtx → CqCtx) : (s.updCq q f).otp = s.otp := rfl
@[simp] theorem State.updCq_bst (q : Nat) (f : CqCtx → CqCtx) : (s.updCq q f).bst = s.bst := rfl
@[simp] theorem State.updCq_sec (q : Nat) (f : CqCtx → CqCtx) : (s.updCq q f).sec = s.sec := rfl
@[simp] theorem State.updCq_dbg (q : Nat) (f : CqCtx → CqCtx) : (s.updCq q f).dbg = s.dbg := rfl
@[simp] theorem State.updCq_flt (q : Nat) (f : CqCtx → CqCtx) : (s.updCq q f).flt = s.flt := rfl
@[simp] theorem State.updCq_tw (q : Nat) (f : CqCtx → CqCtx) : (s.updCq q f).tw = s.tw := rfl
@[simp] theorem State.updCq_out (q : Nat) (f : CqCtx → CqCtx) : (s.updCq q f).out = s.out := rfl
@[simp] theorem State.updCq_free (q : Nat) (f : CqCtx → CqCtx) : (s.updCq q f).free = s.free := rfl
@[simp] theorem State.updCq_pending (q : Nat) (f : CqCtx → CqCtx) : (s.updCq q f).pending = s.pending := rfl

/-! ## setWindow -/

@[simp] theorem State.setWindow_die (w : Nat) (x : Window) : (s.setWindow w x).die = s.die := rfl
@[simp] theorem State.setWindow_regs (w : Nat) (x : Window) : (s.setWindow w x).regs = s.regs := rfl
@[simp] theorem State.setWindow_tim (w : Nat) (x : Window) : (s.setWindow w x).tim = s.tim := rfl
@[simp] theorem State.setWindow_clk (w : Nat) (x : Window) : (s.setWindow w x).clk = s.clk := rfl
@[simp] theorem State.setWindow_bud (w : Nat) (x : Window) : (s.setWindow w x).bud = s.bud := rfl
@[simp] theorem State.setWindow_qos (w : Nat) (x : Window) : (s.setWindow w x).qos = s.qos := rfl
@[simp] theorem State.setWindow_rng (w : Nat) (x : Window) : (s.setWindow w x).rng = s.rng := rfl
@[simp] theorem State.setWindow_lnk (w : Nat) (x : Window) : (s.setWindow w x).lnk = s.lnk := rfl
@[simp] theorem State.setWindow_tch (w : Nat) (x : Window) : (s.setWindow w x).tch = s.tch := rfl
@[simp] theorem State.setWindow_scb (w : Nat) (x : Window) : (s.setWindow w x).scb = s.scb := rfl
@[simp] theorem State.setWindow_pwr (w : Nat) (x : Window) : (s.setWindow w x).pwr = s.pwr := rfl
@[simp] theorem State.setWindow_thm (w : Nat) (x : Window) : (s.setWindow w x).thm = s.thm := rfl
@[simp] theorem State.setWindow_cal (w : Nat) (x : Window) : (s.setWindow w x).cal = s.cal := rfl
@[simp] theorem State.setWindow_otp (w : Nat) (x : Window) : (s.setWindow w x).otp = s.otp := rfl
@[simp] theorem State.setWindow_bst (w : Nat) (x : Window) : (s.setWindow w x).bst = s.bst := rfl
@[simp] theorem State.setWindow_sec (w : Nat) (x : Window) : (s.setWindow w x).sec = s.sec := rfl
@[simp] theorem State.setWindow_dbg (w : Nat) (x : Window) : (s.setWindow w x).dbg = s.dbg := rfl
@[simp] theorem State.setWindow_flt (w : Nat) (x : Window) : (s.setWindow w x).flt = s.flt := rfl
@[simp] theorem State.setWindow_tw (w : Nat) (x : Window) : (s.setWindow w x).tw = s.tw := rfl
@[simp] theorem State.setWindow_out (w : Nat) (x : Window) : (s.setWindow w x).out = s.out := rfl
@[simp] theorem State.setWindow_free (w : Nat) (x : Window) : (s.setWindow w x).free = s.free := rfl
@[simp] theorem State.setWindow_pending (w : Nat) (x : Window) : (s.setWindow w x).pending = s.pending := rfl

/-! ## updCmd -/

@[simp] theorem State.updCmd_die (k : Nat) (f : Cmd → Cmd) : (s.updCmd k f).die = s.die := rfl
@[simp] theorem State.updCmd_regs (k : Nat) (f : Cmd → Cmd) : (s.updCmd k f).regs = s.regs := rfl
@[simp] theorem State.updCmd_tim (k : Nat) (f : Cmd → Cmd) : (s.updCmd k f).tim = s.tim := rfl
@[simp] theorem State.updCmd_clk (k : Nat) (f : Cmd → Cmd) : (s.updCmd k f).clk = s.clk := rfl
@[simp] theorem State.updCmd_bud (k : Nat) (f : Cmd → Cmd) : (s.updCmd k f).bud = s.bud := rfl
@[simp] theorem State.updCmd_qos (k : Nat) (f : Cmd → Cmd) : (s.updCmd k f).qos = s.qos := rfl
@[simp] theorem State.updCmd_lnk (k : Nat) (f : Cmd → Cmd) : (s.updCmd k f).lnk = s.lnk := rfl
@[simp] theorem State.updCmd_tch (k : Nat) (f : Cmd → Cmd) : (s.updCmd k f).tch = s.tch := rfl
@[simp] theorem State.updCmd_pcd (k : Nat) (f : Cmd → Cmd) : (s.updCmd k f).pcd = s.pcd := rfl
@[simp] theorem State.updCmd_scb (k : Nat) (f : Cmd → Cmd) : (s.updCmd k f).scb = s.scb := rfl
@[simp] theorem State.updCmd_pwr (k : Nat) (f : Cmd → Cmd) : (s.updCmd k f).pwr = s.pwr := rfl
@[simp] theorem State.updCmd_thm (k : Nat) (f : Cmd → Cmd) : (s.updCmd k f).thm = s.thm := rfl
@[simp] theorem State.updCmd_cal (k : Nat) (f : Cmd → Cmd) : (s.updCmd k f).cal = s.cal := rfl
@[simp] theorem State.updCmd_otp (k : Nat) (f : Cmd → Cmd) : (s.updCmd k f).otp = s.otp := rfl
@[simp] theorem State.updCmd_bst (k : Nat) (f : Cmd → Cmd) : (s.updCmd k f).bst = s.bst := rfl
@[simp] theorem State.updCmd_sec (k : Nat) (f : Cmd → Cmd) : (s.updCmd k f).sec = s.sec := rfl
@[simp] theorem State.updCmd_dbg (k : Nat) (f : Cmd → Cmd) : (s.updCmd k f).dbg = s.dbg := rfl
@[simp] theorem State.updCmd_flt (k : Nat) (f : Cmd → Cmd) : (s.updCmd k f).flt = s.flt := rfl
@[simp] theorem State.updCmd_tw (k : Nat) (f : Cmd → Cmd) : (s.updCmd k f).tw = s.tw := rfl
@[simp] theorem State.updCmd_out (k : Nat) (f : Cmd → Cmd) : (s.updCmd k f).out = s.out := rfl
@[simp] theorem State.updCmd_free (k : Nat) (f : Cmd → Cmd) : (s.updCmd k f).free = s.free := rfl
@[simp] theorem State.updCmd_pending (k : Nat) (f : Cmd → Cmd) : (s.updCmd k f).pending = s.pending := rfl

/-! ## setCfg -/

@[simp] theorem State.setCfg_die (n : RegName) (i : Nat) (w : Word) : (s.setCfg n i w).die = s.die := rfl
@[simp] theorem State.setCfg_tim (n : RegName) (i : Nat) (w : Word) : (s.setCfg n i w).tim = s.tim := rfl
@[simp] theorem State.setCfg_clk (n : RegName) (i : Nat) (w : Word) : (s.setCfg n i w).clk = s.clk := rfl
@[simp] theorem State.setCfg_bud (n : RegName) (i : Nat) (w : Word) : (s.setCfg n i w).bud = s.bud := rfl
@[simp] theorem State.setCfg_qos (n : RegName) (i : Nat) (w : Word) : (s.setCfg n i w).qos = s.qos := rfl
@[simp] theorem State.setCfg_rng (n : RegName) (i : Nat) (w : Word) : (s.setCfg n i w).rng = s.rng := rfl
@[simp] theorem State.setCfg_lnk (n : RegName) (i : Nat) (w : Word) : (s.setCfg n i w).lnk = s.lnk := rfl
@[simp] theorem State.setCfg_tch (n : RegName) (i : Nat) (w : Word) : (s.setCfg n i w).tch = s.tch := rfl
@[simp] theorem State.setCfg_pcd (n : RegName) (i : Nat) (w : Word) : (s.setCfg n i w).pcd = s.pcd := rfl
@[simp] theorem State.setCfg_scb (n : RegName) (i : Nat) (w : Word) : (s.setCfg n i w).scb = s.scb := rfl
@[simp] theorem State.setCfg_pwr (n : RegName) (i : Nat) (w : Word) : (s.setCfg n i w).pwr = s.pwr := rfl
@[simp] theorem State.setCfg_thm (n : RegName) (i : Nat) (w : Word) : (s.setCfg n i w).thm = s.thm := rfl
@[simp] theorem State.setCfg_cal (n : RegName) (i : Nat) (w : Word) : (s.setCfg n i w).cal = s.cal := rfl
@[simp] theorem State.setCfg_otp (n : RegName) (i : Nat) (w : Word) : (s.setCfg n i w).otp = s.otp := rfl
@[simp] theorem State.setCfg_bst (n : RegName) (i : Nat) (w : Word) : (s.setCfg n i w).bst = s.bst := rfl
@[simp] theorem State.setCfg_sec (n : RegName) (i : Nat) (w : Word) : (s.setCfg n i w).sec = s.sec := rfl
@[simp] theorem State.setCfg_dbg (n : RegName) (i : Nat) (w : Word) : (s.setCfg n i w).dbg = s.dbg := rfl
@[simp] theorem State.setCfg_flt (n : RegName) (i : Nat) (w : Word) : (s.setCfg n i w).flt = s.flt := rfl
@[simp] theorem State.setCfg_tw (n : RegName) (i : Nat) (w : Word) : (s.setCfg n i w).tw = s.tw := rfl
@[simp] theorem State.setCfg_out (n : RegName) (i : Nat) (w : Word) : (s.setCfg n i w).out = s.out := rfl
@[simp] theorem State.setCfg_free (n : RegName) (i : Nat) (w : Word) : (s.setCfg n i w).free = s.free := rfl
@[simp] theorem State.setCfg_pending (n : RegName) (i : Nat) (w : Word) : (s.setCfg n i w).pending = s.pending := rfl

/-! ## raise -/

@[simp] theorem State.raise_die (k d : Nat) : (s.raise k d).die = s.die := rfl
@[simp] theorem State.raise_regs (k d : Nat) : (s.raise k d).regs = s.regs := rfl
@[simp] theorem State.raise_tim (k d : Nat) : (s.raise k d).tim = s.tim := rfl
@[simp] theorem State.raise_clk (k d : Nat) : (s.raise k d).clk = s.clk := rfl
@[simp] theorem State.raise_bud (k d : Nat) : (s.raise k d).bud = s.bud := rfl
@[simp] theorem State.raise_qos (k d : Nat) : (s.raise k d).qos = s.qos := rfl
@[simp] theorem State.raise_rng (k d : Nat) : (s.raise k d).rng = s.rng := rfl
@[simp] theorem State.raise_lnk (k d : Nat) : (s.raise k d).lnk = s.lnk := rfl
@[simp] theorem State.raise_tch (k d : Nat) : (s.raise k d).tch = s.tch := rfl
@[simp] theorem State.raise_pcd (k d : Nat) : (s.raise k d).pcd = s.pcd := rfl
@[simp] theorem State.raise_scb (k d : Nat) : (s.raise k d).scb = s.scb := rfl
@[simp] theorem State.raise_pwr (k d : Nat) : (s.raise k d).pwr = s.pwr := rfl
@[simp] theorem State.raise_thm (k d : Nat) : (s.raise k d).thm = s.thm := rfl
@[simp] theorem State.raise_cal (k d : Nat) : (s.raise k d).cal = s.cal := rfl
@[simp] theorem State.raise_otp (k d : Nat) : (s.raise k d).otp = s.otp := rfl
@[simp] theorem State.raise_bst (k d : Nat) : (s.raise k d).bst = s.bst := rfl
@[simp] theorem State.raise_sec (k d : Nat) : (s.raise k d).sec = s.sec := rfl
@[simp] theorem State.raise_dbg (k d : Nat) : (s.raise k d).dbg = s.dbg := rfl
@[simp] theorem State.raise_tw (k d : Nat) : (s.raise k d).tw = s.tw := rfl
@[simp] theorem State.raise_out (k d : Nat) : (s.raise k d).out = s.out := rfl
@[simp] theorem State.raise_free (k d : Nat) : (s.raise k d).free = s.free := rfl
@[simp] theorem State.raise_pending (k d : Nat) : (s.raise k d).pending = s.pending := rfl

/-! ## emit -/

@[simp] theorem State.emit_die (o : Out) : (s.emit o).die = s.die := rfl
@[simp] theorem State.emit_regs (o : Out) : (s.emit o).regs = s.regs := rfl
@[simp] theorem State.emit_tim (o : Out) : (s.emit o).tim = s.tim := rfl
@[simp] theorem State.emit_clk (o : Out) : (s.emit o).clk = s.clk := rfl
@[simp] theorem State.emit_bud (o : Out) : (s.emit o).bud = s.bud := rfl
@[simp] theorem State.emit_qos (o : Out) : (s.emit o).qos = s.qos := rfl
@[simp] theorem State.emit_rng (o : Out) : (s.emit o).rng = s.rng := rfl
@[simp] theorem State.emit_lnk (o : Out) : (s.emit o).lnk = s.lnk := rfl
@[simp] theorem State.emit_tch (o : Out) : (s.emit o).tch = s.tch := rfl
@[simp] theorem State.emit_pcd (o : Out) : (s.emit o).pcd = s.pcd := rfl
@[simp] theorem State.emit_scb (o : Out) : (s.emit o).scb = s.scb := rfl
@[simp] theorem State.emit_pwr (o : Out) : (s.emit o).pwr = s.pwr := rfl
@[simp] theorem State.emit_thm (o : Out) : (s.emit o).thm = s.thm := rfl
@[simp] theorem State.emit_cal (o : Out) : (s.emit o).cal = s.cal := rfl
@[simp] theorem State.emit_otp (o : Out) : (s.emit o).otp = s.otp := rfl
@[simp] theorem State.emit_bst (o : Out) : (s.emit o).bst = s.bst := rfl
@[simp] theorem State.emit_sec (o : Out) : (s.emit o).sec = s.sec := rfl
@[simp] theorem State.emit_dbg (o : Out) : (s.emit o).dbg = s.dbg := rfl
@[simp] theorem State.emit_flt (o : Out) : (s.emit o).flt = s.flt := rfl
@[simp] theorem State.emit_tw (o : Out) : (s.emit o).tw = s.tw := rfl
@[simp] theorem State.emit_free (o : Out) : (s.emit o).free = s.free := rfl
@[simp] theorem State.emit_pending (o : Out) : (s.emit o).pending = s.pending := rfl

/-! ## noteEye -/

@[simp] theorem State.noteEye_die (k x : Nat) : (s.noteEye k x).die = s.die := rfl
@[simp] theorem State.noteEye_regs (k x : Nat) : (s.noteEye k x).regs = s.regs := rfl
@[simp] theorem State.noteEye_tim (k x : Nat) : (s.noteEye k x).tim = s.tim := rfl
@[simp] theorem State.noteEye_clk (k x : Nat) : (s.noteEye k x).clk = s.clk := rfl
@[simp] theorem State.noteEye_bud (k x : Nat) : (s.noteEye k x).bud = s.bud := rfl
@[simp] theorem State.noteEye_qos (k x : Nat) : (s.noteEye k x).qos = s.qos := rfl
@[simp] theorem State.noteEye_rng (k x : Nat) : (s.noteEye k x).rng = s.rng := rfl
@[simp] theorem State.noteEye_lnk (k x : Nat) : (s.noteEye k x).lnk = s.lnk := rfl
@[simp] theorem State.noteEye_tch (k x : Nat) : (s.noteEye k x).tch = s.tch := rfl
@[simp] theorem State.noteEye_pcd (k x : Nat) : (s.noteEye k x).pcd = s.pcd := rfl
@[simp] theorem State.noteEye_scb (k x : Nat) : (s.noteEye k x).scb = s.scb := rfl
@[simp] theorem State.noteEye_pwr (k x : Nat) : (s.noteEye k x).pwr = s.pwr := rfl
@[simp] theorem State.noteEye_thm (k x : Nat) : (s.noteEye k x).thm = s.thm := rfl
@[simp] theorem State.noteEye_otp (k x : Nat) : (s.noteEye k x).otp = s.otp := rfl
@[simp] theorem State.noteEye_bst (k x : Nat) : (s.noteEye k x).bst = s.bst := rfl
@[simp] theorem State.noteEye_sec (k x : Nat) : (s.noteEye k x).sec = s.sec := rfl
@[simp] theorem State.noteEye_dbg (k x : Nat) : (s.noteEye k x).dbg = s.dbg := rfl
@[simp] theorem State.noteEye_flt (k x : Nat) : (s.noteEye k x).flt = s.flt := rfl
@[simp] theorem State.noteEye_tw (k x : Nat) : (s.noteEye k x).tw = s.tw := rfl
@[simp] theorem State.noteEye_out (k x : Nat) : (s.noteEye k x).out = s.out := rfl
@[simp] theorem State.noteEye_free (k x : Nat) : (s.noteEye k x).free = s.free := rfl
@[simp] theorem State.noteEye_pending (k x : Nat) : (s.noteEye k x).pending = s.pending := rfl

/-! ## putSlot -/

@[simp] theorem State.putSlot_die (i b r : Nat) (x : Option Slot) : (s.putSlot i b r x).die = s.die := rfl
@[simp] theorem State.putSlot_regs (i b r : Nat) (x : Option Slot) : (s.putSlot i b r x).regs = s.regs := rfl
@[simp] theorem State.putSlot_tim (i b r : Nat) (x : Option Slot) : (s.putSlot i b r x).tim = s.tim := rfl
@[simp] theorem State.putSlot_clk (i b r : Nat) (x : Option Slot) : (s.putSlot i b r x).clk = s.clk := rfl
@[simp] theorem State.putSlot_bud (i b r : Nat) (x : Option Slot) : (s.putSlot i b r x).bud = s.bud := rfl
@[simp] theorem State.putSlot_qos (i b r : Nat) (x : Option Slot) : (s.putSlot i b r x).qos = s.qos := rfl
@[simp] theorem State.putSlot_rng (i b r : Nat) (x : Option Slot) : (s.putSlot i b r x).rng = s.rng := rfl
@[simp] theorem State.putSlot_lnk (i b r : Nat) (x : Option Slot) : (s.putSlot i b r x).lnk = s.lnk := rfl
@[simp] theorem State.putSlot_tch (i b r : Nat) (x : Option Slot) : (s.putSlot i b r x).tch = s.tch := rfl
@[simp] theorem State.putSlot_scb (i b r : Nat) (x : Option Slot) : (s.putSlot i b r x).scb = s.scb := rfl
@[simp] theorem State.putSlot_pwr (i b r : Nat) (x : Option Slot) : (s.putSlot i b r x).pwr = s.pwr := rfl
@[simp] theorem State.putSlot_thm (i b r : Nat) (x : Option Slot) : (s.putSlot i b r x).thm = s.thm := rfl
@[simp] theorem State.putSlot_cal (i b r : Nat) (x : Option Slot) : (s.putSlot i b r x).cal = s.cal := rfl
@[simp] theorem State.putSlot_otp (i b r : Nat) (x : Option Slot) : (s.putSlot i b r x).otp = s.otp := rfl
@[simp] theorem State.putSlot_bst (i b r : Nat) (x : Option Slot) : (s.putSlot i b r x).bst = s.bst := rfl
@[simp] theorem State.putSlot_sec (i b r : Nat) (x : Option Slot) : (s.putSlot i b r x).sec = s.sec := rfl
@[simp] theorem State.putSlot_dbg (i b r : Nat) (x : Option Slot) : (s.putSlot i b r x).dbg = s.dbg := rfl
@[simp] theorem State.putSlot_flt (i b r : Nat) (x : Option Slot) : (s.putSlot i b r x).flt = s.flt := rfl
@[simp] theorem State.putSlot_tw (i b r : Nat) (x : Option Slot) : (s.putSlot i b r x).tw = s.tw := rfl
@[simp] theorem State.putSlot_out (i b r : Nat) (x : Option Slot) : (s.putSlot i b r x).out = s.out := rfl
@[simp] theorem State.putSlot_free (i b r : Nat) (x : Option Slot) : (s.putSlot i b r x).free = s.free := rfl
@[simp] theorem State.putSlot_pending (i b r : Nat) (x : Option Slot) : (s.putSlot i b r x).pending = s.pending := rfl

/-! ## loseTier -/

@[simp] theorem State.loseTier_die (t : Nat) : (s.loseTier t).die = s.die := rfl
@[simp] theorem State.loseTier_regs (t : Nat) : (s.loseTier t).regs = s.regs := rfl
@[simp] theorem State.loseTier_tim (t : Nat) : (s.loseTier t).tim = s.tim := rfl
@[simp] theorem State.loseTier_clk (t : Nat) : (s.loseTier t).clk = s.clk := rfl
@[simp] theorem State.loseTier_bud (t : Nat) : (s.loseTier t).bud = s.bud := rfl
@[simp] theorem State.loseTier_qos (t : Nat) : (s.loseTier t).qos = s.qos := rfl
@[simp] theorem State.loseTier_rng (t : Nat) : (s.loseTier t).rng = s.rng := rfl
@[simp] theorem State.loseTier_lnk (t : Nat) : (s.loseTier t).lnk = s.lnk := rfl
@[simp] theorem State.loseTier_tch (t : Nat) : (s.loseTier t).tch = s.tch := rfl
@[simp] theorem State.loseTier_scb (t : Nat) : (s.loseTier t).scb = s.scb := rfl
@[simp] theorem State.loseTier_pwr (t : Nat) : (s.loseTier t).pwr = s.pwr := rfl
@[simp] theorem State.loseTier_thm (t : Nat) : (s.loseTier t).thm = s.thm := rfl
@[simp] theorem State.loseTier_cal (t : Nat) : (s.loseTier t).cal = s.cal := rfl
@[simp] theorem State.loseTier_otp (t : Nat) : (s.loseTier t).otp = s.otp := rfl
@[simp] theorem State.loseTier_bst (t : Nat) : (s.loseTier t).bst = s.bst := rfl
@[simp] theorem State.loseTier_sec (t : Nat) : (s.loseTier t).sec = s.sec := rfl
@[simp] theorem State.loseTier_dbg (t : Nat) : (s.loseTier t).dbg = s.dbg := rfl
@[simp] theorem State.loseTier_flt (t : Nat) : (s.loseTier t).flt = s.flt := rfl
@[simp] theorem State.loseTier_tw (t : Nat) : (s.loseTier t).tw = s.tw := rfl
@[simp] theorem State.loseTier_out (t : Nat) : (s.loseTier t).out = s.out := rfl
@[simp] theorem State.loseTier_free (t : Nat) : (s.loseTier t).free = s.free := rfl
@[simp] theorem State.loseTier_pending (t : Nat) : (s.loseTier t).pending = s.pending := rfl

/-! ## setReady -/

@[simp] theorem State.setReady_die (r t : Nat) : (s.setReady r t).die = s.die := rfl
@[simp] theorem State.setReady_regs (r t : Nat) : (s.setReady r t).regs = s.regs := rfl
@[simp] theorem State.setReady_tim (r t : Nat) : (s.setReady r t).tim = s.tim := rfl
@[simp] theorem State.setReady_clk (r t : Nat) : (s.setReady r t).clk = s.clk := rfl
@[simp] theorem State.setReady_bud (r t : Nat) : (s.setReady r t).bud = s.bud := rfl
@[simp] theorem State.setReady_qos (r t : Nat) : (s.setReady r t).qos = s.qos := rfl
@[simp] theorem State.setReady_rng (r t : Nat) : (s.setReady r t).rng = s.rng := rfl
@[simp] theorem State.setReady_lnk (r t : Nat) : (s.setReady r t).lnk = s.lnk := rfl
@[simp] theorem State.setReady_tch (r t : Nat) : (s.setReady r t).tch = s.tch := rfl
@[simp] theorem State.setReady_scb (r t : Nat) : (s.setReady r t).scb = s.scb := rfl
@[simp] theorem State.setReady_pwr (r t : Nat) : (s.setReady r t).pwr = s.pwr := rfl
@[simp] theorem State.setReady_thm (r t : Nat) : (s.setReady r t).thm = s.thm := rfl
@[simp] theorem State.setReady_cal (r t : Nat) : (s.setReady r t).cal = s.cal := rfl
@[simp] theorem State.setReady_otp (r t : Nat) : (s.setReady r t).otp = s.otp := rfl
@[simp] theorem State.setReady_bst (r t : Nat) : (s.setReady r t).bst = s.bst := rfl
@[simp] theorem State.setReady_sec (r t : Nat) : (s.setReady r t).sec = s.sec := rfl
@[simp] theorem State.setReady_dbg (r t : Nat) : (s.setReady r t).dbg = s.dbg := rfl
@[simp] theorem State.setReady_flt (r t : Nat) : (s.setReady r t).flt = s.flt := rfl
@[simp] theorem State.setReady_tw (r t : Nat) : (s.setReady r t).tw = s.tw := rfl
@[simp] theorem State.setReady_out (r t : Nat) : (s.setReady r t).out = s.out := rfl
@[simp] theorem State.setReady_free (r t : Nat) : (s.setReady r t).free = s.free := rfl
@[simp] theorem State.setReady_pending (r t : Nat) : (s.setReady r t).pending = s.pending := rfl

/-! ## unready -/

@[simp] theorem State.unready_die (t : Nat) : (s.unready t).die = s.die := rfl
@[simp] theorem State.unready_regs (t : Nat) : (s.unready t).regs = s.regs := rfl
@[simp] theorem State.unready_tim (t : Nat) : (s.unready t).tim = s.tim := rfl
@[simp] theorem State.unready_clk (t : Nat) : (s.unready t).clk = s.clk := rfl
@[simp] theorem State.unready_bud (t : Nat) : (s.unready t).bud = s.bud := rfl
@[simp] theorem State.unready_qos (t : Nat) : (s.unready t).qos = s.qos := rfl
@[simp] theorem State.unready_rng (t : Nat) : (s.unready t).rng = s.rng := rfl
@[simp] theorem State.unready_lnk (t : Nat) : (s.unready t).lnk = s.lnk := rfl
@[simp] theorem State.unready_tch (t : Nat) : (s.unready t).tch = s.tch := rfl
@[simp] theorem State.unready_scb (t : Nat) : (s.unready t).scb = s.scb := rfl
@[simp] theorem State.unready_pwr (t : Nat) : (s.unready t).pwr = s.pwr := rfl
@[simp] theorem State.unready_thm (t : Nat) : (s.unready t).thm = s.thm := rfl
@[simp] theorem State.unready_cal (t : Nat) : (s.unready t).cal = s.cal := rfl
@[simp] theorem State.unready_otp (t : Nat) : (s.unready t).otp = s.otp := rfl
@[simp] theorem State.unready_bst (t : Nat) : (s.unready t).bst = s.bst := rfl
@[simp] theorem State.unready_sec (t : Nat) : (s.unready t).sec = s.sec := rfl
@[simp] theorem State.unready_dbg (t : Nat) : (s.unready t).dbg = s.dbg := rfl
@[simp] theorem State.unready_flt (t : Nat) : (s.unready t).flt = s.flt := rfl
@[simp] theorem State.unready_tw (t : Nat) : (s.unready t).tw = s.tw := rfl
@[simp] theorem State.unready_out (t : Nat) : (s.unready t).out = s.out := rfl
@[simp] theorem State.unready_free (t : Nat) : (s.unready t).free = s.free := rfl
@[simp] theorem State.unready_pending (t : Nat) : (s.unready t).pending = s.pending := rfl

end Sys2Proof.Machine
end

