-- ==== Sys2Proof/Laws/Tab.lean ====
section
/-! SUPPORT. The laws of sparse tables: what a read gives after a write, and that every operation keeps the canonical form. -/

namespace Sys2Proof.Machine

variable {α : Type} [DecidableEq α]

theorem Tab.wfFrom_mono (d : α) (t : Tab α) (m n : Nat) (h : m ≤ n) (ht : Tab.wfFrom d n t = true) : Tab.wfFrom d m t = true := by
  cases t with
  | nil => rfl
  | cons e r =>
    simp only [Tab.wfFrom, Bool.and_eq_true, decide_eq_true_eq] at ht ⊢
    exact ⟨⟨by omega, ht.1.2⟩, ht.2⟩

theorem Tab.wfFrom_set (d : α) (t : Tab α) (n i : Nat) (x : α) (h : Tab.wfFrom d n t = true) (hi : n ≤ i) :
    Tab.wfFrom d n (Tab.set d t i x) = true := by
  induction t generalizing n with
  | nil => by_cases hx : x = d <;> simp [Tab.set, Tab.wfFrom, hx, hi]
  | cons e r ih =>
    obtain ⟨k, v⟩ := e
    simp only [Tab.wfFrom, Bool.and_eq_true, decide_eq_true_eq] at h
    obtain ⟨⟨hk, hv⟩, hr⟩ := h
    simp only [Tab.set]
    split
    · split
      · simp [Tab.wfFrom, hk, hv, hr]
      · rename_i hx
        simp [Tab.wfFrom, hx, hv, hr, hi]
        omega
    · split
      · split
        · exact Tab.wfFrom_mono d r n (k + 1) (by omega) hr
        · rename_i he hx
          subst he
          simp [Tab.wfFrom, hi, hx, hr]
      · simp only [Tab.wfFrom, Bool.and_eq_true, decide_eq_true_eq]
        exact ⟨⟨hk, hv⟩, ih (k + 1) hr (by omega)⟩

/-- A write keeps the canonical form. -/
theorem Tab.wf_set (d : α) (t : Tab α) (i : Nat) (x : α) (h : Tab.wf d t = true) : Tab.wf d (Tab.set d t i x) = true :=
  Tab.wfFrom_set d t 0 i x h (Nat.zero_le i)

/-- A rewrite keeps the canonical form. -/
theorem Tab.wf_upd (d : α) (t : Tab α) (i : Nat) (f : α → α) (h : Tab.wf d t = true) : Tab.wf d (Tab.upd d t i f) = true :=
  Tab.wf_set d t i _ h

/-- Writing a list keeps the canonical form. -/
theorem Tab.wf_setList (d : α) (xs : List α) (t : Tab α) (i : Nat) (h : Tab.wf d t = true) : Tab.wf d (Tab.setList d t i xs) = true := by
  induction xs generalizing t i with
  | nil => exact h
  | cons x xs ih => exact ih _ _ (Tab.wf_set d t i x h)

theorem Tab.wfFrom_keep (d : α) (p : Nat → Bool) (t : Tab α) (n : Nat) (h : Tab.wfFrom d n t = true) :
    Tab.wfFrom d n (Tab.keep p t) = true := by
  induction t generalizing n with
  | nil => rfl
  | cons e r ih =>
    obtain ⟨k, v⟩ := e
    simp only [Tab.wfFrom, Bool.and_eq_true, decide_eq_true_eq] at h
    obtain ⟨⟨hk, hv⟩, hr⟩ := h
    have hr' := ih (k + 1) hr
    unfold Tab.keep at hr' ⊢
    rw [List.filter_cons]
    split
    · simp only [Tab.wfFrom, Bool.and_eq_true, decide_eq_true_eq]
      exact ⟨⟨hk, hv⟩, hr'⟩
    · exact Tab.wfFrom_mono d _ n (k + 1) (by omega) hr'

/-- Keeping some keys keeps the canonical form. -/
theorem Tab.wf_keep (d : α) (p : Nat → Bool) (t : Tab α) (h : Tab.wf d t = true) : Tab.wf d (Tab.keep p t) = true :=
  Tab.wfFrom_keep d p t 0 h

theorem Tab.wfFrom_mapVals {β : Type} (d' : β) [DecidableEq β] (d : α) (f : Nat → β → α) (t : Tab β) (n : Nat)
    (h : Tab.wfFrom d' n t = true) :
    Tab.wfFrom d n ((t.map fun e => (e.1, f e.1 e.2)).filter fun e => decide (e.2 ≠ d)) = true := by
  induction t generalizing n with
  | nil => rfl
  | cons e r ih =>
    obtain ⟨k, v⟩ := e
    simp only [Tab.wfFrom, Bool.and_eq_true, decide_eq_true_eq] at h
    obtain ⟨⟨hk, hv⟩, hr⟩ := h
    have hr' := ih (k + 1) hr
    rw [List.map_cons, List.filter_cons]
    split
    · rename_i hx
      simp only [Tab.wfFrom, Bool.and_eq_true, decide_eq_true_eq]
      exact ⟨⟨hk, by simpa using hx⟩, hr'⟩
    · exact Tab.wfFrom_mono d _ n (k + 1) (by omega) hr'

/-- Rewriting every listed value keeps the canonical form. -/
theorem Tab.wf_mapVals (d' d : α) (f : Nat → α → α) (t : Tab α) (h : Tab.wf d' t = true) : Tab.wf d (Tab.mapVals d f t) = true :=
  Tab.wfFrom_mapVals d' d f t 0 h

/-- Below the first key a table reads as the default. -/
theorem Tab.get_below (d : α) (t : Tab α) (n i : Nat) (h : Tab.wfFrom d n t = true) (hi : i < n) : Tab.get d t i = d := by
  cases t with
  | nil => rfl
  | cons e r =>
    obtain ⟨k, v⟩ := e
    simp only [Tab.wfFrom, Bool.and_eq_true, decide_eq_true_eq] at h
    simp only [Tab.get]
    rw [if_pos (by omega)]

theorem Tab.get_set_from (d : α) (t : Tab α) (n i j : Nat) (x : α) (h : Tab.wfFrom d n t = true) :
    Tab.get d (Tab.set d t i x) j = if j = i then x else Tab.get d t j := by
  induction t generalizing n with
  | nil =>
    by_cases hx : x = d
    · by_cases hj : j = i <;> simp [Tab.set, Tab.get, hx, hj]
    · by_cases hj : j = i
      · simp [Tab.set, Tab.get, hx, hj]
      · simp [Tab.set, Tab.get, hx, hj]
  | cons e r ih =>
    obtain ⟨k, v⟩ := e
    simp only [Tab.wfFrom, Bool.and_eq_true, decide_eq_true_eq] at h
    obtain ⟨⟨hk, hv⟩, hr⟩ := h
    have ih' := ih (k + 1) hr
    simp only [Tab.set]
    split
    · rename_i hik
      split
      · rename_i hx
        simp only [Tab.get]
        by_cases hj : j = i
        · subst hj; rw [if_pos hik, if_pos rfl, hx]
        · rw [if_neg hj]
      · simp only [Tab.get]
        by_cases hj : j = i
        · subst hj; simp
        · rw [if_neg hj]
          by_cases hji : j < i
          · rw [if_pos hji, if_pos (by omega)]
          · rw [if_neg hji]
    · rename_i hik
      split
      · rename_i he
        subst he
        split
        · rename_i hx
          simp only [Tab.get]
          by_cases hj : j = i
          · subst hj; rw [if_pos rfl, hx]; exact Tab.get_below d r (j + 1) j hr (by omega)
          · rw [if_neg hj]
            by_cases hji : j < i
            · rw [if_pos hji]; exact Tab.get_below d r (i + 1) j hr (by omega)
            · rw [if_neg hji, if_neg hj]
        · simp only [Tab.get]
          by_cases hj : j = i
          · subst hj; simp
          · simp [hj]
      · rename_i he
        simp only [Tab.get]
        by_cases hjk : j < k
        · rw [if_pos hjk, if_pos hjk, if_neg (by omega)]
        · rw [if_neg hjk, if_neg hjk]
          by_cases hj : j = k
          · subst hj; rw [if_pos rfl, if_pos rfl, if_neg (by omega)]
          · rw [if_neg hj, if_neg hj, ih']

/-- A read after a write: the value written at its key, and every other key as it was. -/
theorem Tab.get_set (d : α) (t : Tab α) (i j : Nat) (x : α) (h : Tab.wf d t = true) :
    Tab.get d (Tab.set d t i x) j = if j = i then x else Tab.get d t j :=
  Tab.get_set_from d t 0 i j x h

/-- Equal keys, whatever the table. -/
@[simp] theorem Tab.get_set_self (d : α) (t : Tab α) (i : Nat) (x : α) (h : Tab.wf d t = true) : Tab.get d (Tab.set d t i x) i = x := by
  rw [Tab.get_set d t i i x h, if_pos rfl]

end Sys2Proof.Machine
end

