-- ==== Sys2Proof/WellFormed.lean ====
section
/-! DEFINITION. Well-formed commands: what the spec says every occurrence of a row has, beyond the types of its
operands. A meaning does not lean on these checks: it is total, and says itself what an ill-formed command does. -/

namespace Sys2Proof

/-- The type code of a packet and the count of its payload words agree with LEN (R318, R320). -/
def Packet.wf (typ : Nat) (p : Packet) : Bool :=
  decide (p.w0.toNat % 16 = typ) && decide (p.payload.length ≤ 128)

/-- A slot holds one block, and a key exactly when it is encrypted (R123, R124). -/
def Slot.wf (x : Slot) : Bool := decide (x.data.length = 4096) && (x.enc == (x.key != 0))

/-- One position of a stored code word (R128, R129): bits 0 to 34,815. -/
def bitWf (i : Nat) : Bool := decide (i < 34816)

/-- A calibration round reports at most the channels of a tier or the lanes of a port, and sixteen sensors (R383). -/
def CalResult.wf (r : CalResult) : Bool :=
  decide (r.chans.length ≤ 32) && decide (r.lanes.length ≤ 8) && decide (r.offs.length = 16) &&
    (r.chans.all fun c => decide (c.rd.length ≤ 33) && decide (c.wr.length ≤ 33)) &&
    r.lanes.all fun l => decide (l.2.1.toNat ≤ 32) && decide (l.2.2.toNat ≤ 32)

/-- Every register access is one aligned word (R543). -/
def directWf (a : BitVec 16) : Bool := decide (a.toNat % 4 = 0)

/-- The well-formed commands. -/
def Instr.wf : Instr → Bool
  | .registerWrite _ a _ => directWf a
  | .sqDoorbell _ p => p.wf 4
  | .cqDoorbell _ p => p.wf 4
  | .cplReceived _ p => p.wf 3
  | .cfgRd _ p => p.wf 5
  | .cfgWr _ p => p.wf 6
  | .turn _ p => p.wf 7
  | .burstComplete _ errs => errs.all bitWf
  | .decodeEnd _ (some x) => x.wf
  | .calRoundDone _ r => r.wf
  | .sensorSample base => decide (base.length = 16)
  | .otpSenseDone d => decide (d.length ≤ 4096)
  | .eyeMeasureDone _ _ n => decide (n.toNat ≤ 64)
  | .lmkReceived _ _ num count _ => decide (num.toNat < 8) && decide (count.toNat < 16)
  | .blockResetEnd b => decide (b.toNat < 0x40)
  | _ => true

end Sys2Proof
end

