-- ==== Sys2Proof/Tests/Slice0.lean ====
section
/-! SUPPORT. Tests: the checks of well-formedness refuse an ill-formed command each, the spec's worked examples, and for every
statement with hypotheses a witness that meets them, clause by clause. -/

namespace Sys2Proof.Tests
open Sys2Proof Sys2Proof.Machine Sys2Proof.Safety
set_option Elab.async false

/-! ## Well-formedness -/

def packet (typ : Nat) (pl : List Word) : Packet := ⟨packed [(typ, 0, 4)], 0, 0, 0, pl⟩
def slotBad : Slot := { (default : Slot) with data := [0] }
def round (n m o : Nat) (rd : Nat) : CalResult :=
  { chans := List.replicate n ⟨0, List.replicate rd true, []⟩, lanes := List.replicate m (0, 0, 0), offs := List.replicate o 0 }

theorem test_refuses_unaligned_address : Instr.wf (.registerWrite .tw 0x1702 0) = false := by decide
theorem test_refuses_doorbell_type : Instr.wf (.sqDoorbell 0 (packet 5 [0])) = false := by decide
theorem test_refuses_cq_doorbell_type : Instr.wf (.cqDoorbell 0 (packet 3 [0])) = false := by decide
theorem test_refuses_cpl_type : Instr.wf (.cplReceived 0 (packet 4 [])) = false := by decide
theorem test_refuses_cfg_rd_type : Instr.wf (.cfgRd 0 (packet 6 [])) = false := by decide
theorem test_refuses_cfg_wr_type : Instr.wf (.cfgWr 0 (packet 5 [0])) = false := by decide
theorem test_refuses_turn_type : Instr.wf (.turn 0 (packet 4 [0, 0])) = false := by decide
theorem test_refuses_long_payload : Instr.wf (.cfgWr 0 (packet 6 (List.replicate 129 0))) = false := by decide +kernel
theorem test_refuses_bit_outside_the_slot : Instr.wf (.burstComplete 0 [34816]) = false := by decide
theorem test_refuses_short_slot : Instr.wf (.decodeEnd 0 (some slotBad)) = false := by decide
theorem test_refuses_too_many_channels : Instr.wf (.calRoundDone (.tier 0) (round 33 0 16 0)) = false := by decide
theorem test_refuses_too_many_lanes : Instr.wf (.calRoundDone (.port 0) (round 0 9 16 0)) = false := by decide
theorem test_refuses_missing_offsets : Instr.wf (.calRoundDone (.tier 0) (round 1 0 15 0)) = false := by decide
theorem test_refuses_codes_outside_the_sweep : Instr.wf (.calRoundDone (.tier 0) (round 1 0 16 34)) = false := by decide
theorem test_refuses_steps_outside_the_monitor : Instr.wf (.calRoundDone (.port 0) { round 0 0 16 0 with lanes := [(0, 33, 0)] }) = false := by decide
theorem test_refuses_missing_sensors : Instr.wf (.sensorSample (List.replicate 15 0)) = false := by decide
theorem test_refuses_too_many_fuse_words : Instr.wf (.otpSenseDone (List.replicate 4097 default)) = false := by decide +kernel
theorem test_refuses_eye_points : Instr.wf (.eyeMeasureDone 0 0 65) = false := by decide
theorem test_refuses_marker : Instr.wf (.lmkReceived 0 0 8 0 0) = false := by decide
theorem test_refuses_reset_code : Instr.wf (.blockResetEnd 0x40) = false := by decide
theorem test_accepts_a_doorbell : Instr.wf (.sqDoorbell 0 (packet 4 [0])) = true := by decide

/-! ## States: a die that runs, and what a witness adds to it -/

def up : State :=
  { State.reset with
    die := { State.reset.die with mode := .running, mgmt := true, hiveRun := true, rcReady := true, lastLevel := 1 }
    tim := { State.reset.tim with held := false }
    clk := { State.reset.clk with xtalGood := true, fabA := true, fabB := true, tierLock := 0xFFFFFFFF }
    otp := { State.reset.otp with trusted := 0xF, sensed := true } }
def live : State :=
  { up with
    die := { up.die with lastLevel := 2, dataService := true }
    lnk := { up.lnk with ports := [(0, { Port.init with st := .up, lanes := 0xFF, dvalid := true })], id := 5, valid := true }
    tch := { up.tch with
      tiers := [(0, { Tier.init with open_ := true, good := true, accepted := true })]
      chans := [(0, { Chan.init with st := .serving, trained := true, ever := true })], group := 4 } }
def cv (p : Path) (n : RegName) (i : Nat) (data : Word) (s : State) : State := (s.commitFields (writeOf p n i data) n i).1
def md (m : DieMode) : State := { live with die := { live.die with mode := m } }
def fl : State := { live with flt := { live.flt with status := 0x30, made := 3, next := 3, last := [(4, (1, 0)), (5, (2, 2))], hist := [] } }
def win1 (t now : Nat) : State := { live with tim := { live.tim with count := BitVec.ofNat 64 now }, flt := { live.flt with counts := [(5, 3)], window := [(5, some t)] } }
def prov : State := { live with otp := { live.otp with used := [(0x640, true)] } }
def scr : State := { (live.setCfg .budCap 0 60000) with lnk := { live.lnk with ports := [(0, { (live.port 0) with pRates := 0x3F, pLanesOk := 0xFF })] } }
def bs (st : Nat) (seg : Bool) : State := { live with bst := { live.bst with state := BitVec.ofNat _ st, inSegment := seg, part := 3 } }
def clampd : State := { live with regs := { live.regs with clampNew := true, clampNext := 4 } }
def calRun2 : State := { live with cal := { live.cal with running := [3], due := [5] } }
def rtn (r : RetainRun) (now : Nat) : State := { live with tim := { live.tim with count := BitVec.ofNat 64 now }, bst := { live.bst with state := 2, retain := some r } }
def soak : State := { rtn ⟨true, 0, none, 0, 0, 0⟩ 9 with tch := { live.tch with tiers := [] } }
def us (l : List Nat) (s : State) : State := { s with otp := { s.otp with used := l.map fun k => (k, true) } }
def oc (why : Nat) (rest : List (BitVec 12 × Word)) : OtpCmd := ⟨false, 0, 0x105, 7, rest, why, 0⟩
def ob_ (why : Nat) (rest : List (BitVec 12 × Word)) : State := { live with otp := { live.otp with busy := some (oc why rest), pulseAt := some 0 }, dbg := { live.dbg with level := 1, max := 1, left := some 9 }, sec := { live.sec with busy := 4 } }
def ad_ (a : Nat) (s : State) : State := s.setCfg .otpAddr 0 (BitVec.ofNat 32 a)
def spl : State := { live with otp := { live.otp with bad := [(0x505, true)] } }
def kx1 (good : Bool) : State :=
  let s := us ((List.range 20).map (0x500 + ·) ++ [0x640]) live
  if good then ((List.range 24).zip (bytesWords (pointBytes base384))).foldl (fun s e => s.setCfg .secKxpub e.1 e.2) s else s
def dig2 : State := { us [0xFD8] live with otp := { (us [0xFD8] live).otp with shadow := (((List.range 8).zip (bytesWords (live.otp.digest 2))).map fun e => (0xFD8 + e.1, e.2)) } }
def rv (n : Nat) : State := us (0x640 :: (List.range n).map (0x744 + ·)) live
def lf : State := { us ((List.range 20).map (0x500 + ·)) live with otp := { (us ((List.range 20).map (0x500 + ·)) live).otp with lockedReg := 0xF } }
def vq : State := { ob_ 0 [] with otp := { (ob_ 0 []).otp with pulseAt := none }, tw := { live.tw with busy := true, vqps := some true, asked := (2, 0) } }
def dbgS (f : Dbg → Dbg) (s : State) : State := { s with dbg := f s.dbg }
def dep : State := us [0x020, 0x640, 0x641] live
def chkS (lvl : BitVec 2) (ok : Bool) (fails : BitVec 2) (dur : Nat) (s : State) : State := dbgS (fun d => { d with checking := some lvl, chkOk := ok, fails := fails, chkDur := dur }) s
def keyed (s : State) : State := { s with sec := { s.sec with slots := [(4, [1]), (9, [2])], kwk := some [3] } }
def twS (f : Tw → Tw) (s : State) : State := { s with tw := f s.tw }
def tp (ph : TwPhase) : State := twS (fun t => { t with phase := ph }) live
def pend5 (l : List Byte) (n : Nat) : State := twS (fun t => { t with phase := .data, loaded := 0x1700, pointer := 0x1700 + BitVec.ofNat 16 (l.length + n), pending := l, refused := n, firstBad := 0x1704 }) live
def bz (s : State) : State := twS (fun t => { t with busy := true, asked := (2, 4) }) s
def jt : State := dbgS (fun d => { d with level := 1, max := 1 }) live
def busyC : State := { live with die := { live.die with blockBusy := [0x08] } }
def late6 : LateWrite := ⟨2, false, regAddr .calCtl 0, 1, 0, none, 0, 0⟩
def lateS : State := { live with regs := { live.regs with late := [late6] } }
def ptr6 (a : Nat) (inc : Nat) : State := { live with regs := live.regs.setPtr 2 { live.regs.ptr 2 with addr := BitVec.ofNat _ a, inc := BitVec.ofNat _ inc } }
def par6 : State := { live with regs := { live.regs with par := [(0x1700, true)] } }
def p4s : State := { live with pwr := { live.pwr with state := 4 } }
def rg7 (f : SqCtx → SqCtx) (g : CqCtx → CqCtx) : State :=
  ({ live with rng := { live.rng with
    sqs := [(0, f { SqCtx.init with st := .active })]
    cqs := [(0, g { CqCtx.init with st := .active, phase := true })] } }.setCfg .cqcW2 0 4).setCfg .sqcW2 0 4
def c7 (st : CqSt) : State := rg7 (fun x => { x with st := .disabled }) fun c => { c with st := st }
def er7 : State := rg7 id fun c => { c with st := .error, tail := 3, head := 2, accepted := 1, held := [⟨⟨1, 2, 3, 4⟩, 0, false, 0, .plain⟩] }
def fz (tst : Tier → Tier) (f : Chan → Chan) : State := { live with tch := { live.tch with
  tiers := [(0, tst { Tier.init with open_ := true, good := true, accepted := true })]
  chans := [(0, f { Chan.init with st := .frozen, trained := true, ever := true, queue := [{ (default : Req) with tc := some 5 }] })] } }
def lg : State := { live with scb := { live.scb with log := [(5, some { (default : ScbEntry) with cand := true, lbn := 0x1234 })] } }
def wn : State := { live with pcd := { live.pcd with windows := [(0, { Window.closed with open_ := true, region := 7, old := 1, new := 2 })] } }
def p1 : State := live.setCfg .lnkPhy0 0 (live.cfgWord .lnkPhy0 0 ||| 1)
def noId : State := { live with lnk := { live.lnk with valid := false } }
def pw (k : Nat) : State := { live with pwr := { live.pwr with state := BitVec.ofNat 3 k } }
def op0 : State := { live with pwr := { live.pwr with openQ := [3, 5] } }
def op1 : State := { live with pwr := { live.pwr with opening := some 3, openQ := [5] } }
def tier1 (x : Tier) : State := { live with tch := { live.tch with tiers := (1, x) :: live.tch.tiers |>.reverse } }
def goodT : Tier := { Tier.init with open_ := true, good := true }
def goodId : TierId := ⟨1, 0x10, 0x36, 0xFF, 0⟩
def cl0 : State := { live with
  pwr := { live.pwr with closeQ := [0] }
  tch := { live.tch with tiers := [(0, { Tier.init with open_ := true, good := true, accepted := true, selfRef := true })] } }
def off : State := { up with die := { up.die with mode := .off, mgmt := false }, pwr := { up.pwr with state := 5 } , thm := {up.thm with clicks := 3}}
def sl : State := { live with lnk := { live.lnk with ports := [(0, { Port.init with st := .up, lanes := 0xFF, dvalid := true, svcRx := 1 })] } }
def idle : State := { (pw 1).setCfg .scbCfg 0 0 with tim := { live.tim with count := 1000000 } }
def rest : State := { live with pwr := { live.pwr with restart := [0, 1], restartAt := some 5 } }
def full9 (s : State) : State := { s with pwr := { s.pwr with grants := [{ load := ⟨0, 37000, 0⟩, till := 50000000 }] } }
def at9 (n : Nat) (s : State) : State := { s with tim := { s.tim with count := BitVec.ofNat 64 n } }
def holdC (c : BitVec 4) (low : Bool) : State := { up with die := { up.die with mode := .resetHold, mgmt := false, cause := c, resetLow := low }, tim := { up.tim with held := true } }
def sw (low : Bool) : State := { State.reset with die := { State.reset.die with mode := .startWatch, resetLow := low } }
def rstg : State := { up with die := { up.die with mode := .restarting, mgmt := false }, otp := State.reset.otp }
def bm : State := { up with bst := { up.bst with state := 3, memDone := 0x7FFE } }
def img : State := { up with tw := { up.tw with bootRead := true, busy := true }, die := { up.die with hiveRun := false, image := [0, 0, 0, 0, 0, 4, 0, 0] ++ List.replicate 1016 0 } }
def retry : State := { up with die := { up.die with hiveRun := false, markUs := 1000000 }, bst := { up.bst with memDone := 0xFFFF } }
def dsv : State := { live with die := { live.die with dataService := false }, cal := { live.cal with ref := (List.range 36).map fun k => (k, 1) } }
def hard10 (n : Nat) : State := { holdC 4 false with die := { (holdC 4 false).die with kind := .hard, markUs := n } }
def inSeg (p : Nat) : State := { live with bst := { live.bst with inSegment := true, state := 1, part := p, patterns := 4096, applied := 14 } }
def busyB (b : Byte) : State := { up with die := { up.die with blockBusy := [b] } }
def hv : State := { up with die := { up.die with blockBusy := [10], imageOk := true, hiveRun := false } }
def perio : State := { up.setCfg .bstCfg 0 0x01003F01 with tim := { up.tim with count := 3600000000 } }
def held_ : State := { live with tim := { live.tim with held := true } }
def mkTs (count : Nat) : TimeSet := let t : TimeSet := { (default : TimeSet) with count := BitVec.ofNat 64 count, hops := 2, frac := 0 }; { t with chk := TimeSet.sum t }
def lk (orph : Bool) (pd : Option Int) : State := { live with tim := { live.tim with count := 1000, orphan := orph, prevDiff := pd } }
def orph : State := { live with tim := { live.tim with orphan := false, locked := true, count := 100000 } }
def ep : State := { live with tim := { live.tim with count := 1024 } }
def ad : State := { live with
  tim := { live.tim with count := 100000 }
  tch := { live.tch with chans := [(0, { Chan.init with st := .serving, trained := true, ever := true, queue := [{ (default : Req) with tc := some 5 }] })] } }
def adm : State := { live with qos := { live.qos with causes := 1 } }
def noX (ever parked : Bool) : State := { live with clk := { live.clk with xtalGood := false, xtalEver := ever, parked := parked } }
def chT : State := { live with tch := { live.tch with tiers := [(0, { Tier.init with open_ := true, good := true, accepted := true, changing := true, selfRef := true })] } }
def click (now : Nat) : State := { live with
  die := { live.die with mode := .clickHold, hiveRun := false }
  tim := { live.tim with count := BitVec.ofNat 64 now }
  thm := { live.thm with hold := true, latchAt := 5, clicks := 1 } }
def quie : State := { live with die := { live.die with goodAtCause := 1, retain := 3, dataService := false }, pwr := { live.pwr with restart := [0] } }
def bad (n : Nat) : State := { live with thm := { live.thm with badRun := [(0, n)] } }
def grace (at_ : Nat) : State := { live with
  tim := { live.tim with count := 100000 }, thm := { live.thm with graceAt := some at_, graceLen := 5, throt := [0] } }
def hot : State := { live with thm := { live.thm with sample := [(0, 1023)], seen := [0] } }
def calRun : State := { live with cal := { live.cal with running := [3], due := [5] } }
def lanePort (st : PortSt) : State := { live with lnk := { live.lnk with ports := [(0, { Port.init with st := st, lanes := 0xFF, laneTab := (List.range 8).map fun k => (k, { Lane.init with enabled := true, locked := true }) })] } }
def sl12 : State := { noX true true with pwr := { live.pwr with state := 3 } }
def cmd0 (op : Op) : Cmd := { (default : Cmd) with op := op, id := 4, desc := { (default : Desc) with cid := 0x77, opnd1 := 4096 } }
def rs (c : Cmd) : State :=
  ({ live with rng := { live.rng with
    cmds := [c], nextId := 5
    sqs := [(0, { SqCtx.init with st := .active, out := 1 })]
    cqs := [(0, { CqCtx.init with st := .active, reserved := 2, phase := true })] } }.setCfg .cqcW2 0 4).setCfg .sqcW2 0 4 |>.setCfg .cqcW3 0 0
def noEng (s : State) : State := { s with bst := { s.bst with memFail := 0x100 } }
def kp (s : State) : State := { s with otp := { s.otp with used := (List.range 20).map fun k => (0x500 + k, true) } }
def noHive (s : State) : State := { s with die := { s.die with hiveRun := false } }
def fen : Cmd := { cmd0 .read with id := 3, desc := { (default : Desc) with fence := true } }
def two : State := { rs (cmd0 .read) with rng := { (rs (cmd0 .read)).rng with cmds := [fen, cmd0 .read] } }
def er : State := { rs { cmd0 .keyDestroy with phase := 1, key := 9 } with sec := { live.sec with erasing := [(9, 4)], slots := [(9, [1])] } }
def rcd (a b r : Nat) : Cmd := { cmd0 .recode with desc := { (default : Desc) with cid := 0x77, opnd0 := BitVec.ofNat 32 (r + a * 256 + b * 4096) } }
def wins : State := { rs (rcd 2 3 7) with pcd := { live.pcd with windows := (List.range 4).map fun k => (k, { Window.closed with open_ := true, region := 9 }) } }
def wrk : Cmd := { cmd0 .write with key := 9 }
def rd (s : State) : State := s.setReady 0 0
def st1 (op : Op) (f : Cmd → Cmd) : Cmd := f { cmd0 op with started := true, startAt := some 0, desc := { (cmd0 op).desc with nblk := 1 } }
def req0 : Req := { (default : Req) with src := .cmdRead, cmd := some 4, inst := 0, tc := some 2, cls := .host }
def ch (f : Chan → Chan) (s : State) : State := { s with tch := { s.tch with chans := [(0, f { Chan.init with st := .serving, trained := true, ever := true })] } }
def idr (c : Cmd) : Cmd := c
def slot0 : Slot := { (default : Slot) with data := List.replicate 4 0, crc := crc32c (List.replicate 4 0), strength := 2 }
def storeS (s : State) : State := s.putSlot 0 0 0 (some slot0)
def sT (op : Op) (f : Cmd → Cmd) : State := rd (rs (st1 op f))
def sW (f : Cmd → Cmd) : State := { sT .recode f with pcd := { (sT .recode f).pcd with windows := [(0, { Window.closed with open_ := true, region := 0, old := 1, new := 2 })] } }
def o1 (c : Cmd) : Cmd := { c with desc := { c.desc with opnd0 := 1 } }
def rawC (c : Cmd) : Cmd := { c with raw := true, running := [0] }
def burst (r : Req) : State := ch (fun c => { c with active := [r] }) (storeS (sT .read rawC))
def decd (r : Req) : State := ch (fun c => { c with dec := [r] }) (storeS (sT .read rawC))
def rDec : Req := { req0 with dstr := 2 }
def wReq : Req := { req0 with src := .cmdWrite, wr := true, slot := some slot0, merge := some 3 }
def sw1 (code : Nat) : Sweep := { (default : Sweep) with code := code }
def swp (c : Nat) : State := ch (fun x => { x with st := .training, sweep := some (sw1 c) }) { live with bud := { live.bud with limCh := 1024 } }
def dbt (d : Int) : State := ch (fun x => { x with debt := d, dueCount := 3 }) live
def parW : State := ch (fun x => { x with parWait := true, words := [1, 2] }) live
def fm : State := live.setCfg .scbCfg 0 3
def sc (d : Nat) (w : Option Nat) : State := { ch (fun x => { x with done := d, wakeAt := w }) (rd live) with scb := { live.scb with running := true }, tim := { live.tim with count := 200000000000 } }
def fullPass : State := sc 65536 none
def tw (f : Tier → Tier) : State := { ch (fun x => { x with wakeAt := some 65536 }) live with tch := { (ch (fun x => { x with wakeAt := some 65536 }) live).tch with tiers := [(0, f { Tier.init with open_ := true, good := true, accepted := true, wake := true })] } }
def dueA (n : Nat) : State := ch (fun x => { x with dueAt := n }) live
def roomy (s : State) : State := { s with bud := { s.bud with limCh := 1024 } }
def parV : State := ch (fun x => { x with parWait := true, words := [1, 2], uncWait := some ⟨1, 2, 3, 4⟩ }) live
def ended15 : State := { live with tch := { live.tch with tiers := [(0, { Tier.init with open_ := true, ended := [(false, false), (false, false)], acceptedM := 2 }), (31, { Tier.init with season := 1, ended := [(true, false)] })] } }
def pt (f : Port → Port) : State := { live with lnk := { live.lnk with ports := [(0, f { Port.init with st := .up, lanes := 0xFF, dvalid := true })] } }
def ptL (f : Port → Port) : State := { pt f with tim := { live.tim with count := 1000000 } }
def lane8 : Tab Lane := (List.range 8).map fun k => (k, { Lane.init with enabled := true, locked := true, passed := true })
def en0 : State := { live.setCfg .lnkPhy0 1 (live.cfgWord .lnkPhy0 1 ||| 1) with lnk := live.lnk }
def mkSet (ctrl : Byte) : TrainSet := let t : TrainSet := { (default : TrainSet) with ctrl := ctrl }; { t with chk := TrainSet.sum t }
def cfgP (ts2 : Bool) (len : Nat) : State := pt fun p => { p with st := .config, cfgTs2 := ts2, runLen := len, runSet := some (mkSet 0), tsSent := 14, laneTab := lane8 }
def slp (k : BitVec 3) : State := { pt (fun p => { p with bulkTx := 2 }) with pwr := { live.pwr with state := k }, tim := { live.tim with count := 1000000 } }
def badSym : RxError := ⟨5, false, 0⟩
def pk (typ len dst dk : Nat) (w2 w3 : Word) (pl : List Word) : Packet := ⟨packed [(typ, 0, 4), (len, 20, 8)], packed [(dst, 0, 6), (dk, 6, 2)], w2, w3, pl⟩
def acc (s : State) (p : Packet) : State := (s.acceptSeq 0 p).1
def dbl : Packet := pk 4 1 5 0 0 0 [0x00000003]
def crd : Packet := pk 5 1 5 0 0x1700 0 []
def cwr : Packet := pk 6 1 5 0 0x1700 0 [0x00640000]
def cpl : Packet := pk 3 0 5 0 0 0 []
def trn : Packet := pk 7 2 0 3 0x10 0 [7, 100]
def msg1 : Packet := pk 7 1 5 0 2 0 [7]
def other (d : Nat) : Packet := pk 4 1 d 0 0 0 [3]
def rng9 : State := live.setCfg .lnkRange 0 0x10A09
def unk : Packet := pk 9 1 5 0 0 0 [3]
def rp (k : Nat) : State := pt fun p => { p with replay := [dbl], replays := k, nextTx := 1 }
def mrdS (u : MrdFor) (now : Nat) : State := { live with
  rng := { live.rng with mrds := [⟨0, u, 0, 10, true, 100⟩], sqs := [(2, { SqCtx.init with st := .active, fetch := [(0, 0, 1, none)] })] }
  tim := { live.tim with count := BitVec.ofNat 64 now } }
def trnS (t4 : Nat) : State := pt fun p => { p with turnWait := true, stamps := [(7, 1000)], lastTs2 := some (7, t4, 3) }
def badRx : List Byte := packetBody { dbl with payload := [4] } ++ leBytes 4 (crc32 (packetBody dbl)).toNat
def gated : State := { live with pwr := { live.pwr with state := 2, gateA := true } }
def rg (f : SqCtx → SqCtx) (g : CqCtx → CqCtx) : State :=
  ({ live with rng := { live.rng with
    sqs := [(0, f { SqCtx.init with st := .active })]
    cqs := [(0, g { CqCtx.init with st := .active, phase := true })] } }.setCfg .cqcW2 0 4).setCfg .sqcW2 0 4
def rg0 : State := rg id id
def note1 (at_ now : Nat) : State :=
  let s := (rg id fun c => { c with unNote := 1, oldest := some at_, tail := 1 }).setCfg .cqcW3 0 0x01000A00
  { s with tim := { s.tim with count := BitVec.ofNat 64 now } }
def d0 : Desc := { (default : Desc) with opcode := 1, nblk := 1, gen := 1, cid := 0x55 }
def ln (k d : Nat) : FaultLine := ⟨BitVec.ofNat 7 k, BitVec.ofNat 64 d⟩
def f1 (l : FaultLine) (s : State) : State := { s with flt := { s.flt with lines := [l] } }
def cnt (k n : Nat) (s : State) : State := { s.setCfg .fltSrcW0 k (BitVec.ofNat 32 (1 + 2 * 65536 + 4 * 2 ^ 24)) with flt := { s.flt with counts := [(k, n)] } }
def io (s : State) : State := { s with die := { s.die with uvIo := true } }
def dig2L : State := { dig2 with otp := { dig2.otp with used := (0xFC2, true) :: dig2.otp.used } }
def pend5r (k : Nat) : State := twS (fun t => { t with phase := .reading, pointer := BitVec.ofNat 16 (0x1700 + k) }) live
def offAt (k : Nat) : State := { live with pwr := { live.pwr with offStage := k } }
def parkedAt (k : Nat) : State := { pw k with clk := { live.clk with parked := true } }
def rest10 : State := { live with pwr := { live.pwr with restart := [1, 0] } }
def isled : State := { rest10 with pwr := { rest10.pwr with lastSrx := some 0, us := 5 } }
def backAt (k : Nat) (a : Bool) : State := { live with clk := { live.clk with back := k, fabA := a } }
def inBist (p : Nat) (s : State) : State := { s with bst := { s.bst with inSegment := true, part := p } }
def cfgPath : Packet := pk 5 1 0 2 0x1700 0x1000 []
def evq : State := { rg0 with rng := { rg0.rng with cqs := rg0.rng.cqs ++ [(1, { CqCtx.init with st := .active, reserved := 0xFFF })] } }
def gS : Graded := ⟨5, 9, true, 0, 0, 0⟩
def gA : Graded := ⟨5, 9, false, 1, 0, 0⟩
def gB : Graded := ⟨0, 9, false, 3, 0, 0⟩
def gC : Graded := ⟨95, 9, false, 3, 0, 0⟩

/-! ## The spec's worked examples -/

/-- LNK_RANGE2 lies at 0x2194 and TCH_RETIRE17 at 0x4344 (after R546). -/
theorem test_direct_addresses : regAddr .lnkRange 2 = 0x2194 ∧ regAddr .tchRetire 17 = 0x4344 := by decide
/-- SQ 300 begins at 0x960; entry 4 of T02.C05.B9 lies at 0x108B24 (after R549). -/
theorem test_indirect_addresses : regAddr .sqcW0 300 = 0x960 ∧ regAddr .tchSub 35620 = 0x108B24 := by decide
/-- An address in the space that holds no register finds none (R544). -/
theorem test_no_register : locateDirect 0xFFFC = none := by decide +kernel
/-- QOS_CFG holding LWM 8 and HWM 24, written LWM 40 and HWM 20, takes 19 and 20 with one entry (after R556). -/
theorem test_bounds_that_name_each_other :
    (cv .tw .qosCfg 0 0x02041428 live).fld .qosCfg 0 0 6 = 19 ∧ (cv .tw .qosCfg 0 0x02041428 live).fld .qosCfg 0 8 6 = 20 ∧
      (cv .tw .qosCfg 0 0x02041428 live).regs.clampLog.length = 1 := by decide +kernel
/-- Written LWM 30 and HWM 32 it takes both, without an entry (after R556). -/
theorem test_bounds_that_stand :
    (cv .tw .qosCfg 0 0x0204201E live).fld .qosCfg 0 0 6 = 30 ∧ (cv .tw .qosCfg 0 0x0204201E live).fld .qosCfg 0 8 6 = 32 ∧
      (cv .tw .qosCfg 0 0x0204201E live).regs.clampLog = [] := by decide +kernel
/-- An SQ of 16 entries with HEAD and TAIL at 10 takes tail 2: 8 new entries fit (after R180). -/
theorem test_doorbell_wraps :
    (((rg (fun x => { x with head := 10, tail := 10 }) id).bell 2).sq 0).tail = 2 := by decide +kernel
/-- The same ring takes no tail that would leave it more than 15 entries (R174). -/
theorem test_doorbell_overrun :
    (((rg (fun x => { x with head := 10, tail := 2 }) id).bell 10).sq 0).st = .error := by decide +kernel
/-- t1 = 1,000.0 ns, t4 = 1,121.5 ns and 600 units in the TURN give a hop delay of 42.0 ns (after R344). -/
theorem test_hop_delay :
    ((({ live with lnk := { live.lnk with ports := [(0, { live.port 0 with turnWait := true, stamps := [(0x130, 16000)], lastTs2 := some (0x130, 17944, 0) })] } }
      : State).takeTurn 0 [0x130, 600]).port 0).delay.toNat = 672 := by decide +kernel
/-- A node strapped 0b101 answers at 0x3D (after R530). -/
theorem test_two_wire_address :
    (twS (fun t => { t with strap := 5 }) live).twDecode 0x7A = ((twS (fun t => { t with strap := 5, phase := .ptrHi, busBusy := true }) live).emit (.twAck true)) := by
  decide +kernel
/-- The anti-rollback counter at 17 steps by programming word 0x655 (after R446). -/
theorem test_counter_step : (us ((List.range 17).map (0x644 + ·)) live).otp.stepAddr 1 = some 0x655 := by decide +kernel
/-- Patterns come 14 to a segment: the last of 1,171 segments of LB0 ends its 16,384 (after R463). -/
theorem test_segments : (16384 + 13) / 14 = 1171 ∧ 14 * 1170 < 16384 := by decide
/-- The check value of CRC-32C over the nine digits, from outside the spec: 0xE3069283. -/
theorem test_crc32c : crc32c [0x31, 0x32, 0x33, 0x34, 0x35, 0x36, 0x37, 0x38, 0x39] = 0xE3069283 := by decide +kernel
/-- The check value of CRC-32 over the nine digits, from outside the spec: 0xCBF43926. -/
theorem test_crc32 : crc32 [0x31, 0x32, 0x33, 0x34, 0x35, 0x36, 0x37, 0x38, 0x39] = 0xCBF43926 := by decide +kernel
/-- K28.5 is 001111 1010 at negative and 110000 0101 at positive running disparity, and D21.5 is the same at both; from outside the spec. -/
theorem test_8b10b :
    (encode10 false (symK 0xBC)).1 = 0b0011111010 ∧ (encode10 true (symK 0xBC)).1 = 0b1100000101 ∧
      (encode10 false (symD 0xB5)).1 = 0b1010101010 ∧ (encode10 true (symD 0xB5)).1 = 0b1010101010 := by decide +kernel
/-- The standard digest of no bytes begins E3 B0 C4 42, from outside the spec. -/
theorem test_sha256 : (sha256 []).take 4 = [0xE3, 0xB0, 0xC4, 0x42] := by decide +kernel
/-- A single bit error of a fuse word is corrected, and two are not (R435). -/
theorem test_fuse_code :
    fuseDecode (fuseCode 0xDEADBEEF) = some (0xDEADBEEF, false) ∧ fuseDecode (fuseCode 0xDEADBEEF ^^^ 0x100) = some (0xDEADBEEF, true) ∧
      fuseDecode (fuseCode 0xDEADBEEF ^^^ 0x300) = none := by decide +kernel

/-! ## Witnesses: what the statements suppose can be met -/

theorem witness_StepRunsTheFrontCommand :
    (∃ (c : Instr) (rest : List Instr) (s : State), s.pending = c :: rest) ∧ (∃ s : State, s.pending = []) :=
  ⟨⟨.tapReset, [], { live with pending := [.tapReset] }, rfl⟩, live, rfl⟩

theorem witness_EveryCommandCompletes : ∃ s t : State, step s = .next t := ⟨live, live, rfl⟩

theorem witness_EveryStepKeepsTheForm : ∃ s t : State, Formed s ∧ step s = .next t := by
  refine ⟨live, live, ?_, rfl⟩
  unfold Formed
  decide +kernel

theorem witness_RegisterMapsAgree :
    (∃ (n : RegName) (i b : Nat), i < (regPlace n).count ∧ (regPlace n).ind = false ∧ b < 4) ∧
    (∃ (n : RegName) (i : Nat), i < (regPlace n).count ∧ (regPlace n).ind = true) ∧
    (∃ (a : Nat) (n : RegName) (i : Nat), locateDirect a = some (n, i)) ∧
    (∃ (a : Nat) (n : RegName) (i : Nat), locateIndirect a = some (n, i)) ∧
    (∃ (n m : RegName) (i j : Nat), i < (regPlace n).count ∧ j < (regPlace m).count ∧ (n ≠ m ∨ i ≠ j)) := by
  refine ⟨⟨.twCbuf, 7, 3, ?_⟩, ⟨.sqcW7, 4095, ?_⟩, ⟨0x1703, .twCfg, 0, ?_⟩, ⟨30, .sqcW6, 3, ?_⟩, ⟨.sqcW0, .sqcW0, 4094, 4095, ?_⟩⟩ <;>
    decide +kernel

theorem is_ok {x : Except (Nat × Nat) Op} {op : Op} (h : (match x with | .ok o => decide (o = op) | .error _ => false) = true) : x = .ok op := by
  cases x with
  | ok o => simpa using h
  | error e => simp at h

theorem is_error {x : Except (Nat × Nat) Op} {e : Nat × Nat} (h : (match x with | .ok _ => false | .error a => decide (a = e)) = true) :
    x = .error e := by
  cases x with
  | ok o => simp at h
  | error a => simpa using h

theorem witness_WritesThatDoNotAct :
    (∃ (c : Instr) (p : Path) (n : RegName) (i : Nat) (d : Word) (s : State), named c = some (p, n, i, d) ∧ s.pathWrites p = false ∧ s.cfgSleeps p = false) ∧
    (∃ (c : Instr) (p : Path) (n : RegName) (i : Nat) (d : Word) (s : State), named c = some (p, n, i, d) ∧ s.cfgSleeps p = true) ∧
    (∃ (c : Instr) (n : RegName) (i : Nat) (d : Word) (s : State), named c = some (.cfg, n, i, d) ∧ s.pathWrites .cfg = true ∧ 2 ≤ s.pwr.state.toNat) ∧
    (∃ (c : Instr) (p : Path) (n : RegName) (i : Nat) (d : Word) (s : State), named c = some (p, n, i, d) ∧ s.pathWrites p = true ∧ (p = .cfg → s.pwr.state.toNat < 2) ∧ (s.die.mode = .clickHold ∨ s.die.mode = .safe ∧ n ≠ .rstCtl ∧ n ≠ .fltAck)) ∧
    (∃ (p : Path) (s : State), s.pathWrites p = true ∧ s.die.mode = .running ∧ s.regs.late = [] ∧ (p = .cfg → s.pwr.state.toNat < 2) ∧ s.die.blockBusy.contains 8 = true) ∧
    (∃ (e : LateWrite) (s : State), s.regs.late = [e] ∧ e.place = some (.calCtl, 0) ∧ e.data = 1 ∧ e.old = e.new ∧ s.die.mode = .running ∧ s.ownerStalled .calCtl 0 = false) := by
  refine ⟨⟨.fltAck .jtag 1, .jtag, .fltAck, 0, 1, jt, ?_⟩,
    ⟨.twGo .cfg 1, .cfg, .twCcmd, 0, 0x1000001, p4s, ?_⟩,
    ⟨.twGo .cfg 1, .twCcmd, 0, 0x1000001, { live with pwr := { live.pwr with state := 3 } }, ?_⟩,
    ⟨.twGo .tw 0x50, .tw, .twCcmd, 0, 0x1000050, md .clickHold, ?_⟩,
    ⟨.tw, busyC, ?_⟩,
    ⟨late6, lateS, ?_⟩⟩ <;> (try unfold Acts) <;> (try unfold Formed) <;> (try unfold Sole) <;> decide +kernel

theorem witness_RegisterWriteClampsOrReports :
    (∃ (p : Path) (addr : BitVec 16) (s : State), s.pathWrites p = true ∧ (p = .cfg → s.pwr.state.toNat < 2) ∧ locateDirect addr.toNat = none) ∧
    (∃ (p : Path) (s : State), s.pathWrites p = true ∧ (p = .cfg → s.pwr.state.toNat < 2) ∧ s.die.mode = .running ∧ s.regs.late = [] ∧ Formed s) ∧
    (∃ (p : Path) (addr : BitVec 16) (s : State) (m : RegName) (i : Nat), s.pathWrites p = true ∧ (p = .cfg → s.pwr.state.toNat < 2) ∧ locateDirect addr.toNat = some (m, i) ∧ m ≠ .indWin ∧ Acts p m i s) ∧
    (∃ (p : Path) (s : State), s.pathWrites p = true ∧ (p = .cfg → s.pwr.state.toNat < 2) ∧ Acts p .otpAddr 0 s ∧ Formed s) ∧
    (∃ (p : Path) (s : State), s.pathWrites p = true ∧ (p = .cfg → s.pwr.state.toNat < 2) ∧ Acts p .otpWdata 0 s ∧ Formed s) := by
  refine ⟨⟨.tw, 0xFFFC, live, ?_⟩,
    ⟨.tw, live, ?_⟩,
    ⟨.tw, 0x170C, live, .twStat, 0, ?_⟩,
    ⟨.tw, live, ?_⟩,
    ⟨.tw, live, ?_⟩⟩ <;> (try unfold Acts) <;> (try unfold Formed) <;> (try unfold Sole) <;> decide +kernel

theorem witness_IndirectWindowAccess :
    (∃ (p : Path) (s : State), (p = .cfg → s.pwr.state.toNat < 2)) := by
  refine ⟨.tw, ptr6 0x3 1, ?_⟩ <;> (try unfold Acts) <;> (try unfold Formed) <;> (try unfold Sole) <;> decide +kernel

theorem witness_FltAckClearsAcknowledgedBits :
    (∃ (p : Path) (data : Word) (s : State), Acts p .fltAck 0 s ∧ s.flt.carried (BitVec.toNat data % 65536) = true) ∧
    (∃ (p : Path) (data : Word) (s : State), Acts p .fltAck 0 s ∧ s.flt.carried (BitVec.toNat data % 65536) = false) := by
  refine ⟨⟨.tw, 0, fl, ?_⟩,
    ⟨.tw, 3, fl, ?_⟩⟩ <;> (try unfold Acts) <;> (try unfold Formed) <;> (try unfold Sole) <;> decide +kernel

theorem witness_FaultSnapshotAndInjection :
    (∃ (p : Path) (s : State), s.pathReads p = true ∧ (p = .cfg → s.pwr.state.toNat < 2)) ∧
    (∃ (p : Path) (s : State), s.pathReads p = false ∧ s.cfgSleeps p = false) ∧
    (∃ (p : Path) (data : Word) (s : State), Acts p .fltInject 0 s ∧ fieldOf data 8 8 ≠ 105) ∧
    (∃ (p : Path) (data : Word) (s : State), Acts p .fltInject 0 s ∧ fieldOf data 8 8 = 105 ∧ s.lifecycle ≠ 0) ∧
    (∃ (p : Path) (data : Word) (s : State), Acts p .fltInject 0 s ∧ fieldOf data 8 8 = 105 ∧ s.lifecycle = 0 ∧ fieldOf data 7 1 = 0 ∧ 95 < fieldOf data 0 7) ∧
    (∃ (p : Path) (data : Word) (s : State), Acts p .fltInject 0 s ∧ fieldOf data 8 8 = 105 ∧ s.lifecycle = 0 ∧ fieldOf data 7 1 = 0 ∧ fieldOf data 0 7 ≤ 95) ∧
    (∃ (p : Path) (data : Word) (s : State), Acts p .fltInject 0 s ∧ fieldOf data 8 8 = 105 ∧ s.lifecycle = 0 ∧ fieldOf data 7 1 = 1) := by
  refine ⟨⟨.tw, fl, ?_⟩,
    ⟨.jtag, fl, ?_⟩,
    ⟨.tw, 0x6805, live, ?_⟩,
    ⟨.tw, 0x6905, prov, ?_⟩,
    ⟨.tw, 0x6960, live, ?_⟩,
    ⟨.tw, 0x695F, live, ?_⟩,
    ⟨.tw, 0x6980, live, ?_⟩⟩ <;> (try unfold Acts) <;> (try unfold Formed) <;> (try unfold Sole) <;> decide +kernel

theorem witness_FaultWindowsShadowsAndParity :
    (∃ (src : BitVec 7) (t : Nat) (s : State), Tab.get none s.flt.window src.toNat = some t ∧ t + 1000 * s.fld .fltSrcW1 src.toNat 0 16 ≤ s.now) ∧
    (∃ (s : State), (s.die.mode = .running ∨ s.die.mode = .restarting ∨ s.die.mode = .clickHold ∨ s.die.mode = .resetHold ∨ s.die.mode = .startWatch)) ∧
    (∃ (s : State), s.scans = true ∧ s.regs.par = []) ∧
    (∃ (s : State) (k : Nat), s.scans = true ∧ s.regs.par = [(k, true)]) ∧
    (∃ (s : State) (u : Upset), s.scans = true ∧ (∀ (e : Nat × Bool), e ∈ (s.upset u).regs.par → e.snd = true → collectorKey e.fst = false)) := by
  refine ⟨⟨5, 0, win1 0 1000000, ?_⟩,
    ⟨live, ?_⟩,
    ⟨live, ?_⟩,
    ⟨par6, 0x1700, ?_⟩,
    ⟨live, ⟨0x1700, 1⟩, ?_⟩⟩ <;> (try unfold Acts) <;> (try unfold Formed) <;> (try unfold Sole) <;> decide +kernel

theorem witness_FaultEventsAreRecordedInOrder :
    (∃ (s : State), s.collects = false) ∧
    (∃ (s : State), s.collects = true ∧ s.flt.lines = []) ∧
    (∃ (l : FaultLine) (s : State), s.collects = true ∧ s.flt.lines = [l] ∧ l.src.toNat < 96 ∧ s.masked l.src.toNat = false ∧ s.flag .fltSrcW0 l.src.toNat 0 = false) ∧
    (∃ (g : Graded), g.shadow = true) ∧
    (∃ (l : FaultLine) (s : State), s.masked l.src.toNat = false ∧ s.flag .fltSrcW0 l.src.toNat 0 = true ∧ Tab.get none s.flt.window l.src.toNat = none) ∧
    (∃ (gs : List Graded), (∀ (g : Graded), g ∈ gs → g.cls ≤ 3 ∧ g.src < 96)) := by
  refine ⟨⟨{ live with die := { live.die with mode := .porstLow } }, ?_⟩,
    ⟨live, ?_⟩,
    ⟨ln 70 5, f1 (ln 70 5) live, ?_⟩,
    ⟨gS, ?_⟩,
    ⟨ln 5 1, cnt 5 1 live, ?_⟩,
    ⟨[gA, gC, gB, gB], ?_⟩⟩ <;> (try unfold Acts) <;> (try unfold Formed) <;> (try unfold Sole) <;> decide +kernel

theorem witness_AckRetrustAndCalibrateNow :
    (∃ (p : Path) (s : State), Acts p .clampAck 0 s) ∧
    (∃ (p : Path) (s : State), Acts p .thmRetrust 0 s) ∧
    (∃ (p : Path) (s : State), Acts p .calCtl 0 s) := by
  refine ⟨⟨.tw, clampd, ?_⟩,
    ⟨.tw, live, ?_⟩,
    ⟨.tw, calRun2, ?_⟩⟩ <;> (try unfold Acts) <;> (try unfold Formed) <;> (try unfold Sole) <;> decide +kernel

theorem witness_LogicSelfTestRuns :
    (∃ (p : Path) (s : State), Acts p .bstCtl 0 s ∧ (s.bst.state ≠ 0 ∨ s.bst.memFail.getLsbD 15 = true)) ∧
    (∃ (p : Path) (s : State), Acts p .bstCtl 0 s ∧ s.bst.state = 0 ∧ s.bst.memFail.getLsbD 15 = false) ∧
    (∃ (p : Path) (s : State), Acts p .bstCtl 0 s ∧ s.bst.state = 1 ∧ s.bst.inSegment = true) ∧
    (∃ (p : Path) (s : State), Acts p .bstCtl 0 s ∧ s.bst.state = 1 ∧ s.bst.inSegment = false) ∧
    (∃ (p : Path) (s : State), Acts p .bstCtl 0 s ∧ s.bst.state ≠ 1) ∧
    (∃ (s : State), s.die.blockPend = [] ∧ s.regs.late = [] ∧ (s.bst.inSegment = false ∨ s.partQuiet s.bst.part = false)) ∧
    (∃ (s : State), s.die.blockPend = [] ∧ s.regs.late = [] ∧ s.bst.inSegment = true ∧ s.partQuiet s.bst.part = true ∧ s.bst.state = 1) ∧
    (∃ (s : State), s.flag .bstCfg 0 0 = true ∧ s.bst.memFail.getLsbD 15 = false ∧ s.die.mode = .running ∧ s.bst.lastStart + 3600000000 * s.fld .bstCfg 0 24 8 ≤ s.now) ∧
    (∃ (s : State), (s.flag .bstCfg 0 0 = false ∨ s.bst.memFail.getLsbD 15 = true ∨ s.die.mode ≠ .running ∨ s.now < s.bst.lastStart + 3600000000 * s.fld .bstCfg 0 24 8)) := by
  refine ⟨⟨.tw, bs 1 true, ?_⟩,
    ⟨.tw, live, ?_⟩,
    ⟨.tw, bs 1 true, ?_⟩,
    ⟨.tw, bs 1 false, ?_⟩,
    ⟨.tw, bs 2 false, ?_⟩,
    ⟨live, ?_⟩,
    ⟨inSeg 2, ?_⟩,
    ⟨perio, ?_⟩,
    ⟨up, ?_⟩⟩ <;> (try unfold Acts) <;> (try unfold Formed) <;> (try unfold Sole) <;> decide +kernel

theorem witness_StackTestAndMemorySelfTest :
    (∃ (p : Path) (k : Option (BitVec 4)) (s : State), Acts p .bstCtl 0 s ∧ s.stackReady = true ∧ s.bst.state = 0 ∧ s.hiveOk = true ∧ 1 ≤ (s.stackFirst (k.getD 0)).toNat ∧ (s.stackFirst (k.getD 0)).toNat ≤ 5) ∧
    (∃ (p : Path) (k : Option (BitVec 4)) (s : State), Acts p .bstCtl 0 s ∧ s.stackReady = true ∧ s.bst.state = 0 ∧ s.hiveOk = true ∧ ((s.stackFirst (k.getD 0)).toNat = 0 ∨ 5 < (s.stackFirst (k.getD 0)).toNat)) ∧
    (∃ (p : Path) (s : State), Acts p .bstCtl 0 s ∧ s.stackReady = true ∧ s.bst.state = 0 ∧ s.hiveOk = false) ∧
    (∃ (p : Path) (s : State), Acts p .bstCtl 0 s ∧ (s.stackReady = false ∨ s.bst.state ≠ 0)) ∧
    (∃ (r : RetainRun) (s : State), s.bst.retain = some r ∧ s.hiveOk = false) ∧
    (∃ (r : RetainRun) (s : State), s.bst.retain = some r ∧ s.hiveOk = true ∧ r.begun = false) ∧
    (∃ (r : RetainRun) (s : State), s.bst.retain = some r ∧ s.hiveOk = true ∧ r.begun = true ∧ r.at_ = none ∧ s.soaked = false) ∧
    (∃ (r : RetainRun) (s : State), s.bst.retain = some r ∧ s.hiveOk = true ∧ r.begun = true ∧ r.at_ = none ∧ s.soaked = true) ∧
    (∃ (r : RetainRun) (s : State) (a : Nat), s.bst.retain = some r ∧ s.hiveOk = true ∧ r.begun = true ∧ r.at_ = some a ∧ a + 47500 ≤ s.now ∧ r.bank ≠ 15) ∧
    (∃ (r : RetainRun) (s : State) (a : Nat), s.bst.retain = some r ∧ s.hiveOk = true ∧ r.begun = true ∧ r.at_ = some a ∧ a + 47500 ≤ s.now ∧ r.bank = 15) ∧
    (∃ (r : RetainRun) (s : State) (a : Nat), s.bst.retain = some r ∧ s.hiveOk = true ∧ r.begun = true ∧ r.at_ = some a ∧ s.now < a + 47500) ∧
    (∃ (g : BitVec 4) (s : State), s.memoryRuns g.toNat = false) ∧
    (∃ (g : BitVec 4) (s : State), (s.die.mode = .running ∨ s.die.mode = .restarting ∧ g ≠ 0) ∧ s.bst.state ≠ 1 ∧ s.bst.state ≠ 2 ∧ s.bst.memDone.getLsbD g.toNat = false ∧ s.clk.xtalGood = true ∧ (g = 0 ∨ s.clk.fabA = true)) := by
  refine ⟨⟨.tw, some 2, scr, ?_⟩,
    ⟨.tw, none, scr, ?_⟩,
    ⟨.tw, noHive scr, ?_⟩,
    ⟨.tw, live, ?_⟩,
    ⟨⟨true, 0, none, 0, 0, 0⟩, noHive (rtn ⟨true, 0, none, 0, 0, 0⟩ 5), ?_⟩,
    ⟨⟨false, 0, none, 0, 0, 0⟩, rtn ⟨false, 0, none, 0, 0, 0⟩ 5, ?_⟩,
    ⟨⟨true, 0, none, 0, 0, 0⟩, rtn ⟨true, 0, none, 0, 0, 0⟩ 5, ?_⟩,
    ⟨⟨true, 0, none, 0, 0, 0⟩, soak, ?_⟩,
    ⟨⟨true, 3, some 5, 1, 0, 0⟩, rtn ⟨true, 3, some 5, 1, 0, 0⟩ 47505, 5, ?_⟩,
    ⟨⟨true, 15, some 5, 1, 0, 7⟩, rtn ⟨true, 15, some 5, 1, 0, 7⟩ 47505, 5, ?_⟩,
    ⟨⟨true, 3, some 5, 1, 0, 0⟩, rtn ⟨true, 3, some 5, 1, 0, 0⟩ 20000, 5, ?_⟩,
    ⟨3, noX true true, ?_⟩,
    ⟨15, bm, ?_⟩⟩ <;> (try unfold Acts) <;> (try unfold Formed) <;> (try unfold Sole) <;> decide +kernel

theorem witness_OtpProgramAndLock :
    (∃ (p : Path) (s : State) (key : Byte), Acts p .otpCmd 0 s ∧ key ≠ 165) ∧
    (∃ (p : Path) (s : State), Acts p .otpCmd 0 s ∧ s.otp.busy.isSome = true) ∧
    (∃ (p : Path) (s : State), Acts p .otpCmd 0 s ∧ s.otp.busy = none ∧ Option.any s.otp.isLocked (regionAt (s.fld .otpAddr 0 0 12)) = true) ∧
    (∃ (p : Path) (s : State), Acts p .otpCmd 0 s ∧ s.otp.busy = none ∧ Option.any s.otp.isLocked (regionAt (s.fld .otpAddr 0 0 12)) = false ∧ otpDenied (pathSource p) s.lifecycle (s.fld .otpAddr 0 0 12) = true) ∧
    (∃ (p : Path) (s : State), Acts p .otpCmd 0 s ∧ s.otp.busy = none ∧ Option.any s.otp.isLocked (regionAt (s.fld .otpAddr 0 0 12)) = false ∧ otpDenied (pathSource p) s.lifecycle (s.fld .otpAddr 0 0 12) = false ∧ s.otp.isUsed (s.fld .otpAddr 0 0 12) = true) ∧
    (∃ (p : Path) (s : State), Acts p .otpCmd 0 s ∧ s.otp.busy = none ∧ Option.any s.otp.isLocked (regionAt (s.fld .otpAddr 0 0 12)) = false ∧ otpDenied (pathSource p) s.lifecycle (s.fld .otpAddr 0 0 12) = false ∧ s.otp.isUsed (s.fld .otpAddr 0 0 12) = false) ∧
    (∃ (p : Path) (s : State), Acts p .otpCmd 0 s ∧ s.otp.busy = none ∧ p ≠ .hive ∧ 2 ≤ s.lifecycle) ∧
    (∃ (p : Path) (r : BitVec 2) (s : State), Acts p .otpCmd 0 s ∧ s.otp.busy = none ∧ (p = .hive ∨ s.lifecycle < 2) ∧ s.otp.spoilt r.toNat = true) ∧
    (∃ (p : Path) (r : BitVec 2) (s : State), Acts p .otpCmd 0 s ∧ s.otp.busy = none ∧ (p = .hive ∨ s.lifecycle < 2) ∧ s.otp.spoilt r.toNat = false ∧ (∀ (k : Nat), k < 8 → s.otp.isUsed (4040 + 8 * r.toNat + k) = false)) ∧
    (∃ (p : Path) (r : BitVec 2) (s : State), Acts p .otpCmd 0 s ∧ s.otp.busy = none ∧ (p = .hive ∨ s.lifecycle < 2) ∧ s.otp.spoilt r.toNat = false ∧ (∃ k, k < 8 ∧ s.otp.isUsed (4040 + 8 * r.toNat + k) = true) ∧ bytesWords (s.otp.digest r.toNat) ≠ Tab.getList 0 s.otp.shadow (4040 + 8 * r.toNat) 8) ∧
    (∃ (p : Path) (r : BitVec 2) (s : State), Acts p .otpCmd 0 s ∧ s.otp.busy = none ∧ (p = .hive ∨ s.lifecycle < 2) ∧ s.otp.spoilt r.toNat = false ∧ (∃ k, k < 8 ∧ s.otp.isUsed (4040 + 8 * r.toNat + k) = true) ∧ bytesWords (s.otp.digest r.toNat) = Tab.getList 0 s.otp.shadow (4040 + 8 * r.toNat) 8 ∧ s.otp.isLocked r.toNat = true) ∧
    (∃ (p : Path) (r : BitVec 2) (s : State), Acts p .otpCmd 0 s ∧ s.otp.busy = none ∧ (p = .hive ∨ s.lifecycle < 2) ∧ s.otp.spoilt r.toNat = false ∧ (∃ k, k < 8 ∧ s.otp.isUsed (4040 + 8 * r.toNat + k) = true) ∧ bytesWords (s.otp.digest r.toNat) = Tab.getList 0 s.otp.shadow (4040 + 8 * r.toNat) 8 ∧ s.otp.isLocked r.toNat = false) := by
  refine ⟨⟨.tw, live, 0x5A, ?_⟩,
    ⟨.tw, { ob_ 0 [] with sec := live.sec }, ?_⟩,
    ⟨.tw, us [0xFC0] live, ?_⟩,
    ⟨.tw, ad_ 0x120 (us [0x640, 0x641] live), ?_⟩,
    ⟨.tw, ad_ 0x120 (us [0x120] live), ?_⟩,
    ⟨.tw, ad_ 0x120 live, ?_⟩,
    ⟨.tw, us [0x640, 0x641] live, ?_⟩,
    ⟨.tw, 2, spl, ?_⟩,
    ⟨.tw, 2, live, ?_⟩,
    ⟨.tw, 2, us [0xFD8] live, ?_⟩,
    ⟨.tw, 2, dig2L, ?_⟩,
    ⟨.tw, 2, dig2, ?_⟩⟩ <;> (try unfold Acts) <;> (try unfold Formed) <;> (try unfold Sole) <;> decide +kernel

theorem witness_OtpCommandsEnd :
    (∃ (normal : BitVec 39) (c : OtpCmd) (s : State) (x : BitVec 12 × Word) (l : List (BitVec 12 × Word)), s.otp.busy = some c ∧ c.why = 0 ∧ s.otp.queue = [] ∧ s.pulsing c = true ∧ List.filter (fun e => !(s.otp.programmed c.addr.toNat c.data normal (fuseCode c.data)).isUsed e.fst.toNat) c.rest = x :: l) ∧
    (∃ (normal : BitVec 39) (c : OtpCmd) (s : State), s.otp.busy = some c ∧ c.why = 0 ∧ s.otp.queue = [] ∧ s.pulsing c = true ∧ List.filter (fun e => !(s.otp.programmed c.addr.toNat c.data normal (fuseCode c.data)).isUsed e.fst.toNat) c.rest = []) ∧
    (∃ (strict : BitVec 39) (c : OtpCmd) (s : State), s.otp.busy = some c ∧ c.why = 0 ∧ s.otp.queue = [] ∧ s.pulsing c = true ∧ strict ≠ fuseCode c.data) ∧
    (∃ (c : OtpCmd) (s : State), s.otp.busy = some c ∧ c.why = 6 ∧ c.rest = [] ∧ s.otp.queue = [] ∧ s.pulsing c = true) ∧
    (∃ (c : OtpCmd), c.fromHive = false) ∧
    (∃ (c : OtpCmd) (s : State), c.fromHive = true ∧ s.tw.busy = false ∧ s.tw.vqpsQ = [] ∧ s.hiveOk = true) ∧
    (∃ (c : OtpCmd) (done : Nat) (s : State), s.otp.busy = some c ∧ s.tw.busy = true ∧ s.tw.bootRead = false ∧ s.tw.vqps = some true ∧ s.tw.vqpsQ = [] ∧ done ≤ s.tw.asked.fst + s.tw.asked.snd ∧ c.why = 0 ∧ s.otp.queue = []) ∧
    (∃ (c : OtpCmd) (s : State), s.otp.busy = some c ∧ c.fromHive = false) ∧
    (∃ (c : OtpCmd) (s : State), s.otp.busy = some c ∧ c.fromHive = true) ∧
    (∃ (c : OtpCmd) (s : State), s.otp.busy = some c ∧ s.pulsing c = false) := by
  refine ⟨⟨0, oc 0 [(3, 4)], ob_ 0 [(3, 4)], (3, 4), [], ?_⟩,
    ⟨0, oc 0 [], ob_ 0 [], ?_⟩,
    ⟨6, oc 0 [(3, 4)], ob_ 0 [(3, 4)], ?_⟩,
    ⟨oc 6 [], ob_ 6 [], ?_⟩,
    ⟨{ oc 0 [] with who := 2 }, ?_⟩,
    ⟨oc 0 [], live, ?_⟩,
    ⟨oc 0 [], 2, vq, ?_⟩,
    ⟨{ oc 0 [] with who := 2 }, { vq with otp := { vq.otp with busy := some { oc 0 [] with who := 2 } } }, ?_⟩,
    ⟨oc 0 [], vq, ?_⟩,
    ⟨oc 0 [], vq, ?_⟩⟩ <;> (try unfold Acts) <;> (try unfold Formed) <;> (try unfold Sole) <;> decide +kernel

theorem witness_SecurityEngineActions :
    (∃ (p : Path) (s : State), Acts p .secCtl 0 s ∧ s.sec.busy = 0 ∧ s.lifecycle = 0 ∧ s.secOut = false ∧ s.otp.isLocked 1 = false ∧ s.otp.isLocked 2 = false ∧ (∀ (a : Nat), a ∈ keygenWords → s.otp.isUsed a = false) ∧ s.otp.busy = none ∧ s.otp.queue = [] ∧ s.hiveOk = true) ∧
    (∃ (p : Path) (s : State), Acts p .secCtl 0 s ∧ s.sec.busy = 0 ∧ s.lifecycle ≠ 0) ∧
    (∃ (p : Path) (s : State), Acts p .secCtl 0 s ∧ s.sec.busy = 0 ∧ s.lifecycle = 0 ∧ (∃ a, a ∈ keygenWords ∧ s.otp.isUsed a = true)) ∧
    (∃ (p : Path) (s : State), Acts p .secCtl 0 s ∧ s.sec.busy = 0 ∧ (s.lifecycle = 1 ∨ s.lifecycle = 2 ∧ s.dbg.level ≠ 2) ∧ s.secOut = false ∧ s.keyPair = true ∧ onCurve s.kxPoint = true) ∧
    (∃ (p : Path) (s : State), Acts p .secCtl 0 s ∧ s.sec.busy = 0 ∧ (s.lifecycle = 1 ∨ s.lifecycle = 2 ∧ s.dbg.level ≠ 2) ∧ s.secOut = false ∧ s.keyPair = true ∧ onCurve s.kxPoint = false) ∧
    (∃ (p : Path) (s : State), Acts p .secCtl 0 s ∧ s.sec.busy = 0 ∧ s.otp.busy = none ∧ s.otp.queue = [] ∧ s.hiveOk = true ∧ (s.lifecycle = 1 ∨ s.lifecycle = 2) ∧ s.otp.counter 2 < 252) ∧
    (∃ (p : Path) (s : State), Acts p .secCtl 0 s ∧ s.sec.busy = 0 ∧ s.otp.busy = none ∧ s.otp.queue = [] ∧ s.hiveOk = true ∧ (s.lifecycle = 1 ∨ s.lifecycle = 2) ∧ 252 ≤ s.otp.counter 2) ∧
    (∃ (p : Path) (s : State) (target : BitVec 2), Acts p .secCtl 0 s ∧ s.sec.busy = 0 ∧ s.otp.busy = none ∧ s.otp.queue = [] ∧ s.hiveOk = true ∧ target.toNat = s.lifecycle + 1 ∧ s.mayAdvance = true) ∧
    (∃ (p : Path) (s : State) (target : BitVec 2), Acts p .secCtl 0 s ∧ s.sec.busy = 0 ∧ s.otp.busy = none ∧ s.otp.queue = [] ∧ s.hiveOk = true ∧ target ≠ 0 ∧ target.toNat ≠ s.lifecycle + 1) := by
  refine ⟨⟨.tw, live, ?_⟩,
    ⟨.tw, prov, ?_⟩,
    ⟨.tw, us [0x102] live, ?_⟩,
    ⟨.tw, kx1 true, ?_⟩,
    ⟨.tw, kx1 false, ?_⟩,
    ⟨.tw, rv 0, ?_⟩,
    ⟨.tw, rv 252, ?_⟩,
    ⟨.tw, lf, 1, ?_⟩,
    ⟨.tw, live, 2, ?_⟩⟩ <;> (try unfold Acts) <;> (try unfold Formed) <;> (try unfold Sole) <;> decide +kernel

theorem witness_DebugSessions :
    (∃ (p : Path) (level : BitVec 2) (s : State), Acts p .dbgReq 0 s ∧ (level = 0 ∨ level = 3 ∨ level.toNat ≤ s.dbg.level.toNat)) ∧
    (∃ (p : Path) (level : BitVec 2) (s : State), Acts p .dbgReq 0 s ∧ (level = 1 ∨ level = 2) ∧ s.dbg.level.toNat < level.toNat ∧ (s.dbg.lockout = true ∨ s.dbg.checking.isSome = true ∨ s.dbg.erasing = true ∨ 4 ≤ s.pwr.state.toNat)) ∧
    (∃ (p : Path) (level : BitVec 2) (s : State), Acts p .dbgReq 0 s ∧ (level = 1 ∨ level = 2) ∧ s.dbg.level.toNat < level.toNat ∧ s.dbg.lockout = false ∧ s.dbg.checking = none ∧ s.dbg.erasing = false ∧ s.pwr.state.toNat < 4 ∧ needsToken s.lifecycle level.toNat = false) ∧
    (∃ (p : Path) (level : BitVec 2) (s : State), Acts p .dbgReq 0 s ∧ (level = 1 ∨ level = 2) ∧ s.dbg.level.toNat < level.toNat ∧ s.dbg.lockout = false ∧ s.dbg.checking = none ∧ s.dbg.erasing = false ∧ s.pwr.state.toNat < 4 ∧ needsToken s.lifecycle level.toNat = true ∧ (s.otp.noAuthority = true ∨ s.secOut = true)) ∧
    (∃ (p : Path) (level : BitVec 2) (s : State), Acts p .dbgReq 0 s ∧ (level = 1 ∨ level = 2) ∧ s.dbg.level.toNat < level.toNat ∧ s.dbg.lockout = false ∧ s.dbg.checking = none ∧ s.dbg.erasing = false ∧ s.pwr.state.toNat < 4 ∧ needsToken s.lifecycle level.toNat = true ∧ s.otp.noAuthority = false ∧ s.secOut = false) ∧
    (∃ (level : BitVec 2) (s : State), s.dbg.checking = some level ∧ s.dbg.chkOk = false) ∧
    (∃ (level : BitVec 2) (s : State), s.dbg.checking = some level ∧ s.dbg.chkOk = true ∧ ¬(level = 2 ∧ s.lifecycle = 2)) ∧
    (∃ (s : State), s.dbg.checking = some 2 ∧ s.dbg.chkOk = true ∧ s.lifecycle = 2) ∧
    (∃ (s : State), s.dbg.level ≠ 0 ∧ s.dbg.left = some 0) ∧
    (∃ (s : State), (s.dbg.level = 0 ∨ s.dbg.left ≠ some 0)) := by
  refine ⟨⟨.tw, 0, live, ?_⟩,
    ⟨.tw, 2, dbgS (fun d => { d with level := 1, max := 1, lockout := true }) live, ?_⟩,
    ⟨.tw, 2, live, ?_⟩,
    ⟨.tw, 1, noEng dep, ?_⟩,
    ⟨.tw, 1, dep, ?_⟩,
    ⟨1, chkS 1 false 0 0 live, ?_⟩,
    ⟨1, chkS 1 true 2 5 dep, ?_⟩,
    ⟨chkS 2 true 0 5 (keyed dep), ?_⟩,
    ⟨dbgS (fun d => { d with level := 1, max := 1, left := some 0 }) live, ?_⟩,
    ⟨dbgS (fun d => { d with level := 1, max := 1, left := some 1 }) live, ?_⟩⟩ <;> (try unfold Acts) <;> (try unfold Formed) <;> (try unfold Sole) <;> decide +kernel

theorem witness_TapObeysTheDebugLevel :
    (∃ (s : State), s.die.mode = .porstLow) ∧
    (∃ (x : TapInstr) (s : State), s.die.mode ≠ .porstLow ∧ s.tapGrants x = false) ∧
    (∃ (a : BitVec 16) (s : State), s.pathReads .jtag = true ∧ locateDirect a.toNat = none) ∧
    (∃ (s : State), s.die.mode ≠ .porstLow ∧ s.dbg.level = 2 ∧ s.pwr.state.toNat < 4 ∧ s.die.hiveRun = true) ∧
    (∃ (s : State), s.dbg.level = 0) := by
  refine ⟨⟨md .porstLow, ?_⟩,
    ⟨.trace, live, ?_⟩,
    ⟨0xFFFC, dbgS (fun d => { d with level := 1, max := 1 }) live, ?_⟩,
    ⟨dbgS (fun d => { d with level := 2, max := 2 }) live, ?_⟩,
    ⟨live, ?_⟩⟩ <;> (try unfold Acts) <;> (try unfold Formed) <;> (try unfold Sole) <;> decide +kernel

theorem witness_TwTargetBytes :
    (∃ (byte : Byte) (s : State), s.tw.phase = .idle ∧ s.die.uvIo = false ∧ s.twAnswers = true ∧ BitVec.toNat byte / 2 = 56 + s.tw.strap.toNat) ∧
    (∃ (byte : Byte) (s : State), s.tw.phase = .idle ∧ s.die.uvIo = false ∧ (s.twAnswers = false ∨ BitVec.toNat byte / 2 ≠ 56 + s.tw.strap.toNat)) ∧
    (∃ (s : State), s.tw.phase ≠ .idle) ∧
    (∃ (s : State), s.tw.phase = .idle ∧ s.die.uvIo = true) ∧
    (∃ (s : State), s.die.uvIo = true ∧ (s.tw.phase = .readFirst ∨ s.tw.phase = .reading)) ∧
    (∃ (s : State), s.die.uvIo = false ∧ s.tw.phase = .ptrHi) ∧
    (∃ (s : State), s.die.uvIo = false ∧ s.tw.phase = .ptrLo) ∧
    (∃ (s : State), s.die.uvIo = false ∧ s.tw.phase = .data ∧ s.tw.loaded.toNat % 4 = 0 ∧ s.tw.refused = 0 ∧ s.tw.pointer.toNat / 32 = s.tw.loaded.toNat / 32) ∧
    (∃ (s : State), s.die.uvIo = false ∧ s.tw.phase = .data ∧ (s.tw.loaded.toNat % 4 ≠ 0 ∨ s.tw.refused ≠ 0 ∨ s.tw.pointer.toNat / 32 ≠ s.tw.loaded.toNat / 32)) ∧
    (∃ (s : State), s.die.uvIo = false ∧ s.tw.phase = .reading ∧ s.tw.pointer.toNat % 4 ≠ 0) ∧
    (∃ (s : State) (n : RegName) (i : Nat), s.die.uvIo = false ∧ (s.tw.phase = .readFirst ∨ s.tw.phase = .reading ∧ s.tw.pointer.toNat % 4 = 0) ∧ locateDirect s.tw.pointer.toNat = some (n, i) ∧ n ≠ .indWin ∧ n ≠ .fltStat) := by
  refine ⟨⟨0x71, live, ?_⟩,
    ⟨0x73, live, ?_⟩,
    ⟨tp .data, ?_⟩,
    ⟨io live, ?_⟩,
    ⟨io (tp .reading), ?_⟩,
    ⟨tp .ptrHi, ?_⟩,
    ⟨tp .ptrLo, ?_⟩,
    ⟨tp .data, ?_⟩,
    ⟨pend5 [] 1, ?_⟩,
    ⟨pend5r 1, ?_⟩,
    ⟨pend5r 0, .twCfg, 0, ?_⟩⟩ <;> (try unfold Acts) <;> (try unfold Formed) <;> (try unfold Sole) <;> decide +kernel

theorem witness_TwTargetEndsTransfers :
    (∃ (s : State) (ws : List Word), s.tw.pending = wordsBytes ws) ∧
    (∃ (s : State) (a : Byte) (b : Byte) (c : Byte) (d : Byte), s.tw.pending = [a, b, c, d] ∧ s.tw.refused = 0) ∧
    (∃ (s : State), s.tw.pending.length < 4 ∧ s.tw.pending ≠ [] ∧ s.tw.refused = 0) ∧
    (∃ (s : State), s.tw.phase ≠ .idle ∧ s.tw.phase ≠ .ignore) := by
  refine ⟨⟨pend5 [1, 2, 3, 4, 5, 6, 7, 8] 2, [0x04030201, 0x08070605], ?_⟩,
    ⟨pend5 [1, 2, 3, 4] 0, 1, 2, 3, 4, ?_⟩,
    ⟨pend5 [1, 2, 3] 0, ?_⟩,
    ⟨pend5 [1, 2] 1, ?_⟩⟩ <;> (try unfold Acts) <;> (try unfold Formed) <;> (try unfold Sole) <;> decide +kernel

theorem witness_TwControllerTransactions :
    (∃ (p : Path) (data : Word) (s : State), Acts p .twCcmd 0 s ∧ Formed s ∧ 8 ≤ fieldOf data 0 7 ∧ fieldOf data 0 7 ≤ 119 ∧ fieldOf data 8 6 ≤ 32 ∧ fieldOf data 16 6 ≤ 32 ∧ s.tw.busy = false ∧ (fieldOf data 8 6 ≠ 0 ∨ fieldOf data 16 6 ≠ 0)) ∧
    (∃ (p : Path) (data : Word) (s : State), Acts p .twCcmd 0 s ∧ Formed s ∧ 8 ≤ fieldOf data 0 7 ∧ fieldOf data 0 7 ≤ 119 ∧ fieldOf data 8 6 ≤ 32 ∧ fieldOf data 16 6 ≤ 32 ∧ s.tw.busy = true) ∧
    (∃ (done : Nat) (bytes : List Byte) (s : State), s.tw.busy = true ∧ s.tw.vqps = none ∧ s.tw.vqpsQ = [] ∧ s.tw.bootRead = false ∧ bytes.length ≤ s.tw.asked.snd ∧ done ≤ s.tw.asked.fst + s.tw.asked.snd) ∧
    (∃ (bytes : List Byte) (s : State), s.tw.busy = true ∧ s.tw.vqps = none ∧ s.tw.vqpsQ = [] ∧ s.tw.bootRead = true ∧ bytes.length = imageChunk s.die.image) ∧
    (∃ (bytes : List Byte) (s : State), s.tw.busy = true ∧ s.tw.vqps = none ∧ s.tw.vqpsQ = [] ∧ s.tw.bootRead = true ∧ bytes.length ≠ imageChunk s.die.image) ∧
    (∃ (done : Nat) (s : State) (res : TwResult), s.tw.busy = true ∧ s.tw.vqps = none ∧ s.tw.vqpsQ = [] ∧ (res = TwResult.addrNack ∨ res = TwResult.dataNack) ∧ s.tw.bootRead = false ∧ done ≤ s.tw.asked.fst + s.tw.asked.snd) ∧
    (∃ (s : State), s.tw.bootRead = false ∧ s.tw.vqps = none ∧ s.tw.vqpsQ = [] ∧ s.tw.busy = true ∧ s.tw.phase = .idle ∧ s.tw.losses + 1 ≤ s.fld .twCfg 0 2 3) ∧
    (∃ (s : State), s.tw.bootRead = false ∧ s.tw.vqps = none ∧ s.tw.vqpsQ = [] ∧ s.tw.busy = true ∧ s.tw.phase = .idle ∧ s.fld .twCfg 0 2 3 < s.tw.losses + 1) ∧
    (∃ (s : State), s.tw.bootRead = false ∧ s.tw.vqps = none ∧ s.tw.vqpsQ = [] ∧ s.tw.busy = false ∧ s.tw.recover = true) := by
  refine ⟨⟨.tw, 0x00020150, live, ?_⟩,
    ⟨.tw, 0x00020150, bz live, ?_⟩,
    ⟨6, [1, 2, 3, 4], bz live, ?_⟩,
    ⟨List.replicate 16 0, twS (fun t => { t with bootRead := true }) (bz live), ?_⟩,
    ⟨[7], twS (fun t => { t with bootRead := true }) (bz live), ?_⟩,
    ⟨3, bz live, .addrNack, ?_⟩,
    ⟨twS (fun t => { t with losses := 2 }) (bz live), ?_⟩,
    ⟨twS (fun t => { t with losses := 7 }) (bz live), ?_⟩,
    ⟨twS (fun t => { t with recover := true }) live, ?_⟩⟩ <;> (try unfold Acts) <;> (try unfold Formed) <;> (try unfold Sole) <;> decide +kernel

theorem witness_SubmissionRingsEnableAndDisable :
    (∃ (p : Path) (q : BitVec 12) (data : Word) (s : State), Acts p .sqcW7 q.toNat s ∧ Formed s ∧ fieldOf data 0 2 = 0 ∧ (s.sq q.toNat).st = .disabled ∧ (s.cq (s.sqCq q.toNat)).st = .active ∧ (s.sqStream q.toNat = false ∨ s.fld .sqcW3 q.toNat 0 3 = 7 ∧ s.bst.memFail.getLsbD 3 = false) ∧ (s.sq q.toNat).head.toNat < s.sqSize q.toNat) ∧
    (∃ (p : Path) (q : BitVec 12) (data : Word) (s : State), Acts p .sqcW7 q.toNat s ∧ Formed s ∧ fieldOf data 0 2 = 0 ∧ ((s.sq q.toNat).st ≠ .disabled ∨ (s.cq (s.sqCq q.toNat)).st ≠ .active)) ∧
    (∃ (p : Path) (q : BitVec 12) (data : Word) (s : State), Acts p .sqcW7 q.toNat s ∧ Formed s ∧ fieldOf data 0 2 = 0 ∧ ((s.sq q.toNat).st = .active ∨ (s.sq q.toNat).st = .error)) ∧
    (∃ (p : Path) (q : BitVec 12) (data : Word) (s : State), Acts p .sqcW7 q.toNat s ∧ Formed s ∧ fieldOf data 0 2 = 0 ∧ ((s.sq q.toNat).st = .disabled ∨ (s.sq q.toNat).st = .draining)) := by
  refine ⟨⟨.tw, 0, 0, rg7 (fun x => { x with st := .disabled }) id, ?_⟩,
    ⟨.tw, 0, 0x00050000, rg7 id id, ?_⟩,
    ⟨.tw, 0, 0x00050000, rg7 (fun x => { x with out := 1, fetch := [(0, 0, 2, none)] }) (fun c => { c with reserved := 6 }), ?_⟩,
    ⟨.tw, 0, 0x00050000, c7 .active, ?_⟩⟩ <;> (try unfold Acts) <;> (try unfold Formed) <;> (try unfold Sole) <;> decide +kernel

theorem witness_CompletionRingsEnableDisableResume :
    (∃ (p : Path) (q : BitVec 12) (s : State), Acts p .cqcW7 q.toNat s ∧ (s.cq q.toNat).st = .disabled) ∧
    (∃ (p : Path) (q : BitVec 12) (s : State), Acts p .cqcW7 q.toNat s ∧ (s.cq q.toNat).st ≠ .disabled ∧ s.sqsOf q.toNat = 0 ∧ (s.cq q.toNat).reserved = 0 ∧ (s.evtEn = false ∨ s.evtCq ≠ q.toNat)) ∧
    (∃ (p : Path) (q : BitVec 12) (s : State), Acts p .cqcW7 q.toNat s ∧ ((s.cq q.toNat).st = .disabled ∨ s.sqsOf q.toNat ≠ 0 ∨ (s.cq q.toNat).reserved ≠ 0 ∨ s.evtEn = true ∧ s.evtCq = q.toNat)) ∧
    (∃ (p : Path) (q : BitVec 12) (s : State), Acts p .cqcW7 q.toNat s ∧ (s.cq q.toNat).st = .error ∧ (s.cq q.toNat).head.toNat < s.cqSize q.toNat ∧ ringDist (s.cqSize q.toNat) (s.cq q.toNat).head.toNat (s.cq q.toNat).accepted.toNat ≤ ringDist (s.cqSize q.toNat) (s.cq q.toNat).tail.toNat (s.cq q.toNat).accepted.toNat) := by
  refine ⟨⟨.tw, 0, c7 .disabled, ?_⟩,
    ⟨.tw, 0, c7 .active, ?_⟩,
    ⟨.tw, 0, c7 .disabled, ?_⟩,
    ⟨.tw, 0, er7, ?_⟩⟩ <;> (try unfold Acts) <;> (try unfold Formed) <;> (try unfold Sole) <;> decide +kernel

theorem witness_ChannelControl :
    (∃ (p : Path) (i : BitVec 10) (s : State), Acts p .tchChctl i.toNat s ∧ (s.chan i.toNat).st = .frozen ∧ (s.chan i.toNat).retired = false ∧ (s.chan i.toNat).resume = false ∧ (s.chan i.toNat).discard = false ∧ s.tierClocked (tierOf i.toNat) = false) ∧
    (∃ (p : Path) (i : BitVec 10) (s : State), Acts p .tchChctl i.toNat s ∧ (s.chan i.toNat).st ≠ .frozen) ∧
    (∃ (p : Path) (i : BitVec 10) (s : State), Acts p .tchChctl i.toNat s ∧ (s.tier (tierOf i.toNat)).powered = true ∧ s.chanCode i.toNat = 2 ∧ (s.chan i.toNat).queue ≠ []) ∧
    (∃ (p : Path) (i : BitVec 10) (s : State), Acts p .tchChctl i.toNat s ∧ ((s.tier (tierOf i.toNat)).powered = false ∨ s.chanCode i.toNat ≠ 2 ∧ s.chanCode i.toNat ≠ 6 ∧ s.chanCode i.toNat ≠ 7)) ∧
    (∃ (p : Path) (i : BitVec 10) (s : State), Acts p .tchChctl i.toNat s ∧ (s.chan i.toNat).st = .frozen ∧ (s.chan i.toNat).retired = false ∧ (s.chan i.toNat).resume = false ∧ (s.chan i.toNat).discard = false ∧ (s.chan i.toNat).freqChg = false ∧ s.tierClocked (tierOf i.toNat) = true ∧ s.testing (tierOf i.toNat / 8) = false ∧ s.die.blockBusy.contains (BitVec.ofNat 8 (32 + tierOf i.toNat)) = false) := by
  refine ⟨⟨.tw, 0, fz (fun t => { t with selfRef := true }) id, ?_⟩,
    ⟨.tw, 0, live, ?_⟩,
    ⟨.tw, 0, fz id (fun c => { c with st := .serving }), ?_⟩,
    ⟨.tw, 40, live, ?_⟩,
    ⟨.tw, 0, fz id id, ?_⟩⟩ <;> (try unfold Acts) <;> (try unfold Formed) <;> (try unfold Sole) <;> decide +kernel

theorem witness_RetireAndReadinessWrites :
    (∃ (p : Path) (n : BitVec 5) (data : Word) (s : State), Acts p .tchRetire n.toNat s ∧ (∀ (c : Nat), c < 32 → BitVec.getLsbD data c = true → (s.chan (32 * n.toNat + c)).retired = true)) ∧
    (∃ (p : Path) (r : Byte) (s : State), Acts p .pcdRdy (BitVec.toNat r) s ∧ Formed s) := by
  refine ⟨⟨.tw, 0, 1, fz id (fun c => { c with retired := true }), ?_⟩,
    ⟨.tw, 3, live, ?_⟩⟩ <;> (try unfold Acts) <;> (try unfold Formed) <;> (try unfold Sole) <;> decide +kernel

theorem witness_TimeCapClassAndEventRingWrites :
    (∃ (p : Path) (s : State), Acts p .timCfg 0 s ∧ Formed s) ∧
    (∃ (p : Path) (s : State), Acts p .budCap 0 s ∧ Formed s) ∧
    (∃ (p : Path) (n : BitVec 3) (s : State), Acts p .qosTc n.toNat s ∧ Formed s) ∧
    (∃ (p : Path) (data : Word) (s : State), Acts p .rngEvtCq 0 s ∧ Formed s ∧ (fieldOf data 0 12 = s.evtCq ∨ (s.cq (fieldOf data 0 12)).st ≠ .active ∨ 2 ≤ s.cqSpare (fieldOf data 0 12))) ∧
    (∃ (p : Path) (data : Word) (s : State), Acts p .rngEvtCq 0 s ∧ Formed s ∧ fieldOf data 0 12 ≠ s.evtCq ∧ (s.cq (fieldOf data 0 12)).st = .active ∧ s.cqSpare (fieldOf data 0 12) < 2) := by
  refine ⟨⟨.tw, live, ?_⟩,
    ⟨.tw, live, ?_⟩,
    ⟨.tw, 2, live, ?_⟩,
    ⟨.tw, 0, rg0, ?_⟩,
    ⟨.tw, 1, evq, ?_⟩⟩ <;> (try unfold Acts) <;> (try unfold Formed) <;> (try unfold Sole) <;> decide +kernel

theorem witness_TierAndRegionWrites :
    (∃ (p : Path) (r : Byte) (s : State), Acts p .pcdSmap (BitVec.toNat r) s ∧ Formed s ∧ s.openWindow (BitVec.toNat r) = none) ∧
    (∃ (p : Path) (r : Byte) (s : State), Acts p .pcdSmap (BitVec.toNat r) s ∧ Formed s ∧ s.openWindow (BitVec.toNat r) ≠ none) ∧
    (∃ (p : Path) (n : BitVec 5) (data : Word) (s : State), Acts p .scbSeason n.toNat s ∧ Formed s ∧ fieldOf data 6 2 ≠ s.maxMult n.toNat) ∧
    (∃ (p : Path) (n : BitVec 5) (data : Word) (s : State), Acts p .tchTcfg n.toNat s ∧ Formed s ∧ fieldOf data 0 2 ≠ s.fld .tchTcfg n.toNat 0 2) := by
  refine ⟨⟨.tw, 7, live, ?_⟩,
    ⟨.tw, 7, wn, ?_⟩,
    ⟨.tw, 0, 0x40, live, ?_⟩,
    ⟨.tw, 0, 1, live, ?_⟩⟩ <;> (try unfold Acts) <;> (try unfold Formed) <;> (try unfold Sole) <;> decide +kernel

theorem witness_PortControlAndNodeId :
    (∃ (p : Path) (n : BitVec 2) (s : State) (data : Word), Acts p .lnkPhy0 n.toNat s ∧ Formed s ∧ fieldOf data 0 1 = 0 ∧ s.fld .lnkPhy0 n.toNat 0 1 = 1) ∧
    (∃ (p : Path) (n : BitVec 2) (s : State), Acts p .lnkCtl n.toNat s ∧ s.portEn n.toNat = true) ∧
    (∃ (p : Path) (n : BitVec 2) (s : State), Acts p .lnkCtl n.toNat s ∧ s.portEn n.toNat = false) ∧
    (∃ (p : Path) (n : BitVec 2) (s : State), Acts p .lnkCtl n.toNat s ∧ (s.port n.toNat).st = .up) ∧
    (∃ (p : Path) (n : BitVec 2) (s : State), Acts p .lnkCtl n.toNat s ∧ (s.port n.toNat).st ≠ .up) ∧
    (∃ (p : Path) (data : Word) (s : State), Acts p .lnkNode 0 s ∧ s.lnk.valid = false ∧ fieldOf data 6 1 = 1) ∧
    (∃ (p : Path) (data : Word) (s : State), Acts p .lnkNode 0 s ∧ s.lnk.valid = false ∧ fieldOf data 6 1 = 0) ∧
    (∃ (p : Path) (s : State), Acts p .lnkNode 0 s ∧ s.lnk.valid = true) := by
  refine ⟨⟨.tw, 0, p1, 0, ?_⟩,
    ⟨.tw, 0, p1, ?_⟩,
    ⟨.tw, 0, live.setCfg .lnkPhy0 0 0, ?_⟩,
    ⟨.tw, 0, live, ?_⟩,
    ⟨.tw, 1, live, ?_⟩,
    ⟨.tw, 0x47, noId, ?_⟩,
    ⟨.tw, 0, noId, ?_⟩,
    ⟨.tw, live, ?_⟩⟩ <;> (try unfold Acts) <;> (try unfold Formed) <;> (try unfold Sole) <;> decide +kernel

theorem witness_PowerControlAndWakeCauses :
    (∃ (p : Path) (s : State), Acts p .pwrCtl 0 s ∧ s.pwr.offStage = 0 ∧ s.otp.busy = none) ∧
    (∃ (p : Path) (s : State), Acts p .pwrCtl 0 s ∧ s.pwr.offStage = 0 ∧ s.otp.busy.isSome = true) ∧
    (∃ (p : Path) (s : State), Acts p .pwrCtl 0 s ∧ s.pwr.offStage ≠ 0) ∧
    (∃ (p : Path) (s : State) (code : Byte), Acts p .pwrCtl 0 s ∧ code ≠ 0 ∧ code ≠ 90) ∧
    (∃ (s : State), (s.pwr.exiting = true ∨ s.pwr.state = 0)) ∧
    (∃ (s : State), s.pwr.exiting = false ∧ s.pwr.state = 1) ∧
    (∃ (s : State), s.pwr.exiting = false ∧ s.pwr.state = 2 ∧ s.clk.parked = false ∧ s.islesDone = true ∧ s.clk.fabA = true ∧ s.clk.fabB = true) ∧
    (∃ (s : State), s.pwr.exiting = false ∧ (s.pwr.state = 2 ∨ s.pwr.state = 3) ∧ (s.clk.parked = true ∨ s.islesDone = false)) ∧
    (∃ (s : State), s.pwr.exiting = false ∧ s.pwr.state = 4) ∧
    (∃ (s : State), s.die.mode = .running ∧ s.pwr.offStage = 3 ∧ s.islesDone = true ∧ s.otp.busy = none) ∧
    (∃ (s : State), s.pwr.wakeLow = true) ∧
    (∃ (s : State), s.pwr.wakeLow = false ∧ s.die.uvIo = true) ∧
    (∃ (s : State), s.pwr.wakeLow = false ∧ s.die.uvIo = false ∧ s.die.mode = .running) ∧
    (∃ (s : State), s.pwr.wakeLow = false ∧ s.die.uvIo = false ∧ s.die.mode = .off) ∧
    (∃ (n : BitVec 2) (s : State), s.die.mode = .running ∧ (s.port n.toNat).svcRx ≠ 0) ∧
    (∃ (n : BitVec 2) (s : State), s.die.mode = .running ∧ (s.port n.toNat).svcRx = 0) ∧
    (∃ (s : State), s.pwr.wakeLeft = 0) ∧
    (∃ (s : State), s.pwr.wakeLeft ≠ 0) := by
  refine ⟨⟨.tw, live, ?_⟩,
    ⟨.tw, { ob_ 0 [] with sec := live.sec }, ?_⟩,
    ⟨.tw, offAt 1, ?_⟩,
    ⟨.tw, live, 1, ?_⟩,
    ⟨live, ?_⟩,
    ⟨pw 1, ?_⟩,
    ⟨pw 2, ?_⟩,
    ⟨parkedAt 2, ?_⟩,
    ⟨pw 4, ?_⟩,
    ⟨offAt 3, ?_⟩,
    ⟨{ live with pwr := { live.pwr with wakeLow := true } }, ?_⟩,
    ⟨io live, ?_⟩,
    ⟨live, ?_⟩,
    ⟨off, ?_⟩,
    ⟨0, { sl with pwr := (pw 3).pwr }, ?_⟩,
    ⟨0, live, ?_⟩,
    ⟨live, ?_⟩,
    ⟨{ live with pwr := { live.pwr with wakeLeft := 3 } }, ?_⟩⟩ <;> (try unfold Acts) <;> (try unfold Formed) <;> (try unfold Sole) <;> decide +kernel

theorem witness_TierGates :
    (∃ (p : Path) (data : Word) (s : State), Acts p .pwrTierGate 0 s ∧ Formed s ∧ s.pwr.state.toNat < 2 ∧ s.cfgWord .pwrTierGate 0 ≠ data) ∧
    (∃ (t : Nat) (rest : List Nat) (s : State), s.pwr.openQ = t :: rest ∧ s.gatesMove = true ∧ s.pwr.opening = none ∧ (∀ (k : Nat), s.pwr.lastOpen = some k → k + 128 ≤ s.pwr.us) ∧ s.loadFits gateLoad = true) ∧
    (∃ (s : State), (s.pwr.openQ = [] ∨ s.gatesMove = false ∨ s.pwr.opening.isSome = true ∨ (∃ k, s.pwr.lastOpen = some k ∧ s.pwr.us < k + 128) ∨ s.loadFits gateLoad = false)) ∧
    (∃ (t : BitVec 5) (s : State), s.pwr.opening = some t.toNat ∧ (∀ (k : Nat), s.pwr.lastOpen = some k → k + 200 ≤ s.pwr.us)) ∧
    (∃ (k : Nat) (s : State), s.pwr.lastOpen = some k ∧ s.pwr.us < k + 200) ∧
    (∃ (t : BitVec 5) (s : State), (s.tier t.toNat).powered = true ∧ (s.tier t.toNat).trstLow = true ∧ ¬t.toNat ∈ s.pwr.closeQ ∧ s.pwr.state.toNat < 2 ∧ s.die.mode = .running ∧ BitVec.getLsbD s.clk.tierLock t.toNat = true ∧ (s.tier t.toNat).trstAt + 10 ≤ s.now) ∧
    (∃ (t : BitVec 5) (s : State), (s.now < (s.tier t.toNat).trstAt + 10 ∨ t.toNat ∈ s.pwr.closeQ)) ∧
    (∃ (t : BitVec 5) (id : TierId) (s : State), (s.tier t.toNat).powered = true ∧ (s.tier t.toNat).trstLow = false ∧ (s.tier t.toNat).selfRef = false ∧ (s.tier t.toNat).pwrDown = false ∧ (s.tier t.toNat).awaitId = true ∧ s.identOk id = false) ∧
    (∃ (t : BitVec 5) (id : TierId) (s : State), (s.tier t.toNat).powered = true ∧ (s.tier t.toNat).trstLow = false ∧ (s.tier t.toNat).selfRef = false ∧ (s.tier t.toNat).pwrDown = false ∧ (s.tier t.toNat).awaitId = true ∧ s.identOk id = true ∧ s.tch.group ≤ t.toNat / 8 ∧ s.tch.groupRun = false ∧ (s.tier t.toNat).freqNext = none) ∧
    (∃ (t : BitVec 5) (id : TierId) (s : State), (s.tier t.toNat).powered = true ∧ (s.tier t.toNat).trstLow = false ∧ (s.tier t.toNat).selfRef = false ∧ (s.tier t.toNat).pwrDown = false ∧ (s.tier t.toNat).awaitId = true ∧ s.identOk id = true ∧ t.toNat / 8 < s.tch.group) ∧
    (∃ (t : BitVec 5) (s : State), (¬t.toNat ∈ s.pwr.closeQ ∨ s.tierQuiet t.toNat = false ∨ s.decodesDone t.toNat = false ∨ s.loadFits gateLoad = false ∨ s.pwr.offStage ≠ 2 ∧ 2 ≤ s.pwr.state.toNat ∨ ∃ k, s.pwr.lastClose = some k ∧ s.pwr.us < k + 32)) ∧
    (∃ (t : BitVec 5) (s : State), t.toNat ∈ s.pwr.closeQ ∧ s.pwr.opening ≠ some t.toNat ∧ s.tierQuiet t.toNat = true ∧ s.decodesDone t.toNat = true ∧ (s.die.mode = .running ∨ s.die.mode = .restarting) ∧ (s.pwr.offStage = 2 ∨ s.pwr.state.toNat < 2 ∧ s.pwr.exiting = false) ∧ ((s.tier t.toNat).selfRef = true ∨ (s.tier t.toNat).trstLow = true) ∧ s.loadFits gateLoad = true ∧ (∀ (k : Nat), s.pwr.lastClose = some k → k + 32 ≤ s.pwr.us)) ∧
    (∃ (t : BitVec 5) (s : State), s.die.mode = .running ∧ s.pwr.offStage = 0 ∧ BitVec.getLsbD (s.cfgWord .pwrTierGate 0) t.toNat = true) ∧
    (∃ (t : BitVec 5) (s : State), BitVec.getLsbD (s.cfgWord .pwrTierGate 0) t.toNat = false) ∧
    (∃ (s : State), Tab.wf Tier.init s.tch.tiers = true) ∧
    (∃ (r : Nat), r < 256) ∧
    (∃ (t : BitVec 5) (s : State) (k : Nat) (v : Option Slot), (k, v) ∈ (s.closeGates t.toNat).pcd.store) := by
  refine ⟨⟨.tw, 1, live, ?_⟩,
    ⟨3, [5], op0, ?_⟩,
    ⟨live, ?_⟩,
    ⟨3, op1, ?_⟩,
    ⟨5, { op1 with pwr := { op1.pwr with lastOpen := some 5, us := 204 } }, ?_⟩,
    ⟨1, at9 100 (tier1 { goodT with trstLow := true, trstAt := 90 }), ?_⟩,
    ⟨0, cl0, ?_⟩,
    ⟨1, { goodId with vendor := 0 }, tier1 { goodT with awaitId := true }, ?_⟩,
    ⟨8, goodId, { live with tch := { live.tch with group := 1, tiers := [(8, { goodT with awaitId := true })] } }, ?_⟩,
    ⟨1, goodId, tier1 { goodT with awaitId := true }, ?_⟩,
    ⟨1, live, ?_⟩,
    ⟨0, cl0, ?_⟩,
    ⟨3, live.setCfg .pwrTierGate 0 8, ?_⟩,
    ⟨3, live.setCfg .pwrTierGate 0 0xFFFFFFF7, ?_⟩,
    ⟨live, ?_⟩,
    ⟨7, ?_⟩,
    ⟨0, { live with pcd := { live.pcd with store := [(4194304, some default)] } }, 4194304, some default, ?_⟩⟩ <;> (try unfold Acts) <;> (try unfold Formed) <;> (try unfold Sole) <;> decide +kernel

theorem witness_IdleEntryAndTierRestarts :
    (∃ (q : BitVec 12) (s : State), s.sqCounts q.toNat = true) ∧
    (∃ (s : State), s.powerMoves = false) ∧
    (∃ (s : State), s.powerMoves = true ∧ s.pwr.state = 1 ∧ s.busyHost = false ∧ s.hasWork = false ∧ 2 ≤ s.chosen ∧ s.pwr.idleSince + s.fld .pwrCfg 0 0 16 ≤ s.now ∧ s.stackQuiet = true) ∧
    (∃ (s : State) (q : BitVec 12), s.powerMoves = true ∧ s.pwr.state = 1 ∧ s.busyHost = false ∧ s.hasWork = false ∧ 2 ≤ s.chosen ∧ s.pwr.idleSince + s.fld .pwrCfg 0 0 16 ≤ s.now ∧ s.stackQuiet = true ∧ s.sqCounts q.toNat = false) ∧
    (∃ (s : State), s.powerMoves = true ∧ s.pwr.state = 1 ∧ s.busyHost = false ∧ s.chosen ≠ 0 ∧ s.now < s.pwr.idleSince + s.fld .pwrCfg 0 0 16) ∧
    (∃ (t : Nat) (rest : List Nat) (s : State), s.pwr.restart = t :: rest ∧ (s.tier t).powered = true ∧ BitVec.getLsbD s.clk.tierLock t = false) ∧
    (∃ (t : Nat) (rest : List Nat) (s : State), s.pwr.restart = t :: rest ∧ (∃ k, s.pwr.restartAt = some k ∧ s.now < k)) ∧
    (∃ (t : Nat) (rest : List Nat) (s : State), s.pwr.restart = t :: rest ∧ (s.loadFits tierLoad = false ∨ s.srxSpaced = false ∨ s.islesDone = false)) ∧
    (∃ (t : Nat) (rest : List Nat) (s : State), s.pwr.restart = t :: rest ∧ (s.tier t).powered = false ∧ (∀ (k : Nat), s.pwr.restartAt = some k → k ≤ s.now) ∧ s.loadFits tierLoad = true ∧ s.srxSpaced = true ∧ s.islesDone = true ∧ rest ≠ []) := by
  refine ⟨⟨3, { live with rng := { live.rng with sqs := [(3, { SqCtx.init with st := .active, usedAt := some 0 })] } }, ?_⟩,
    ⟨up, ?_⟩,
    ⟨idle, ?_⟩,
    ⟨idle, 3, ?_⟩,
    ⟨{ idle with pwr := { idle.pwr with idleSince := 999999 } }, ?_⟩,
    ⟨0, [1], { rest with clk := { rest.clk with tierLock := 0 } }, ?_⟩,
    ⟨0, [1], rest, ?_⟩,
    ⟨1, [0], isled, ?_⟩,
    ⟨1, [0], rest10, ?_⟩⟩ <;> (try unfold Acts) <;> (try unfold Formed) <;> (try unfold Sole) <;> decide +kernel

theorem witness_HardAndWarmResets :
    (∃ (c : Instr) (cause : BitVec 4) (s : State), ((∃ p, c = Instr.rstCtlHard p 195 ∧ Acts p .rstCtl 0 s ∧ cause = 5) ∨ ∃ ns, c = Instr.resetNLow ns ∧ 1000 ≤ ns ∧ cause = 4 ∧ s.die.uvIo = false ∧ (s.die.mode = .running ∨ s.die.mode = .restarting ∨ s.die.mode = .safe ∨ s.die.mode = .clickHold))) ∧
    (∃ (ns : Nat), ns < 100) ∧
    (∃ (ns : Nat) (s : State), 1000 ≤ ns ∧ s.die.uvIo = true) ∧
    (∃ (ns : Nat) (s : State), 100 ≤ ns ∧ ns < 1000 ∧ s.die.uvIo = true) ∧
    (∃ (ns : Nat) (s : State), 100 ≤ ns ∧ ns < 1000 ∧ s.die.uvIo = false) ∧
    (∃ (p : Path) (s : State), Acts p .rstCtl 0 s) ∧
    (∃ (p : Path) (s : State) (key : Byte), Acts p .rstCtl 0 s ∧ key ≠ 195) := by
  refine ⟨⟨.rstCtlHard .tw 0xC3, 5, live, Or.inl ⟨.tw, rfl, (by unfold Acts; decide +kernel), rfl⟩⟩,
    ⟨99, ?_⟩,
    ⟨1000, io live, ?_⟩,
    ⟨999, io live, ?_⟩,
    ⟨999, live, ?_⟩,
    ⟨.tw, live, ?_⟩,
    ⟨.tw, live, 0xC2, ?_⟩⟩ <;> (try unfold Acts) <;> (try unfold Formed) <;> (try unfold Sole) <;> decide +kernel

theorem witness_ResetHoldAndStartUp :
    (∃ (s : State), s.die.mode = .resetHold ∧ s.die.resetLow = false ∧ (s.die.kind ≠ ResetKind.hard ∨ 20 ≤ s.die.markUs)) ∧
    (∃ (s : State), s.die.kind = ResetKind.hard ∧ s.die.markUs < 20) ∧
    (∃ (s : State), s.die.mode = .resetHold ∧ s.die.resetLow = true) ∧
    (∃ (s : State), s.die.mode = .resetHold ∧ s.die.cause = 4 ∧ s.die.uvIo = false) ∧
    (∃ (s : State), s.die.mode ≠ .resetHold ∧ s.die.uvIo = false) ∧
    (∃ (s : State), s.die.mode ≠ .resetHold ∧ s.die.uvIo = true) ∧
    (∃ (s : State), s.die.mode = .porstLow) ∧
    (∃ (s : State), s.die.mode = .startWatch ∧ s.die.resetLow = false) ∧
    (∃ (s : State), s.die.mode = .startWatch ∧ s.die.resetLow = true) ∧
    (∃ (s : State), s.die.mode = .safe) ∧
    (∃ (s : State), (s.die.mode = .startWatch ∨ s.die.mode = .safe ∧ s.die.rcReady = false)) ∧
    (∃ (s : State), s.die.mode ≠ .startWatch ∧ s.die.mode ≠ .safe) ∧
    (∃ (s : State), s.die.mode ≠ .startWatch ∧ (s.die.mode ≠ .safe ∨ s.die.rcReady = true)) := by
  refine ⟨⟨holdC 5 false, ?_⟩,
    ⟨hard10 19, ?_⟩,
    ⟨holdC 4 true, ?_⟩,
    ⟨holdC 4 true, ?_⟩,
    ⟨live, ?_⟩,
    ⟨io live, ?_⟩,
    ⟨State.reset, ?_⟩,
    ⟨sw false, ?_⟩,
    ⟨sw true, ?_⟩,
    ⟨md .safe, ?_⟩,
    ⟨sw false, ?_⟩,
    ⟨live, ?_⟩,
    ⟨live, ?_⟩⟩ <;> (try unfold Acts) <;> (try unfold Formed) <;> (try unfold Sole) <;> decide +kernel

theorem witness_PowerOnResetLosesAllButTheFuses :
    (∃ (s : State), s.otp.busy = none) ∧
    (∃ (s : State) (c : Instr), s.die.mode ≠ .porstLow ∧ ((c = Instr.powerOnReset PorCause.aonUv ∨ c = Instr.railUndervoltage Rail.aon) ∨ c = Instr.powerOnReset PorCause.coreUv ∨ c = Instr.railUndervoltage Rail.core)) := by
  refine ⟨⟨live, ?_⟩,
    ⟨live, .powerOnReset .aonUv, ?_⟩⟩ <;> (try unfold Acts) <;> (try unfold Formed) <;> (try unfold Sole) <;> decide +kernel

theorem witness_RestartSteps :
    (∃ (s : State), (s.die.mode ≠ .restarting ∨ s.otp.sensed = true)) ∧
    (∃ (s : State), s.die.mode = .restarting ∧ s.otp.sensed = false) ∧
    (∃ (s : State), (s.tw.bootRead = false ∨ s.clk.xtalGood = false)) ∧
    (∃ (s : State), s.tw.bootRead = true ∧ s.clk.xtalGood = true ∧ lengthFits (imageLength s.die.image) = true ∧ s.die.image.length = imageLength s.die.image ∧ s.bst.memDone ≠ 65535) ∧
    (∃ (s : State), s.die.mode = .running ∧ s.die.hiveRun = false ∧ s.tw.busy = false ∧ s.die.imageRead = false ∧ s.bst.memDone.getLsbD 0 = true ∧ s.bst.memFail.getLsbD 0 = false ∧ s.die.blockBusy.contains blkHive = false ∧ s.die.imageAt + 1000000 ≤ s.die.markUs) ∧
    (∃ (s : State), (s.die.mode ≠ .running ∨ s.die.hiveRun = true ∨ s.tw.busy = true ∨ s.die.markUs < s.die.imageAt + 1000000)) ∧
    (∃ (s : State), (s.die.mode ≠ .running ∨ s.hiveOk = false ∨ s.die.dataService = true ∨ s.tch.group < 4 ∨ s.firstRounds = false ∨ s.otp.trusted.getLsbD 1 = false)) ∧
    (∃ (s : State), s.die.mode = .running ∧ s.hiveOk = true ∧ s.die.dataService = false ∧ 4 ≤ s.tch.group ∧ s.firstRounds = true ∧ s.otp.trusted.getLsbD 1 = true ∧ imageField s.die.image 14 2 % 2 = 0) := by
  refine ⟨⟨live, ?_⟩,
    ⟨rstg, ?_⟩,
    ⟨live, ?_⟩,
    ⟨img, ?_⟩,
    ⟨retry, ?_⟩,
    ⟨{ retry with die := { retry.die with markUs := 999999 } }, ?_⟩,
    ⟨live, ?_⟩,
    ⟨dsv, ?_⟩⟩ <;> (try unfold Acts) <;> (try unfold Formed) <;> (try unfold Sole) <;> decide +kernel

theorem witness_BlockResetsStartAndEnd :
    (∃ (p : Path) (data : Word) (s : State), Acts p .rstBlock 0 s ∧ fieldOf data 8 8 ≠ 60) ∧
    (∃ (p : Path) (data : Word) (s : State), Acts p .rstBlock 0 s ∧ fieldOf data 8 8 = 60 ∧ (isBlock (BitVec.setWidth 8 data) = false ∨ s.die.resetting (BitVec.setWidth 8 data) = true)) ∧
    (∃ (p : Path) (data : Word) (s : State), Acts p .rstBlock 0 s ∧ fieldOf data 8 8 = 60 ∧ isBlock (BitVec.setWidth 8 data) = true ∧ s.die.resetting (BitVec.setWidth 8 data) = false ∧ Option.any s.testing (blockPart (BitVec.setWidth 8 data)) = true) ∧
    (∃ (p : Path) (data : Word) (s : State), Acts p .rstBlock 0 s ∧ fieldOf data 0 16 = 15368 ∧ s.die.resetting 8 = false ∧ s.testing 5 = false) ∧
    (∃ (p : Path) (data : Word) (s : State), Acts p .rstBlock 0 s ∧ fieldOf data 0 16 = 15369 ∧ s.die.resetting 9 = false) ∧
    (∃ (p : Path) (data : Word) (s : State), Acts p .rstBlock 0 s ∧ fieldOf data 0 16 = 15366 ∧ s.die.resetting 6 = false ∧ s.testing 5 = false) ∧
    (∃ (b : Byte) (s : State), s.regs.late = [] ∧ s.die.blockBusy.contains b = false) ∧
    (∃ (b : Byte) (s : State), s.regs.late = [] ∧ BitVec.toNat b < 32 ∧ b ≠ 10 ∧ s.die.blockBusy.contains b = true) ∧
    (∃ (s : State), s.regs.late = [] ∧ s.die.blockBusy.contains 10 = true ∧ s.die.mode = .running ∧ s.bst.memDone.getLsbD 0 = true ∧ s.bst.memFail.getLsbD 0 = false ∧ s.die.imageOk = true ∧ s.die.hiveMem = [] ∧ s.otp.queue = []) := by
  refine ⟨⟨.tw, 0x3D08, live, ?_⟩,
    ⟨.tw, 0x3CFF, live, ?_⟩,
    ⟨.tw, 0x3C08, inSeg 5, ?_⟩,
    ⟨.tw, 0x3C08, live, ?_⟩,
    ⟨.tw, 0x3C09, live, ?_⟩,
    ⟨.tw, 0x3C06, live, ?_⟩,
    ⟨3, live, ?_⟩,
    ⟨8, busyB 8, ?_⟩,
    ⟨{ hv with bst := { hv.bst with memDone := 1 } }, ?_⟩⟩ <;> (try unfold Acts) <;> (try unfold Formed) <;> (try unfold Sole) <;> decide +kernel

theorem witness_TicksTimeSetsAndNodeEpochs :
    (∃ (s : State), s.die.blockPend = [] ∧ s.regs.late = [] ∧ s.lnk.parked = [] ∧ s.rng.held = [] ∧ s.rng.evLost = 0 ∧ (s.die.mode = .off ∨ s.die.mode = .porstLow)) ∧
    (∃ (s : State), s.die.blockPend = [] ∧ s.regs.late = [] ∧ s.lnk.parked = [] ∧ s.rng.held = [] ∧ s.rng.evLost = 0 ∧ s.die.mode ≠ .off ∧ s.die.mode ≠ .porstLow ∧ (s.tim.held = true ∨ s.die.mode = .safe)) ∧
    (∃ (s : State), s.die.blockPend = [] ∧ s.regs.late = [] ∧ s.lnk.parked = [] ∧ s.rng.held = [] ∧ s.rng.evLost = 0 ∧ s.die.mode ≠ .off ∧ s.die.mode ≠ .porstLow ∧ s.die.mode ≠ .safe ∧ s.tim.held = false ∧ s.pwr.offStage = 0 ∧ s.bst.retain = none) ∧
    (∃ (t : Tim), t.bend ≠ 0) ∧
    (∃ (t : Tim), t.slew = 0) ∧
    (∃ (s : State), (s.scheduled = false ∨ s.now < s.tim.epochEnd)) ∧
    (∃ (s : State), s.scheduled = true ∧ s.tim.epochEnd ≤ s.now) ∧
    (∃ (n : BitVec 2) (ts : TimeSet) (s : State), s.timeValid n.toNat ts = false) ∧
    (∃ (n : BitVec 2) (ts : TimeSet) (s : State), s.timeValid n.toNat ts = true ∧ s.tim.orphan = false ∧ ((ts.count.toNat : Int) * 16000 + ((BitVec.toNat ts.corr : Nat) : Int) + (((s.port n.toNat).delay.toNat : Nat) : Int) - ((s.now : Int) * 16000 + (ts.frac : Int))).natAbs ≤ 16000) ∧
    (∃ (n : BitVec 2) (ts : TimeSet) (s : State), s.timeValid n.toNat ts = true ∧ s.tim.orphan = true ∧ s.tim.prevDiff = none) ∧
    (∃ (n : BitVec 2) (ts : TimeSet) (s : State), s.timeValid n.toNat ts = true ∧ s.tim.orphan = true ∧ (∃ d, s.tim.prevDiff = some d ∧ ((ts.count.toNat : Int) * 16000 + ((BitVec.toNat ts.corr : Nat) : Int) + (((s.port n.toNat).delay.toNat : Nat) : Int) - ((s.now : Int) * 16000 + (ts.frac : Int)) - d).natAbs ≤ 16000)) ∧
    (∃ (s : State), s.tim.orphan = false ∧ s.tim.lastSetAt + s.fld .timCfg 0 16 16 ≤ s.now) ∧
    (∃ (s : State), (s.tim.orphan = true ∨ s.now < s.tim.lastSetAt + s.fld .timCfg 0 16 16)) := by
  refine ⟨⟨State.reset, ?_⟩,
    ⟨held_, ?_⟩,
    ⟨live, ?_⟩,
    ⟨{ live.tim with slew := 7 }, ?_⟩,
    ⟨{ live.tim with slew := 0 }, ?_⟩,
    ⟨live, ?_⟩,
    ⟨ep, ?_⟩,
    ⟨1, mkTs 1000, live, ?_⟩,
    ⟨0, mkTs 1001, lk false none, ?_⟩,
    ⟨0, mkTs 5000, lk true none, ?_⟩,
    ⟨0, mkTs 5000, lk true (some 64016000), ?_⟩,
    ⟨orph, ?_⟩,
    ⟨live, ?_⟩⟩ <;> (try unfold Acts) <;> (try unfold Formed) <;> (try unfold Sole) <;> decide +kernel

theorem witness_ClassLimitsAndAdmission :
    (∃ (s : State), (s.now < s.qos.lastStep + s.fld .qosCfg 0 16 6 ∨ 2 ≤ s.pwr.state.toNat)) ∧
    (∃ (s : State), s.qos.lastStep + s.fld .qosCfg 0 16 6 ≤ s.now ∧ s.pwr.state.toNat < 2 ∧ Tab.wf Chan.init s.tch.chans = true) ∧
    (∃ (s : State), s.qos.causes = 0 ∧ s.qos.stale = false) ∧
    (∃ (s : State), (s.qos.causes ≠ 0 ∨ s.qos.stale = true) ∧ s.hiveOk = false) ∧
    (∃ (s : State), (s.qos.causes ≠ 0 ∨ s.qos.stale = true) ∧ s.hiveOk = true) := by
  refine ⟨⟨pw 2, ?_⟩,
    ⟨at9 100000 live, ?_⟩,
    ⟨live, ?_⟩,
    ⟨{ adm with die := { adm.die with hiveRun := false } }, ?_⟩,
    ⟨adm, ?_⟩⟩ <;> (try unfold Acts) <;> (try unfold Formed) <;> (try unfold Sole) <;> decide +kernel

theorem witness_RailsAndTheClick :
    (∃ (r : Rail) (d : BitVec 64), (r = Rail.vddT ∧ d = 1 ∨ r = Rail.vppT ∧ d = 2)) ∧
    (∃ (s : State), (s.die.mode ≠ .clickHold ∨ s.thm.hold = false ∨ s.thm.noRestart = true ∨ s.now < s.thm.latchAt + 10000000 ∨ ∃ k, k ∈ s.sources ∧ s.thmLimit 24 ≤ s.sourceTemp k)) ∧
    (∃ (s : State), s.die.mode = .clickHold ∧ s.thm.hold = true ∧ s.thm.noRestart = false ∧ s.thm.latchAt + 10000000 ≤ s.now ∧ (∀ (k : Nat), k ∈ s.sources → s.sourceTemp k < s.thmLimit 24)) ∧
    (∃ (t : BitVec 5) (s : State), (BitVec.getLsbD s.die.goodAtCause t.toNat = false ∨ BitVec.getLsbD s.die.retain t.toNat = false ∨ s.die.dataService = true)) ∧
    (∃ (t : BitVec 5) (s : State), BitVec.getLsbD s.die.goodAtCause t.toNat = true ∧ BitVec.getLsbD s.die.retain t.toNat = true ∧ s.die.dataService = false) := by
  refine ⟨⟨.vddT, 1, ?_⟩,
    ⟨live, ?_⟩,
    ⟨click 10000005, ?_⟩,
    ⟨0, live, ?_⟩,
    ⟨0, quie, ?_⟩⟩ <;> (try unfold Acts) <;> (try unfold Formed) <;> (try unfold Sole) <;> decide +kernel

theorem witness_CrystalAndPlls :
    (∃ (s : State), (s.clocksRun = false ∨ s.clk.xtalGood = true)) ∧
    (∃ (s : State), s.clk.back = 1 ∧ (s.clk.fabA = false ∨ s.clk.fabB = false)) ∧
    (∃ (s : State), s.clk.back = 1 ∧ s.clk.fabA = true ∧ s.clk.fabB = true) ∧
    (∃ (s : State), s.clk.back = 2 ∧ s.islesDone = true) ∧
    (∃ (s : State), s.clk.back = 3 ∧ s.pwr.restart = []) ∧
    (∃ (s : State), s.clocksRun = true ∧ s.clk.xtalGood = false ∧ s.clk.xtalEver = false) ∧
    (∃ (s : State), (s.clocksRun = false ∨ s.clk.xtalGood = true ∨ s.clk.xtalEver = true)) ∧
    (∃ (s : State), (s.clocksRun = false ∨ s.clk.xtalGood = false)) ∧
    (∃ (s : State), s.clocksRun = true ∧ s.clk.xtalGood = true) ∧
    (∃ (s : State), s.clocksRun = false ∧ (s.die.mode ≠ .off ∨ s.die.rcReady = false)) ∧
    (∃ (s : State), (s.clocksRun = true ∨ s.die.mode = .off ∧ s.die.rcReady = true)) ∧
    (∃ (s : State), s.clk.xtalGood = true ∧ s.die.mode ≠ .off ∧ (s.pwr.state.toNat < 3 ∨ s.pwr.exiting = true)) ∧
    (∃ (s : State) (k : BitVec 6) (t : Nat), s.clk.xtalGood = true ∧ s.die.mode ≠ .off ∧ (s.pwr.state.toNat < 3 ∨ s.pwr.exiting = true) ∧ k.toNat = t + 2 ∧ t < 32 ∧ ((s.tier t).changing = false ∨ (s.tier t).selfRef = false ∨ s.loadFits tierLoad = false ∨ s.srxSpaced = false)) ∧
    (∃ (s : State) (k : BitVec 6) (t : Nat), s.clk.xtalGood = true ∧ s.die.mode ≠ .off ∧ (s.pwr.state.toNat < 3 ∨ s.pwr.exiting = true) ∧ k.toNat = t + 2 ∧ t < 32 ∧ (s.tier t).changing = true ∧ (s.tier t).selfRef = true ∧ s.loadFits tierLoad = true ∧ s.srxSpaced = true) ∧
    (∃ (s : State) (k : BitVec 6) (n : Nat), s.clk.xtalGood = true ∧ s.die.mode ≠ .off ∧ k.toNat = n + 34 ∧ n < 4) ∧
    (∃ (s : State) (k : BitVec 6), s.clk.xtalGood = true ∧ s.die.mode ≠ .off ∧ k.toNat < 34 ∧ 3 ≤ s.pwr.state.toNat ∧ s.pwr.exiting = false) ∧
    (∃ (k : BitVec 6) (s : State), (s.clk.xtalGood = false ∨ 38 ≤ k.toNat ∨ s.die.mode = .off)) ∧
    (∃ (k : BitVec 6) (s : State), (s.pllLocked k.toNat = false ∨ s.clocksRun = false)) ∧
    (∃ (k : BitVec 6) (s : State), s.pllLocked k.toNat = true ∧ s.clocksRun = true) := by
  refine ⟨⟨live, ?_⟩,
    ⟨backAt 1 false, ?_⟩,
    ⟨backAt 1 true, ?_⟩,
    ⟨backAt 2 true, ?_⟩,
    ⟨backAt 3 true, ?_⟩,
    ⟨noX false false, ?_⟩,
    ⟨live, ?_⟩,
    ⟨State.reset, ?_⟩,
    ⟨{ live with die := { live.die with mode := .safe } }, ?_⟩,
    ⟨State.reset, ?_⟩,
    ⟨live, ?_⟩,
    ⟨live, ?_⟩,
    ⟨live, 2, 0, ?_⟩,
    ⟨chT, 2, 0, ?_⟩,
    ⟨live, 34, 0, ?_⟩,
    ⟨{ live with pwr := { live.pwr with state := 3 } }, 33, ?_⟩,
    ⟨38, live, ?_⟩,
    ⟨38, live, ?_⟩,
    ⟨1, live, ?_⟩⟩ <;> (try unfold Acts) <;> (try unfold Formed) <;> (try unfold Sole) <;> decide +kernel

theorem witness_SensorsCalibrationAndEyes :
    (∃ (t : BitVec 5) (s : State), (s.tier t.toNat).powered = false) ∧
    (∃ (t : BitVec 5) (frame : BitVec 12) (s : State), (s.tier t.toNat).powered = true ∧ s.samples = false ∧ frame.getLsbD 11 = true ∧ oddOnes frame = false) ∧
    (∃ (t : BitVec 5) (frame : BitVec 12) (s : State), (s.tier t.toNat).powered = true ∧ s.samples = true ∧ (frame.getLsbD 11 = false ∨ oddOnes frame = true) ∧ Tab.get 0 s.thm.badRun t.toNat + 1 < 8) ∧
    (∃ (t : BitVec 5) (frame : BitVec 12) (s : State), (s.tier t.toNat).powered = true ∧ s.samples = true ∧ (frame.getLsbD 11 = false ∨ oddOnes frame = true) ∧ 8 ≤ Tab.get 0 s.thm.badRun t.toNat + 1 ∧ BitVec.getLsbD s.thm.suspect t.toNat = false) ∧
    (∃ (t : BitVec 5) (frame : BitVec 12) (s : State), (s.tier t.toNat).powered = true ∧ s.samples = true ∧ frame.getLsbD 11 = true ∧ oddOnes frame = false) ∧
    (∃ (base : List (BitVec 10)) (s : State), s.samples = true ∧ base.length = 16) ∧
    (∃ (s : State), (s.thm.graceAt = none ∨ s.thm.throt = [] ∨ ∃ a, s.thm.graceAt = some a ∧ s.now < a + 1000 * s.thm.graceLen)) ∧
    (∃ (s : State) (a : Nat), s.thm.graceAt = some a ∧ s.thm.throt ≠ [] ∧ a + 1000 * s.thm.graceLen ≤ s.now) ∧
    (∃ (k : Nat) (s : State), k < 32 ∧ s.thm.hold = false ∧ s.die.mode = .running ∧ s.thmLimit 16 ≤ s.sampleOf k) ∧
    (∃ (item : CalItem) (s : State), (s.cal.running.contains (CalItem.index item) = false ∨ s.probesDone (CalItem.index item) = false)) ∧
    (∃ (item : CalItem) (s : State), s.cal.running.contains (CalItem.index item) = true ∧ s.probesDone (CalItem.index item) = true) ∧
    (∃ (n : BitVec 2) (k : BitVec 3) (m : BitVec 7) (s : State) (eye : Byte), BitVec.toNat eye = min 255 (4 * m.toNat) ∧ (s.port n.toNat).phase = .laneTrain ∧ ((s.port n.toNat).lane k.toNat).enabled = true) ∧
    (∃ (n : BitVec 2) (m : BitVec 7) (s : State) (eye : Byte), BitVec.toNat eye = min 255 (4 * m.toNat) ∧ (s.port n.toNat).phase ≠ .laneTrain ∧ (s.port n.toNat).st ≠ .up) ∧
    (∃ (n : BitVec 2) (m : BitVec 7) (s : State) (eye : Byte), BitVec.toNat eye = min 255 (4 * m.toNat) ∧ (s.port n.toNat).st = .up ∧ s.fld .lnkPhy0 n.toNat 16 8 ≤ BitVec.toNat eye) ∧
    (∃ (n : BitVec 2) (k : BitVec 3) (m : BitVec 7) (s : State) (eye : Byte), BitVec.toNat eye = min 255 (4 * m.toNat) ∧ (s.port n.toNat).st = .up ∧ BitVec.toNat eye < s.fld .lnkPhy0 n.toNat 16 8 ∧ BitVec.getLsbD (s.port n.toNat).lanes k.toNat = true ∧ s.flag .lnkPhy0 n.toNat 24 = true) := by
  refine ⟨⟨3, live, ?_⟩,
    ⟨0, 0x801, { live with die := { live.die with rcReady := false } }, ?_⟩,
    ⟨0, 0x123, bad 6, ?_⟩,
    ⟨0, 0x123, bad 7, ?_⟩,
    ⟨0, 0x801, live, ?_⟩,
    ⟨(List.range 16).map fun k => BitVec.ofNat 10 (100+k), live, ?_⟩,
    ⟨live, ?_⟩,
    ⟨grace 95000, 95000, ?_⟩,
    ⟨0, hot, ?_⟩,
    ⟨.tier 0, live, ?_⟩,
    ⟨.tier 3, calRun, ?_⟩,
    ⟨0, 1, 64, lanePort .laneTrain, 255, ?_⟩,
    ⟨0, 64, lanePort .down, 255, ?_⟩,
    ⟨0, 64, lanePort .up, 255, ?_⟩,
    ⟨0, 1, 1, lanePort .up, 4, ?_⟩⟩ <;> (try unfold Acts) <;> (try unfold Formed) <;> (try unfold Sole) <;> decide +kernel

theorem witness_CommandTurnsAndStarts :
    (∃ (id : Nat) (s : State), s.cmd id = none) ∧
    (∃ (op : Op) (id : Nat) (s : State) (c : Cmd), s.cmd id = some c ∧ (c.op ≠ op ∨ c.final.isSome = true)) ∧
    (∃ (id : Nat) (s : State) (c : Cmd), s.cmd id = some c ∧ s.engineTested c = true) ∧
    (∃ (op : Op) (id : Nat) (s : State) (c : Cmd) (x : Cmd), s.cmd id = some c ∧ c.started = false ∧ op ≠ .abort ∧ x ∈ s.rng.cmds ∧ x.id < c.id ∧ x.sq = c.sq ∧ (c.desc.fence = true ∨ x.desc.fence = true)) ∧
    (∃ (id : Nat) (s : State) (c : Cmd), s.cmd id = some c ∧ c.started = true ∧ (c.count ≤ c.next ∨ c.stopped = true ∨ c.aborted = true)) ∧
    (∃ (c : Cmd) (s : State), Sole c s ∧ c.waitIds = [] ∧ c.waitMrg = [] ∧ (c.op = .read ∨ c.op = .copy ∨ c.op = .compare ∨ c.op = .check ∨ c.op = .verify ∨ c.op = .repair ∨ c.op = .sanitize ∧ (c.key = 0 ∨ c.phase = 2) ∨ (c.op = .write ∨ c.op = .fill) ∧ s.keyEmpty c = false)) ∧
    (∃ (c : Cmd) (s : State), Sole c s ∧ c.waitIds = [] ∧ c.waitMrg = [] ∧ (c.op = .write ∧ s.sqStream c.sq = false ∨ c.op = .fill ∧ c.desc.opnd0 ≠ 0 ∧ c.desc.opnd3 = 0) ∧ s.keyEmpty c = true) ∧
    (∃ (c : Cmd) (s : State), Sole c s ∧ c.waitIds = [] ∧ c.waitMrg = [] ∧ c.op = .sanitize ∧ c.key ≠ 0 ∧ c.phase = 1) := by
  refine ⟨⟨3, live, ?_⟩,
    ⟨.write, 4, rs (cmd0 .read), cmd0 .read, ?_⟩,
    ⟨4, inBist 4 (rs (cmd0 .read)), cmd0 .read, ?_⟩,
    ⟨.read, 4, two, cmd0 .read, fen, ?_⟩,
    ⟨4, rs { cmd0 .read with started := true, stopped := true }, { cmd0 .read with started := true, stopped := true }, ?_⟩,
    ⟨cmd0 .read, rs (cmd0 .read), ?_⟩,
    ⟨wrk, rs wrk, ?_⟩,
    ⟨{ cmd0 .sanitize with key := 9, phase := 1 }, rs { cmd0 .sanitize with key := 9, phase := 1 }, ?_⟩⟩ <;> (try unfold Acts) <;> (try unfold Formed) <;> (try unfold Sole) <;> decide +kernel

theorem witness_CommandsWithoutBlocksEnd :
    (∃ (c : Cmd) (s : State), Sole c s ∧ c.waitIds = [] ∧ c.waitMrg = [] ∧ c.op = .nop) ∧
    (∃ (c : Cmd) (s : State), Sole c s ∧ c.waitIds = [] ∧ c.waitMrg = [] ∧ c.op = .flush) ∧
    (∃ (c : Cmd) (s : State), Sole c s ∧ c.waitIds = [] ∧ c.waitMrg = [] ∧ c.op = .setLatency ∧ List.Pairwise (fun x1 x2 => x1 < x2) (List.map Prod.fst s.regs.cfg) ∧ BitVec.getLsbD c.desc.opnd0 16 = true) ∧
    (∃ (c : Cmd) (s : State), Sole c s ∧ c.waitIds = [] ∧ c.waitMrg = [] ∧ c.op = .setLatency ∧ List.Pairwise (fun x1 x2 => x1 < x2) (List.map Prod.fst s.regs.cfg) ∧ BitVec.getLsbD c.desc.opnd0 16 = false) ∧
    (∃ (c : Cmd) (s : State), Sole c s ∧ c.waitIds = [] ∧ c.waitMrg = [] ∧ c.op = .abort ∧ c.abOk = 0) := by
  refine ⟨⟨cmd0 .nop, rs (cmd0 .nop), ?_⟩,
    ⟨cmd0 .flush, rs (cmd0 .flush), ?_⟩,
    ⟨{ cmd0 .setLatency with desc := { (default : Desc) with cid := 0x77, opnd0 := 0x10005 } }, rs { cmd0 .setLatency with desc := { (default : Desc) with cid := 0x77, opnd0 := 0x10005 } }, ?_⟩,
    ⟨{ cmd0 .setLatency with desc := { (default : Desc) with cid := 0x77, opnd0 := 5 } }, rs { cmd0 .setLatency with desc := { (default : Desc) with cid := 0x77, opnd0 := 5 } }, ?_⟩,
    ⟨{ cmd0 .abort with aux := 1 }, rs { cmd0 .abort with aux := 1 }, ?_⟩⟩ <;> (try unfold Acts) <;> (try unfold Formed) <;> (try unfold Sole) <;> decide +kernel

theorem witness_KeyCommands :
    (∃ (c : Cmd) (s : State), Sole c s ∧ c.waitIds = [] ∧ c.waitMrg = [] ∧ c.op = .keyDestroy ∧ c.phase = 2) ∧
    (∃ (c : Cmd) (s : State), Sole c s ∧ c.waitIds = [] ∧ c.waitMrg = [] ∧ c.op = .keyDestroy ∧ c.phase = 0) ∧
    (∃ (c : Cmd) (s : State), Sole c s ∧ c.waitIds = [] ∧ c.waitMrg = [] ∧ c.op = .keyDestroy ∧ c.phase = 1) ∧
    (∃ (c : Cmd) (s : State), Sole c s ∧ c.waitIds = [] ∧ c.waitMrg = [] ∧ c.op = .keyLoad ∧ s.sec.erasing = [] ∧ s.secOut = true) ∧
    (∃ (c : Cmd) (s : State), Sole c s ∧ c.waitIds = [] ∧ c.waitMrg = [] ∧ c.op = .keyLoad ∧ s.sec.erasing = [] ∧ s.secOut = false ∧ s.keyPair = false) ∧
    (∃ (c : Cmd) (s : State), Sole c s ∧ c.waitIds = [] ∧ c.waitMrg = [] ∧ c.op = .keyLoad ∧ s.sec.erasing = [] ∧ s.secOut = false ∧ s.keyPair = true ∧ Tab.get [] s.sec.slots c.key.toNat ≠ []) ∧
    (∃ (c : Cmd) (s : State), Sole c s ∧ c.waitIds = [] ∧ c.waitMrg = [] ∧ c.op = .keyLoad ∧ s.sec.erasing = [] ∧ s.secOut = false ∧ s.keyPair = true ∧ Tab.get [] s.sec.slots c.key.toNat = [] ∧ s.rng.mrdQ = [] ∧ s.freeTag.isSome = true) ∧
    (∃ (c : Cmd) (s : State), Sole c s ∧ c.waitIds = [] ∧ c.waitMrg = [] ∧ c.op = .attest ∧ s.hiveOk = false) ∧
    (∃ (c : Cmd) (s : State), Sole c s ∧ c.waitIds = [] ∧ c.waitMrg = [] ∧ c.op = .attest ∧ s.hiveOk = true ∧ s.secOut = true) ∧
    (∃ (c : Cmd) (s : State), Sole c s ∧ c.waitIds = [] ∧ c.waitMrg = [] ∧ c.op = .attest ∧ s.hiveOk = true ∧ s.secOut = false ∧ s.keyPair = false) ∧
    (∃ (c : Cmd) (s : State), Sole c s ∧ c.waitIds = [] ∧ c.waitMrg = [] ∧ c.op = .attest ∧ s.hiveOk = true ∧ s.secOut = false ∧ s.keyPair = true ∧ s.rng.mrdQ = [] ∧ s.freeTag.isSome = true) ∧
    (∃ (k : BitVec 10) (s : State), s.dbg.erasing = false ∧ (∀ (e : Nat × Nat), e ∈ s.sec.erasing → e.fst ≠ k.toNat)) ∧
    (∃ (k : BitVec 10) (s : State) (id : Nat) (l : List (Nat × Nat)), s.dbg.erasing = false ∧ s.sec.erasing = (k.toNat, id) :: l ∧ s.keyUsers k.toNat id = [] ∧ s.secOut = true) ∧
    (∃ (k : BitVec 10) (s : State) (id : Nat) (l : List (Nat × Nat)), s.dbg.erasing = false ∧ s.sec.erasing = (k.toNat, id) :: l ∧ s.keyUsers k.toNat id = [] ∧ s.secOut = false) := by
  refine ⟨⟨{ cmd0 .keyDestroy with phase := 2 }, rs { cmd0 .keyDestroy with phase := 2 }, ?_⟩,
    ⟨{ cmd0 .keyDestroy with phase := 0 }, rs { cmd0 .keyDestroy with phase := 0 }, ?_⟩,
    ⟨{ cmd0 .keyDestroy with phase := 1 }, rs { cmd0 .keyDestroy with phase := 1 }, ?_⟩,
    ⟨cmd0 .keyLoad, noEng (rs (cmd0 .keyLoad)), ?_⟩,
    ⟨cmd0 .keyLoad, rs (cmd0 .keyLoad), ?_⟩,
    ⟨cmd0 .keyLoad, kp { rs (cmd0 .keyLoad) with sec := { live.sec with slots := [(0, [1])] } }, ?_⟩,
    ⟨cmd0 .keyLoad, kp (rs (cmd0 .keyLoad)), ?_⟩,
    ⟨cmd0 .attest, noHive (rs (cmd0 .attest)), ?_⟩,
    ⟨cmd0 .attest, noEng (rs (cmd0 .attest)), ?_⟩,
    ⟨cmd0 .attest, rs (cmd0 .attest), ?_⟩,
    ⟨cmd0 .attest, kp (rs (cmd0 .attest)), ?_⟩,
    ⟨9, live, ?_⟩,
    ⟨9, noEng er, 4, [], ?_⟩,
    ⟨9, er, 4, [], ?_⟩⟩ <;> (try unfold Acts) <;> (try unfold Formed) <;> (try unfold Sole) <;> decide +kernel

theorem witness_GetLogAndRecode :
    (∃ (c : Cmd) (s : State), Sole c s ∧ c.op = .getLog ∧ c.waitIds = [] ∧ c.waitMrg = [] ∧ s.hiveOk = false) ∧
    (∃ (c : Cmd) (s : State), Sole c s ∧ c.op = .getLog ∧ c.waitIds = [] ∧ c.waitMrg = [] ∧ s.hiveOk = true) ∧
    (∃ (c : Cmd) (s : State), Sole c s ∧ c.op = .recode ∧ c.waitIds = [] ∧ c.waitMrg = [] ∧ s.openWindow (fieldOf c.desc.opnd0 0 8) = none ∧ s.fld .pcdSmap (fieldOf c.desc.opnd0 0 8) 0 3 = fieldOf c.desc.opnd0 12 3 ∧ c.desc.opnd3 = 0) ∧
    (∃ (c : Cmd) (s : State) (k : Nat), Sole c s ∧ c.op = .recode ∧ c.waitIds = [] ∧ c.waitMrg = [] ∧ s.openWindow (fieldOf c.desc.opnd0 0 8) = none ∧ s.fld .pcdSmap (fieldOf c.desc.opnd0 0 8) 0 3 ≠ fieldOf c.desc.opnd0 12 3 ∧ s.fld .pcdSmap (fieldOf c.desc.opnd0 0 8) 0 3 = fieldOf c.desc.opnd0 8 3 ∧ List.find? (fun k => !(s.window k).open_) (List.range 4) = some k) ∧
    (∃ (c : Cmd) (s : State), Sole c s ∧ c.op = .recode ∧ c.waitIds = [] ∧ c.waitMrg = [] ∧ s.openWindow (fieldOf c.desc.opnd0 0 8) = none ∧ s.fld .pcdSmap (fieldOf c.desc.opnd0 0 8) 0 3 ≠ fieldOf c.desc.opnd0 12 3 ∧ s.fld .pcdSmap (fieldOf c.desc.opnd0 0 8) 0 3 ≠ fieldOf c.desc.opnd0 8 3 ∧ c.desc.opnd3 = 0) ∧
    (∃ (c : Cmd) (s : State), Sole c s ∧ c.op = .recode ∧ c.waitIds = [] ∧ c.waitMrg = [] ∧ s.openWindow (fieldOf c.desc.opnd0 0 8) = none ∧ s.fld .pcdSmap (fieldOf c.desc.opnd0 0 8) 0 3 ≠ fieldOf c.desc.opnd0 12 3 ∧ s.fld .pcdSmap (fieldOf c.desc.opnd0 0 8) 0 3 = fieldOf c.desc.opnd0 8 3 ∧ c.desc.opnd3 = 0 ∧ (∀ (k : Nat), k < 4 → (s.window k).open_ = true)) := by
  refine ⟨⟨cmd0 .getLog, noHive (rs (cmd0 .getLog)), ?_⟩,
    ⟨cmd0 .getLog, rs (cmd0 .getLog), ?_⟩,
    ⟨rcd 2 3 7, (rs (rcd 2 3 7)).setCfg .pcdSmap 7 3, ?_⟩,
    ⟨rcd 2 3 7, (rs (rcd 2 3 7)).setCfg .pcdSmap 7 2, 0, ?_⟩,
    ⟨rcd 2 3 7, (rs (rcd 2 3 7)).setCfg .pcdSmap 7 1, ?_⟩,
    ⟨rcd 2 3 7, wins.setCfg .pcdSmap 7 2, ?_⟩⟩ <;> (try unfold Acts) <;> (try unfold Formed) <;> (try unfold Sole) <;> decide +kernel

theorem witness_BlockTurnsSubmitRequests :
    (∃ (c : Cmd) (s : State), s.cmd c.id = some c ∧ c.final = none ∧ c.started = true ∧ c.stopped = false ∧ c.aborted = false ∧ s.abortedLate c = false ∧ s.engineTested c = false ∧ c.next < c.count ∧ s.refuses c.intlv (c.base + c.next) = none ∧ c.op = .read) ∧
    (∃ (c : Cmd) (s : State), s.cmd c.id = some c ∧ c.final = none ∧ c.started = true ∧ c.stopped = false ∧ c.aborted = false ∧ s.abortedLate c = false ∧ s.engineTested c = false ∧ c.next < c.count ∧ s.refuses c.intlv (c.base + c.next) = none ∧ c.op = .check) ∧
    (∃ (c : Cmd) (s : State), s.cmd c.id = some c ∧ c.final = none ∧ c.started = true ∧ c.stopped = false ∧ c.aborted = false ∧ s.abortedLate c = false ∧ s.engineTested c = false ∧ c.next < c.count ∧ s.refuses c.intlv (c.base + c.next) = none ∧ c.op = .repair) ∧
    (∃ (c : Cmd) (s : State), s.cmd c.id = some c ∧ c.final = none ∧ c.started = true ∧ c.stopped = false ∧ c.aborted = false ∧ s.abortedLate c = false ∧ s.engineTested c = false ∧ c.next < c.count ∧ s.refuses c.intlv (c.base + c.next) = none ∧ c.op = .sanitize ∧ BitVec.getLsbD c.desc.opnd0 0 = false) ∧
    (∃ (c : Cmd) (s : State) (st : Nat) (sd : Nat), s.cmd c.id = some c ∧ c.final = none ∧ c.started = true ∧ c.stopped = false ∧ c.aborted = false ∧ s.abortedLate c = false ∧ s.engineTested c = false ∧ c.next < c.count ∧ s.refuses c.intlv (c.base + c.next) = some (st, sd) ∧ c.op = .read) ∧
    (∃ (c : Cmd) (s : State) (st : Nat) (sd : Nat), s.cmd c.id = some c ∧ c.final = none ∧ c.started = true ∧ c.stopped = false ∧ c.aborted = false ∧ s.abortedLate c = false ∧ s.engineTested c = false ∧ c.next < c.count ∧ s.refuses c.intlv (c.base + c.next) = some (st, sd) ∧ c.op = .check) ∧
    (∃ (c : Cmd) (s : State) (st : Nat) (sd : Nat), s.cmd c.id = some c ∧ c.final = none ∧ c.started = true ∧ c.stopped = false ∧ c.aborted = false ∧ s.abortedLate c = false ∧ s.engineTested c = false ∧ c.next < c.count ∧ s.refuses c.intlv (c.base + c.next) = some (st, sd) ∧ c.op = .repair) ∧
    (∃ (c : Cmd) (s : State), s.cmd c.id = some c ∧ c.final = none ∧ c.started = true ∧ c.stopped = false ∧ c.aborted = false ∧ s.abortedLate c = false ∧ s.engineTested c = false ∧ c.next < c.count ∧ c.op = .copy ∧ s.refuses c.intlv (c.base + c.next) = none ∧ s.refuses c.intlv (c.desc.addr2.toNat % 2 ^ 26 + c.next) = none) ∧
    (∃ (c : Cmd) (s : State), s.cmd c.id = some c ∧ c.final = none ∧ c.started = true ∧ c.stopped = false ∧ c.aborted = false ∧ s.abortedLate c = false ∧ s.engineTested c = false ∧ c.next < c.count ∧ c.op = .sanitize ∧ BitVec.getLsbD c.desc.opnd0 0 = true ∧ s.refuses c.intlv (c.base + c.next) = none) ∧
    (∃ (c : Cmd) (s : State), s.cmd c.id = some c ∧ c.final = none ∧ c.started = true ∧ c.stopped = false ∧ c.aborted = false ∧ s.abortedLate c = false ∧ s.engineTested c = false ∧ c.next < c.count ∧ c.op = .fill ∧ c.desc.opnd0 = 0 ∧ s.refuses c.intlv (c.base + c.next) = none) ∧
    (∃ (c : Cmd) (s : State), s.cmd c.id = some c ∧ c.final = none ∧ c.started = true ∧ c.stopped = false ∧ c.aborted = false ∧ s.abortedLate c = false ∧ s.engineTested c = false ∧ c.next < c.count ∧ c.op = .write ∧ s.refusesFor c.intlv (c.base + c.next) (c.key != 0) = none) ∧
    (∃ (c : Cmd) (s : State), s.cmd c.id = some c ∧ c.final = none ∧ c.started = true ∧ c.stopped = false ∧ c.aborted = false ∧ s.abortedLate c = false ∧ s.engineTested c = false ∧ c.next < c.count ∧ c.op = .compare ∧ BitVec.getLsbD c.desc.opnd0 0 = true ∧ s.refuses c.intlv (c.base + c.next) = none ∧ s.refuses c.intlv (c.desc.addr2.toNat % 2 ^ 26 + c.next) = none) ∧
    (∃ (c : Cmd) (s : State), s.cmd c.id = some c ∧ c.final = none ∧ c.started = true ∧ c.stopped = false ∧ c.aborted = false ∧ s.abortedLate c = false ∧ s.engineTested c = false ∧ c.next < c.count ∧ c.op = .verify ∧ c.desc.addr = 0 ∧ s.refuses c.intlv (c.base + c.next) = none) ∧
    (∃ (c : Cmd) (s : State) (k : Nat), s.cmd c.id = some c ∧ c.final = none ∧ c.started = true ∧ c.stopped = false ∧ c.aborted = false ∧ s.abortedLate c = false ∧ s.engineTested c = false ∧ c.next < c.count ∧ c.op = .recode ∧ s.openWindow (fieldOf c.desc.opnd0 0 8) = some k ∧ (s.window k).pointer ≤ c.next ∧ c.next < (s.window k).pointer + 256 ∧ (s.window k).mask.contains (c.next - (s.window k).pointer) = false ∧ s.refuses c.intlv (c.base + c.next) = none) := by
  refine ⟨⟨st1 .read idr, sT .read idr, ?_⟩,
    ⟨st1 .check idr, sT .check idr, ?_⟩,
    ⟨st1 .repair idr, sT .repair idr, ?_⟩,
    ⟨st1 .sanitize idr, sT .sanitize idr, ?_⟩,
    ⟨st1 .read idr, rs (st1 .read idr), 0x10, 2, ?_⟩,
    ⟨st1 .check idr, rs (st1 .check idr), 0x10, 2, ?_⟩,
    ⟨st1 .repair idr, rs (st1 .repair idr), 0x10, 2, ?_⟩,
    ⟨st1 .copy idr, sT .copy idr, ?_⟩,
    ⟨st1 .sanitize o1, sT .sanitize o1, ?_⟩,
    ⟨st1 .fill idr, sT .fill idr, ?_⟩,
    ⟨st1 .write idr, sT .write idr, ?_⟩,
    ⟨st1 .compare o1, sT .compare o1, ?_⟩,
    ⟨st1 .verify idr, sT .verify idr, ?_⟩,
    ⟨st1 .recode idr, sW idr, 0, ?_⟩⟩ <;> (try unfold Acts) <;> (try unfold Formed) <;> (try unfold Sole) <;> decide +kernel

theorem witness_RequestIssueAndRefresh :
    (∃ (i : BitVec 10) (s : State), (s.serves i.toNat = false ∨ s.refreshes i.toNat = false ∨ (s.chan i.toNat).parWait = true ∨ s.die.blockBusy.contains (BitVec.ofNat 8 (32 + tierOf i.toNat)) = true ∨ 0 ∈ s.clk.tripped ∨ (s.tier (tierOf i.toNat)).changing = true ∨ s.bst.state = 2 ∨ 2 ≤ s.pwr.state.toNat ∨ s.pwr.gateA = true ∨ s.pwr.gateB = true ∨ tierOf i.toNat ∈ s.pwr.closeQ ∨ 1 ∈ s.clk.tripped ∨ s.underTest i.toNat = true)) ∧
    (∃ (i : BitVec 10) (s : State), s.serves i.toNat = true ∧ s.refreshes i.toNat = true ∧ (s.chan i.toNat).parWait = false ∧ (s.tier (tierOf i.toNat)).changing = false ∧ s.pwr.state.toNat < 2 ∧ ¬tierOf i.toNat ∈ s.pwr.closeQ ∧ ¬0 ∈ s.clk.tripped ∧ ¬1 ∈ s.clk.tripped ∧ s.underTest i.toNat = false ∧ s.bst.state ≠ 2 ∧ s.pwr.gateA = false ∧ s.pwr.gateB = false ∧ s.die.blockBusy.contains (BitVec.ofNat 8 (32 + tierOf i.toNat)) = false) ∧
    (∃ (i : BitVec 10) (s : State), s.refreshes i.toNat = false) ∧
    (∃ (i : BitVec 10) (s : State), s.now < (s.chan i.toNat).dueAt) ∧
    (∃ (i : BitVec 10) (s : State), s.refreshes i.toNat = true ∧ (s.chan i.toNat).dueAt ≤ s.now) ∧
    (∃ (i : BitVec 10) (s : State), s.underTest i.toNat = true) ∧
    (∃ (i : BitVec 10) (s : State), s.refreshes i.toNat = true ∧ s.underTest i.toNat = false ∧ 0 < (s.chan i.toNat).debt) ∧
    (∃ (i : BitVec 10) (s : State), s.refreshes i.toNat = true ∧ s.underTest i.toNat = false ∧ (s.chan i.toNat).debt ≤ 0 ∧ -8 < (s.chan i.toNat).debt ∧ (s.chan i.toNat).queue = [] ∧ s.placeOpen i.toNat true = true) ∧
    (∃ (i : BitVec 10) (s : State), s.refreshes i.toNat = true ∧ (s.chan i.toNat).debt ≤ 0 ∧ ((s.chan i.toNat).debt ≤ -8 ∨ (s.chan i.toNat).queue ≠ [] ∨ s.placeOpen i.toNat true = false)) ∧
    (∃ (s : State), Tab.wf Chan.init s.tch.chans = true ∧ s.bst.retain = none) := by
  refine ⟨⟨40, live, ?_⟩,
    ⟨0, live, ?_⟩,
    ⟨33, live, ?_⟩,
    ⟨0, dueA 9, ?_⟩,
    ⟨0, live, ?_⟩,
    ⟨0, inBist 0 live, ?_⟩,
    ⟨0, dbt 1, ?_⟩,
    ⟨0, roomy (dbt 0), ?_⟩,
    ⟨0, dbt (-8), ?_⟩,
    ⟨dbt (-8), ?_⟩⟩ <;> (try unfold Acts) <;> (try unfold Formed) <;> (try unfold Sole) <;> decide +kernel

theorem witness_BurstsAndDecodesEnd :
    (∃ (i : BitVec 10) (s : State), (s.chan i.toNat).active = []) ∧
    (∃ (i : BitVec 10) (s : State) (r : Req) (rest : List Req), (s.chan i.toNat).active = r :: rest ∧ r.wr = true) ∧
    (∃ (i : BitVec 10) (s : State) (r : Req) (rest : List Req), (s.chan i.toNat).active = r :: rest ∧ r.wr = false) ∧
    (∃ (s : State), Tab.wf none s.pcd.store = true) ∧
    (∃ (s : State) (j : Nat) (b : Nat) (phys : Nat) (j' : Nat) (b' : Nat) (phys' : Nat), Tab.wf none s.pcd.store = true ∧ storeKey j' b' phys' ≠ storeKey j b phys) ∧
    (∃ (i : BitVec 10) (s : State), (s.chan i.toNat).dec = []) ∧
    (∃ (i : BitVec 10) (mis : Option Slot) (s : State) (r : Req) (rest : List Req) (c : Cmd) (x : Slot), (s.chan i.toNat).dec = r :: rest ∧ r.src = ReqSrc.cmdRead ∧ r.cmd = some c.id ∧ s.cmd c.id = some c ∧ c.op = .read ∧ c.running.contains r.off = true ∧ c.key = 0 ∧ c.raw = true ∧ c.early = false ∧ BitVec.getLsbD c.desc.opnd1 0 = false ∧ s.codecSlow (tierOf i.toNat) = false ∧ decodeOutcome (s.slotAt r.inst r.bank r.phys) r.dstr r.errs mis = (Decode.clean, some x) ∧ x.key = 0 ∧ x.zero = false ∧ crc32c x.data = x.crc) ∧
    (∃ (i : BitVec 10) (mis : Option Slot) (s : State) (r : Req) (rest : List Req) (y : Option Slot), (s.chan i.toNat).dec = r :: rest ∧ r.src = ReqSrc.cmdRead ∧ decodeOutcome (if s.codecSlow (tierOf i.toNat) = true then none else s.slotAt r.inst r.bank r.phys) r.dstr r.errs mis = (Decode.uncorrectable, y)) := by
  refine ⟨⟨0, live, ?_⟩,
    ⟨0, burst wReq, wReq, [], ?_⟩,
    ⟨0, burst req0, req0, [], ?_⟩,
    ⟨live, ?_⟩,
    ⟨live, 0, 3, 9, 0, 3, 8, ?_⟩,
    ⟨0, live, ?_⟩,
    ⟨0, none, decd rDec, rDec, [], st1 .read rawC, slot0, ?_⟩,
    ⟨0, none, decd { req0 with phys := 9 }, { req0 with phys := 9 }, [], none, ?_⟩⟩ <;> (try unfold Acts) <;> (try unfold Formed) <;> (try unfold Sole) <;> decide +kernel

theorem witness_CommandErrorsAndTraining :
    (∃ (i : BitVec 10) (s : State), (s.chan i.toNat).parWait = false) ∧
    (∃ (i : BitVec 10) (s : State), (s.chan i.toNat).parWait = true ∧ (s.chan i.toNat).uncWait = none) ∧
    (∃ (i : BitVec 10) (s : State) (f : FrzNote), (s.chan i.toNat).parWait = true ∧ (s.chan i.toNat).uncWait = some f) ∧
    (∃ (i : Nat) (s : State), ((s.chan i).st = .frozen ∨ (s.chan i).retired = true)) ∧
    (∃ (i : Nat) (s : State), (s.chan i).st ≠ .frozen ∧ (s.chan i).retired = false) ∧
    (∃ (i : BitVec 10) (s : State), (s.chan i.toNat).sweep = none) ∧
    (∃ (i : BitVec 10) (s : State) (w : Sweep) (x : Nat × Nat) (l : List (Nat × Nat)), (s.chan i.toNat).sweep = some w ∧ w.todo = x :: l ∧ s.maintFirst i.toNat = s ∧ s.mayTrain i.toNat (s.cyclesQ i.toNat 1) = false) ∧
    (∃ (i : BitVec 10) (res : ProbeEnd) (s : State) (w : Sweep), (s.chan i.toNat).sweep = some w ∧ w.todo = [] ∧ (s.maintFirst i.toNat).mayTrain i.toNat ((s.maintFirst i.toNat).cyclesQ i.toNat (probeCycles w.which res)) = false) ∧
    (∃ (i : BitVec 10) (res : ProbeEnd) (s : State) (w : Sweep), (s.chan i.toNat).sweep = some w ∧ w.todo = [] ∧ (s.maintFirst i.toNat).mayTrain i.toNat ((s.maintFirst i.toNat).cyclesQ i.toNat (probeCycles w.which res)) = true ∧ w.code + 1 < w.codes) ∧
    (∃ (w : Sweep), w.bestLen < w.runLen + 1 ∧ w.runLen = 0) ∧
    (∃ (n : Nat), 0 < n) := by
  refine ⟨⟨0, live, ?_⟩,
    ⟨0, parW, ?_⟩,
    ⟨0, parV, ⟨1, 2, 3, 4⟩, ?_⟩,
    ⟨0, fz id id, ?_⟩,
    ⟨0, live, ?_⟩,
    ⟨0, live, ?_⟩,
    ⟨0, ch (fun x => { x with st := .training, sweep := some { sw1 0 with todo := [(0, 0)] } }) live, { sw1 0 with todo := [(0, 0)] }, (0, 0), [], ?_⟩,
    ⟨0, .pass, ch (fun x => { x with st := .training, sweep := some (sw1 0) }) live, sw1 0, ?_⟩,
    ⟨0, .pass, swp 5, sw1 5, ?_⟩,
    ⟨sw1 5, ?_⟩,
    ⟨1, ?_⟩⟩ <;> (try unfold Acts) <;> (try unfold Formed) <;> (try unfold Sole) <;> decide +kernel

theorem witness_ScarabQueuesLogsAndPasses :
    (∃ (p : Path) (data : Word) (s : State) (e : ScbEntry), Acts p .scbLogDismiss 0 s ∧ Tab.get none s.scb.log (fieldOf data 0 6) = some e ∧ e.cand = true ∧ e.lbn.toNat % 65536 = fieldOf data 16 16) ∧
    (∃ (p : Path) (data : Word) (s : State) (e : ScbEntry), Acts p .scbLogDismiss 0 s ∧ Tab.get none s.scb.log (fieldOf data 0 6) = some e ∧ e.cand = true ∧ e.lbn.toNat % 65536 ≠ fieldOf data 16 16) ∧
    (∃ (p : Path) (data : Word) (s : State), Acts p .scbLogDismiss 0 s ∧ Tab.get none s.scb.log (fieldOf data 0 6) = none) ∧
    (∃ (i : BitVec 10) (s : State), (s.flag .scbCfg 0 0 = false ∨ s.flag .scbCfg 0 1 = false ∨ s.serves i.toNat = false ∨ 2 ≤ s.pwr.state.toNat ∨ ((s.chan i.toNat).hasSrc fun x => x == ReqSrc.format) = true ∨ s.fmtRegion i.toNat = none)) ∧
    (∃ (i : BitVec 10) (s : State), s.flag .scbCfg 0 0 = true ∧ s.flag .scbCfg 0 1 = true ∧ s.serves i.toNat = true ∧ s.pwr.state.toNat < 2 ∧ ((s.chan i.toNat).hasSrc fun x => x == ReqSrc.format) = false ∧ s.fmtRegion i.toNat = some (s.chan i.toNat).fmt.region ∧ 0 < fmtSlots s.intlv i.toNat (s.chan i.toNat).fmt.region) ∧
    (∃ (i : BitVec 10) (s : State), (s.flag .scbCfg 0 0 = false ∨ s.serves i.toNat = false ∨ 2 ≤ s.pwr.state.toNat ∨ (s.chan i.toNat).hasSrc isScarab = true ∨ (s.chan i.toNat).wakeAt = none ∧ (s.scb.running = false ∨ s.scarabDue ≤ (s.chan i.toNat).done))) ∧
    (∃ (i : BitVec 10) (s : State), s.flag .scbCfg 0 0 = true ∧ s.serves i.toNat = true ∧ s.pwr.state.toNat < 2 ∧ (s.chan i.toNat).hasSrc isScarab = false ∧ (s.chan i.toNat).wakeAt = none ∧ s.scb.running = true ∧ (s.chan i.toNat).done < s.scarabDue ∧ s.walkFrom i.toNat (s.chan i.toNat).done < 65536) ∧
    (∃ (i : BitVec 10) (s : State), s.flag .scbCfg 0 0 = true ∧ s.serves i.toNat = true ∧ s.pwr.state.toNat < 2 ∧ (s.chan i.toNat).hasSrc isScarab = false ∧ (s.chan i.toNat).wakeAt = none ∧ s.scb.running = true ∧ (s.chan i.toNat).done < s.scarabDue ∧ 65536 ≤ s.walkFrom i.toNat (s.chan i.toNat).done) ∧
    (∃ (i : BitVec 10) (s : State) (k : Nat), s.flag .scbCfg 0 0 = true ∧ s.serves i.toNat = true ∧ s.pwr.state.toNat < 2 ∧ (s.chan i.toNat).hasSrc isScarab = false ∧ (s.chan i.toNat).wakeAt = some k ∧ s.walkFrom i.toNat k < 65536) ∧
    (∃ (k : Nat), k < 65536) ∧
    (∃ (s : State), (s.scb.running = false ∨ s.walked s.servingChans Chan.done = false)) ∧
    (∃ (s : State), s.scb.running = true ∧ s.walked s.servingChans Chan.done = true) ∧
    (∃ (s : State), s.hiveOk = false) ∧
    (∃ (s : State) (n : Nat), s.hiveOk = true ∧ Tab.wf Tier.init s.tch.tiers = true ∧ n < 32 ∧ (s.tier n).wakeJudge = false) ∧
    (∃ (x : Tier), x.season = 0) ∧
    (∃ (x : Tier), x.season = 1) ∧
    (∃ (x : Tier), x.season = 2 ∧ 1 < BitVec.toNat x.hold) ∧
    (∃ (x : Tier), x.season = 2 ∧ x.hold = 1) ∧
    (∃ (t : BitVec 5) (s : State), ((s.tier t.toNat).wake = false ∨ (s.walked (List.filter s.isServing (chansOfTier t.toNat)) fun c => c.wakeAt.getD 65536) = false)) ∧
    (∃ (t : BitVec 5) (s : State), (s.tier t.toNat).wake = true ∧ (s.walked (List.filter s.isServing (chansOfTier t.toNat)) fun c => c.wakeAt.getD 65536) = true ∧ (s.tier t.toNat).wakeJudge = false) ∧
    (∃ (t : BitVec 5) (s : State), (s.tier t.toNat).wake = true ∧ (s.walked (List.filter s.isServing (chansOfTier t.toNat)) fun c => c.wakeAt.getD 65536) = true ∧ (s.tier t.toNat).wakeJudge = true) ∧
    (∃ (t : Nat) (s : State), (s.tier t).wakeBad = true) ∧
    (∃ (t : Nat) (s : State), (s.tier t).wakeBad = false ∧ decide (s.fld .scbSeasonCfg 0 16 7 * (s.tier t).wakeT < 100 * (s.tier t).wakeK) = true ∧ (s.tier t).usedMult = (s.tier t).trial ∧ (s.tier t).acceptedM.toNat < (s.tier t).trial.toNat) ∧
    (∃ (t : Nat) (s : State), (s.tier t).wakeBad = false ∧ decide (s.fld .scbSeasonCfg 0 16 7 * (s.tier t).wakeT < 100 * (s.tier t).wakeK) = true ∧ (s.tier t).usedMult = (s.tier t).acceptedM ∧ 0 < (s.tier t).usedMult.toNat) ∧
    (∃ (t : Nat) (s : State), (s.tier t).wakeBad = false ∧ decide (s.fld .scbSeasonCfg 0 16 7 * (s.tier t).wakeT < 100 * (s.tier t).wakeK) = false ∧ (s.tier t).usedMult = (s.tier t).trial ∧ (s.tier t).acceptedM.toNat < (s.tier t).trial.toNat ∧ s.fld .scbSeasonCfg 0 0 16 * 60000000 ≤ s.pwr.p4Stay) ∧
    (∃ (t : Nat) (s : State), (s.tier t).wakeBad = false ∧ decide (s.fld .scbSeasonCfg 0 16 7 * (s.tier t).wakeT < 100 * (s.tier t).wakeK) = false ∧ s.pwr.p4Stay < s.fld .scbSeasonCfg 0 0 16 * 60000000) := by
  refine ⟨⟨.tw, 0x12340005, lg, { (default : ScbEntry) with cand := true, lbn := 0x1234 }, ?_⟩,
    ⟨.tw, 0x12350005, lg, { (default : ScbEntry) with cand := true, lbn := 0x1234 }, ?_⟩,
    ⟨.tw, 0x12340006, lg, ?_⟩,
    ⟨5, live, ?_⟩,
    ⟨0, fm, ?_⟩,
    ⟨5, live, ?_⟩,
    ⟨0, sc 0 none, ?_⟩,
    ⟨0, sc 65535 none, ?_⟩,
    ⟨0, sc 0 (some 0), 0, ?_⟩,
    ⟨7, ?_⟩,
    ⟨live, ?_⟩,
    ⟨fullPass, ?_⟩,
    ⟨noHive live, ?_⟩,
    ⟨ended15, 0, ?_⟩,
    ⟨Tier.init, ?_⟩,
    ⟨{ Tier.init with season := 1 }, ?_⟩,
    ⟨{ Tier.init with season := 2, hold := 2 }, ?_⟩,
    ⟨{ Tier.init with season := 2, hold := 1 }, ?_⟩,
    ⟨0, live, ?_⟩,
    ⟨0, tw id, ?_⟩,
    ⟨0, tw fun x => { x with wakeJudge := true }, ?_⟩,
    ⟨0, tw fun x => { x with wakeBad := true }, ?_⟩,
    ⟨0, tw fun x => { x with wakeK := 1, trial := 1, usedMult := 1 }, ?_⟩,
    ⟨0, tw fun x => { x with wakeK := 1, acceptedM := 1, usedMult := 1 }, ?_⟩,
    ⟨0, { tw (fun x => { x with trial := 1, usedMult := 1 }) with pwr := { live.pwr with p4Stay := 10000000000000 } }, ?_⟩,
    ⟨0, tw fun x => { x with trial := 1, usedMult := 1 }, ?_⟩⟩ <;> (try unfold Acts) <;> (try unfold Formed) <;> (try unfold Sole) <;> decide +kernel

theorem witness_LinkBringUpToConfig :
    (∃ (n : BitVec 2) (s : State), ((s.port n.toNat).st ≠ .down ∨ s.portEn n.toNat = false ∨ s.clk.xtalGood = false ∨ s.portHeld n.toNat = true)) ∧
    (∃ (n : BitVec 2) (s : State), (s.port n.toNat).st = .down ∧ s.portEn n.toNat = true ∧ s.clk.xtalGood = true ∧ s.portHeld n.toNat = false) ∧
    (∃ (n : BitVec 2) (s : State), (s.port n.toNat).st ≠ .detect) ∧
    (∃ (n : BitVec 2) (s : State), (s.port n.toNat).st = .detect) ∧
    (∃ (n : BitVec 2) (s : State) (i : LockSeen), ((s.port n.toNat).st = .down ∨ i.coms < 8)) ∧
    (∃ (n : BitVec 2) (s : State) (i : LockSeen), (s.port n.toNat).st = .align ∧ 8 ≤ i.coms) ∧
    (∃ (n : BitVec 2) (s : State) (l : BitVec 3) (i : LockSeen), (s.port n.toNat).st ≠ .down ∧ 8 ≤ i.coms ∧ ((s.port n.toNat).st ≠ .align ∨ l ≠ 0)) ∧
    (∃ (n : BitVec 2) (s : State) (lane : BitVec 3) (rx : TrainRx), (lane ≠ 0 ∨ rx.set.chk ≠ rx.set.sum ∨ (s.port n.toNat).st = .down)) ∧
    (∃ (n : BitVec 2) (s : State) (ts : TrainSet) (k : List Nat), ts.chk = ts.sum ∧ BitVec.getLsbD ts.ctrl 0 = false ∧ BitVec.getLsbD ts.ctrl 1 = false ∧ BitVec.getLsbD ts.ctrl 2 = false ∧ (s.port n.toNat).st = .config ∧ (s.port n.toNat).cfgTs2 = false ∧ ({ (s.port n.toNat).setsSent k.length with lastTag := ts.tag }.countSet ts false false).runDone = false) ∧
    (∃ (n : BitVec 2) (s : State) (ts : TrainSet) (k : List Nat), ts.chk = ts.sum ∧ BitVec.getLsbD ts.ctrl 0 = false ∧ BitVec.getLsbD ts.ctrl 1 = false ∧ BitVec.getLsbD ts.ctrl 2 = false ∧ (s.port n.toNat).st = .config ∧ (s.port n.toNat).cfgTs2 = false ∧ ({ (s.port n.toNat).setsSent k.length with lastTag := ts.tag }.countSet ts false false).runDone = true) ∧
    (∃ (p : Port), p.runFull = true) ∧
    (∃ (p : Port) (two : Bool) (want : Bool), p.runFull = false ∧ two ≠ want) ∧
    (∃ (p : Port), p.runFull = false ∧ p.runSet = none) ∧
    (∃ (p : Port) (a : TrainSet) (r : TrainSet), p.runFull = false ∧ p.runSet = some r ∧ r.same a = true) ∧
    (∃ (p : Port) (a : TrainSet) (r : TrainSet), p.runFull = false ∧ p.runSet = some r ∧ r.same a = false) ∧
    (∃ (n : BitVec 2) (ts : TrainSet) (s : State), ts.chk = ts.sum ∧ (s.port n.toNat).st = .up) := by
  refine ⟨⟨0, live, ?_⟩,
    ⟨1, en0, ?_⟩,
    ⟨0, live, ?_⟩,
    ⟨0, pt (fun p => { p with st := .detect }), ?_⟩,
    ⟨1, live, ⟨8, true⟩, ?_⟩,
    ⟨0, ptL (fun p => { p with st := .align }), ⟨8, true⟩, ?_⟩,
    ⟨0, pt (fun p => { p with st := .align }), 7, ⟨8, true⟩, ?_⟩,
    ⟨0, live, 1, ⟨mkSet 0, [1, 2]⟩, ?_⟩,
    ⟨0, cfgP false 0, mkSet 0, [1, 2], ?_⟩,
    ⟨0, cfgP false 7, mkSet 0, [1, 2], ?_⟩,
    ⟨{ (cfgP false 7).port 0 with runFull := true }, ?_⟩,
    ⟨(cfgP false 7).port 0, true, false, ?_⟩,
    ⟨{ (cfgP false 7).port 0 with runSet := none }, ?_⟩,
    ⟨(cfgP false 7).port 0, mkSet 0, mkSet 0, ?_⟩,
    ⟨(cfgP false 7).port 0, mkSet 1, mkSet 0, ?_⟩,
    ⟨0, mkSet 0, live, ?_⟩⟩ <;> (try unfold Acts) <;> (try unfold Formed) <;> (try unfold Sole) <;> decide +kernel

theorem witness_LinkBringUpToUp :
    (∃ (n : BitVec 2) (s : State) (lane : BitVec 3) (ts : TrainSet), (lane ≠ 0 ∨ ts.chk ≠ ts.sum ∨ (s.port n.toNat).st = .down)) ∧
    (∃ (n : BitVec 2) (s : State) (ts : TrainSet), ts.chk = ts.sum ∧ (s.port n.toNat).st = .config ∧ (s.port n.toNat).cfgTs2 = true) ∧
    (∃ (n : BitVec 2) (s : State) (ts : TrainSet), ts.chk = ts.sum ∧ (s.port n.toNat).phase = .confirm) ∧
    (∃ (n : BitVec 2) (s : State), ((s.port n.toNat).st ≠ .rateSwitch ∨ (s.port n.toNat).fbIdle = true ∨ s.now < (s.port n.toNat).phaseAt + 50)) ∧
    (∃ (n : BitVec 2) (s : State), (s.port n.toNat).st = .rateSwitch ∧ (s.port n.toNat).fbIdle = false ∧ (s.port n.toNat).phaseAt + 50 ≤ s.now) ∧
    (∃ (n : BitVec 2) (s : State), ((s.port n.toNat).st ≠ .rateSwitch ∨ (s.port n.toNat).fbIdle = false ∨ s.now < (s.port n.toNat).phaseAt + 50)) ∧
    (∃ (n : BitVec 2) (s : State), (s.port n.toNat).st = .rateSwitch ∧ (s.port n.toNat).fbIdle = true ∧ (s.port n.toNat).phaseAt + 50 ≤ s.now) ∧
    (∃ (n : BitVec 2) (s : State), ((s.port n.toNat).phase ≠ .laneTrain ∨ ((s.port n.toNat).laneMask fun l => l.enabled && !l.passed) ≠ 0)) ∧
    (∃ (n : BitVec 2) (s : State), (s.port n.toNat).phase = .laneTrain ∧ ((s.port n.toNat).laneMask fun l => l.enabled && !l.passed) = 0) ∧
    (∃ (n : BitVec 2) (s : State) (lane : BitVec 3) (count : Byte), ((s.port n.toNat).phase ≠ .deskew ∨ 16 ≤ BitVec.toNat count ∨ ((s.port n.toNat).lane lane.toNat).passed = false)) ∧
    (∃ (n : BitVec 2) (s : State) (lane : BitVec 3) (count : Byte), (s.port n.toNat).phase = .deskew ∧ BitVec.toNat count < 16 ∧ ((s.port n.toNat).lane lane.toNat).passed = true) ∧
    (∃ (n : BitVec 2) (s : State), ((s.port n.toNat).st = .align ∨ (s.port n.toNat).st = .config) ∧ ((s.port n.toNat).phaseAt + if (s.port n.toNat).st = .align then 1000 else 2000) ≤ s.now) ∧
    (∃ (n : BitVec 2) (s : State), ((s.port n.toNat).st = .align ∨ (s.port n.toNat).st = .config) ∧ s.now < (s.port n.toNat).phaseAt + if (s.port n.toNat).st = .align then 1000 else 2000) ∧
    (∃ (n : BitVec 2) (s : State), (s.port n.toNat).phase = .laneTrain ∧ ((s.port n.toNat).st = .recovery → s.now < (s.port n.toNat).recAt + 2000) ∧ ((s.port n.toNat).phaseAt + if (s.port n.toNat).rate = 0 then 4000 else if (s.port n.toNat).rate = 1 then 3000 else if (s.port n.toNat).rate = 2 then 2000 else 1000) ≤ s.now) ∧
    (∃ (n : BitVec 2) (s : State), (s.port n.toNat).phase = .laneTrain ∧ ((s.port n.toNat).st = .recovery → s.now < (s.port n.toNat).recAt + 2000) ∧ s.now < (s.port n.toNat).phaseAt + if (s.port n.toNat).rate = 0 then 4000 else if (s.port n.toNat).rate = 1 then 3000 else if (s.port n.toNat).rate = 2 then 2000 else 1000) ∧
    (∃ (n : BitVec 2) (s : State), (s.port n.toNat).phase = .deskew ∧ ((s.port n.toNat).st = .recovery → s.now < (s.port n.toNat).recAt + 2000) ∧ (s.port n.toNat).phaseAt + 100 ≤ s.now) ∧
    (∃ (n : BitVec 2) (s : State), (s.port n.toNat).phase = .deskew ∧ ((s.port n.toNat).st = .recovery → s.now < (s.port n.toNat).recAt + 2000) ∧ s.now < (s.port n.toNat).phaseAt + 100) ∧
    (∃ (n : BitVec 2) (s : State), (s.port n.toNat).st = .confirm ∧ (s.port n.toNat).phaseAt + 1000 ≤ s.now) ∧
    (∃ (n : BitVec 2) (s : State), (s.port n.toNat).st = .confirm ∧ s.now < (s.port n.toNat).phaseAt + 1000) ∧
    (∃ (n : BitVec 2) (s : State), (s.port n.toNat).st = .recovery ∧ (s.port n.toNat).recStep = .confirm ∧ (s.port n.toNat).phaseAt + 1000 ≤ s.now) ∧
    (∃ (n : BitVec 2) (s : State), (s.port n.toNat).st = .recovery ∧ (s.port n.toNat).recAt + 2000 ≤ s.now) ∧
    (∃ (n : BitVec 2) (s : State), ((s.port n.toNat).st = .down ∨ (s.port n.toNat).st = .detect ∨ (s.port n.toNat).st = .rateSwitch ∨ (s.port n.toNat).st = .up)) ∧
    (∃ (n : BitVec 2) (s : State), (s.port n.toNat).st = .confirm ∧ BitVec.getLsbD (((s.port n.toNat).laneMask fun l => l.passed && l.aligned) &&& (s.port n.toNat).pLanesOk) 0 = false) ∧
    (∃ (n : BitVec 2) (s : State), (s.port n.toNat).st = .confirm ∧ (s.port n.toNat).rate ≠ 0 ∧ (laneCount (((s.port n.toNat).laneMask fun l => l.passed && l.aligned) &&& (s.port n.toNat).pLanesOk) < BitVec.toNat (s.port n.toNat).myMin ∨ laneCount (((s.port n.toNat).laneMask fun l => l.passed && l.aligned) &&& (s.port n.toNat).pLanesOk) < BitVec.toNat (s.port n.toNat).pMin)) ∧
    (∃ (n : BitVec 2) (s : State), (s.port n.toNat).st = .confirm ∧ BitVec.getLsbD (((s.port n.toNat).laneMask fun l => l.passed && l.aligned) &&& (s.port n.toNat).pLanesOk) 0 = true ∧ ((s.port n.toNat).rate = 0 ∨ BitVec.toNat (s.port n.toNat).myMin ≤ laneCount (((s.port n.toNat).laneMask fun l => l.passed && l.aligned) &&& (s.port n.toNat).pLanesOk) ∧ BitVec.toNat (s.port n.toNat).pMin ≤ laneCount (((s.port n.toNat).laneMask fun l => l.passed && l.aligned) &&& (s.port n.toNat).pLanesOk))) ∧
    (∃ (n : BitVec 2) (s : State), (s.port n.toNat).st ≠ .recovery) ∧
    (∃ (n : BitVec 2) (s : State), (s.port n.toNat).st = .down) := by
  refine ⟨⟨0, live, 1, mkSet 0, ?_⟩,
    ⟨0, cfgP true 0, mkSet 0, ?_⟩,
    ⟨0, pt (fun p => { p with st := .confirm }), mkSet 0, ?_⟩,
    ⟨0, live, ?_⟩,
    ⟨0, ptL (fun p => { p with st := .rateSwitch, laneTab := lane8, chosen := 3 }), ?_⟩,
    ⟨0, live, ?_⟩,
    ⟨0, ptL (fun p => { p with st := .rateSwitch, fbIdle := true }), ?_⟩,
    ⟨0, live, ?_⟩,
    ⟨0, pt (fun p => { p with st := .laneTrain, laneTab := lane8 }), ?_⟩,
    ⟨0, live, 0, 0, ?_⟩,
    ⟨0, pt (fun p => { p with st := .deskew, laneTab := lane8 }), 7, 15, ?_⟩,
    ⟨0, ptL (fun p => { p with st := .align }), ?_⟩,
    ⟨0, pt (fun p => { p with st := .align, phaseAt := 1000001 }), ?_⟩,
    ⟨0, ptL (fun p => { p with st := .laneTrain }), ?_⟩,
    ⟨0, ptL (fun p => { p with st := .recovery, recStep := .laneTrain, recAt := 998500, phaseAt := 998500, rate := 2 }), ?_⟩,
    ⟨0, ptL (fun p => { p with st := .deskew, laneTab := lane8 }), ?_⟩,
    ⟨0, ptL (fun p => { p with st := .deskew, phaseAt := 999901, laneTab := lane8 }), ?_⟩,
    ⟨0, ptL (fun p => { p with st := .confirm }), ?_⟩,
    ⟨0, ptL (fun p => { p with st := .confirm, phaseAt := 999001 }), ?_⟩,
    ⟨0, ptL (fun p => { p with st := .recovery, recStep := .confirm, recAt := 999999 }), ?_⟩,
    ⟨0, ptL (fun p => { p with st := .recovery, recStep := .laneTrain, rate := 2, recAt := 998000, phaseAt := 999999 }), ?_⟩,
    ⟨0, live, ?_⟩,
    ⟨0, pt (fun p => { p with st := .confirm, rate := 0 }), ?_⟩,
    ⟨0, pt (fun p => { p with st := .confirm, rate := 5, pLanesOk := 1, laneTab := lane8 }), ?_⟩,
    ⟨0, pt (fun p => { p with st := .confirm, rate := 5, myMin := 1, pMin := 2, pLanesOk := 3, laneTab := lane8.map fun e => (e.1, { e.2 with aligned := true }) }), ?_⟩,
    ⟨0, pt (fun p => { p with st := .confirm, rate := 5 }), ?_⟩,
    ⟨1, live, ?_⟩⟩ <;> (try unfold Acts) <;> (try unfold Formed) <;> (try unfold Sole) <;> decide +kernel

theorem witness_PortEventsInUp :
    (∃ (n : BitVec 2) (s : State) (rx : RxError) (place : ErrPlace), ((s.port n.toNat).st = .down ∨ place ≠ ErrPlace.buffer ∧ codeBad rx.plus rx.code = false)) ∧
    (∃ (rx : RxError) (place : ErrPlace), (place = ErrPlace.buffer ∨ codeBad rx.plus rx.code = true)) ∧
    (∃ (x : Lane), x.errAt.length < 7) ∧
    (∃ (x : Lane), x.errAt.length = 7) ∧
    (∃ (n : BitVec 2) (s : State), (s.port n.toNat).svcRx = 0) ∧
    (∃ (n : BitVec 2) (s : State), (s.port n.toNat).svcRx ≠ 0) ∧
    (∃ (c : BitVec 4), 1 ≤ c.toNat ∧ c.toNat ≤ 5) ∧
    (∃ (c : BitVec 4), (c = 0 ∨ 5 < c.toNat)) ∧
    (∃ (n : BitVec 2) (s : State), (s.port n.toNat).canSend = true ∧ ¬34 + n.toNat ∈ s.clk.tripped) ∧
    (∃ (n : BitVec 2) (s : State), ((s.port n.toNat).canSend = false ∨ 34 + n.toNat ∈ s.clk.tripped)) ∧
    (∃ (n : BitVec 2) (s : State), ((s.port n.toNat).st = .laneTrain ∨ (s.port n.toNat).st = .deskew ∨ (s.port n.toNat).st = .confirm)) ∧
    (∃ (n : BitVec 2) (s : State), ((s.port n.toNat).st = .down ∨ (s.port n.toNat).st = .detect ∨ (s.port n.toNat).st = .align ∨ (s.port n.toNat).st = .config ∨ (s.port n.toNat).st = .rateSwitch ∨ (s.port n.toNat).st = .recovery)) ∧
    (∃ (n : BitVec 2) (s : State), (s.port n.toNat).st ≠ .up) ∧
    (∃ (n : BitVec 2) (s : State), (s.port n.toNat).st = .up ∧ (s.port n.toNat).svcTx = 0 ∧ 2 ≤ (s.port n.toNat).bulkTx.toNat ∧ s.flag .lnkPhy1 n.toNat 16 = true ∧ (s.port n.toNat).txq = [] ∧ (s.port n.toNat).ackOwed = 0 ∧ (s.port n.toNat).replay = [] ∧ (s.port n.toNat).sentAt + s.fld .lnkPhy1 n.toNat 8 8 ≤ s.now ∧ (s.pwr.state = 2 ∨ s.pwr.state = 3)) ∧
    (∃ (n : BitVec 2) (s : State), (s.port n.toNat).st = .up ∧ (s.port n.toNat).svcTx = 0 ∧ 2 ≤ (s.port n.toNat).bulkTx.toNat ∧ s.flag .lnkPhy1 n.toNat 16 = true ∧ (s.port n.toNat).txq = [] ∧ (s.port n.toNat).ackOwed = 0 ∧ (s.port n.toNat).replay = [] ∧ (s.port n.toNat).sentAt + s.fld .lnkPhy1 n.toNat 8 8 ≤ s.now ∧ s.pwr.state = 4) ∧
    (∃ (n : BitVec 2) (s : State), (s.port n.toNat).st = .up ∧ (s.port n.toNat).svcTx = 0 ∧ 2 ≤ (s.port n.toNat).bulkTx.toNat ∧ s.flag .lnkPhy1 n.toNat 16 = true ∧ (s.port n.toNat).txq = [] ∧ (s.port n.toNat).ackOwed = 0 ∧ (s.port n.toNat).replay = [] ∧ (s.port n.toNat).sentAt + s.fld .lnkPhy1 n.toNat 8 8 ≤ s.now ∧ (s.pwr.state.toNat < 2 ∨ 4 < s.pwr.state.toNat)) := by
  refine ⟨⟨1, live, badSym, .inPacket, ?_⟩,
    ⟨badSym, .inPacket, ?_⟩,
    ⟨{ Lane.init with locked := true, errAt := [1,2,3,4,5,6] }, ?_⟩,
    ⟨{ Lane.init with locked := true, errAt := [1,2,3,4,5,6,7] }, ?_⟩,
    ⟨0, live, ?_⟩,
    ⟨0, pt (fun p => { p with svcRx := 1 }), ?_⟩,
    ⟨5, ?_⟩,
    ⟨6, ?_⟩,
    ⟨0, live, ?_⟩,
    ⟨1, live, ?_⟩,
    ⟨0, pt (fun p => { p with st := .deskew, rate := 3 }), ?_⟩,
    ⟨0, pt (fun p => { p with st := .recovery, rate := 3 }), ?_⟩,
    ⟨1, live, ?_⟩,
    ⟨0, slp 2, ?_⟩,
    ⟨0, slp 4, ?_⟩,
    ⟨0, slp 0, ?_⟩⟩ <;> (try unfold Acts) <;> (try unfold Formed) <;> (try unfold Sole) <;> decide +kernel

theorem witness_AcknowledgeAndReplay :
    (∃ (n : BitVec 2) (s : State) (a : BitVec 12), ((s.port n.toNat).st ≠ .up ∨ (a.toNat + 4096 - (s.port n.toNat).nextTx.toNat) % 4096 < 2048)) ∧
    (∃ (n : BitVec 2) (s : State) (a : BitVec 12), (s.port n.toNat).st = .up ∧ 2048 ≤ (a.toNat + 4096 - (s.port n.toNat).nextTx.toNat) % 4096) ∧
    (∃ (n : BitVec 2) (s : State) (rx : List Byte) (framing : Bool), ((s.port n.toNat).st ≠ .up ∨ framing = false ∧ wireShort rx = false ∧ wireCrcBad rx = false)) ∧
    (∃ (n : BitVec 2) (s : State) (rx : List Byte) (framing : Bool), (s.port n.toNat).st = .up ∧ (framing = true ∨ wireShort rx = true)) ∧
    (∃ (n : BitVec 2) (s : State) (rx : List Byte), (s.port n.toNat).st = .up ∧ wireShort rx = false ∧ wireCrcBad rx = true) ∧
    (∃ (n : BitVec 2) (s : State), (s.port n.toNat).st = .up ∧ 0 < (s.port n.toNat).ackOwed ∧ (s.port n.toNat).ackDue < 10 * (s.now + 1)) ∧
    (∃ (n : BitVec 2) (s : State), ((s.port n.toNat).st ≠ .up ∨ (s.port n.toNat).ackOwed = 0 ∨ 10 * (s.now + 1) ≤ (s.port n.toNat).ackDue)) ∧
    (∃ (n : BitVec 2) (s : State), ((s.port n.toNat).st ≠ .up ∨ s.now < (s.port n.toNat).replayDue)) ∧
    (∃ (n : BitVec 2) (s : State), (s.port n.toNat).st = .up ∧ (s.port n.toNat).replayDue ≤ s.now) ∧
    (∃ (n : BitVec 2) (s : State), (s.port n.toNat).replay = []) ∧
    (∃ (n : BitVec 2) (s : State), (s.port n.toNat).replay ≠ [] ∧ s.fld .lnkLlc n.toNat 16 3 ≤ (s.port n.toNat).replays) ∧
    (∃ (n : BitVec 2) (s : State), (s.port n.toNat).replay ≠ [] ∧ (s.port n.toNat).replays < s.fld .lnkLlc n.toNat 16 3 ∧ (s.port n.toNat).svcTx = 0 ∧ (s.port n.toNat).st = .up) := by
  refine ⟨⟨1, live, 0, ?_⟩,
    ⟨0, rp 0, 0, ?_⟩,
    ⟨1, live, [], true, ?_⟩,
    ⟨0, live, [], false, ?_⟩,
    ⟨0, live, badRx, ?_⟩,
    ⟨0, pt (fun p => { p with ackOwed := 1, ackDue := 9 }), ?_⟩,
    ⟨0, live, ?_⟩,
    ⟨1, live, ?_⟩,
    ⟨0, rp 0, ?_⟩,
    ⟨0, live, ?_⟩,
    ⟨0, rp 7, ?_⟩,
    ⟨0, rp 0, ?_⟩⟩ <;> (try unfold Acts) <;> (try unfold Formed) <;> (try unfold Sole) <;> decide +kernel

theorem witness_PacketsAreAcceptedAndRouted :
    (∃ (n : BitVec 2) (s : State), (s.port n.toNat).st ≠ .up) ∧
    (∃ (n : BitVec 2) (pkt : Packet) (s : State), (s.port n.toNat).st = .up ∧ ((s.port n.toNat).nextRcv.toNat + 4096 - pkt.seq) % 4096 ≠ 0 ∧ ((s.port n.toNat).nextRcv.toNat + 4096 - pkt.seq) % 4096 ≤ 2048) ∧
    (∃ (n : BitVec 2) (pkt : Packet) (s : State), (s.port n.toNat).st = .up ∧ 2048 < ((s.port n.toNat).nextRcv.toNat + 4096 - pkt.seq) % 4096) ∧
    (∃ (n : BitVec 2) (pkt : Packet) (s : State), ((s.port n.toNat).nextRcv.toNat + 4096 - pkt.seq) % 4096 = 0) ∧
    (∃ (n : BitVec 2) (s : State), (s.port n.toNat).svcTx = 0 ∧ (s.port n.toNat).nakSent = true ∧ s.now < (s.port n.toNat).nakDue) ∧
    (∃ (n : BitVec 2) (s : State), (s.port n.toNat).svcTx = 0 ∧ ((s.port n.toNat).nakSent = false ∨ (s.port n.toNat).nakDue ≤ s.now)) ∧
    (∃ (n : BitVec 2) (pkt : Packet) (s : State) (t : State), (s.port n.toNat).st = .up ∧ s.acceptSeq n.toNat pkt = (t, true) ∧ t.fld .clkDiv 0 0 2 = 0 ∧ illFormed pkt = true) ∧
    (∃ (n : BitVec 2) (pkt : Packet) (s : State) (t : State), (s.port n.toNat).st = .up ∧ s.acceptSeq n.toNat pkt = (t, true) ∧ t.fld .clkDiv 0 0 2 = 0 ∧ illFormed pkt = false ∧ pkt.typ ≠ 1 ∧ pkt.typ ≠ 2) ∧
    (∃ (n : BitVec 2) (pkt : Packet) (s : State) (t : State) (v : State), (s.port n.toNat).st = .up ∧ s.acceptSeq n.toNat pkt = (t, true) ∧ t.fld .clkDiv 0 0 2 = 0 ∧ illFormed pkt = false ∧ pkt.typ ≠ 1 ∧ pkt.typ ≠ 2 ∧ t.route n.toNat pkt = (v, false)) ∧
    (∃ (n : BitVec 2) (pkt : Packet) (s : State) (t : State) (v : State), (s.port n.toNat).st = .up ∧ s.acceptSeq n.toNat pkt = (t, true) ∧ t.fld .clkDiv 0 0 2 = 0 ∧ illFormed pkt = false ∧ pkt.typ ≠ 1 ∧ pkt.typ ≠ 2 ∧ t.route n.toNat pkt = (v, true) ∧ pkt.typ = 4 ∧ v.pwr.gateA = false ∧ v.lnk.parked.any Parked.isBell = false) ∧
    (∃ (n : BitVec 2) (pkt : Packet) (s : State) (t : State) (v : State), (s.port n.toNat).st = .up ∧ s.acceptSeq n.toNat pkt = (t, true) ∧ t.fld .clkDiv 0 0 2 = 0 ∧ illFormed pkt = false ∧ pkt.typ ≠ 1 ∧ pkt.typ ≠ 2 ∧ t.route n.toNat pkt = (v, true) ∧ pkt.typ = 4 ∧ (v.pwr.gateA = true ∨ v.lnk.parked.any Parked.isBell = true)) ∧
    (∃ (n : BitVec 2) (pkt : Packet) (s : State) (t : State) (v : State), (s.port n.toNat).st = .up ∧ s.acceptSeq n.toNat pkt = (t, true) ∧ t.fld .clkDiv 0 0 2 = 0 ∧ illFormed pkt = false ∧ pkt.typ ≠ 1 ∧ pkt.typ ≠ 2 ∧ t.route n.toNat pkt = (v, true) ∧ pkt.typ = 5) ∧
    (∃ (n : BitVec 2) (pkt : Packet) (s : State) (t : State) (v : State), (s.port n.toNat).st = .up ∧ s.acceptSeq n.toNat pkt = (t, true) ∧ t.fld .clkDiv 0 0 2 = 0 ∧ illFormed pkt = false ∧ pkt.typ ≠ 1 ∧ pkt.typ ≠ 2 ∧ t.route n.toNat pkt = (v, true) ∧ pkt.typ = 6) ∧
    (∃ (n : BitVec 2) (pkt : Packet) (s : State) (t : State) (v : State), (s.port n.toNat).st = .up ∧ s.acceptSeq n.toNat pkt = (t, true) ∧ t.fld .clkDiv 0 0 2 = 0 ∧ illFormed pkt = false ∧ pkt.typ ≠ 1 ∧ pkt.typ ≠ 2 ∧ t.route n.toNat pkt = (v, true) ∧ pkt.typ = 3) ∧
    (∃ (n : BitVec 2) (pkt : Packet) (s : State) (t : State) (v : State), (s.port n.toNat).st = .up ∧ s.acceptSeq n.toNat pkt = (t, true) ∧ t.fld .clkDiv 0 0 2 = 0 ∧ illFormed pkt = false ∧ pkt.typ ≠ 1 ∧ pkt.typ ≠ 2 ∧ t.route n.toNat pkt = (v, true) ∧ pkt.typ = 7 ∧ pkt.dkind = 3 ∧ pkt.w2 = 16) ∧
    (∃ (n : BitVec 2) (pkt : Packet) (s : State) (t : State) (v : State), (s.port n.toNat).st = .up ∧ s.acceptSeq n.toNat pkt = (t, true) ∧ t.fld .clkDiv 0 0 2 = 0 ∧ illFormed pkt = false ∧ pkt.typ ≠ 1 ∧ pkt.typ ≠ 2 ∧ t.route n.toNat pkt = (v, true) ∧ pkt.typ = 7 ∧ (pkt.dkind ≠ 3 ∨ pkt.w2 ≠ 16)) ∧
    (∃ (n : BitVec 2) (pkt : Packet) (s : State) (t : State), (s.port n.toNat).st = .up ∧ s.acceptSeq n.toNat pkt = (t, true) ∧ t.fld .clkDiv 0 0 2 = 0 ∧ pkt.dkind = 3) ∧
    (∃ (n : BitVec 2) (pkt : Packet) (s : State) (t : State), (s.port n.toNat).st = .up ∧ s.acceptSeq n.toNat pkt = (t, true) ∧ t.fld .clkDiv 0 0 2 = 0 ∧ t.lnk.valid = true ∧ n.toNat = t.lnk.upPort.toNat ∧ pkt.dkind = 0 ∧ pkt.dst = t.lnk.id.toNat) ∧
    (∃ (n : BitVec 2) (pkt : Packet) (s : State) (t : State), (s.port n.toNat).st = .up ∧ s.acceptSeq n.toNat pkt = (t, true) ∧ t.fld .clkDiv 0 0 2 = 0 ∧ t.lnk.valid = true ∧ n.toNat = t.lnk.upPort.toNat ∧ pkt.dkind = 0 ∧ pkt.dst ≠ t.lnk.id.toNat ∧ (∀ (k : Nat), k < 4 → t.rangeHolds k pkt.dst = false)) ∧
    (∃ (n : BitVec 2) (pkt : Packet) (s : State) (t : State) (k : Nat), (s.port n.toNat).st = .up ∧ s.acceptSeq n.toNat pkt = (t, true) ∧ t.fld .clkDiv 0 0 2 = 0 ∧ t.lnk.valid = true ∧ n.toNat = t.lnk.upPort.toNat ∧ pkt.dkind = 0 ∧ pkt.dst ≠ t.lnk.id.toNat ∧ List.find? (fun k => t.rangeHolds k pkt.dst) (List.range 4) = some k ∧ (t.port k).laneTrained = true) ∧
    (∃ (n : BitVec 2) (pkt : Packet) (s : State) (t : State), (s.port n.toNat).st = .up ∧ s.acceptSeq n.toNat pkt = (t, true) ∧ t.fld .clkDiv 0 0 2 = 0 ∧ t.lnk.valid = false ∧ (isCfg pkt = false ∨ pkt.dkind ≠ 2) ∧ pkt.dkind ≠ 3) ∧
    (∃ (n : BitVec 2) (pkt : Packet) (s : State) (t : State), (s.port n.toNat).st = .up ∧ s.acceptSeq n.toNat pkt = (t, true) ∧ t.fld .clkDiv 0 0 2 = 0 ∧ t.lnk.valid = false ∧ isCfg pkt = true ∧ pkt.dkind = 2 ∧ pathLen pkt = 0) ∧
    (∃ (n : BitVec 2) (pkt : Packet) (s : State) (t : State), (s.port n.toNat).st = .up ∧ s.acceptSeq n.toNat pkt = (t, true) ∧ t.fld .clkDiv 0 0 2 = 0 ∧ t.lnk.valid = false ∧ isCfg pkt = true ∧ pkt.dkind = 2 ∧ pathLen pkt ≠ 0) ∧
    (∃ (n : BitVec 2) (pkt : Packet) (s : State) (t : State), (s.port n.toNat).st = .up ∧ s.acceptSeq n.toNat pkt = (t, true) ∧ t.fld .clkDiv 0 0 2 = 0 ∧ isCfg pkt = false) := by
  refine ⟨⟨1, live, ?_⟩,
    ⟨0, dbl, pt (fun p => { p with nextRcv := 2048 }), ?_⟩,
    ⟨0, dbl, pt (fun p => { p with nextRcv := 2049 }), ?_⟩,
    ⟨0, dbl, live, ?_⟩,
    ⟨0, pt (fun p => { p with nakSent := true, nakDue := 5 }), ?_⟩,
    ⟨0, live, ?_⟩,
    ⟨0, unk, live, acc live unk, ?_⟩,
    ⟨0, dbl, live, acc live dbl, ?_⟩,
    ⟨0, other 9, rng9, acc rng9 (other 9), ((acc rng9 (other 9)).route 0 (other 9)).1, ?_⟩,
    ⟨0, dbl, live, acc live dbl, acc live dbl, ?_⟩,
    ⟨0, dbl, gated, acc gated dbl, acc gated dbl, ?_⟩,
    ⟨0, crd, live, acc live crd, acc live crd, ?_⟩,
    ⟨0, cwr, live, acc live cwr, acc live cwr, ?_⟩,
    ⟨0, cpl, live, acc live cpl, acc live cpl, ?_⟩,
    ⟨0, trn, live, acc live trn, acc live trn, ?_⟩,
    ⟨0, msg1, live, acc live msg1, acc live msg1, ?_⟩,
    ⟨0, trn, live, acc live trn, ?_⟩,
    ⟨0, dbl, live, acc live dbl, ?_⟩,
    ⟨0, other 8, rng9, acc rng9 (other 8), ?_⟩,
    ⟨0, other 9, rng9, acc rng9 (other 9), 0, ?_⟩,
    ⟨0, dbl, noId, acc noId dbl, ?_⟩,
    ⟨0, pk 5 1 0 2 0x1700 0 [], noId, acc noId (pk 5 1 0 2 0x1700 0 []), ?_⟩,
    ⟨0, cfgPath, noId, acc noId cfgPath, ?_⟩,
    ⟨0, dbl, live, acc live dbl, ?_⟩⟩ <;> (try unfold Acts) <;> (try unfold Formed) <;> (try unfold Sole) <;> decide +kernel

theorem witness_CfgRequestsAndHostReads :
    (∃ (s : State), s.pwr.state.toNat < 2 ∧ s.pathReads .cfg = false) ∧
    (∃ (pkt : Packet) (s : State), s.pwr.state.toNat < 2 ∧ s.pathReads .cfg = true ∧ cfgFits pkt pkt.len = false) ∧
    (∃ (pkt : Packet) (s : State), s.pwr.state.toNat < 2 ∧ s.pathReads .cfg = true ∧ cfgFits pkt pkt.payload.length = false) ∧
    (∃ (pkt : Packet) (s : State) (m : RegName) (i : Nat), s.pwr.state.toNat < 2 ∧ s.pathReads .cfg = true ∧ cfgFits pkt 1 = true ∧ pkt.len = 1 ∧ locateDirect (BitVec.toNat pkt.w2) = some (m, i) ∧ m ≠ .indWin ∧ m ≠ .fltStat) ∧
    (∃ (pkt : Packet) (s : State) (x : Word) (m : RegName) (i : Nat), s.pwr.state.toNat < 2 ∧ s.pathReads .cfg = true ∧ pkt.payload = [x] ∧ cfgFits pkt 1 = true ∧ locateDirect (BitVec.toNat pkt.w2) = some (m, i) ∧ m ≠ .indWin ∧ m ≠ .otpCmd) ∧
    (∃ (pkt : Packet) (s : State), (∀ (m : Mrd), m ∈ s.rng.mrds → m.tag.toNat ≠ pkt.tag)) ∧
    (∃ (pkt : Packet) (m : Mrd) (s : State) (id : Nat) (o : Nat) (part : Nat), s.rng.mrds = [m] ∧ s.rng.mrdQ = [] ∧ m.tag.toNat = pkt.tag ∧ pkt.w2 = 0 ∧ pkt.payload.length = m.words ∧ m.use = MrdFor.block id o part) ∧
    (∃ (pkt : Packet) (m : Mrd) (s : State) (q : Nat) (i : Nat) (k : Nat), s.rng.mrds = [m] ∧ s.rng.mrdQ = [] ∧ m.tag.toNat = pkt.tag ∧ pkt.w2 = 0 ∧ pkt.payload.length = m.words ∧ m.use = MrdFor.descs q i k) ∧
    (∃ (tag : BitVec 12) (s : State), (∀ (m : Mrd), m ∈ s.rng.mrds → m.tag ≠ tag)) ∧
    (∃ (s : State) (m : Mrd), s.rng.mrds = [m] ∧ (m.sent = false ∨ s.now < m.at_ + m.limit)) ∧
    (∃ (s : State) (m : Mrd) (id : Nat) (o : Nat) (part : Nat), s.rng.mrds = [m] ∧ s.rng.mrdQ = [] ∧ m.sent = true ∧ m.at_ + m.limit ≤ s.now ∧ m.use = MrdFor.block id o part) ∧
    (∃ (s : State) (m : Mrd) (q : Nat) (i : Nat) (k : Nat), s.rng.mrds = [m] ∧ s.rng.mrdQ = [] ∧ m.sent = true ∧ m.at_ + m.limit ≤ s.now ∧ m.use = MrdFor.descs q i k ∧ ((s.sq q).fetch.any fun e => e.fst == i) = true) ∧
    (∃ (n : BitVec 2) (s : State), (s.port n.toNat).phaseAt + 100 ≤ s.now) ∧
    (∃ (n : BitVec 2) (s : State), s.now < (s.port n.toNat).phaseAt + 100) ∧
    (∃ (n : Nat) (x : Word) (y : Word) (s : State) (t1 : Nat) (t4 : Nat) (g : BitVec 16), (s.port n).turnWait = true ∧ s.now ≤ (s.port n).phaseAt + 100 ∧ (s.port n).st = .up ∧ List.find? (fun e => e.fst == BitVec.setWidth 16 x) (s.port n).stamps = some (BitVec.setWidth 16 x, t1) ∧ (s.port n).lastTs2 = some (BitVec.setWidth 16 x, t4, g) ∧ 0 ≤ ((t4 : Int) - (t1 : Int) - ((BitVec.toNat y : Nat) : Int)) / 2 + (BitVec.ofNat 16 (s.fld .lnkTadj n 0 16)).toInt) ∧
    (∃ (n : Nat) (x : Word) (y : Word) (s : State) (t1 : Nat) (t4 : Nat) (g : BitVec 16), (s.port n).turnWait = true ∧ s.now ≤ (s.port n).phaseAt + 100 ∧ (s.port n).st = .up ∧ List.find? (fun e => e.fst == BitVec.setWidth 16 x) (s.port n).stamps = some (BitVec.setWidth 16 x, t1) ∧ (s.port n).lastTs2 = some (BitVec.setWidth 16 x, t4, g) ∧ ((t4 : Int) - (t1 : Int) - ((BitVec.toNat y : Nat) : Int)) / 2 + (BitVec.ofNat 16 (s.fld .lnkTadj n 0 16)).toInt < 0) := by
  refine ⟨⟨up, ?_⟩,
    ⟨{ crd with w2 := 2 }, live, ?_⟩,
    ⟨{ cwr with w2 := 0x10000 }, live, ?_⟩,
    ⟨crd, live, .twCfg, 0, ?_⟩,
    ⟨cwr, live, 0x00640000, .twCfg, 0, ?_⟩,
    ⟨cpl, live, ?_⟩,
    ⟨cpl, ⟨0, .block 4 0 0, 0, 10, true, 100⟩, mrdS (.block 4 0 0) 20, 4, 0, 0, ?_⟩,
    ⟨cpl, ⟨0, .descs 2 0 1, 0, 10, true, 100⟩, mrdS (.descs 2 0 1) 20, 2, 0, 1, ?_⟩,
    ⟨9, live, ?_⟩,
    ⟨mrdS (.descs 2 0 1) 109, ⟨0, .descs 2 0 1, 0, 10, true, 100⟩, ?_⟩,
    ⟨mrdS (.block 4 0 0) 110, ⟨0, .block 4 0 0, 0, 10, true, 100⟩, 4, 0, 0, ?_⟩,
    ⟨mrdS (.descs 2 0 1) 110, ⟨0, .descs 2 0 1, 0, 10, true, 100⟩, 2, 0, 1, ?_⟩,
    ⟨0, ptL id, ?_⟩,
    ⟨0, pt id, ?_⟩,
    ⟨0, 7, 100, trnS 1500, 1000, 1500, 3, ?_⟩,
    ⟨0, 7, 100, trnS 1050, 1000, 1050, 3, ?_⟩⟩ <;> (try unfold Acts) <;> (try unfold Formed) <;> (try unfold Sole) <;> decide +kernel

theorem witness_DoorbellsMoveTheirRings :
    (∃ (w : Word), fieldOf w 29 3 ≠ 0) ∧
    (∃ (w : Word) (s : State), fieldOf w 29 3 = 0 ∧ BitVec.getLsbD w 28 = false ∧ (s.dataFloor = false ∨ (s.sq (fieldOf w 16 12)).st ≠ .active)) ∧
    (∃ (w : Word) (s : State), fieldOf w 29 3 = 0 ∧ BitVec.getLsbD w 28 = false ∧ s.dataFloor = true ∧ (s.sq (fieldOf w 16 12)).st = .active ∧ s.sqSize (fieldOf w 16 12) ≤ fieldOf w 0 16) ∧
    (∃ (w : Word) (s : State), fieldOf w 29 3 = 0 ∧ BitVec.getLsbD w 28 = false ∧ s.dataFloor = true ∧ (s.sq (fieldOf w 16 12)).st = .active ∧ fieldOf w 0 16 < s.sqSize (fieldOf w 16 12) ∧ s.sqSize (fieldOf w 16 12) ≤ ringDist (s.sqSize (fieldOf w 16 12)) (fieldOf w 0 16) (s.sq (fieldOf w 16 12)).tail.toNat + s.pend (fieldOf w 16 12)) ∧
    (∃ (w : Word) (s : State), fieldOf w 29 3 = 0 ∧ BitVec.getLsbD w 28 = false ∧ s.dataFloor = true ∧ (s.sq (fieldOf w 16 12)).st = .active ∧ fieldOf w 0 16 < s.sqSize (fieldOf w 16 12) ∧ ringDist (s.sqSize (fieldOf w 16 12)) (fieldOf w 0 16) (s.sq (fieldOf w 16 12)).tail.toNat + s.pend (fieldOf w 16 12) < s.sqSize (fieldOf w 16 12)) ∧
    (∃ (w : Word) (s : State), fieldOf w 29 3 = 0 ∧ BitVec.getLsbD w 28 = true ∧ (s.dataFloor = false ∨ (s.cq (fieldOf w 16 12)).st ≠ .active)) ∧
    (∃ (w : Word) (s : State), fieldOf w 29 3 = 0 ∧ BitVec.getLsbD w 28 = true ∧ s.dataFloor = true ∧ (s.cq (fieldOf w 16 12)).st = .active ∧ (s.cqSize (fieldOf w 16 12) ≤ fieldOf w 0 16 ∨ s.cqUsed (fieldOf w 16 12) < ringDist (s.cqSize (fieldOf w 16 12)) (fieldOf w 0 16) (s.cq (fieldOf w 16 12)).head.toNat)) ∧
    (∃ (w : Word) (s : State), fieldOf w 29 3 = 0 ∧ BitVec.getLsbD w 28 = true ∧ s.dataFloor = true ∧ (s.cq (fieldOf w 16 12)).st = .active ∧ fieldOf w 0 16 < s.cqSize (fieldOf w 16 12) ∧ ringDist (s.cqSize (fieldOf w 16 12)) (fieldOf w 0 16) (s.cq (fieldOf w 16 12)).head.toNat ≤ s.cqUsed (fieldOf w 16 12)) ∧
    (∃ (e : Nat), e < 8) := by
  refine ⟨⟨0x20000001, ?_⟩,
    ⟨0x00000001, up, ?_⟩,
    ⟨0x00000010, rg0, ?_⟩,
    ⟨0x00000000, rg (fun x => { x with tail := 1 }) id, ?_⟩,
    ⟨0x0000000F, rg0, ?_⟩,
    ⟨0x10000001, up, ?_⟩,
    ⟨0x10000010, rg0, ?_⟩,
    ⟨0x10000001, rg id (fun c => { c with tail := 1 }), ?_⟩,
    ⟨3, ?_⟩⟩ <;> (try unfold Acts) <;> (try unfold Formed) <;> (try unfold Sole) <;> decide +kernel

theorem witness_FetchReservesAndDescriptorsBecomeCommands :
    (∃ (q : BitVec 12) (s : State), (s.sq q.toNat).fetch = [] ∧ s.rng.evLost = 0 ∧ s.nextSq ≠ some q.toNat) ∧
    (∃ (q : BitVec 12) (s : State), (s.sq q.toNat).fetch = [] ∧ s.rng.evLost = 0 ∧ s.nextSq = some q.toNat) ∧
    (∃ (q : BitVec 12) (s : State), (s.sq q.toNat).fetch = [] ∧ s.rng.evLost = 0 ∧ (s.dataFloor = false ∨ (s.sq q.toNat).st ≠ .active ∨ (s.cq (s.sqCq q.toNat)).st ≠ .active ∨ 2 ≤ s.pwr.state.toNat)) ∧
    (∃ (q : BitVec 12) (s : State), (s.sq q.toNat).fetch = [] ∧ s.rng.evLost = 0 ∧ s.fetchCount q.toNat ≠ 0) ∧
    (∃ (q : BitVec 12) (s : State), (s.fld .cqcW3 q.toNat 8 16 = 0 ∨ (s.cq q.toNat).unNote = 0 ∨ s.flag .cqcW3 q.toNat 24 = false)) ∧
    (∃ (q : BitVec 12) (s : State) (a : Nat), s.fld .cqcW3 q.toNat 8 16 ≠ 0 ∧ 0 < (s.cq q.toNat).unNote ∧ s.flag .cqcW3 q.toNat 24 = true ∧ (s.cq q.toNat).oldest = some a ∧ a + s.fld .cqcW3 q.toNat 8 16 ≤ s.now) ∧
    (∃ (q : BitVec 12) (s : State) (a : Nat), s.fld .cqcW3 q.toNat 8 16 ≠ 0 ∧ 0 < (s.cq q.toNat).unNote ∧ s.flag .cqcW3 q.toNat 24 = true ∧ (s.cq q.toNat).oldest = some a ∧ s.now < a + s.fld .cqcW3 q.toNat 8 16) ∧
    (∃ (s : State), s.dataFloor = false) ∧
    (∃ (s : State), s.dataFloor = true) ∧
    (∃ (q : Nat) (d : Desc) (s : State) (op : Op), s.sqStream q = false ∧ (s.sq q).st ≠ .disabled ∧ (s.cq (s.sqCq q)).st ≠ .disabled ∧ d.gen = (s.sq q).gen ∧ s.checkDesc q d = Except.ok op ∧ (op = .read ∨ op = .write ∨ op = .check ∨ op = .copy)) ∧
    (∃ (q : Nat) (d : Desc) (s : State) (st : Nat) (sd : Nat), s.sqStream q = false ∧ (s.sq q).st ≠ .disabled ∧ (s.cq (s.sqCq q)).st ≠ .disabled ∧ d.gen = (s.sq q).gen ∧ s.checkDesc q d = Except.error (st, sd)) ∧
    (∃ (q : Nat) (d : Desc) (s : State), s.sqStream q = false ∧ (s.sq q).st ≠ .disabled ∧ (s.cq (s.sqCq q)).st ≠ .disabled ∧ d.gen ≠ (s.sq q).gen) := by
  refine ⟨⟨0, rg0, ?_⟩,
    ⟨0, rg (fun x => { x with tail := 3 }) id, ?_⟩,
    ⟨0, up, ?_⟩,
    ⟨0, rg (fun x => { x with tail := 3 }) id, ?_⟩,
    ⟨0, rg0, ?_⟩,
    ⟨0, note1 5 15, 5, ?_⟩,
    ⟨0, note1 5 14, 5, ?_⟩,
    ⟨up, ?_⟩,
    ⟨rg0, ?_⟩,
    ⟨0, d0, rg0, .read, (by decide +kernel), (by decide +kernel), (by decide +kernel), rfl, is_ok (by decide +kernel), .inl rfl⟩,
    ⟨0, { d0 with opcode := 0xFE }, rg0, 1, 0, (by decide +kernel), (by decide +kernel), (by decide +kernel), rfl, is_error (by decide +kernel)⟩,
    ⟨0, { d0 with gen := 7 }, rg0, ?_⟩⟩ <;> (try unfold Acts) <;> (try unfold Formed) <;> (try unfold Sole) <;> decide +kernel

end Sys2Proof.Tests
end

section
/-! SUPPORT. Rules about the state that the proofs of the first family share: tables, the parts that two states share, and one
outstanding command after a rewrite of another. -/

namespace Sys2Proof.Machine

/-- A value other than the default stands where it was written and changes no other key, whatever form the table has. -/
theorem Tab.get_set_of_ne {α : Type} [DecidableEq α] (d : α) (t : Tab α) (i j : Nat) (x : α) (hx : x ≠ d) :
    Tab.get d (Tab.set d t i x) j = if j = i then x else Tab.get d t j := by
  induction t with
  | nil => grind [Tab.get, Tab.set]
  | cons e r ih => grind [Tab.get, Tab.set]

/-- An outstanding command stands under its own fetch number. -/
theorem State.id_of_cmd {s : State} {i : Nat} {c : Cmd} (h : s.cmd i = some c) : c.id = i := by
  simpa using List.find?_some h

/-- A rewrite of one command that keeps its fetch number rewrites what is found under that number, and nothing else. -/
theorem State.cmd_updCmd (s : State) (i j : Nat) (f : Cmd → Cmd) (hf : ∀ c, (f c).id = c.id) :
    (s.updCmd i f).cmd j = (s.cmd j).map fun c => if c.id == i then f c else c := by
  have hid : ∀ c : Cmd, (if c.id == i then f c else c).id = c.id := by
    intro c
    split
    · exact hf c
    · rfl
  simp only [State.cmd, State.updCmd, List.find?_map, Function.comp_def, hid]

/-- The command that is rewritten, as it is found afterwards. -/
theorem State.cmd_updCmd_self {s : State} {i : Nat} {c : Cmd} (f : Cmd → Cmd) (h : s.cmd i = some c) (hf : ∀ c, (f c).id = c.id) :
    (s.updCmd i f).cmd i = some (f c) := by
  simp [State.cmd_updCmd s i i f hf, h, State.id_of_cmd h]

/-- A change of one tally changes that command's tally alone. -/
theorem State.cmd_tally (s : State) (i j : Nat) (f : Tally → Tally) :
    (s.tally i f).cmd j = (s.cmd j).map fun c => if c.id == i then { c with tally := f c.tally } else c :=
  s.cmd_updCmd i j _ fun _ => rfl

end Sys2Proof.Machine
end

section
/-! SUPPORT. The parts that two states share: `Only` part by part, and what it is for a chain of operations. -/

namespace Sys2Proof.Safety
open Sys2Proof.Machine

/-- Two states have this part in common. -/
def Same (s t : State) : Part → Prop
  | .die => t.die = s.die | .regs => t.regs = s.regs | .tim => t.tim = s.tim | .clk => t.clk = s.clk
  | .bud => t.bud = s.bud | .qos => t.qos = s.qos | .rng => t.rng = s.rng | .lnk => t.lnk = s.lnk
  | .tch => t.tch = s.tch | .pcd => t.pcd = s.pcd | .scb => t.scb = s.scb | .pwr => t.pwr = s.pwr
  | .thm => t.thm = s.thm | .cal => t.cal = s.cal | .otp => t.otp = s.otp | .bst => t.bst = s.bst
  | .sec => t.sec = s.sec | .dbg => t.dbg = s.dbg | .flt => t.flt = s.flt | .tw => t.tw = s.tw
  | .out => t.out = s.out | .free => t.free = s.free | .pending => t.pending = s.pending

theorem Same.trans {s t u : State} {p : Part} (h : Same s t p) (g : Same t u p) : Same s u p := by
  cases p <;> exact Eq.trans g h

/-- `Only`, said of each part. -/
theorem only_iff {ps : List Part} {s t : State} : Only ps s t ↔ ∀ p, p ∈ ps ∨ Same s t p := by
  constructor
  · rintro ⟨h1, h2, h3, h4, h5, h6, h7, h8, h9, h10, h11, h12, h13, h14, h15, h16, h17, h18, h19, h20, h21, h22, h23⟩ p
    cases p <;> assumption
  · intro h
    exact ⟨h .die, h .regs, h .tim, h .clk, h .bud, h .qos, h .rng, h .lnk, h .tch, h .pcd, h .scb, h .pwr, h .thm, h .cal,
      h .otp, h .bst, h .sec, h .dbg, h .flt, h .tw, h .out, h .free, h .pending⟩

theorem Only.refl (s : State) : Only [] s s := by simp [Only]

/-- A part that is not listed is the same. -/
theorem Only.same {ps : List Part} {s t : State} (h : Only ps s t) (p : Part) (hp : p ∉ ps) : Same s t p :=
  (only_iff.mp h p).resolve_left hp

/-- Of two steps, the parts of both may differ. -/
theorem Only.trans {ps qs : List Part} {s t u : State} (h : Only ps s t) (g : Only qs t u) : Only (ps ++ qs) s u := by
  refine only_iff.mpr fun p => ?_
  by_cases hp : p ∈ ps ++ qs
  · exact .inl hp
  · rw [List.mem_append, not_or] at hp
    exact .inr ((h.same p hp.1).trans (g.same p hp.2))

/-- More parts may be listed. -/
theorem Only.mono {ps qs : List Part} {s t : State} (h : Only ps s t) (hpq : ps ⊆ qs) : Only qs s t :=
  only_iff.mpr fun p => (only_iff.mp h p).imp_left fun hp => hpq hp

end Sys2Proof.Safety

namespace Sys2Proof.Machine
open Sys2Proof.Safety

section
variable (s : State)

theorem State.updChan_only (i : Nat) (f : Chan → Chan) : Only [.tch] s (s.updChan i f) := by simp [Only]
theorem State.updTier_only (t : Nat) (f : Tier → Tier) : Only [.tch] s (s.updTier t f) := by simp [Only]
theorem State.updCmd_only (k : Nat) (f : Cmd → Cmd) : Only [.rng] s (s.updCmd k f) := by simp [Only]
theorem State.putSlot_only (i b r : Nat) (x : Option Slot) : Only [.pcd] s (s.putSlot i b r x) := by simp [Only]
theorem State.tally_only (k : Nat) (f : Tally → Tally) : Only [.rng] s (s.tally k f) := s.updCmd_only k _

theorem State.mergeRelease_only (k : Option Nat) : Only [.pcd] s (s.mergeRelease k) := by
  cases k <;> simp [Only, State.mergeRelease, State.setMerge]

/-- The strength in force is a matter of the map and its windows (R132). -/
theorem State.strengthOf_congr {s t : State} (hr : t.regs = s.regs) (hp : t.pcd = s.pcd) (l : Nat) : t.strengthOf l = s.strengthOf l := by
  unfold State.strengthOf State.openWindow State.window State.fld State.cfgWord
  rw [hr, hp]

/-- Whether a codec is too slow is a matter of its divider and of the tiers (R412). -/
theorem State.codecSlow_congr {s t : State} (hr : t.regs = s.regs) (ht : t.tch.tiers = s.tch.tiers) (k : Nat) :
    t.codecSlow k = s.codecSlow k := by
  unfold State.codecSlow State.flag State.cfgWord State.tier
  rw [hr, ht]

end

end Sys2Proof.Machine
end

section
/-! SUPPORT. The turn of a started command: its next block starts, and the block's first request goes to its channel or the block
fails (R24, R209, R212). -/

namespace Sys2Proof.Machine

/-- A turn of the command may start its next block: it has started, nothing has ended or stopped it, no block that it needs is under
test, and a block is left (R209, R210, R237, R460). -/
structure State.Turns (s : State) (c : Cmd) : Prop where
  found : s.cmd c.id = some c
  goesOn : c.final = none
  started : c.started = true
  unstopped : c.stopped = false
  unaborted : c.aborted = false
  inTime : s.abortedLate c = false
  untested : s.engineTested c = false
  left : c.next < c.count

section
variable {s : State} {c : Cmd} {o : Nat} {b : BlockBuf}

/-- Such a turn is the start of the next block. -/
theorem State.Turns.turn_eq (h : s.Turns c) {op : Op} (hop : c.op = op) (start : Cmd → State → State)
    (block : Cmd → Nat → State → State) : s.turn c.id op start block = block c c.next s := by
  simp [State.turn, h.found, hop, h.goesOn, h.started, h.unstopped, h.unaborted, h.inTime, h.untested, h.left]

/-- Starting a block changes the command alone, and no channel's answer. -/
@[simp] theorem State.refuses_openBlock (id : Nat) (mode : BitVec 2) (l : Nat) :
    (s.openBlock id o b).refuses mode l = s.refuses mode l := rfl

/-- The started command keeps its opcode. -/
theorem State.cmd_openBlock (h : s.cmd c.id = some c) : ∃ k, (s.openBlock c.id o b).cmd c.id = some k ∧ k.op = c.op :=
  ⟨_, State.cmd_updCmd_self _ h fun _ => rfl, rfl⟩

/-- A request that its channel does not refuse is handed to it. -/
theorem State.trySubmit_taken {r : Req} (h : s.refuses c.intlv r.lbn = none) : s.trySubmit c r = s.submit r := by
  simp [State.trySubmit, h]

/-- So is the first request of a block that starts. -/
theorem State.trySubmit_openBlock {r : Req} (h : s.refuses c.intlv r.lbn = none) :
    (s.openBlock c.id o b).trySubmit c r = (s.openBlock c.id o b).submit r := State.trySubmit_taken (by simpa using h)

/-- A request that its channel refuses fails with the channel's cause. -/
theorem State.trySubmit_refused {r : Req} {f : Nat × Nat} (h : s.refuses c.intlv r.lbn = some f) :
    s.trySubmit c r = s.failReq r f.1 f.2 := by
  simp [State.trySubmit, h]

/-- A block that begins with a read of its slot submits the read where the channel takes it. -/
theorem State.readBlock_taken (h : s.refuses c.intlv (c.base + o) = none) :
    s.readBlock c o = (s.openBlock c.id o .empty).submit (c.req .cmdRead o (c.base + o) false) :=
  State.trySubmit_openBlock h

/-- Where the channel refuses it, the block is refused. -/
theorem State.readBlock_refused {f : Nat × Nat} (h : s.refuses c.intlv (c.base + o) = some f) :
    s.readBlock c o = s.refuseBlock c o f :=
  State.trySubmit_refused (s := s.openBlock c.id o .empty) h

/-- A refused block ends with its cause, unless a RECODE may pass over it or another side of it is still to come (R225, R245). -/
theorem State.refuseBlock_eq (h : s.cmd c.id = some c) (hop : c.op ∉ [Op.recode, .compare, .verify]) (f : Nat × Nat) :
    s.refuseBlock c o f = (s.openBlock c.id o .empty).endBlock c.id o false (some f) false := by
  obtain ⟨k, hk, hkop⟩ := State.cmd_openBlock (o := o) (b := .empty) h
  simp only [List.mem_cons, List.not_mem_nil, or_false, not_or] at hop
  obtain ⟨hr, hc, hv⟩ := hop
  simp [State.refuseBlock, State.startBlock, State.failReq, Cmd.req, mkReq, State.mergeRelease, hk, hkop, State.recodeSkips, hr, hc, hv]

/-- An operation that needs no engine is refused as its channel refuses it. -/
theorem State.refusesFor_none {mode : BitVec 2} {l : Nat} (h : s.refuses mode l = none) : s.refusesFor mode l false = none := by
  simp [State.refusesFor, h]

end

end Sys2Proof.Machine
end

section
/-! PROOF. A turn of a started command submits the request of its next block, or fails the block (R209, R215 to R226). -/

namespace Sys2Proof.Proofs
open Sys2Proof.Machine Sys2Proof.Safety

section
variable {s : State} {c : Cmd}

/-- READ, CHECK, REPAIR and a SANITIZE by key submit the read of the block's slot. -/
theorem turn_submits_read (h : s.Turns c) (hr : s.refuses c.intlv (c.base + c.next) = none) :
    ∀ v, v = (s.openBlock c.id c.next .empty).submit (c.req .cmdRead c.next (c.base + c.next) false) →
      (c.op = .read → exec (.read c.id) s = .next v) ∧ (c.op = .check → exec (.check c.id) s = .next v) ∧
      (c.op = .repair → exec (.repair c.id) s = .next v) ∧
      (c.op = .sanitize → c.desc.opnd0.getLsbD 0 = false → exec (.sanitize c.id) s = .next v) := by
  rintro v rfl
  rw [← State.readBlock_taken hr]
  refine ⟨fun hop => ?_, fun hop => ?_, fun hop => ?_, fun hop hall => ?_⟩
  · exact congrArg _ (h.turn_eq hop _ _)
  · exact congrArg _ (h.turn_eq hop _ _)
  · refine congrArg _ ((h.turn_eq hop _ _).trans ?_)
    simp only [State.repairBlock, hr]
  · refine congrArg _ ((h.turn_eq hop _ _).trans ?_)
    simp only [State.sanitizeBlock, hr, hall, Bool.false_eq_true, if_false]

/-- A block whose place is refused fails with the cause. -/
theorem turn_fails_refused (h : s.Turns c) :
    ∀ st sd, s.refuses c.intlv (c.base + c.next) = some (st, sd) →
      ∀ v, v = (s.openBlock c.id c.next .empty).endBlock c.id c.next false (some (st, sd)) false →
      (c.op = .read → exec (.read c.id) s = .next v) ∧ (c.op = .check → exec (.check c.id) s = .next v) ∧
      (c.op = .repair → exec (.repair c.id) s = .next v) := by
  rintro st sd hr v rfl
  have hend (hop : c.op ∉ [Op.recode, .compare, .verify]) := State.refuseBlock_eq (o := c.next) h.found hop (st, sd)
  refine ⟨fun hop => ?_, fun hop => ?_, fun hop => ?_⟩
  · rw [← hend (by rw [hop]; decide), ← State.readBlock_refused hr]
    exact congrArg _ (h.turn_eq hop _ _)
  · rw [← hend (by rw [hop]; decide), ← State.readBlock_refused hr]
    exact congrArg _ (h.turn_eq hop _ _)
  · rw [← hend (by rw [hop]; decide)]
    refine congrArg _ ((h.turn_eq hop _ _).trans ?_)
    simp only [State.repairBlock, hr]

/-- A COPY submits the read of its source where neither place is refused. -/
theorem turn_copy (h : s.Turns c) (hop : c.op = .copy) (hr : s.refuses c.intlv (c.base + c.next) = none)
    (hr2 : s.refuses c.intlv (c.desc.addr2.toNat % 2 ^ 26 + c.next) = none) :
    exec (.copy c.id) s = .next ((s.openBlock c.id c.next .empty).submit (c.req .cmdRead c.next (c.base + c.next) false)) := by
  rw [← State.readBlock_taken hr]
  refine congrArg _ ((h.turn_eq hop _ _).trans ?_)
  have h2 : c.second = some (c.desc.addr2.toNat % 2 ^ 26) := by simp [Cmd.second, hop]
  simp only [State.copyBlock, h2, hr, Option.getD_some, hr2, Option.toList_none, List.append_nil, worstOf]

/-- A SANITIZE of all submits the overwrite. -/
theorem turn_sanitize_all (h : s.Turns c) (hop : c.op = .sanitize) (hall : c.desc.opnd0.getLsbD 0 = true)
    (hr : s.refuses c.intlv (c.base + c.next) = none) :
    exec (.sanitize c.id) s = .next ((s.openBlock c.id c.next .empty).submit
      { c.req .cmdWrite c.next (c.base + c.next) true with slot := some (zeroSlot true false 0), fresh := true }) := by
  refine congrArg _ ((h.turn_eq hop _ _).trans ?_)
  simp only [State.sanitizeBlock, hr, hall, if_true, State.sanitizeWrite, State.startBlock]
  exact State.trySubmit_openBlock hr

/-- A FILL of zero submits the write of a zero block. -/
theorem turn_fill_zero (h : s.Turns c) (hop : c.op = .fill) (hz : c.desc.opnd0 = 0)
    (hr : s.refuses c.intlv (c.base + c.next) = none) :
    exec (.fill c.id) s = .next ((s.openBlock c.id c.next .empty).submit
      { c.req .cmdWrite c.next (c.base + c.next) true with slot := some (zeroSlot false false c.desc.owner), fresh := true }) := by
  refine congrArg _ ((h.turn_eq hop _ _).trans ?_)
  have hk : fillKeyed c = false := by simp [fillKeyed, hz]
  simp only [State.fillBlock, hk, State.refusesFor_none hr, hz, if_true, State.startBlock]
  exact State.trySubmit_openBlock hr

/-- A WRITE asks the host for the block's data, and for its trailer value unless it is raw. -/
theorem turn_write (h : s.Turns c) (hop : c.op = .write) (hr : s.refusesFor c.intlv (c.base + c.next) (c.key != 0) = none) :
    ∀ parts, parts = partsOf (c.dataAddr c.next) (c.blockBytes c.next) ++
        (if c.raw then [] else [(trailerPart, c.trailerAddr c.next, 1)]) →
      exec (.write c.id) s =
        .next ((s.openBlock c.id c.next { BlockBuf.empty with waits := parts.map fun p => p.1 }).askParts c c.next parts) := by
  rintro parts rfl
  refine congrArg _ ((h.turn_eq hop _ _).trans ?_)
  simp only [State.writeBlock, hr]
  cases c.raw <;> simp

/-- A COMPARE of two ranges submits the reads of both slots. -/
theorem turn_compare_ranges (h : s.Turns c) (hop : c.op = .compare) (hm : c.desc.opnd0.getLsbD 0 = true)
    (hr : s.refuses c.intlv (c.base + c.next) = none) (hr2 : s.refuses c.intlv (c.desc.addr2.toNat % 2 ^ 26 + c.next) = none) :
    exec (.compare c.id) s = .next (((s.openBlock c.id c.next { BlockBuf.empty with rdLeft := 2 }).submit
      (c.req .cmdRead c.next (c.base + c.next) false)).trySubmit c
      (c.req .cmdRead2 c.next (c.desc.addr2.toNat % 2 ^ 26 + c.next) false)) := by
  refine congrArg _ ((h.turn_eq hop _ _).trans ?_)
  have h2 : c.second = some (c.desc.addr2.toNat % 2 ^ 26) := by simp [Cmd.second, hop, hm]
  simp only [State.compareBlock, h2, hr, hr2, Option.toList_none, List.append_nil, worstOf]
  rw [State.trySubmit_openBlock (r := c.req .cmdRead c.next (c.base + c.next) false) hr]

/-- A VERIFY without an array submits the read of the block's slot. -/
theorem turn_verify (h : s.Turns c) (hop : c.op = .verify) (ha : c.desc.addr = 0)
    (hr : s.refuses c.intlv (c.base + c.next) = none) :
    exec (.verify c.id) s = .next ((s.openBlock c.id c.next { BlockBuf.empty with rdLeft := 1 }).submit
      (c.req .cmdRead c.next (c.base + c.next) false)) := by
  refine congrArg _ ((h.turn_eq hop _ _).trans ?_)
  simp only [State.verifyBlock, hr, ha, if_true]
  exact State.trySubmit_openBlock hr

/-- A RECODE submits the read of a block in the reach of its window that is not yet recoded. -/
theorem turn_recode (h : s.Turns c) (hop : c.op = .recode) {k : Nat} (hk : s.openWindow (fieldOf c.desc.opnd0 0 8) = some k)
    (hlo : (s.window k).pointer ≤ c.next) (hhi : c.next < (s.window k).pointer + 256)
    (hm : (s.window k).mask.contains (c.next - (s.window k).pointer) = false)
    (hr : s.refuses c.intlv (c.base + c.next) = none) :
    exec (.recode c.id) s =
      .next ((s.openBlock c.id c.next .empty).submit (c.req .cmdRead c.next (c.base + c.next) false)) := by
  rw [← State.readBlock_taken hr]
  refine congrArg _ ((h.turn_eq hop _ _).trans ?_)
  have hw : s.openWindow c.region = some k := hk
  simp only [State.recodeBlock, hw, hm, hr]
  simp [Nat.not_le.mpr hhi, Nat.not_lt.mpr hlo]

end

/-- Settles O48: each opcode's turn is the start of its next block. -/
theorem blockTurnsSubmitRequests : Obligations.BlockTurnsSubmitRequests := by
  unfold Obligations.BlockTurnsSubmitRequests
  rintro id c s u hfound rfl hfinal hstarted hstopped haborted hlate htested hleft rfl
  have h : s.Turns c := ⟨hfound, hfinal, hstarted, hstopped, haborted, hlate, htested, hleft⟩
  exact ⟨fun hr => turn_submits_read h hr, turn_fails_refused h, fun hop => turn_copy h hop, fun hop => turn_sanitize_all h hop,
    fun hop => turn_fill_zero h hop, fun hop => turn_write h hop, fun hop => turn_compare_ranges h hop, fun hop => turn_verify h hop,
    fun hop _ hk hlo hhi hm hr => turn_recode h hop hk hlo hhi hm hr⟩

end Sys2Proof.Proofs
end

section
/-! SUPPORT. The end of a burst and of a decode, in steps (R29, R131, R143, R209, R245). -/

namespace Sys2Proof.Machine
open Sys2Proof.Safety

section
variable {s : State} {i : BitVec 10} {r : Req} {rest : List Req}

/-! ## Bursts -/

/-- Counting a block as examined touches the command alone (R213). -/
theorem State.examine_only (s : State) (r : Req) : Only [.rng] s (s.examine r) := by
  unfold State.examine
  split
  · split
    · exact s.tally_only _ _
    · exact (Only.refl s).mono (by simp)
  · exact (Only.refl s).mono (by simp)

/-- A command that is found after the count is one from before, as early as it was. -/
theorem State.cmd_examine {j : Nat} {c : Cmd} (h : (s.examine r).cmd j = some c) : ∃ k, s.cmd j = some k ∧ k.early = c.early := by
  unfold State.examine at h
  split at h
  case h_2 => exact ⟨c, h, rfl⟩
  split at h
  case isFalse => exact ⟨c, h, rfl⟩
  rw [State.cmd_tally, Option.map_eq_some_iff] at h
  obtain ⟨k, hk, rfl⟩ := h
  refine ⟨k, hk, ?_⟩
  split <;> rfl

/-- The oldest burst of a channel is over, and its block counted. -/
def State.burstOver (s : State) (i : Nat) (r : Req) (rest : List Req) : State :=
  (s.updChan i fun c => { c with active := rest }).examine r

theorem State.burstOver_only (s : State) (i : Nat) (r : Req) (rest : List Req) : Only [.tch, .rng] s (s.burstOver i r rest) :=
  (s.updChan_only i _).trans (State.examine_only _ r)

/-- Tiers are not touched. -/
theorem State.burstOver_tiers (s : State) (i : Nat) (r : Req) (rest : List Req) : (s.burstOver i r rest).tch.tiers = s.tch.tiers := by
  have h : ∀ t : State, (t.examine r).tch = t.tch := fun t => (t.examine_only r).same .tch (by decide)
  rw [State.burstOver, h]
  rfl

/-- BURST_COMPLETE on a channel with a burst. -/
theorem exec_burstComplete (errs : List Nat) (h : (s.chan i.toNat).active = r :: rest) :
    exec (.burstComplete i errs) s = .next ((if r.wr then (s.burstOver i.toNat r rest).written r
      else (s.burstOver i.toNat r rest).streamed r errs).afterTransfer i.toNat) := by
  simp only [exec, execBurstComplete, h, State.burstOver]

/-- What a WR burst leaves: its tier row, and its merge-buffer slot free (R143). -/
def State.landed (s : State) (r : Req) : State :=
  (s.putSlot r.inst r.bank r.phys (if s.codecSlow (tierOf r.inst) then none else r.slot)).mergeRelease r.merge

theorem State.landed_only (s : State) (r : Req) : Only [.pcd] s (s.landed r) :=
  ((s.putSlot_only _ _ _ _).trans (State.mergeRelease_only _ _)).mono (by simp)

theorem State.landed_store (s : State) (r : Req) : (s.landed r).pcd.store =
    Tab.set none s.pcd.store (storeKey r.inst r.bank r.phys) (if s.codecSlow (tierOf r.inst) then none else r.slot) := by
  unfold State.landed State.mergeRelease
  cases r.merge <;> rfl

theorem State.landed_merge {k : Nat} (h : r.merge = some k) : (s.landed r).pcd.merge = Tab.set none s.pcd.merge k none := by
  simp only [State.landed, h, State.mergeRelease]
  rfl

theorem State.landed_merge_none (h : r.merge = none) : (s.landed r).pcd.merge = s.pcd.merge := by
  simp only [State.landed, h, State.mergeRelease]
  rfl

theorem State.written_cmdWrite (h : r.src = .cmdWrite) : s.written r = (s.landed r).cmdWritten r := by
  simp only [State.written, h, State.landed]

theorem State.written_format (h : r.src = .format) : s.written r = (s.landed r).fmtWritten r := by
  simp only [State.written, h, State.landed]

/-- The WR burst of a running block ends the block, but for a RECODE's mark and a REPAIR's record (R209). -/
theorem State.cmdWritten_ends {c : Cmd} (hr : r.cmd = some c.id) (hc : s.cmd c.id = some c) (hrun : c.running.contains r.off = true)
    (h1 : c.op ≠ .recode) (h2 : c.op ≠ .repair) : s.cmdWritten r = s.endBlock c.id r.off false none r.sawForced := by
  simp only [State.cmdWritten, hr, Option.bind_some, hc, hrun, Bool.not_true, Bool.false_eq_true, if_false]

/-- A RD burst that carries no early data leaves its request in the codec, with the strength in force (R132). -/
theorem State.streamed_held (errs : List Nat) (h : ∀ c, r.cmd.bind s.cmd = some c → c.early = false) :
    s.streamed r errs = s.updChan r.inst fun c => { c with dec := c.dec ++ [{ r with
      errs := errs, dstr := s.strengthOf r.lbn, scb := withField (s.cfgWord .scbCfg 0) 2 1 (fieldOf r.scb 2 1) }] } := by
  simp only [State.streamed]
  split
  case h_1 c hc => simp [h c hc]
  case h_2 => rfl

/-! ## Decodes -/

@[simp] theorem State.codecSlow_updChan (j : Nat) (f : Chan → Chan) (t : Nat) : (s.updChan j f).codecSlow t = s.codecSlow t := rfl
@[simp] theorem State.slotAt_updChan (j : Nat) (f : Chan → Chan) (k b p : Nat) : (s.updChan j f).slotAt k b p = s.slotAt k b p := rfl

/-- A finding that makes no row a candidate is a matter of the log alone: no event is posted (R153, R154). -/
theorem State.finding_only (s : State) (j b row kind l : Nat) (code : BitVec 3) (other : Bool) (k : Nat) :
    Only [.scb] s (s.finding j b row kind l code other k false false) := by
  have hlog : ∀ (n : Nat) (x : Option ScbEntry), Only [.scb] s (s.setLog n x) := fun n x => by simp [Only, State.setLog]
  unfold State.finding
  split
  · simp only [Bool.or_false, Bool.false_and, Bool.not_eq_true']
    split
    case isTrue h => simp_all
    case isFalse => exact hlog _ _
  · split
    · simp [Only]
    · exact hlog _ _

theorem State.logOther_only (s : State) (r : Req) (d : Decode) : Only [.scb] s (s.logOther r d) := by
  cases d with
  | clean => exact (Only.refl s).mono (by simp)
  | corrected k =>
    simp only [State.logOther]
    split
    · exact s.finding_only ..
    · exact (Only.refl s).mono (by simp)
  | uncorrectable => exact s.finding_only ..

theorem State.countDecode_only (s : State) (t : Nat) (d : Decode) : Only [.pcd, .tch] s (s.countDecode t d) := by
  cases d <;> simp [Only, State.countDecode]

/-- The decode of a command's request has ended and is noted: in the counters, the log and the command's tally (R159, R153, R213). -/
def State.decodeNoted (s : State) (i : Nat) (r : Req) (rest : List Req) (d : Decode) : State :=
  let t := ((s.updChan i fun c => { c with dec := rest }).countDecode (tierOf i) d).logOther r d
  match r.cmd with
  | some id => t.tally id fun x => x.decoded d
  | none => t

theorem State.decodeNoted_only (s : State) (i : Nat) (r : Req) (rest : List Req) (d : Decode) :
    Only [.tch, .rng, .pcd, .scb] s (s.decodeNoted i r rest d) := by
  have h := ((s.updChan_only i fun c => { c with dec := rest }).trans (State.countDecode_only _ (tierOf i) d)).trans
    (State.logOther_only _ r d)
  unfold State.decodeNoted
  cases r.cmd with
  | none => exact h.mono (by simp)
  | some id =>
    have g := h.trans (State.tally_only _ id fun x => x.decoded d)
    exact g.mono (by simp)

/-- What an uncorrectable decode changes in the counters and the tiers, its entry in the log and its tally leave alone. -/
theorem State.decodeNoted_uncorrectable (s : State) (i : Nat) (r : Req) (rest : List Req) :
    Only [.rng, .scb] ((s.updChan i fun c => { c with dec := rest }).countDecode (tierOf i) .uncorrectable)
      (s.decodeNoted i r rest .uncorrectable) := by
  unfold State.decodeNoted
  cases r.cmd with
  | none => exact (State.logOther_only _ r _).mono (by simp)
  | some id =>
    have h := (State.logOther_only ((s.updChan i fun c => { c with dec := rest }).countDecode (tierOf i) .uncorrectable) r
      .uncorrectable).trans (State.tally_only _ id fun x => x.decoded .uncorrectable)
    exact h.mono (by simp)

/-- It is counted (R159). -/
theorem State.decodeNoted_ue (s : State) (i : Nat) (r : Req) (rest : List Req) :
    (s.decodeNoted i r rest .uncorrectable).pcd.ue = s.pcd.ue + 1 :=
  congrArg Pcd.ue ((s.decodeNoted_uncorrectable i r rest).same .pcd (by decide))

/-- It marks the pass of its tier (R155). -/
theorem State.decodeNoted_passBad (s : State) (i : Nat) (r : Req) (rest : List Req) :
    ((s.decodeNoted i r rest .uncorrectable).tier (tierOf i)).passBad = true := by
  have htch := (s.decodeNoted_uncorrectable i r rest).same .tch (by decide)
  have hne : ∀ x : Tier, { x with passBad := true, wakeBad := x.wakeBad || x.wake } ≠ Tier.init :=
    fun x h => by simpa [Tier.init] using congrArg Tier.passBad h
  rw [State.tier, htch]
  simp only [State.countDecode, State.updTier, State.setTier]
  rw [Tab.get_set_of_ne _ _ _ _ _ (hne _), if_pos rfl]

/-- What the command does with what was read; a request whose block has ended frees its merge-buffer slot. -/
def State.takeContents (s : State) (r : Req) (d : Decode) (x : Option Slot) : State :=
  match r.cmd.bind s.cmd with
  | some c => if c.running.contains r.off then s.contentsRead c r d x else s.mergeRelease r.merge
  | none => s.mergeRelease r.merge

/-- A clean decode is a matter of the command's tally alone. -/
theorem State.decodeNoted_clean {id : Nat} (h : r.cmd = some id) (j : Nat) : s.decodeNoted j r rest .clean =
    (s.updChan j fun c => { c with dec := rest }).tally id fun x => x.decoded .clean := by
  simp only [State.decodeNoted, h, State.countDecode, State.logOther]

/-- The contents go to the command while its block runs. -/
theorem State.takeContents_running {c : Cmd} {id : Nat} {x : Option Slot} (d : Decode) (hr : r.cmd = some id)
    (hc : s.cmd id = some c) (hrun : c.running.contains r.off = true) : s.takeContents r d x = s.contentsRead c r d x := by
  simp only [State.takeContents, hr, Option.bind_some, hc, hrun, if_true]

/-- DECODE_END on a channel whose oldest slot in the codec is a command's first read. -/
theorem exec_decodeEnd {mis : Option Slot} {d : Decode} {x : Option Slot} (h : (s.chan i.toNat).dec = r :: rest)
    (hsrc : r.src = .cmdRead)
    (hout : decodeOutcome (if s.codecSlow (tierOf i.toNat) then none else s.slotAt r.inst r.bank r.phys) r.dstr r.errs mis = (d, x)) :
    exec (.decodeEnd i mis) s = .next ((State.takeContents (if d = .uncorrectable then
      (s.decodeNoted i.toNat r rest d).freezeRead i.toNat r.bank r.phys else s.decodeNoted i.toNat r rest d) r d x).afterTransfer
        i.toNat) := by
  have hown : isScarab r.src = false := by rw [hsrc]; rfl
  have hout' : decodeOutcome (if (s.updChan i.toNat fun c => { c with dec := rest }).codecSlow (tierOf i.toNat) then none
    else (s.updChan i.toNat fun c => { c with dec := rest }).slotAt r.inst r.bank r.phys) r.dstr r.errs mis = (d, x) := hout
  simp only [exec, execDecodeEnd, h, hout', hown, Bool.false_eq_true, if_false]
  rfl

/-- A READ's block fails where the decode was uncorrectable (R242). -/
theorem State.contentsRead_uncorrectable {c : Cmd} {x : Option Slot} (hop : c.op = .read) :
    s.contentsRead c r .uncorrectable x = s.failReq r 0x12 0 := by
  cases x <;> simp [State.contentsRead, hop]

/-- What a READ keeps of a block that it has read (R216). -/
def State.readNoted (s : State) (id o : Nat) (d : Decode) (x : Slot) : State :=
  s.updCmd id fun c => { c with
    gen0 := if o = 0 then x.gen else c.gen0, zero0 := if o = 0 then x.zero else c.zero0
    san0 := if o = 0 then x.san else c.san0, anyCorr := c.anyCorr || d.bits != 0 }

/-- It keeps the command's tally. -/
theorem State.cmd_readNoted {id o : Nat} {d : Decode} {x : Slot} {c k : Cmd} (hc : s.cmd id = some c)
    (hk : (s.readNoted id o d x).cmd id = some k) : k.gen0 = (if o = 0 then x.gen else c.gen0) ∧ k.tally = c.tally := by
  rw [State.readNoted, State.cmd_updCmd_self _ hc] at hk
  · obtain rfl := Option.some.inj hk
    exact ⟨rfl, rfl⟩
  · exact fun _ => rfl

/-- A raw READ of a block stored in clear that agrees with its CRC-32C sends the covered granules, and the block is done (R215, R244). -/
theorem State.contentsRead_clear {c : Cmd} {x : Slot} (hop : c.op = .read) (hkey : c.key = 0) (hraw : c.raw = true)
    (hearly : c.early = false) (hgen : c.desc.opnd1.getLsbD 0 = false) (hx : x.key = 0) (hz : x.zero = false)
    (hcrc : crc32c x.data = x.crc) :
    s.contentsRead c r .clean (some x) = ((s.readNoted c.id r.off .clean x).mwrAll c.tc.toNat (c.dataAddr r.off)
      (granules (c.gFirst r.off) (c.gLast r.off) x.data)).endBlock c.id r.off true none r.sawForced := by
  have hplain : ∀ t : State, t.plainOf c r.lbn x = .ok x.data := fun t => by simp [State.plainOf, hz, hx, hkey]
  have hcheck : ∀ t : State, t.checkPlain c r.lbn x .clean x.data = (t, true) := fun t => by simp [State.checkPlain, hcrc]
  simp only [State.contentsRead, hop, State.readDone, hplain, hcheck, hx, hgen, hraw, hearly, State.readNoted, ne_eq, not_true_eq_false,
    false_and, and_false, Bool.false_eq_true, if_false, if_true]

end

end Sys2Proof.Machine
end

section
/-! PROOF. Bursts and decodes end in their order (R29, R131, R143, R209, R215, R242, R244, R412). -/

namespace Sys2Proof.Proofs
open Sys2Proof.Machine Sys2Proof.Safety

section
variable {s : State} {i : BitVec 10} {r : Req} {rest : List Req}

/-- A WR burst that ends leaves its contents in the tier row and its merge-buffer slot free, and what asked for it goes on. -/
theorem wrBurst_ends (errs : List Nat) (h : (s.chan i.toNat).active = r :: rest) (hwr : r.wr = true) :
    ∃ u : State, Only [.tch, .rng, .pcd] s u ∧
      u.pcd.store = Tab.set none s.pcd.store (storeKey r.inst r.bank r.phys) (if s.codecSlow (tierOf r.inst) then none else r.slot) ∧
      (∀ k, r.merge = some k → u.pcd.merge = Tab.set none s.pcd.merge k none) ∧ (r.merge = none → u.pcd.merge = s.pcd.merge) ∧
      (r.src = .cmdWrite → exec (.burstComplete i errs) s = .next ((u.cmdWritten r).afterTransfer i.toNat)) ∧
      (r.src = .format → exec (.burstComplete i errs) s = .next ((u.fmtWritten r).afterTransfer i.toNat)) ∧
      (∀ c, r.cmd = some c.id → u.cmd c.id = some c → c.running.contains r.off = true → c.op ≠ .recode → c.op ≠ .repair →
        u.cmdWritten r = u.endBlock c.id r.off false none r.sawForced) := by
  have hover := s.burstOver_only i.toNat r rest
  have hpcd : (s.burstOver i.toNat r rest).pcd = s.pcd := hover.same .pcd (by decide)
  have hslow : ∀ t, (s.burstOver i.toNat r rest).codecSlow t = s.codecSlow t :=
    State.codecSlow_congr (hover.same .regs (by decide)) (s.burstOver_tiers i.toNat r rest)
  have hexec := exec_burstComplete errs h
  rw [hwr, if_pos rfl] at hexec
  refine ⟨(s.burstOver i.toNat r rest).landed r, hover.trans (State.landed_only _ r), ?_, fun k hk => ?_, fun hk => ?_,
    fun hs => ?_, fun hs => ?_, fun c => State.cmdWritten_ends⟩
  · rw [State.landed_store, hpcd, hslow]
  · rw [State.landed_merge hk, hpcd]
  · rw [State.landed_merge_none hk, hpcd]
  · rw [hexec, State.written_cmdWrite hs]
  · rw [hexec, State.written_format hs]

/-- A RD burst that ends leaves its request in the codec, with the strength in force. -/
theorem rdBurst_ends (errs : List Nat) (h : (s.chan i.toNat).active = r :: rest) (hrd : r.wr = false) :
    ∃ u : State, Only [.tch, .rng] s u ∧
      u = ((s.updChan i.toNat fun c => { c with active := rest }).examine r).updChan r.inst
        (fun c => { c with dec := c.dec ++ [{ r with
          errs := errs, dstr := s.strengthOf r.lbn, scb := withField (s.cfgWord .scbCfg 0) 2 1 (fieldOf r.scb 2 1) }] }) ∧
      ((∀ c, r.cmd.bind s.cmd = some c → c.early = false) →
        exec (.burstComplete i errs) s = .next (u.afterTransfer i.toNat)) := by
  have hover := s.burstOver_only i.toNat r rest
  have hregs : (s.burstOver i.toNat r rest).regs = s.regs := hover.same .regs (by decide)
  refine ⟨_, (hover.trans (State.updChan_only _ _ _)).mono (by decide), rfl, fun hearly => ?_⟩
  have hheld : ∀ c, r.cmd.bind (s.burstOver i.toNat r rest).cmd = some c → c.early = false := by
    intro c hc
    obtain ⟨j, hj, hcj⟩ := Option.bind_eq_some_iff.mp hc
    obtain ⟨k, hk, hkc⟩ := State.cmd_examine hcj
    rw [← hkc]
    exact hearly k (Option.bind_eq_some_iff.mpr ⟨j, hj, hk⟩)
  have hstr := State.strengthOf_congr hregs (hover.same .pcd (by decide)) r.lbn
  have hcfg : (s.burstOver i.toNat r rest).cfgWord .scbCfg 0 = s.cfgWord .scbCfg 0 := by
    unfold State.cfgWord
    rw [hregs]
  have hexec := exec_burstComplete errs h
  rw [hrd, if_neg Bool.false_ne_true, State.streamed_held errs hheld, hstr, hcfg] at hexec
  exact hexec

/-- A tier row holds what was written to it, and no other changes. -/
theorem slotAt_putSlot (j b phys : Nat) (x : Option Slot) (hwf : Tab.wf none s.pcd.store = true) :
    (s.putSlot j b phys x).slotAt j b phys = x ∧
      ∀ j' b' phys', storeKey j' b' phys' ≠ storeKey j b phys → (s.putSlot j b phys x).slotAt j' b' phys' = s.slotAt j' b' phys' := by
  refine ⟨Tab.get_set_self _ _ _ _ hwf, fun j' b' phys' hne => ?_⟩
  simp only [State.slotAt, State.putSlot, Tab.get_set _ _ _ _ _ hwf, if_neg hne]

/-- A clean decode of a raw READ's clear block sends its granules, and the block is done. -/
theorem decode_clean_read {mis : Option Slot} {c : Cmd} {x : Slot} (h : (s.chan i.toNat).dec = r :: rest) (hsrc : r.src = .cmdRead)
    (hr : r.cmd = some c.id) (hc : s.cmd c.id = some c) (hop : c.op = .read) (hrun : c.running.contains r.off = true)
    (hkey : c.key = 0) (hraw : c.raw = true) (hearly : c.early = false) (hgen : c.desc.opnd1.getLsbD 0 = false)
    (hslow : s.codecSlow (tierOf i.toNat) = false)
    (hout : decodeOutcome (s.slotAt r.inst r.bank r.phys) r.dstr r.errs mis = (.clean, some x))
    (hx : x.key = 0) (hz : x.zero = false) (hcrc : crc32c x.data = x.crc) :
    ∃ u : State, exec (.decodeEnd i mis) s = .next (((u.mwrAll c.tc.toNat (c.dataAddr r.off)
        (granules (c.gFirst r.off) (c.gLast r.off) x.data)).endBlock c.id r.off true none r.sawForced).afterTransfer i.toNat) ∧
      Only [.tch, .rng] s u ∧ (∀ k, u.cmd c.id = some k → k.gen0 = (if r.off = 0 then x.gen else c.gen0) ∧
        k.tally = { c.tally with clean := c.tally.clean + 1 }) := by
  have hcmd : (s.decodeNoted i.toNat r rest .clean).cmd c.id = some { c with tally := c.tally.decoded .clean } := by
    rw [State.decodeNoted_clean hr]
    exact State.cmd_updCmd_self _ hc fun _ => rfl
  refine ⟨(s.decodeNoted i.toNat r rest .clean).readNoted c.id r.off .clean x, ?_, ?_,
    fun k => State.cmd_readNoted hcmd⟩
  · have hexec := exec_decodeEnd (d := .clean) (x := some x) h hsrc (by rw [hslow]; exact hout)
    rw [if_neg (by simp)] at hexec
    have hread := State.contentsRead_clear (s := s.decodeNoted i.toNat r rest .clean) (r := r)
      (c := { c with tally := c.tally.decoded .clean }) hop hkey hraw hearly hgen hx hz hcrc
    rw [State.takeContents_running _ hr hcmd hrun, hread] at hexec
    exact hexec
  · rw [State.decodeNoted_clean hr]
    exact ((State.updChan_only s _ _).trans ((State.tally_only _ _ _).trans (State.updCmd_only _ _ _))).mono (by simp)

/-- An uncorrectable decode is counted, marks its tier's pass, freezes the channel, and fails the READ that asked for it. -/
theorem decode_uncorrectable {mis y : Option Slot} (h : (s.chan i.toNat).dec = r :: rest) (hsrc : r.src = .cmdRead)
    (hout : decodeOutcome (if s.codecSlow (tierOf i.toNat) then none else s.slotAt r.inst r.bank r.phys) r.dstr r.errs mis =
      (.uncorrectable, y)) :
    ∃ u v : State, v = u.freezeRead i.toNat r.bank r.phys ∧ Only [.tch, .rng, .pcd, .scb] s u ∧
      u.pcd.ue = s.pcd.ue + 1 ∧ (u.tier (tierOf i.toNat)).passBad = true ∧
      (∀ c, r.cmd.bind v.cmd = some c → c.running.contains r.off = true → c.op = .read → exec (.decodeEnd i mis) s =
        .next ((v.failReq r 0x12 0).afterTransfer i.toNat)) ∧
      (r.cmd.bind v.cmd = none → exec (.decodeEnd i mis) s = .next ((v.mergeRelease r.merge).afterTransfer i.toNat)) := by
  have hexec := exec_decodeEnd h hsrc hout
  rw [if_pos rfl] at hexec
  refine ⟨s.decodeNoted i.toNat r rest .uncorrectable, _, rfl, s.decodeNoted_only .., s.decodeNoted_ue .., s.decodeNoted_passBad ..,
    fun c hc hrun hop => ?_, fun hc => ?_⟩
  · obtain ⟨id, hr, hid⟩ := Option.bind_eq_some_iff.mp hc
    rw [hexec, State.takeContents_running _ hr hid hrun, State.contentsRead_uncorrectable hop]
  · rw [hexec]
    simp only [State.takeContents, hc]

end

/-- Settles O50: the ends of bursts and decodes, each from the step lemma of its command. -/
theorem burstsAndDecodesEnd : Obligations.BurstsAndDecodesEnd := by
  unfold Obligations.BurstsAndDecodesEnd
  refine ⟨fun i errs s => ⟨fun h => ?_, fun r rest h hwr => wrBurst_ends errs h hwr, fun r rest h hrd => rdBurst_ends errs h hrd,
      fun j b phys x hwf => slotAt_putSlot j b phys x hwf⟩,
    fun i mis s => ⟨fun h => ?_, fun r rest c x d h hsrc hr hc hop hrun hkey hraw hearly hgen hslow hout hd hx hz hcrc => ?_,
      fun r rest y h hsrc hout => decode_uncorrectable h hsrc hout⟩⟩
  · simp only [exec, execBurstComplete, h]
  · simp only [exec, execDecodeEnd, h]
  · subst hd
    exact decode_clean_read h hsrc hr hc hop hrun hkey hraw hearly hgen hslow hout hx hz hcrc

end Sys2Proof.Proofs
end

section
/-! SUPPORT. What an exit from P2 or P3 leaves as it is: a CFG access that wakes the node finds its path served, and the exit
under way (R38, R306, R360, R365). -/

namespace Sys2Proof.Machine

/-- What decides, the power state apart, whether a path reaches the register file: the die and the link state of every port. -/
structure Reach (s t : State) : Prop where
  die : t.die = s.die
  link : ∀ n, (t.port n).st = (s.port n).st

theorem Reach.refl (s : State) : Reach s s := ⟨rfl, fun _ => rfl⟩

theorem Reach.trans {s t u : State} (h : Reach s t) (g : Reach t u) : Reach s u :=
  ⟨g.die.trans h.die, fun n => (g.link n).trans (h.link n)⟩

/-- A lane is trained where one was. -/
theorem Reach.anyLane {s t : State} (h : Reach s t) : t.anyLane = s.anyLane := by
  simp only [State.anyLane, Port.laneTrained, h.link]

/-- The register file is served where it was. -/
theorem Reach.regsServed {s t : State} (h : Reach s t) : t.regsServed = s.regsServed := by
  unfold State.regsServed
  rw [h.die]

/-- A step that at most sends: it changes neither what a path reaches nor the power state. -/
structure Sends (s t : State) : Prop extends Reach s t where
  power : t.pwr.state = s.pwr.state

namespace Sends
variable {s t u : State}

theorem refl (s : State) : Sends s s := ⟨.refl s, rfl⟩

theorem trans (h : Sends s t) (g : Sends t u) : Sends s u := ⟨h.toReach.trans g.toReach, g.power.trans h.power⟩

/-- One more step, taken or left out. -/
theorem step {c : Prop} [Decidable c] (h : Sends s t) (g : Sends t u) : Sends s (if c then u else t) := by
  split
  · exact h.trans g
  · exact h

/-- A run of such steps. -/
theorem foldl {α : Type} {f : State → α → State} (hf : ∀ t a, Sends t (f t a)) (l : List α) (s : State) : Sends s (l.foldl f s) := by
  induction l generalizing s with
  | nil => exact refl s
  | cons a l ih => exact (hf s a).trans (ih _)

theorem emit (o : Out) : Sends s (s.emit o) := ⟨⟨rfl, fun _ => rfl⟩, rfl⟩

theorem grant (l : Load) (span : Nat) : Sends s (s.grant l span) := ⟨⟨rfl, fun _ => rfl⟩, rfl⟩

/-- A port in UP that stays in UP, whatever else of it changes. -/
theorem updPort {n : Nat} {f : Port → Port} (h : Sends s t) (hup : (s.port n).st = .up) (hf : ∀ p, (f p).st = p.st) :
    Sends s (t.updPort n f) := by
  have hne : f (t.port n) ≠ Port.init := fun e => by
    have he := congrArg Port.st e
    rw [hf, h.link, hup] at he
    exact absurd he (by decide)
  refine h.trans ⟨⟨rfl, fun k => ?_⟩, rfl⟩
  show (Tab.get .init (Tab.set .init t.lnk.ports n (f (t.port n))) k).st = _
  rw [Tab.get_set_of_ne _ _ _ _ _ hne]
  split
  case isTrue hk => rw [hk, hf]
  case isFalse => rfl

theorem burst (n : Nat) (lanes : Byte) (count : Nat) : Sends s (s.burst n lanes count) :=
  (foldl (fun _ _ => emit _) _ s).trans (emit _)

theorem wakeL0 (n : Nat) : Sends s (s.wakeL0 n) := by
  simp only [State.wakeL0]
  split
  case isTrue => exact refl s
  case isFalse h =>
    rw [not_or, not_not] at h
    have hlock : Sends s { s with clk := { s.clk with laneLock :=
        if (s.port n).svcTx = 2 then s.clk.laneLock ||| ((1 : BitVec 4) <<< n) else s.clk.laneLock } } :=
      ⟨⟨rfl, fun _ => rfl⟩, rfl⟩
    exact ((hlock.trans (emit _)).trans (burst _ _ _)).updPort h.2 fun _ => rfl

theorem moveBulk (n dest : Nat) : Sends s (s.moveBulk n dest) := by
  simp only [State.moveBulk]
  split
  case isTrue => exact refl s
  case isFalse h =>
    rw [not_or, not_not] at h
    refine updPort (step (step (step (step (refl s) (grant _ _)) ?_) (emit _)) (emit _)) h.1 fun _ => rfl
    exact ((wakeL0 n).step (emit _)).trans (burst _ _ _)

theorem moveAllBulk (dest : Nat) : Sends s (s.moveAllBulk dest) := by
  unfold State.moveAllBulk
  exact foldl (fun _ n => moveBulk n dest) _ s

end Sends

section
variable (s : State)

/-- A change of the power state sets it, and nothing that a path reaches by. -/
theorem State.setPower_reach (dest cause : Nat) : Reach s (s.setPower dest cause) := by
  simp only [State.setPower]
  split
  · exact .refl s
  · refine Reach.trans ?_ (Sends.moveAllBulk dest).toReach
    exact ⟨rfl, fun _ => rfl⟩

theorem State.setPower_state (dest cause : Nat) (h : s.pwr.state.toNat ≠ dest) :
    (s.setPower dest cause).pwr.state = BitVec.ofNat 3 dest := by
  simp only [State.setPower, if_neg h]
  exact (Sends.moveAllBulk dest).power

/-- Opening the gates at an exit: the exit still runs, or it has reached P0 (R360, R366). -/
theorem State.ungate_reach : Reach s s.ungate := by
  simp only [State.ungate]
  split
  · exact .refl s
  · split
    · refine Reach.trans ?_ (State.setPower_reach _ _ _)
      exact ⟨rfl, fun _ => rfl⟩
    · exact ⟨rfl, fun _ => rfl⟩

theorem State.ungate_state (hx : s.pwr.exiting = true) (h0 : s.pwr.state.toNat ≠ 0) :
    s.ungate.pwr.exiting = true ∧ s.ungate.pwr.state = s.pwr.state ∨ s.ungate.pwr.state = 0 := by
  simp only [State.ungate]
  split
  · exact .inl ⟨hx, rfl⟩
  · split
    · exact .inr (State.setPower_state _ _ _ h0)
    · exact .inl ⟨hx, rfl⟩

/-- An exit from P2 or P3 leaves what a path reaches, and then runs or has reached P0 (R360). -/
theorem State.startExit_p2_p3 (cause : Nat) (h2 : 2 ≤ s.pwr.state.toNat) (h4 : s.pwr.state.toNat < 4) :
    Reach s (s.startExit cause) ∧
      ((s.startExit cause).pwr.exiting = true ∧ (s.startExit cause).pwr.state = s.pwr.state ∨
        (s.startExit cause).pwr.state = 0) := by
  have hbegin : ∀ at_, Reach s (s.beginExit cause at_) := fun _ => ⟨rfl, fun _ => rfl⟩
  unfold State.startExit
  split
  case isTrue hx => exact ⟨.refl s, .inl ⟨hx, rfl⟩⟩
  case isFalse =>
    have hungate := And.intro ((hbegin s.now).trans (State.ungate_reach _))
      (State.ungate_state (s.beginExit cause s.now) rfl (show s.pwr.state.toNat ≠ 0 by omega))
    obtain h | h : s.pwr.state.toNat = 2 ∨ s.pwr.state.toNat = 3 := by omega
    · rw [h]
      exact hungate
    · rw [h]
      exact hungate

end

end Sys2Proof.Machine
end

section
/-! SUPPORT. Writes to a named register that do not act: on a path that sleeps or wakes, in a held die, and to a stalled block (R38,
R380, R512, R543, R554). -/

namespace Sys2Proof.Machine
open Sys2Proof.Safety

section
variable {s : State} {p : Path} {n : RegName} {i : Nat} {d : Word} {port : Nat} {fail : Option (BitVec 4)}

/-- A command that names a register is the write of that register on its path. -/
theorem exec_named {c : Instr} (h : named c = some (p, n, i, d)) :
    ∃ (port : Nat) (fail : Option (BitVec 4)), ∀ s, exec c s = .next (s.namedWrite p n i d port fail) := by
  unfold named at h
  split at h <;> cases h <;> exact ⟨_, _, fun _ => rfl⟩

/-- An exit that runs is not begun again (R360). -/
theorem State.cfgWake_exiting (h : s.pwr.exiting = true) : s.cfgWake = s := by
  have hexit : s.startExit 2 = s := by
    unfold State.startExit
    rw [if_pos h]
  simp [State.cfgWake, hexit]

/-- A path that finds the node in P4 is the CFG path, and its register file is not reached (R38). -/
theorem State.pathWrites_asleep (h : s.cfgSleeps p = true) : s.pathWrites p = false := by
  simp only [State.cfgSleeps, Bool.and_eq_true, beq_iff_eq] at h
  obtain ⟨⟨⟨rfl, -⟩, hp4⟩, -⟩ := h
  simp [State.pathWrites, State.pathReads, hp4]

/-- A CFG write that finds the node in P4 waits, and wakes the node (R38). -/
theorem State.namedWrite_asleep (h : s.cfgSleeps p = true) :
    s.namedWrite p n i d port fail = s.park (.access (regPlace n).ind (regAddr n i) (some d) port fail) := by
  simp [State.namedWrite, State.onPath, State.pathWrites_asleep h, h]

/-- The CFG path is served below P4, while a lane is trained (R419, R543). -/
theorem State.pathWrites_cfg : s.pathWrites .cfg = (s.regsServed && (decide (s.pwr.state.toNat < 4) && s.anyLane)) := by
  simp [State.pathWrites, State.pathReads]

/-- A CFG write that finds the node in P2 or P3 wakes it and is carried out as if the exit had begun before (R38, R365). -/
theorem State.namedWrite_wakes (h : s.pathWrites .cfg = true) (h2 : 2 ≤ s.pwr.state.toNat) :
    s.namedWrite .cfg n i d port fail = (s.startExit 2).namedWrite .cfg n i d port fail := by
  have hserved := h
  rw [State.pathWrites_cfg, Bool.and_eq_true, Bool.and_eq_true, decide_eq_true_eq] at h
  obtain ⟨hregs, h4, hlane⟩ := h
  obtain ⟨hreach, hstate⟩ := s.startExit_p2_p3 2 h2 h4
  have hwake : s.cfgWake = s.startExit 2 := by
    unfold State.cfgWake
    rw [if_pos ⟨h2, by omega⟩]
  have hagain : (s.startExit 2).cfgWake = s.startExit 2 := by
    obtain ⟨hx, -⟩ | h0 := hstate
    · exact State.cfgWake_exiting hx
    · exact State.cfgWake_awake _ (by rw [h0]; decide)
  have hserved' : (s.startExit 2).pathWrites .cfg = true := by
    have hlow : (s.startExit 2).pwr.state.toNat < 4 := by
      obtain ⟨-, he⟩ | h0 := hstate
      · rwa [he]
      · rw [h0]; decide
    rw [State.pathWrites_cfg, hreach.regsServed, hreach.anyLane, hregs, hlane, decide_eq_true hlow]
    rfl
  simp [State.namedWrite, State.onPath, hserved, hserved', hwake, hagain]

/-- In the Click hold, and in the safe state but for RST_CTL and FLT_ACK, a write is ignored whole (R380, R512, R554). -/
theorem State.writeReg_held (w : RegWrite) (h : s.die.mode = .clickHold ∨ (s.die.mode = .safe ∧ n ≠ .rstCtl ∧ n ≠ .fltAck)) :
    s.writeReg w n i = s.ignoredWhole w (s.present w.src n i) := by
  unfold State.writeReg
  rw [if_pos]
  obtain h | ⟨h, hr, hf⟩ := h
  · exact .inl h
  · exact .inr ⟨h, by simp [safeWrites, hr, hf]⟩

/-- A write ignored whole is one new entry of the clamp log, of KIND IGNORED over the whole register (R554, R557). -/
theorem State.ignoredWhole_entry (s : State) (w : RegWrite) (x : Word) :
    ∃ e, (s.ignoredWhole w x).regs.clampLog.getLast? = some e ∧
      e.whr = packed [(w.addr, 0, 24), (oneIf w.ind, 24, 1), (w.src, 25, 3), (2, 28, 4)] ∧
      e.field = 0 ∧ e.fieldHi = 31 ∧ e.data = w.data ∧ e.seq = s.regs.clampNext := by
  have hlast : ∀ (l : List ClampEntry) (e : ClampEntry), ((l ++ [e]).drop ((l ++ [e]).length - 32)).getLast? = some e := by
    intro l e
    rw [List.getLast?_drop, if_neg (by simp), List.getLast?_concat]
  exact ⟨_, hlast _ _, rfl, rfl, rfl, rfl, rfl⟩

/-- A block whose block reset is in progress takes no write (R429). -/
theorem State.blockStalled_busy {b : Byte} (h : s.die.blockBusy.contains b = true) : s.blockStalled b = true := by
  simp only [State.blockStalled, h, Bool.or_true, Bool.true_or]

/-- A write of an action whose block is stalled waits: nothing happens but that it is noted (R554). -/
theorem State.writeReg_stalled (w : RegWrite) (hmode : s.die.mode = .running) (hlate : s.regs.late = [])
    (ha : (regFields n i).all (fun f => !f.typ.stored) = true) (hs : s.ownerStalled n i = true) :
    s.writeReg w n i = { s with regs := { s.regs with late := [⟨w.src, w.ind, w.addr, w.data, w.port, w.fail,
      s.present w.src n i, s.present w.src n i⟩] } } := by
  simp [State.writeReg, hmode, hlate, hs, State.commitFields_actions _ _ _ _ ha]

/-- The one write that waits acts once its block runs (R554). -/
theorem State.actLate_one {e : LateWrite} (hl : s.regs.late = [e]) (hp : e.place = some (n, i)) (hsame : e.old = e.new)
    (hmode : s.die.mode = .running) (hs : s.ownerStalled n i = false) :
    s.actLate = { s with regs := { s.regs with late := [] } }.act ⟨e.src, e.ind, e.addr, e.data, e.port, e.fail⟩ n i := by
  simp [State.actLate, hl, hmode, hp, hs, State.takeFields, hsame]

end

end Sys2Proof.Machine
end

section
/-! PROOF. Writes on an unserved path, to a sleeping node, to a held die and to a stalled block (R38, R365, R380, R512, R543, R554). -/

namespace Sys2Proof.Proofs
open Sys2Proof.Machine Sys2Proof.Safety

/-- A named write on a path that is not served, or to a node that sleeps. -/
theorem named_unserved {c : Instr} {p : Path} {n : RegName} {i : Nat} {d : Word} (s : State) (h : named c = some (p, n, i, d)) :
    (s.pathWrites p = false → s.cfgSleeps p = false → exec c s = .next s) ∧
      (s.cfgSleeps p = true → ∃ (port : Nat) (fail : Option (BitVec 4)),
        exec c s = .next (s.park (.access (regPlace n).ind (regAddr n i) (some d) port fail))) ∧
      (p = .cfg → s.pathWrites p = true → 2 ≤ s.pwr.state.toNat → exec c s = exec c (s.startExit 2)) := by
  obtain ⟨port, fail, hexec⟩ := exec_named h
  refine ⟨fun hw hc => ?_, fun hc => ⟨port, fail, ?_⟩, ?_⟩
  · rw [hexec, State.namedWrite_unserved s p n i d port fail hw hc]
  · rw [hexec, State.namedWrite_asleep hc]
  · rintro rfl hw h2
    rw [hexec, hexec, State.namedWrite_wakes hw h2]

/-- A named write in the Click hold or the safe state is ignored and reported. -/
theorem named_held {c : Instr} {p : Path} {n : RegName} {i : Nat} {d : Word} {s : State} (h : named c = some (p, n, i, d))
    (hw : s.pathWrites p = true) (hawake : p = .cfg → s.pwr.state.toNat < 2)
    (hheld : s.die.mode = .clickHold ∨ (s.die.mode = .safe ∧ n ≠ .rstCtl ∧ n ≠ .fltAck)) :
    ∃ r : Regs, exec c s = .next { s with regs := r }.noteLevel ∧ r.cfg = s.regs.cfg ∧ r.par = s.regs.par ∧ r.late = s.regs.late ∧
      r.clampNew = true ∧ r.clampNext = s.regs.clampNext + 1 ∧
      (∃ e, r.clampLog.getLast? = some e ∧ e.whr =
        packed [(regAddr n i, 0, 24), (oneIf (regPlace n).ind, 24, 1), (pathSource p, 25, 3), (2, 28, 4)] ∧
        e.field = 0 ∧ e.fieldHi = 31 ∧ e.data = d ∧ e.seq = s.regs.clampNext) := by
  obtain ⟨port, fail, hexec⟩ := exec_named h
  let w : RegWrite := ⟨pathSource p, (regPlace n).ind, regAddr n i, d, port, fail⟩
  refine ⟨(s.ignoredWhole w (s.present w.src n i)).regs, ?_, rfl, rfl, rfl, rfl, rfl, s.ignoredWhole_entry w _⟩
  rw [hexec, State.namedWrite, hw, State.onPath_served _ _ _ _ hawake, State.writeReg_held _ hheld]
  rfl

/-- CAL_CTL has action fields alone, and its address finds it. -/
theorem calCtl_acts : (regFields .calCtl 0).all (fun f => !f.typ.stored) = true := by decide

theorem calCtl_place (e : LateWrite) (hi : e.ind = (regPlace .calCtl).ind) (ha : e.addr = regAddr .calCtl 0) :
    e.place = some (.calCtl, 0) := by
  unfold LateWrite.place
  rw [hi, ha]
  decide

/-- CAL_NOW to a calibration unit in its block reset is noted and waits. -/
theorem calNow_waits (p : Path) (s : State) (hw : s.pathWrites p = true) (hmode : s.die.mode = .running) (hlate : s.regs.late = [])
    (hawake : p = .cfg → s.pwr.state.toNat < 2) (hbusy : s.die.blockBusy.contains 0x08 = true) : ∃ e : LateWrite,
      exec (.calNow p) s = .next { s with regs := { s.regs with late := [e] } }.noteLevel ∧
      e.place = some (.calCtl, 0) ∧ e.data = 1 := by
  have hstalled : s.ownerStalled .calCtl 0 = true := State.blockStalled_busy hbusy
  let w : RegWrite := ⟨pathSource p, (regPlace .calCtl).ind, regAddr .calCtl 0, 1, 0, none⟩
  refine ⟨⟨w.src, w.ind, w.addr, w.data, w.port, w.fail, s.present w.src .calCtl 0, s.present w.src .calCtl 0⟩, ?_,
    calCtl_place _ rfl rfl, rfl⟩
  rw [← State.writeReg_stalled w hmode hlate calCtl_acts hstalled]
  refine congrArg Host.Outcome.next ?_
  rw [State.namedWrite, hw, State.onPath_served _ _ _ _ hawake]

/-- It acts once the unit runs. -/
theorem calNow_acts_late (e : LateWrite) (s : State) (hlate : s.regs.late = [e]) (hplace : e.place = some (.calCtl, 0)) (hdata : e.data = 1)
    (hsame : e.old = e.new) (hmode : s.die.mode = .running) (hruns : s.ownerStalled .calCtl 0 = false) :
    s.actLate = { s with regs := { s.regs with late := [] } }.calNow := by
  rw [State.actLate_one hlate hplace hsame hmode hruns]
  simp [State.act, State.bitAction, hdata, bitOf]

/-- Settles O6: no write acts on an unserved path, in a held die or in a stalled block. -/
theorem writesThatDoNotAct : Obligations.WritesThatDoNotAct := by
  unfold Obligations.WritesThatDoNotAct
  exact ⟨fun c p n i d s h => named_unserved s h, fun c p n i d s h hw hawake hheld => named_held h hw hawake hheld,
    calNow_waits, calNow_acts_late⟩

end Sys2Proof.Proofs
end

section
/-! PROOF. What a cricket tick leaves of the register file (R47, R233): a counterexample. -/

namespace Sys2Proof.Proofs
open Sys2Proof.Machine Sys2Proof.Safety

/-- A SET_LATENCY of the node's tolerance that has done its work and asks for 5 µs; its final entry is the next to be written (R233). -/
def latencyToEnd : Cmd := { (default : Cmd) with
  op := .setLatency, phase := 1, final := some default, desc := { (default : Desc) with opnd0 := 0x10005 } }

/-- A running node with that command outstanding. Tier 0 is in the self-refresh of a clock change and its PLL has locked (R116), and its
channel 0 is frozen, with a request that its DISCARD is to fail once the tier is clocked (R109, R121). -/
def clockChangeEnds : State := { State.reset with
  die := { Die.init with mode := .running }
  tim := { Tim.init with held := false }
  clk := { Clk.init with tierLock := 1 }
  tch := { Tch.init with
    tiers := [(0, { Tier.init with open_ := true, good := true, changing := true, selfRef := true })]
    chans := [(0, { Chan.init with st := .frozen, discard := true, queue := [default] })] }
  rng := { Rng.init with cmds := [latencyToEnd] } }

/-- The tick ends the clock change, the discarded request fails, and with it the command ends: PWR_LAT_TOL takes its value. -/
theorem clockChangeEnds_tick_writes :
    clockChangeEnds.tick.drainBlocks.resume.fld .pwrLatTol 0 0 16 = 5 ∧ clockChangeEnds.fld .pwrLatTol 0 0 16 = 65535 := by
  decide +kernel

/-- Refutes O39: nothing is asked of the two-wire bus and no fuse command runs or waits, and yet a tick that ends the clock change of a
tier writes PWR_LAT_TOL, since a SET_LATENCY ends with the request that the tier's frozen channel discards (R109, R116, R233). -/
theorem not_ticksTimeSetsAndNodeEpochs : ¬ Obligations.TicksTimeSetsAndNodeEpochs := by
  unfold Obligations.TicksTimeSetsAndNodeEpochs
  rintro ⟨⟨hticks, -⟩, -⟩
  obtain ⟨-, -, hruns⟩ := hticks clockChangeEnds rfl rfl rfl rfl rfl
  obtain ⟨t, hexec, -, -, -, hregs⟩ := hruns (by decide) (by decide) (by decide) rfl rfl rfl
  have ht : clockChangeEnds.tick.drainBlocks.resume = t := Host.Outcome.next.inj hexec
  have hsame : t.fld .pwrLatTol 0 0 16 = clockChangeEnds.fld .pwrLatTol 0 0 16 := by
    unfold State.fld State.cfgWord
    rw [hregs rfl rfl rfl]
  obtain ⟨hafter, hbefore⟩ := clockChangeEnds_tick_writes
  rw [← ht, hafter, hbefore] at hsame
  exact absurd hsame (by decide)

end Sys2Proof.Proofs
end

section
/-! SUPPORT. What issues next on a channel (R61, R62, R268), and one REF (R60, R70, R91, R93). -/

namespace Sys2Proof.Machine
open Sys2Proof.Safety

section
variable (s : State) (i : Nat)

/-! ## The order on a channel -/

/-- No request with the place of `x` in the order goes before one with the place of `r` (R61, R268). -/
def State.Precedes (r x : Req) : Prop :=
  s.urgency i r < s.urgency i x ∨ (s.urgency i r = s.urgency i x ∧ r.age ≤ x.age)

theorem State.Precedes.refl (r : Req) : s.Precedes i r r := .inr ⟨rfl, le_rfl⟩

variable {s i} in
theorem State.Precedes.trans {r x y : Req} (h : s.Precedes i r x) (g : s.Precedes i x y) : s.Precedes i r y := by
  unfold State.Precedes at *
  omega

/-- The better of the best request so far and the next one. -/
def State.better (best : Option Req) (r : Req) : Option Req :=
  match best with
  | none => some r
  | some b =>
    if s.urgency i r < s.urgency i b ∨ (s.urgency i r = s.urgency i b ∧ r.age < b.age) then some r else some b

/-- It is one of the two, and neither beats it. -/
theorem State.better_some (b r : Req) : ∃ x, s.better i (some b) r = some x ∧ (x = b ∨ x = r) ∧ s.Precedes i x b ∧ s.Precedes i x r := by
  unfold State.better
  by_cases h : s.urgency i r < s.urgency i b ∨ (s.urgency i r = s.urgency i b ∧ r.age < b.age)
  · exact ⟨r, if_pos h, .inr rfl, h.imp_right fun h => ⟨h.1, h.2.le⟩, .refl s i r⟩
  · refine ⟨b, if_neg h, .inl rfl, .refl s i b, ?_⟩
    unfold State.Precedes
    omega

/-- Going through a list, the best so far stays or is replaced by one of the list, and in the end none beats it. -/
theorem State.foldl_better (l : List Req) (b : Req) :
    ∃ r, l.foldl (s.better i) (some b) = some r ∧ r ∈ b :: l ∧ ∀ x ∈ b :: l, s.Precedes i r x := by
  induction l generalizing b with
  | nil => exact ⟨b, rfl, by simp, by simpa using State.Precedes.refl s i b⟩
  | cons a l ih =>
    obtain ⟨c, hc, hmem, hcb, hca⟩ := s.better_some i b a
    obtain ⟨r, hr, hrl, hbest⟩ := ih c
    have hrc : s.Precedes i r c := hbest c (by simp)
    refine ⟨r, by rw [List.foldl_cons, hc, hr], ?_, fun x hx => ?_⟩
    · rcases List.mem_cons.mp hrl with rfl | h
      · rcases hmem with rfl | rfl <;> simp
      · simp [h]
    · rcases List.mem_cons.mp hx with rfl | hx
      · exact hrc.trans hcb
      · rcases List.mem_cons.mp hx with rfl | hx
        · exact hrc.trans hca
        · exact hbest x (List.mem_cons_of_mem _ hx)

theorem State.nextReq_eq : s.nextReq i = ((s.chan i).queue.filter (s.issuable i)).foldl (s.better i) none := rfl

/-- Where no request may issue, none is chosen. -/
theorem State.nextReq_none (h : ∀ r ∈ (s.chan i).queue, s.issuable i r = false) : s.nextReq i = none := by
  rw [State.nextReq_eq, List.filter_eq_nil_iff.mpr fun r hr => by simp [h r hr], List.foldl_nil]

/-- Where one may issue, the chosen one may, and none that may beats it. -/
theorem State.nextReq_some (h : ∃ r ∈ (s.chan i).queue, s.issuable i r = true) :
    ∃ r, s.nextReq i = some r ∧ r ∈ (s.chan i).queue ∧ s.issuable i r = true ∧
      ∀ x ∈ (s.chan i).queue, s.issuable i x = true → s.Precedes i r x := by
  obtain ⟨r₀, hr₀⟩ := h
  rw [State.nextReq_eq]
  rcases hl : (s.chan i).queue.filter (s.issuable i) with _ | ⟨b, l⟩
  · exact absurd (List.mem_filter.mpr hr₀) (by simp [hl])
  · obtain ⟨r, hr, hmem, hbest⟩ := s.foldl_better i l b
    rw [← hl] at hmem hbest
    obtain ⟨hq, hi⟩ := List.mem_filter.mp hmem
    exact ⟨r, hr, hq, hi, fun x hx hxi => hbest x (List.mem_filter.mpr ⟨hx, hxi⟩)⟩

/-- What a channel that may issue does: the chosen request, unless it comes after CAL and a probe of a calibration round may go. -/
def State.issueNext : State :=
  match s.nextReq i with
  | some r => if s.classRank i r.cls < 4 then s.issue i r else (s.calProbe i).getD (s.issue i r)
  | none => (s.calProbe i).getD s

theorem State.issueNext_none (h : ∀ r ∈ (s.chan i).queue, s.issuable i r = false) : s.issueNext i = (s.calProbe i).getD s := by
  simp only [State.issueNext, s.nextReq_none i h]

theorem State.issueNext_some (h : ∃ r ∈ (s.chan i).queue, s.issuable i r = true) :
    ∃ r, s.issueNext i = (if s.classRank i r.cls < 4 then s.issue i r else (s.calProbe i).getD (s.issue i r)) ∧
      r ∈ (s.chan i).queue ∧ s.issuable i r = true ∧ ∀ x ∈ (s.chan i).queue, s.issuable i x = true → s.Precedes i r x := by
  obtain ⟨r, hr, hbest⟩ := s.nextReq_some i h
  exact ⟨r, by simp only [State.issueNext, hr], hbest⟩

/-- Nothing keeps the channel from issuing: it serves and is refreshed, reads no mode register 6, its tier neither changes its clock nor
closes nor is reset, the node is awake with its domains and PLLs running, and no stack test or segment stands in the way (R62, R90). -/
structure State.Unhindered : Prop where
  serves : s.serves i = true
  refreshes : s.refreshes i = true
  noParityWait : (s.chan i).parWait = false
  steady : (s.tier (tierOf i)).changing = false
  awake : s.pwr.state.toNat < 2
  stays : tierOf i ∉ s.pwr.closeQ
  pll0 : 0 ∉ s.clk.tripped
  pll1 : 1 ∉ s.clk.tripped
  untested : s.underTest i = false
  noStackTest : s.bst.state ≠ 2
  domainA : s.pwr.gateA = false
  domainB : s.pwr.gateB = false
  tierRuns : s.die.blockBusy.contains (BitVec.ofNat 8 (0x20 + tierOf i)) = false

/-! ## One REF -/

theorem State.wf_updChan (f : Chan → Chan) (h : Tab.wf .init s.tch.chans = true) : Tab.wf .init (s.updChan i f).tch.chans = true :=
  Tab.wf_set _ _ _ _ h

/-- A channel that is rewritten, as it is found afterwards. -/
theorem State.chan_updChan_self (f : Chan → Chan) (h : Tab.wf .init s.tch.chans = true) : (s.updChan i f).chan i = f (s.chan i) :=
  Tab.get_set_self _ _ _ _ h

theorem State.takePlace_only (maint : Bool) (q : Nat) : Only [.tch] s (s.takePlace i maint q) := s.updChan_only _ _

theorem State.charge_only (c : Class) (q : Nat) : Only [.tch, .bud] s (s.charge i c q) := by
  cases c <;> simp [Only, State.charge]

theorem State.word_only (op bank operand : Nat) : Only [.tch, .out] s (s.word i op bank operand) := by
  simp [Only, State.word]

/-- Which bank the next REF goes to is a matter of the channel's own bank and of the stack test. -/
theorem State.refBank_congr {s t : State} {i : Nat} (hbank : (t.chan i).bank = (s.chan i).bank) (hbst : t.bst = s.bst) :
    t.refBank i = s.refBank i := by
  unfold State.refBank
  rw [hbank, hbst]

/-- A place taken, a charge and a word sent change what each is about in the channel, and nothing else of it. -/
theorem State.chan_takePlace (maint : Bool) (q : Nat) (h : Tab.wf .init s.tch.chans = true) :
    ∃ p r b, (s.takePlace i maint q).chan i = { s.chan i with place := p, resv := r, busyTo := b } :=
  ⟨_, _, _, s.chan_updChan_self i _ h⟩

theorem State.chan_chargeMaint (q : Nat) (h : Tab.wf .init s.tch.chans = true) :
    ∃ left, (s.charge i .maint q).chan i = { s.chan i with
      charged := { (s.chan i).charged with maint := (s.chan i).charged.maint + q }, remain := left } :=
  ⟨_, Tab.get_set_self _ _ _ _ h⟩

theorem State.chan_word (op bank operand : Nat) (h : Tab.wf .init s.tch.chans = true) :
    ∃ l n, (s.word i op bank operand).chan i = { s.chan i with words := l, alertN := n } := by
  have hchan : (s.word i op bank operand).chan i = _ := (s.emit (.word i (cmdWord op bank operand))).chan_updChan_self i _ h
  rw [hchan]
  split
  · exact ⟨_, _, rfl⟩
  · exact ⟨_, (s.chan i).alertN, rfl⟩

/-- A REF's charge and its command word. -/
def State.refSent : State :=
  ((s.takePlace i true (s.refQ i)).charge i .maint (s.refQ i)).word i opRef (s.refBank i).toNat 0

theorem State.refSent_only : Only [.tch, .bud, .out] s (s.refSent i) :=
  (((s.takePlace_only i _ _).trans (State.charge_only _ i _ _)).trans (State.word_only _ i _ _ _)).mono (by simp)

theorem State.wf_refSent (h : Tab.wf .init s.tch.chans = true) : Tab.wf .init (s.refSent i).tch.chans = true :=
  Tab.wf_set _ _ _ _ (Tab.wf_set _ _ _ _ (Tab.wf_set _ _ _ _ h))

/-- They leave the channel's debt and bank. -/
theorem State.chan_refSent (h : Tab.wf .init s.tch.chans = true) : ((s.refSent i).chan i).debt = (s.chan i).debt ∧
    ((s.refSent i).chan i).bank = (s.chan i).bank ∧
    ((s.refSent i).chan i).charged.maint = (s.chan i).charged.maint + s.refQ i := by
  have hplace : Tab.wf .init (s.takePlace i true (s.refQ i)).tch.chans = true := Tab.wf_set _ _ _ _ h
  obtain ⟨_, _, _, h1⟩ := s.chan_takePlace i true (s.refQ i) h
  obtain ⟨_, h2⟩ := State.chan_chargeMaint _ i (s.refQ i) hplace
  obtain ⟨_, _, h3⟩ := ((s.takePlace i true (s.refQ i)).charge i .maint (s.refQ i)).chan_word i opRef (s.refBank i).toNat 0
    (Tab.wf_set _ _ _ _ hplace)
  rw [h1] at h2
  rw [h2] at h3
  rw [State.refSent, h3]
  exact ⟨rfl, rfl, rfl⟩

/-- The channel after a REF to bank `b`: the debt falls by 1, and the requests that wait remember a forced one (R93, R94, R277). -/
def Chan.refreshed (c : Chan) (b : BitVec 4) : Chan :=
  let mark (r : Req) : Req := if c.forced then { r with sawForced := true } else r
  { c with
    bank := b + 1, debt := c.debt - 1, queue := c.queue.map mark, ringq := c.ringq.map mark, forced := c.forced && decide (1 < c.debt) }

theorem State.issueRef_eq : s.issueRef i = ((s.refSent i).updTier (tierOf i) fun t => { t with nRef := t.nRef + 1 }).updChan i
    fun c => c.refreshed ((s.refSent i).refBank i) := rfl

theorem State.issueRef_only : Only [.tch, .bud, .out] s (s.issueRef i) := by
  rw [State.issueRef_eq]
  exact (((s.refSent_only i).trans (State.updTier_only _ _ _)).trans (State.updChan_only _ i _)).mono (by simp)

/-- It sends one word. -/
theorem State.issueRef_out : (s.issueRef i).out = s.out ++ [.word i (cmdWord opRef (s.refBank i).toNat 0)] := rfl

/-- What it makes of its channel. -/
theorem State.chan_issueRef (h : Tab.wf .init s.tch.chans = true) : ((s.issueRef i).chan i).debt = (s.chan i).debt - 1 ∧
    ((s.issueRef i).chan i).bank = s.refBank i + 1 ∧
    ((s.issueRef i).chan i).charged.maint = (s.chan i).charged.maint + s.refQ i := by
  obtain ⟨hdebt, hbank, hcharged⟩ := s.chan_refSent i h
  have hchan : (s.issueRef i).chan i = ((s.refSent i).chan i).refreshed ((s.refSent i).refBank i) :=
    State.chan_updChan_self _ i _ (s.wf_refSent i h)
  rw [hchan, State.refBank_congr hbank ((s.refSent_only i).same .bst (by decide))]
  exact ⟨congrArg (· - 1) hdebt, rfl, hcharged⟩

/-! ## A due instant -/

/-- The channel after a due instant: its debt rises by 1, to at most 8, and the next instant follows after `step`; the first of a window
finds an empty table (R91, R93, R99). -/
def Chan.dueCounted (c : Chan) (step : Nat) : Chan :=
  let c := if c.dueCount = 0 then c.clearWeevil else c
  { c with dueCount := (c.dueCount + 1) % 4128, debt := min 8 (c.debt + 1), dueAt := c.dueAt + step }

end

end Sys2Proof.Machine
end

section
/-! PROOF. REQUEST_ISSUE and REFRESH_DUE (R61, R62, R90 to R94, R99, R268). -/

namespace Sys2Proof.Proofs
open Sys2Proof.Machine Sys2Proof.Safety

section
variable (i : BitVec 10) (s : State)

/-- A channel that does not serve, or that must not issue, issues nothing. -/
theorem requestIssue_stopped (h : s.serves i.toNat = false ∨ s.refreshes i.toNat = false ∨ (s.chan i.toNat).parWait = true ∨
    s.die.blockBusy.contains (BitVec.ofNat 8 (0x20 + tierOf i.toNat)) = true ∨ 0 ∈ s.clk.tripped ∨
    (s.tier (tierOf i.toNat)).changing = true ∨ s.bst.state = 2 ∨ 2 ≤ s.pwr.state.toNat ∨ s.pwr.gateA = true ∨ s.pwr.gateB = true ∨
    tierOf i.toNat ∈ s.pwr.closeQ ∨ 1 ∈ s.clk.tripped ∨ s.underTest i.toNat = true) :
    exec (.requestIssue i) s = .next s := by
  simp only [exec, execRequestIssue]
  rw [if_pos]
  simp only [Bool.not_eq_true', List.contains_iff_mem] at h ⊢
  tauto

/-- One that may issue sends its owed refreshes, lets requests in, and then issues what comes next. -/
theorem requestIssue_served (h : s.Unhindered i.toNat) :
    exec (.requestIssue i) s = .next ((((s.issueOwed i.toNat).issueNrefs i.toNat).letIn i.toNat).issueNext i.toNat) := by
  refine (if_neg ?_).trans ?_
  · simp only [h.serves, h.refreshes, h.noParityWait, h.steady, Nat.not_le.mpr h.awake, h.stays, h.pll0, h.pll1, h.untested, h.noStackTest,
      h.domainA, h.domainB, h.tierRuns, List.contains_iff_mem, Bool.not_true, Bool.false_eq_true, or_false, not_false_eq_true]
  · generalize ((s.issueOwed i.toNat).issueNrefs i.toNat).letIn i.toNat = u
    unfold State.issueNext
    cases u.nextReq i.toNat with
    | none => rfl
    | some r => exact (apply_ite Host.Outcome.next _ _ _).symm

/-- A due instant that has come is counted, in a window that starts with an empty table, and owed refreshes go (R91, R93, R99). -/
theorem refreshDue_counts (hrefreshes : s.refreshes i.toNat = true) (hdue : (s.chan i.toNat).dueAt ≤ s.now) : ∃ u : State,
    exec (.refreshDue i false) s = .next ((u.issueOwed i.toNat).issueNrefs i.toNat) ∧
    (∀ c, c = s.chan i.toNat → c.dueCount ≠ 0 → u = s.setChan i.toNat
      { c with dueCount := (c.dueCount + 1) % 4128, debt := min 8 (c.debt + 1), dueAt := c.dueAt + s.refreshTicks (tierOf i.toNat) }) ∧
    (∀ c, c = s.chan i.toNat → c.dueCount = 0 → u = s.setChan i.toNat
      { c with
        weevil := [], floorF := 0, dueCount := 1, debt := min 8 (c.debt + 1), dueAt := c.dueAt + s.refreshTicks (tierOf i.toNat) }) := by
  refine ⟨s.updChan i.toNat fun c => c.dueCounted (s.refreshTicks (tierOf i.toNat)),
    (if_neg (by simp [hrefreshes])).trans ((if_neg Bool.false_ne_true).trans (if_neg (Nat.not_lt.mpr hdue))), ?_, ?_⟩
  · rintro c rfl hc
    simp only [State.updChan, Chan.dueCounted, if_neg hc]
  · rintro c rfl hc
    simp only [State.updChan, Chan.dueCounted, if_pos hc, Chan.clearWeevil]

/-- A REF ahead of time: none under test; all owed; or one on an empty queue with a place, down to a debt of -8 (R93). -/
theorem refreshDue_ahead (hrefreshes : s.refreshes i.toNat = true) : exec (.refreshDue i true) s = .next (
    if s.underTest i.toNat then s
    else if 0 < (s.chan i.toNat).debt then s.issueOwed i.toNat
    else if (s.chan i.toNat).queue = [] ∧ -8 < (s.chan i.toNat).debt ∧ s.placeOpen i.toNat true = true then s.issueRef i.toNat
    else s) := by
  refine (if_neg (by simp [hrefreshes])).trans ((if_pos rfl).trans ?_)
  simp only [apply_ite Host.Outcome.next, List.isEmpty_iff]

theorem refreshDue_resting (a : Bool) (h : s.refreshes i.toNat = false) : exec (.refreshDue i a) s = .next s := by
  simp [exec, execRefreshDue, h]

end

/-- Settles O49: the order on a channel is kept by the choice of its next request, and each refresh is one step of the debt. -/
theorem requestIssueAndRefresh : Obligations.RequestIssueAndRefresh := by
  unfold Obligations.RequestIssueAndRefresh
  refine ⟨fun i s => ⟨requestIssue_stopped i s, fun hserves hrefreshes hpar hchanging hpower hclose h0 h1 htest hbist hA hB hbusy => ?_⟩,
    fun i s => ⟨fun h a => refreshDue_resting i s a h, fun h => ?_,
    refreshDue_counts i s, fun htest => ?_, fun hr htest hdebt => ?_, fun hr htest hdebt hlow hq hp => ?_, fun hr hdebt h => ?_⟩,
    fun s n => rfl, fun i s hwf => ?_⟩
  · rw [requestIssue_served i s ⟨hserves, hrefreshes, hpar, hchanging, hpower, hclose, h0, h1, htest, hbist, hA, hB, hbusy⟩]
    refine ⟨_, rfl, fun hnone => ?_, fun hsome => ?_⟩
    · rw [State.issueNext_none _ _ hnone]
    · obtain ⟨r, hr, hbest⟩ := State.issueNext_some _ _ hsome
      exact ⟨r, congrArg _ hr, hbest⟩
  · simp [exec, execRefreshDue, h]
  · by_cases hr : s.refreshes i.toNat = true
    · rw [refreshDue_ahead i s hr, if_pos htest]
    · exact refreshDue_resting i s true (by simpa using hr)
  · rw [refreshDue_ahead i s hr, if_neg (by simp [htest]), if_pos hdebt]
  · rw [refreshDue_ahead i s hr, if_neg (by simp [htest]), if_neg (by omega), if_pos ⟨hq, hlow, hp⟩]
  · have hstays : ¬((s.chan i.toNat).queue = [] ∧ -8 < (s.chan i.toNat).debt ∧ s.placeOpen i.toNat true = true) := by
      rintro ⟨hq, hlow, hp⟩
      rcases h with h | h | h
      · omega
      · exact h hq
      · simp [hp] at h
    rw [refreshDue_ahead i s hr, if_neg hstays, if_neg (show ¬0 < (s.chan i.toNat).debt by omega), ite_self]
  · obtain ⟨hdebt, hbank, hcharged⟩ := s.chan_issueRef i hwf
    exact ⟨hdebt, hbank, s.issueRef_out i, fun h => by simp only [State.refBank, h], hcharged, s.issueRef_only i⟩

end Sys2Proof.Proofs
end

section
/-! SUPPORT. What packets, events and their wakes change: the clocks, the rings, the links, the power state and what leaves the die, and
nothing else (R193 to R197, R308, R310, R342, R360). -/

namespace Sys2Proof.Machine
open Sys2Proof.Safety

/-- A step that at most sends, posts or wakes. -/
def Posts (s t : State) : Prop := Only [.clk, .rng, .lnk, .pwr, .out] s t

namespace Posts
variable {s t u : State}

theorem refl (s : State) : Posts s s := (Only.refl s).mono (by simp)

theorem trans (h : Posts s t) (g : Posts t u) : Posts s u := (Only.trans h g).mono (by simp)

/-- One of two such steps. -/
theorem ite {c : Prop} [Decidable c] (h : Posts s t) (g : Posts s u) : Posts s (if c then t else u) := by
  split
  · exact h
  · exact g

/-- One more step, taken or left out. -/
theorem step {c : Prop} [Decidable c] (h : Posts s t) (g : Posts t u) : Posts s (if c then u else t) := ite (h.trans g) h

/-- A run of such steps. -/
theorem foldl {α : Type} {f : State → α → State} (hf : ∀ t a, Posts t (f t a)) (l : List α) (s : State) : Posts s (l.foldl f s) := by
  induction l generalizing s with
  | nil => exact refl s
  | cons a l ih => exact (hf s a).trans (ih _)

/-- New values of those parts. -/
theorem update (s : State) (c : Clk) (r : Rng) (l : Lnk) (p : Pwr) (o : List Out) :
    Posts s { s with clk := c, rng := r, lnk := l, pwr := p, out := o } := by
  simp [Posts, Only]

theorem power (s : State) (p : Pwr) : Posts s { s with pwr := p } := update s s.clk s.rng s.lnk p s.out
theorem rings (s : State) (r : Rng) : Posts s { s with rng := r } := update s s.clk r s.lnk s.pwr s.out
theorem links (s : State) (l : Lnk) : Posts s { s with lnk := l } := update s s.clk s.rng l s.pwr s.out
theorem emit (s : State) (o : Out) : Posts s (s.emit o) := update s s.clk s.rng s.lnk s.pwr _

variable (s)

/-! ## Packets -/

theorem burst (n : Nat) (lanes : Byte) (count : Nat) : Posts s (s.burst n lanes count) :=
  (foldl (fun t _ => emit t _) _ s).trans (emit _ _)

theorem wakeL0 (n : Nat) : Posts s (s.wakeL0 n) := by
  simp only [State.wakeL0]
  split
  · exact refl s
  · exact (((update s _ s.rng s.lnk s.pwr s.out).trans (emit _ _)).trans (burst _ _ _ _)).trans (links _ _)

theorem mrdLeft (x : Packet) : Posts s (s.mrdLeft x) := rings s _

theorem pump (fuel n : Nat) : Posts s (s.pump fuel n) := by
  induction fuel generalizing s with
  | zero => exact refl s
  | succ fuel ih =>
    simp only [State.pump]
    split
    · exact refl s
    · split
      · exact refl s
      · exact (((step (refl s) (mrdLeft s _)).trans (links _ _)).trans (emit _ _)).trans (ih _)

theorem enqueue (n src : Nat) (x : Packet) : Posts s (s.enqueue n src x) := by
  simp only [State.enqueue]
  split
  · exact refl s
  · exact ((links s _).trans (wakeL0 _ _)).trans (pump _ _ _)

theorem toHost (t : PType) (len tc tag : Nat) (w2 w3 : Word) (payload : List Word) : Posts s (s.toHost t len tc tag w2 w3 payload) :=
  enqueue s _ _ _

theorem mwr (tc addr : Nat) (bytes : List Byte) : Posts s (s.mwr tc addr bytes) := toHost s ..

/-! ## Wakes -/

theorem moveBulk (n dest : Nat) : Posts s (s.moveBulk n dest) := by
  simp only [State.moveBulk]
  split
  · exact refl s
  · refine (step (step (step (step (refl s) (power s _)) ?_) (emit _ _)) (emit _ _)).trans (links _ _)
    exact ((wakeL0 _ _).step (emit _ _)).trans (burst _ _ _ _)

theorem setPower (dest cause : Nat) : Posts s (s.setPower dest cause) := by
  simp only [State.setPower]
  split
  · exact refl s
  · exact (power s _).trans (foldl (fun t n => moveBulk t n dest) _ _)

theorem ungate : Posts s s.ungate := by
  simp only [State.ungate]
  split
  · exact refl s
  · exact (power s _).step ((power _ _).trans (setPower _ _ _))

theorem isleTick : Posts s s.isleTick := by
  simp only [State.isleTick]
  split
  · exact refl s
  · exact (power s _).trans (power _ _)

theorem startExit (cause : Nat) : Posts s (s.startExit cause) := by
  unfold State.startExit
  split
  · exact refl s
  · split
    · exact setPower s _ _
    · exact (power s _).trans (ungate _)
    · exact (power s _).trans (ungate _)
    · exact (((power s _).trans (power _ _)).trans (power _ _)).trans ((power _ _).trans (isleTick _))
    · exact refl s

/-! ## Events -/

theorem judgeNotify (q : Nat) (atOnce : Bool) : Posts s (s.judgeNotify q atOnce) :=
  step (refl s) ((rings s _).trans (toHost _ ..))

theorem placeEntry (q : Nat) (e : Entry) (tc : Nat) (atOnce : Bool) : Posts s (s.placeEntry q e tc atOnce) :=
  (((mwr s _ _ _).trans (rings _ _)).step (rings _ _)).trans (judgeNotify _ _ _)

theorem reportLost : Posts s s.reportLost := step (refl s) ((rings s _).trans (placeEntry _ ..))

theorem loseEvent : Posts s s.loseEvent := (rings s _).trans (reportLost _)

theorem eventEntry (e : Entry) : Posts s (s.eventEntry e) := ite (placeEntry s ..) (loseEvent s)

theorem deliver (h : HeldEvent) : Posts s (s.deliver h).1 :=
  ((refl s).step (eventEntry s _)).step (toHost _ ..)

theorem flushHeld : Posts s s.flushHeld := by
  have hrun : ∀ (l : List HeldEvent) (a : State × List HeldEvent), Posts a.1 (l.foldl (fun (a : State × List HeldEvent) h =>
      let d := a.1.deliver h
      (d.1, a.2 ++ d.2.toList)) a).1 := by
    intro l
    induction l with
    | nil => exact fun a => refl a.1
    | cons h l ih => exact fun a => (deliver a.1 h).trans (ih _)
  exact ((reportLost s).trans (hrun _ (s.reportLost, []))).trans (rings _ _)

theorem postAs (atFloor : Bool) (code sqid sev : Nat) (res0 : Word) (res1 : Nat) : Posts s (s.postAs atFloor code sqid sev res0 res1) := by
  have hwoken : Posts s (if 2 ≤ s.pwr.state.toNat ∧ s.eventSetUp then s.startExit 5 else s) := (refl s).step (startExit s 5)
  have hready := fun r => (hwoken.trans (flushHeld _)).trans (rings _ r)
  exact ite ((hready _).trans (loseEvent _)) (ite (((hready _).trans (deliver _ _)).trans (rings _ _)) ((hready _).trans (deliver _ _)))

theorem postEvent (code sqid sev : Nat) (res0 : Word) (res1 : Nat) : Posts s (s.postEvent code sqid sev res0 res1) := postAs s ..

end Posts

/-- Following the inputs of the cap changes the targets, the causes of an admission, and what an event changes (R69, R71). -/
theorem State.retarget_only (s : State) : Only [.bud, .qos, .clk, .rng, .lnk, .pwr, .out] s s.retarget := by
  have hset : ∀ (b : Bud) (q : Qos), Only [.bud, .qos] s { s with bud := b, qos := q } := fun b q => by simp [Only]
  simp only [State.retarget]
  split
  · exact (hset _ _).trans (Posts.postEvent _ ..)
  · exact (hset _ _).mono (by simp)

end Sys2Proof.Machine
end

section
/-! SUPPORT. Fields of a word: what is read of one field after another has been rewritten, and a stored word after it was written. -/

namespace Sys2Proof.Machine

section
variable {w : Word} {lo wd : Nat} {v : Nat}

theorem fieldOf_lt : fieldOf w lo wd < 2 ^ wd := Nat.mod_lt _ (Nat.two_pow_pos wd)

theorem testBit_fieldOf (j : Nat) : (fieldOf w lo wd).testBit j = (decide (j < wd) && w.toNat.testBit (lo + j)) := by
  rw [fieldOf, Nat.testBit_mod_two_pow, Nat.testBit_div_two_pow, Nat.add_comm j lo]

/-- One bit is a field of width 1. -/
theorem bitOf_eq_fieldOf : bitOf w lo = decide (fieldOf w lo 1 = 1) := by
  have h := testBit_fieldOf (w := w) (lo := lo) (wd := 1) 0
  rw [Nat.testBit_zero] at h
  have hmod : fieldOf w lo 1 % 2 = fieldOf w lo 1 := Nat.mod_eq_of_lt fieldOf_lt
  rw [hmod] at h
  rw [h]
  rfl

/-- A word with a field rewritten: the bits below it, the new value, the bits above it. -/
theorem toNat_withField (h : lo + wd ≤ 32) : (withField w lo wd v).toNat =
    2 ^ lo * (2 ^ wd * (w.toNat / 2 ^ lo / 2 ^ wd) + v % 2 ^ wd) + w.toNat % 2 ^ lo := by
  obtain ⟨k, hk⟩ := Nat.exists_eq_add_of_le h
  have hall : 2 ^ 32 = 2 ^ lo * (2 ^ wd * 2 ^ k) := by rw [hk, pow_add, pow_add, mul_assoc]
  have hq : w.toNat / 2 ^ lo / 2 ^ wd < 2 ^ k := Nat.div_lt_of_lt_mul (Nat.div_lt_of_lt_mul (hall ▸ w.isLt))
  have hw := Nat.div_add_mod w.toNat (2 ^ lo)
  have hu := Nat.div_add_mod (w.toNat / 2 ^ lo) (2 ^ wd)
  have hr := Nat.mod_lt w.toNat (Nat.two_pow_pos lo)
  have hv := Nat.mod_lt v (Nat.two_pow_pos wd)
  have hold : fieldOf w lo wd % 2 ^ wd = w.toNat / 2 ^ lo % 2 ^ wd := Nat.mod_mod _ _
  unfold withField placed
  rw [hold, BitVec.toNat_ofNat, hall]
  generalize w.toNat / 2 ^ lo / 2 ^ wd = q at *
  generalize w.toNat / 2 ^ lo % 2 ^ wd = f at *
  rw [← hu] at hw
  generalize w.toNat % 2 ^ lo = r at *
  generalize v % 2 ^ wd = x at *
  have hsum : w.toNat - f * 2 ^ lo + x * 2 ^ lo = 2 ^ lo * (2 ^ wd * q + x) + r := by
    rw [← hw]
    simp only [mul_add, mul_comm f, mul_comm x]
    omega
  rw [hsum]
  refine Nat.mod_eq_of_lt ?_
  calc 2 ^ lo * (2 ^ wd * q + x) + r < 2 ^ lo * (2 ^ wd * q + x) + 2 ^ lo := by omega
    _ = 2 ^ lo * (2 ^ wd * q + x + 1) := (Nat.mul_succ _ _).symm
    _ ≤ 2 ^ lo * (2 ^ wd * (q + 1)) := Nat.mul_le_mul_left _ (by rw [Nat.mul_succ]; omega)
    _ ≤ 2 ^ lo * (2 ^ wd * 2 ^ k) := Nat.mul_le_mul_left _ (Nat.mul_le_mul_left _ hq)

theorem testBit_withField (h : lo + wd ≤ 32) (j : Nat) : (withField w lo wd v).toNat.testBit j =
    if lo ≤ j ∧ j < lo + wd then v.testBit (j - lo) else w.toNat.testBit j := by
  rw [toNat_withField h, Nat.testBit_two_pow_mul_add _ (Nat.mod_lt _ (Nat.two_pow_pos lo)),
    Nat.testBit_two_pow_mul_add _ (Nat.mod_lt _ (Nat.two_pow_pos wd)), Nat.testBit_mod_two_pow, Nat.testBit_mod_two_pow,
    Nat.testBit_div_two_pow, Nat.testBit_div_two_pow]
  by_cases h1 : j < lo
  · rw [if_pos h1, if_neg (by omega)]
    simp [h1]
  · by_cases h2 : j - lo < wd
    · rw [if_neg h1, if_pos h2, if_pos (by omega)]
      simp [h2]
    · rw [if_neg h1, if_neg h2, if_neg (by omega), show j - lo - wd + wd + lo = j by omega]

/-- The field that was rewritten. -/
theorem fieldOf_withField_self (h : lo + wd ≤ 32) : fieldOf (withField w lo wd v) lo wd = v % 2 ^ wd := by
  refine Nat.eq_of_testBit_eq fun j => ?_
  rw [testBit_fieldOf, testBit_withField h, Nat.testBit_mod_two_pow]
  by_cases hj : j < wd <;> simp [hj]

theorem fieldOf_withField_of_lt (h : lo + wd ≤ 32) (hv : v < 2 ^ wd) : fieldOf (withField w lo wd v) lo wd = v :=
  (fieldOf_withField_self h).trans (Nat.mod_eq_of_lt hv)

/-- A field that shares no bit with it. -/
theorem fieldOf_withField_of_disjoint {lo' wd' : Nat} (h : lo + wd ≤ 32) (hd : lo' + wd' ≤ lo ∨ lo + wd ≤ lo') :
    fieldOf (withField w lo wd v) lo' wd' = fieldOf w lo' wd' := by
  refine Nat.eq_of_testBit_eq fun j => ?_
  rw [testBit_fieldOf, testBit_fieldOf, testBit_withField h]
  by_cases hj : j < wd'
  · rw [if_neg (by omega)]
  · simp [hj]

end

/-- A key below every key of a table reads as the default. -/
theorem Tab.get_eq_default {α : Type} (d : α) (t : Tab α) (i : Nat) (h : ∀ e ∈ t, i < e.1) : Tab.get d t i = d := by
  cases t with
  | nil => rfl
  | cons e r => exact if_pos (h e (by simp))

/-- In a table whose keys rise, a key reads as what was written to it, whatever the default. -/
theorem Tab.get_set_of_sorted {α : Type} [DecidableEq α] (d : α) (t : Tab α) (i : Nat) (x : α)
    (h : (t.map Prod.fst).Pairwise (· < ·)) : Tab.get d (Tab.set d t i x) i = x := by
  induction t with
  | nil => grind [Tab.get, Tab.set]
  | cons e r ih =>
    rw [List.map_cons, List.pairwise_cons] at h
    obtain ⟨hlow, hr⟩ := h
    have habove : ∀ f ∈ r, e.1 < f.1 := fun f hf => hlow f.1 (List.mem_map_of_mem hf)
    have hrest := ih hr
    have hgone : ∀ j, j ≤ e.1 → Tab.get d r j = d := fun j hj => Tab.get_eq_default d r j fun f hf => by have := habove f hf; omega
    grind [Tab.get, Tab.set]

end Sys2Proof.Machine
end

section
/-! SUPPORT. A write to a register whose stored fields lie in the register file and which has no action: its fields are settled in their
order, and the block takes the word where it has changed (R543, R544, R553, R555). -/

namespace Sys2Proof.Machine
open Sys2Proof.Safety

/-- The register file with new entries of the clamp log: nothing stored has changed (R557). -/
structure Clamped (s t : State) : Prop where
  only : Only [.regs] s t
  cfg : t.regs.cfg = s.regs.cfg
  late : t.regs.late = s.regs.late
  noted : s.regs.clampNew = true → t.regs.clampNew = true

theorem Clamped.refl (s : State) : Clamped s s := ⟨(Only.refl s).mono (by simp), rfl, rfl, id⟩

theorem Clamped.trans {s t u : State} (h : Clamped s t) (g : Clamped t u) : Clamped s u :=
  ⟨(h.only.trans g.only).mono (by simp), g.cfg.trans h.cfg, g.late.trans h.late, g.noted ∘ h.noted⟩

theorem State.clampNote_clamped (s : State) (w : RegWrite) (kind lo hi written applied : Nat) :
    Clamped s (s.clampNote w kind lo hi written applied) :=
  ⟨by simp [Only, State.clampNote], rfl, rfl, fun _ => rfl⟩

section
variable {s : State} {w : RegWrite} {n : RegName} {i : Nat} {f : Field} {fs : List Field} {acc : Word}

/-- A field that takes a value: the value written, or another and an entry of the clamp log. -/
theorem State.settleFields_takes {x : Nat} (ht : f.typ = .rw) (hj : s.judgeField n i f acc w.data = some x) :
    ∃ u, Clamped s u ∧ s.settleFields w n i (f :: fs) acc = u.settleFields w n i fs (withField acc f.lo f.wd x) := by
  refine ⟨if x = fieldOf w.data f.lo f.wd then s else s.clampNote w 1 f.lo (f.lo + f.wd - 1) (fieldOf w.data f.lo f.wd) x, ?_, ?_⟩
  · split
    · exact .refl s
    · exact s.clampNote_clamped ..
  · rw [State.settleFields, ht, hj]
    rfl

/-- A field whose write is ignored keeps its value, and is reported unless it was written with that value. -/
theorem State.settleFields_ignores (ht : f.typ = .rw) (hj : s.judgeField n i f acc w.data = none)
    (hv : fieldOf w.data f.lo f.wd ≠ fieldOf acc f.lo f.wd) :
    ∃ u, Clamped s u ∧ u.regs.clampNew = true ∧ s.settleFields w n i (f :: fs) acc = u.settleFields w n i fs acc := by
  refine ⟨_, s.clampNote_clamped w 2 f.lo (f.lo + f.wd - 1) (fieldOf w.data f.lo f.wd) (fieldOf acc f.lo f.wd), rfl, ?_⟩
  rw [State.settleFields, ht, hj]
  simp [FTyp.stored, hv]

end

/-- The register's fields are stored in the register file, and none is an action. -/
structure PlainReg (n : RegName) (i : Nat) : Prop where
  act : ∀ (s : State) (w : RegWrite), s.act w n i = s
  order : fieldsFirst n = false
  stored : ((regFields n i).all fun f => !f.typ.stored) = false
  store : ∀ (s : State) (src : Nat) (x : Word), s.store src n i x = s.setCfg n i x
  present : ∀ (s : State) (src : Nat), s.present src n i = s.cfgWord n i

/-- The word of a register has been written, and nothing but the register file has changed. -/
structure Stored (n : RegName) (i : Nat) (x : Word) (s v : State) : Prop where
  only : Only [.regs] s v
  word : v.cfgWord n i = x
  late : v.regs.late = s.regs.late

/-- A settled word that is stored. -/
theorem Clamped.stored {s u : State} {n : RegName} {i : Nat} (h : Clamped s u) (hs : (s.regs.cfg.map Prod.fst).Pairwise (· < ·))
    (src : Nat) (x : Word) : Stored n i x s ((u.setCfg n i x).setPar src n i false) := by
  refine ⟨?_, ?_, h.late⟩
  · have hset : Only [.regs] u ((u.setCfg n i x).setPar src n i false) := by simp [Only, State.setPar]
    exact (h.only.trans hset).mono (by simp)
  · refine Tab.get_set_of_sorted _ _ _ _ ?_
    rw [h.cfg]
    exact hs

/-- A write that acts at once: the settled word is stored, and the block takes it where it has changed. -/
theorem State.namedWrite_stores {s u : State} {p : Path} {n : RegName} {i : Nat} {data x : Word} (hr : PlainReg n i)
    (h : Acts p n i s) (hu : s.settleFields (writeOf p n i data) n i (regFields n i) (s.cfgWord n i) = (u, x)) :
    s.namedWrite p n i data 0 none =
      (((u.setCfg n i x).setPar (pathSource p) n i false).takeFields (writeOf p n i data) n i (s.cfgWord n i) x).actLate.noteLevel := by
  obtain ⟨hpath, hmode, hlate, hstall, hawake⟩ := h
  have hcommit : s.commitFields (writeOf p n i data) n i = ((u.setCfg n i x).setPar (pathSource p) n i false, s.cfgWord n i, x) := by
    rw [State.commitFields, hr.stored, hr.present, hu, ← hr.store]
    rfl
  have hwrite : s.writeReg (writeOf p n i data) n i =
      (((u.setCfg n i x).setPar (pathSource p) n i false).takeFields (writeOf p n i data) n i (s.cfgWord n i) x).actLate := by
    simp [State.writeReg, hmode, State.actLate_nil _ hlate, hstall, hr.order, hr.act, hcommit]
  rw [← hwrite, State.namedWrite, hpath, State.onPath_served _ _ _ _ hawake]
  rfl

/-- The same, from the settled fields. -/
theorem Clamped.written {s u : State} {p : Path} {n : RegName} {i : Nat} {data x : Word} (hc : Clamped s u) (hr : PlainReg n i)
    (h : Acts p n i s) (hf : Formed s) (hu : s.settleFields (writeOf p n i data) n i (regFields n i) (s.cfgWord n i) = (u, x)) :
    ∃ v, Stored n i x s v ∧ v.regs.clampNew = u.regs.clampNew ∧ s.namedWrite p n i data 0 none =
      (v.takeFields (writeOf p n i data) n i (s.cfgWord n i) x).actLate.noteLevel := by
  obtain ⟨-, -, -, -, -, -, -, -, hsorted⟩ := hf
  exact ⟨_, hc.stored hsorted (pathSource p) x, rfl, State.namedWrite_stores hr h hu⟩

/-! ## Four registers -/

/-- What follows where a field has moved. -/
theorem ite_bne {α : Type} (a b : Nat) (moved same : α) : (if (a != b) = true then moved else same) = if b = a then same else moved := by
  by_cases h : b = a
  · simp [h]
  · simp [h, Ne.symm h]

theorem bounded_le (lo hi v : Nat) : bounded lo hi v ≤ hi := Nat.min_le_left _ _

section
variable {s v : State} {w : RegWrite} {i : Nat} {o x : Word}

theorem Stored.fld {n : RegName} (h : Stored n i x s v) (lo wd : Nat) : v.fld n i lo wd = fieldOf x lo wd := by
  rw [State.fld, h.word]

theorem plainReg_timCfg : PlainReg .timCfg 0 := ⟨fun _ _ => rfl, rfl, rfl, fun _ _ _ => rfl, fun _ _ => rfl⟩
theorem plainReg_budCap : PlainReg .budCap 0 := ⟨fun _ _ => rfl, rfl, rfl, fun _ _ _ => rfl, fun _ _ => rfl⟩
theorem plainReg_qosTc : PlainReg .qosTc i := ⟨fun _ _ => rfl, rfl, rfl, fun _ _ _ => rfl, fun _ _ => rfl⟩
theorem plainReg_rngEvtCq : PlainReg .rngEvtCq 0 := ⟨fun _ _ => rfl, rfl, rfl, fun _ _ _ => rfl, fun _ _ => rfl⟩

/-- The word of TIM_CFG: its phase as written, and ORPHAN_TO of at least 16 (R58). -/
def timCfgWord (o d : Word) : Word := withField (withField o 0 6 (fieldOf d 0 6)) 16 16 (bounded 16 65535 (fieldOf d 16 16))

theorem State.settle_timCfg : ∃ u, Clamped s u ∧
    s.settleFields w .timCfg 0 (regFields .timCfg 0) o = (u, timCfgWord o w.data) := by
  obtain ⟨u, hu, h1⟩ := State.settleFields_takes (s := s) (w := w) (n := .timCfg) (i := 0) (f := ⟨0, 6, .rw, 0, .any⟩)
    (fs := [⟨16, 16, .rw, 256, .range 16 65535⟩]) (acc := o) rfl rfl
  obtain ⟨t, ht, h2⟩ := State.settleFields_takes (s := u) (w := w) (n := .timCfg) (i := 0) (f := ⟨16, 16, .rw, 256, .range 16 65535⟩)
    (fs := []) (acc := withField o 0 6 (fieldOf w.data 0 6)) rfl rfl
  exact ⟨t, hu.trans ht, h1.trans h2⟩

/-- A moved phase starts an irregular epoch (R58). -/
theorem State.takeFields_timCfg :
    s.takeFields w .timCfg 0 o x = if fieldOf x 0 6 = fieldOf o 0 6 then s else s.irregular := by
  unfold State.takeFields
  split
  case isTrue h => rw [h, if_pos rfl]
  case isFalse => exact ite_bne _ _ _ _

theorem fieldOf_timCfgWord (o d : Word) :
    fieldOf (timCfgWord o d) 0 6 = fieldOf d 0 6 ∧ fieldOf (timCfgWord o d) 16 16 = max 16 (fieldOf d 16 16) := by
  have hlow : fieldOf d 16 16 < 2 ^ 16 := fieldOf_lt
  have hto : bounded 16 65535 (fieldOf d 16 16) = max 16 (fieldOf d 16 16) := by unfold bounded; omega
  constructor
  · rw [timCfgWord, fieldOf_withField_of_disjoint (by omega) (by omega), fieldOf_withField_of_lt (by omega) fieldOf_lt]
  · rw [timCfgWord, fieldOf_withField_of_lt (by omega) ((bounded_le _ _ _).trans_lt (by omega)), hto]

/-- The word of BUD_CAP: between the larger of 12,000 mW and the smallest cap in use, and 60,000 mW (R72). -/
def budCapWord (o d : Word) (capMin : Nat) : Word := withField o 0 16 (bounded (max 12000 capMin) 60000 (fieldOf d 0 16))

theorem State.settle_budCap : ∃ u, Clamped s u ∧
    s.settleFields w .budCap 0 (regFields .budCap 0) o = (u, budCapWord o w.data s.capMin) :=
  State.settleFields_takes (s := s) (w := w) (n := .budCap) (i := 0) (f := ⟨0, 16, .rw, 48000, .dyn⟩) (fs := []) (acc := o) rfl rfl

theorem fieldOf_budCapWord (o d : Word) (capMin : Nat) :
    fieldOf (budCapWord o d capMin) 0 16 = bounded (max 12000 capMin) 60000 (fieldOf d 0 16) :=
  fieldOf_withField_of_lt (by omega) ((bounded_le _ _ _).trans_lt (by omega))

theorem State.takeFields_budCap : s.takeFields w .budCap 0 o x = if x = o then s else s.retarget := rfl

/-- The word of QOS_TC: its guarantee as written, LIM_MIN within 1 to 32, and LIM_MAX between LIM_MIN and 32 (R286). -/
def qosTcWord (o d : Word) : Word :=
  withField (withField (withField o 0 16 (fieldOf d 0 16)) 16 6 (bounded 1 32 (fieldOf d 16 6))) 24 6
    (bounded (bounded 1 32 (fieldOf d 16 6)) 32 (fieldOf d 24 6))

theorem State.settle_qosTc : ∃ u, Clamped s u ∧ s.settleFields w .qosTc i (regFields .qosTc i) o = (u, qosTcWord o w.data) := by
  let a := withField o 0 16 (fieldOf w.data 0 16)
  let b := withField a 16 6 (bounded 1 32 (fieldOf w.data 16 6))
  have hmin : fieldOf b 16 6 = bounded 1 32 (fieldOf w.data 16 6) :=
    fieldOf_withField_of_lt (by omega) ((bounded_le 1 32 _).trans_lt (by omega))
  obtain ⟨u₁, hu₁, h₁⟩ := State.settleFields_takes (s := s) (w := w) (n := .qosTc) (i := i) (f := ⟨0, 16, .rw, 0, .any⟩)
    (fs := [⟨16, 6, .rw, 2, .range 1 32⟩, ⟨24, 6, .rw, 16, .dyn⟩]) (acc := o) rfl rfl
  obtain ⟨u₂, hu₂, h₂⟩ := State.settleFields_takes (s := u₁) (w := w) (n := .qosTc) (i := i) (f := ⟨16, 6, .rw, 2, .range 1 32⟩)
    (fs := [⟨24, 6, .rw, 16, .dyn⟩]) (acc := a) rfl rfl
  obtain ⟨u₃, hu₃, h₃⟩ := State.settleFields_takes (s := u₂) (w := w) (n := .qosTc) (i := i) (f := ⟨24, 6, .rw, 16, .dyn⟩)
    (fs := []) (acc := b) rfl (congrArg (fun m => some (bounded m 32 (fieldOf w.data 24 6))) hmin)
  exact ⟨u₃, (hu₁.trans hu₂).trans hu₃, (h₁.trans h₂).trans h₃⟩

theorem fieldOf_qosTcWord (o d : Word) : fieldOf (qosTcWord o d) 0 16 = fieldOf d 0 16 ∧
    fieldOf (qosTcWord o d) 16 6 = bounded 1 32 (fieldOf d 16 6) ∧
    fieldOf (qosTcWord o d) 24 6 = bounded (bounded 1 32 (fieldOf d 16 6)) 32 (fieldOf d 24 6) := by
  unfold qosTcWord
  refine ⟨?_, ?_, ?_⟩
  · rw [fieldOf_withField_of_disjoint (by omega) (by omega), fieldOf_withField_of_disjoint (by omega) (by omega),
      fieldOf_withField_of_lt (by omega) fieldOf_lt]
  · rw [fieldOf_withField_of_disjoint (by omega) (by omega),
      fieldOf_withField_of_lt (by omega) ((bounded_le _ _ _).trans_lt (by omega))]
  · exact fieldOf_withField_of_lt (by omega) ((bounded_le _ _ _).trans_lt (by omega))

/-- A moved guarantee is an input of the admission, and a moved limit holds at once (R281, R286). -/
theorem State.takeFields_qosTc (g : State) (hg : g = if fieldOf x 0 16 = fieldOf o 0 16 then s else s.inputChange 1) :
    s.takeFields w .qosTc i o x = if fieldOf x 16 16 = fieldOf o 16 16 then g else g.clampLimits i := by
  unfold State.takeFields
  split
  case isTrue h =>
    rw [h, if_pos rfl] at hg
    rw [h, if_pos rfl, hg]
  case isFalse =>
    rw [hg, ← ite_bne (fieldOf o 0 16), ← ite_bne (fieldOf o 16 16)]
    rfl

/-- RNG_EVT_CQ takes the enable, and the ring where it is the one it has, is not ACTIVE, or has room for two entries (R203). -/
theorem State.settle_rngEvtCq (h : fieldOf w.data 0 12 = fieldOf o 0 12 ∨ (s.cq (fieldOf w.data 0 12)).st ≠ .active ∨
    2 ≤ s.cqSpare (fieldOf w.data 0 12)) : ∃ u, Clamped s u ∧ s.settleFields w .rngEvtCq 0 (regFields .rngEvtCq 0) o =
      (u, withField (withField o 0 12 (fieldOf w.data 0 12)) 16 1 (fieldOf w.data 16 1)) := by
  have hj : s.judgeField .rngEvtCq 0 ⟨0, 12, .rw, 0, .any⟩ o w.data = some (fieldOf w.data 0 12) := if_pos (by simpa [or_assoc] using h)
  obtain ⟨u, hu, h₁⟩ := State.settleFields_takes (fs := [⟨16, 1, .rw, 0, .any⟩]) rfl hj
  obtain ⟨t, ht, h₂⟩ := State.settleFields_takes (s := u) (w := w) (n := .rngEvtCq) (i := 0) (f := ⟨16, 1, .rw, 0, .any⟩)
    (fs := []) (acc := withField o 0 12 (fieldOf w.data 0 12)) rfl rfl
  exact ⟨t, hu.trans ht, h₁.trans h₂⟩

/-- Otherwise the ring stays as it is, which is reported. -/
theorem State.settle_rngEvtCq_full (hne : fieldOf w.data 0 12 ≠ fieldOf o 0 12) (hst : (s.cq (fieldOf w.data 0 12)).st = .active)
    (hfull : s.cqSpare (fieldOf w.data 0 12) < 2) : ∃ u, Clamped s u ∧ u.regs.clampNew = true ∧
      s.settleFields w .rngEvtCq 0 (regFields .rngEvtCq 0) o = (u, withField o 16 1 (fieldOf w.data 16 1)) := by
  have hj : s.judgeField .rngEvtCq 0 ⟨0, 12, .rw, 0, .any⟩ o w.data = none := if_neg (by simp [hne, hst, hfull])
  obtain ⟨u, hu, hnew, h₁⟩ := State.settleFields_ignores (fs := [⟨16, 1, .rw, 0, .any⟩]) rfl hj hne
  obtain ⟨t, ht, h₂⟩ := State.settleFields_takes (s := u) (w := w) (n := .rngEvtCq) (i := 0) (f := ⟨16, 1, .rw, 0, .any⟩)
    (fs := []) (acc := o) rfl rfl
  exact ⟨t, hu.trans ht, ht.noted hnew, h₁.trans h₂⟩

/-- A word that has changed lets held events be written (R193, R203). -/
theorem State.takeFields_rngEvtCq : s.takeFields w .rngEvtCq 0 o x = if x = o then s else s.flushHeld := rfl

end

end Sys2Proof.Machine
end

section
/-! PROOF. TIM_CFG_WRITE, BUD_CAP_WRITE, QOS_TC_WRITE and RNG_EVT_CQ_WRITE (R58, R72, R203, R286). -/

namespace Sys2Proof.Proofs
open Sys2Proof.Machine Sys2Proof.Safety

section
variable (p : Path) (data : Word) (s : State)

/-- TIM_CFG takes its phase and ORPHAN_TO; a moved phase starts an irregular epoch. -/
theorem timCfg_write (h : Acts p .timCfg 0 s) (hf : Formed s) : ∃ u : State,
    exec (.timCfgWrite p data) s = .next u.noteLevel ∧ Only [.regs, .tim] s u ∧ u.fld .timCfg 0 0 6 = fieldOf data 0 6 ∧
    u.fld .timCfg 0 16 16 = max 16 (fieldOf data 16 16) ∧
    (fieldOf data 0 6 = s.fld .timCfg 0 0 6 → u.tim = s.tim) ∧
    (fieldOf data 0 6 ≠ s.fld .timCfg 0 0 6 → u.tim.irreg = true) := by
  obtain ⟨u, hu, hsettle⟩ := State.settle_timCfg (s := s) (w := writeOf p .timCfg 0 data) (o := s.cfgWord .timCfg 0)
  obtain ⟨v, hv, -, hexec⟩ := hu.written plainReg_timCfg h hf hsettle
  obtain ⟨hphase, hto⟩ := fieldOf_timCfgWord (s.cfgWord .timCfg 0) (writeOf p .timCfg 0 data).data
  have htook : v.takeFields (writeOf p .timCfg 0 data) .timCfg 0 (s.cfgWord .timCfg 0)
      (timCfgWord (s.cfgWord .timCfg 0) (writeOf p .timCfg 0 data).data) =
      if fieldOf data 0 6 = s.fld .timCfg 0 0 6 then v else v.irregular := by
    rw [State.takeFields_timCfg, hphase]
    rfl
  have hlate : v.regs.late = [] := hv.late.trans h.2.2.1
  rw [htook] at hexec
  by_cases hmoved : fieldOf data 0 6 = s.fld .timCfg 0 0 6
  · rw [if_pos hmoved, State.actLate_nil v hlate] at hexec
    exact ⟨v, congrArg Host.Outcome.next hexec, hv.only.mono (by simp), (hv.fld 0 6).trans hphase, (hv.fld 16 16).trans hto,
      fun _ => hv.only.same .tim (by decide), fun hne => absurd hmoved hne⟩
  · have hirregular : Only [.tim] v v.irregular := by simp [Only, State.irregular]
    rw [if_neg hmoved, State.actLate_nil v.irregular hlate] at hexec
    exact ⟨v.irregular, congrArg Host.Outcome.next hexec, hv.only.trans hirregular, (hv.fld 0 6).trans hphase,
      (hv.fld 16 16).trans hto, fun he => absurd he hmoved, fun _ => rfl⟩

/-- BUD_CAP holds its value within its bounds, and the targets follow it. -/
theorem budCap_write (h : Acts p .budCap 0 s) (hf : Formed s) : ∃ u v : State,
    exec (.budCapWrite p data) s = .next u.noteLevel ∧ Only [.regs] s v ∧ (u = v.retarget ∨ u = v) ∧
    v.fld .budCap 0 0 16 = min 60000 (max (max 12000 s.capMin) (fieldOf data 0 16)) := by
  obtain ⟨u, hu, hsettle⟩ := State.settle_budCap (s := s) (w := writeOf p .budCap 0 data) (o := s.cfgWord .budCap 0)
  obtain ⟨v, hv, -, hexec⟩ := hu.written plainReg_budCap h hf hsettle
  have hlate : v.regs.late = [] := hv.late.trans h.2.2.1
  have hregs : v.retarget.regs = v.regs := v.retarget_only.same .regs (by decide)
  have hword := (hv.fld 0 16).trans (fieldOf_budCapWord (s.cfgWord .budCap 0) data s.capMin)
  rw [State.takeFields_budCap] at hexec
  split at hexec
  · rw [State.actLate_nil v hlate] at hexec
    exact ⟨v, v, congrArg Host.Outcome.next hexec, hv.only, .inr rfl, hword⟩
  · rw [State.actLate_nil v.retarget (by rw [hregs, hlate])] at hexec
    exact ⟨v.retarget, v, congrArg Host.Outcome.next hexec, hv.only, .inl rfl, hword⟩

/-- QOS_TC takes its guarantee and its limits; what has moved acts. -/
theorem qosTc_write (n : BitVec 3) (h : Acts p .qosTc n.toNat s) (hf : Formed s) : ∃ u v : State,
    exec (.qosTcWrite p n data) s = .next u.actLate.noteLevel ∧ Only [.regs] s v ∧
    v.fld .qosTc n.toNat 0 16 = fieldOf data 0 16 ∧ v.fld .qosTc n.toNat 16 6 = min 32 (max 1 (fieldOf data 16 6)) ∧
    v.fld .qosTc n.toNat 24 6 = min 32 (max (min 32 (max 1 (fieldOf data 16 6))) (fieldOf data 24 6)) ∧
    (∀ g : State, g = (if v.fld .qosTc n.toNat 0 16 = s.fld .qosTc n.toNat 0 16 then v else v.inputChange 1) →
      u = if v.fld .qosTc n.toNat 16 16 = s.fld .qosTc n.toNat 16 16 then g else g.clampLimits n.toNat) := by
  obtain ⟨u, hu, hsettle⟩ := State.settle_qosTc (s := s) (w := writeOf p .qosTc n.toNat data) (i := n.toNat)
    (o := s.cfgWord .qosTc n.toNat)
  obtain ⟨v, hv, -, hexec⟩ := hu.written plainReg_qosTc h hf hsettle
  obtain ⟨hguar, hmin, hmax⟩ := fieldOf_qosTcWord (s.cfgWord .qosTc n.toNat) data
  refine ⟨_, v, congrArg Host.Outcome.next hexec, hv.only, (hv.fld 0 16).trans hguar, (hv.fld 16 6).trans hmin,
    (hv.fld 24 6).trans hmax, fun g hg => ?_⟩
  rw [hv.fld] at hg ⊢
  exact State.takeFields_qosTc g hg

/-- Whatever RNG_EVT_CQ took, held events are written where it changed. -/
theorem rngEvtCq_written {u : State} {x : Word} (h : Acts p .rngEvtCq 0 s) (hf : Formed s) (hu : Clamped s u)
    (hsettle : s.settleFields (writeOf p .rngEvtCq 0 data) .rngEvtCq 0 (regFields .rngEvtCq 0) (s.cfgWord .rngEvtCq 0) =
      (u, withField x 16 1 (fieldOf data 16 1))) :
    ∃ v : State, exec (.rngEvtCqWrite p data) s =
        .next (if v.cfgWord .rngEvtCq 0 = s.cfgWord .rngEvtCq 0 then v else v.flushHeld).noteLevel ∧
      Only [.regs] s v ∧ v.regs.clampNew = u.regs.clampNew ∧ v.evtCq = fieldOf x 0 12 ∧ v.evtEn = data.getLsbD 16 := by
  obtain ⟨v, hv, hnew, hexec⟩ := hu.written plainReg_rngEvtCq h hf hsettle
  have hlate : v.regs.late = [] := hv.late.trans h.2.2.1
  have hregs : v.flushHeld.regs = v.regs := Only.same (Posts.flushHeld v) .regs (by decide)
  have hstays : (if v.cfgWord .rngEvtCq 0 = s.cfgWord .rngEvtCq 0 then v else v.flushHeld).regs.late = [] := by
    split
    · exact hlate
    · rw [hregs, hlate]
  rw [State.takeFields_rngEvtCq, ← hv.word, State.actLate_nil _ hstays] at hexec
  refine ⟨v, congrArg Host.Outcome.next hexec, hv.only, hnew, ?_, ?_⟩
  · exact (hv.fld 0 12).trans (fieldOf_withField_of_disjoint (by omega) (by omega))
  · rw [State.evtEn, State.flag, bitOf_eq_fieldOf, hv.word, fieldOf_withField_of_lt (by omega) fieldOf_lt, ← bitOf_eq_fieldOf]
    rfl

end

/-- Settles O28: each register's fields are settled one by one, and its block takes the word where it has changed. -/
theorem timeCapClassAndEventRingWrites : Obligations.TimeCapClassAndEventRingWrites := by
  unfold Obligations.TimeCapClassAndEventRingWrites
  refine ⟨⟨timCfg_write, budCap_write⟩, fun p n data s h hf => qosTc_write p data s n h hf, fun p data s h hf => ⟨fun htakes => ?_, ?_⟩⟩
  · obtain ⟨u, hu, hsettle⟩ := State.settle_rngEvtCq (s := s) (w := writeOf p .rngEvtCq 0 data) (o := s.cfgWord .rngEvtCq 0) htakes
    obtain ⟨v, hexec, honly, -, hring, hen⟩ := rngEvtCq_written p data s h hf hu hsettle
    exact ⟨_, v, hexec, honly, hring.trans (fieldOf_withField_of_lt (by omega) fieldOf_lt), hen, rfl⟩
  · rintro ⟨hne, hst, hfull⟩
    obtain ⟨u, hu, hnew, hsettle⟩ := State.settle_rngEvtCq_full (s := s) (w := writeOf p .rngEvtCq 0 data)
      (o := s.cfgWord .rngEvtCq 0) hne hst hfull
    obtain ⟨v, hexec, honly, hnoted, hring, hen⟩ := rngEvtCq_written p data s h hf hu hsettle
    exact ⟨_, v, hexec, honly, hring, hnoted.trans hnew, hen, rfl⟩

end Sys2Proof.Proofs
end

section
/-! SUPPORT. A chain of operations that leaves the waiting commands and the form as they are: the frame that every operation of the
model keeps (R87, R123, R488, R545). The lemma `Keeps.f` says that the operation `State.f` carries such a chain on, so that the proof
for a composed operation follows its definition: `h.f.g` for `g` after `f`, `ite` at a branch, `foldl` at a loop. -/

namespace Sys2Proof.Machine
open Sys2Proof.Safety

/-- Rising keys stay so at a write. -/
theorem Tab.set_sorted {α : Type} [DecidableEq α] (d : α) (t : Tab α) (i : Nat) (x : α) (h : (t.map Prod.fst).Pairwise (· < ·)) :
    ((Tab.set d t i x).map Prod.fst).Pairwise (· < ·) ∧ ∀ k, k ∈ (Tab.set d t i x).map Prod.fst → k = i ∨ k ∈ t.map Prod.fst := by
  induction t with
  | nil => by_cases hx : x = d <;> simp [Tab.set, hx]
  | cons e r ih =>
    obtain ⟨k, v⟩ := e
    rw [List.map_cons, List.pairwise_cons] at h
    obtain ⟨hk, hr⟩ := h
    obtain ⟨hs, hm⟩ := ih hr
    simp only [Tab.set]
    split_ifs with hi hx he hx
    · exact ⟨List.pairwise_cons.mpr ⟨hk, hr⟩, fun _ => .inr⟩
    · refine ⟨List.pairwise_cons.mpr ⟨fun j hj => ?_, List.pairwise_cons.mpr ⟨hk, hr⟩⟩, fun j hj => List.mem_cons.mp hj⟩
      obtain rfl | hj := List.mem_cons.mp hj
      · exact hi
      · exact hi.trans (hk j hj)
    · exact ⟨hr, fun j hj => .inr (List.mem_cons_of_mem _ hj)⟩
    · subst he
      exact ⟨List.pairwise_cons.mpr ⟨hk, hr⟩, fun _ => .inr⟩
    · refine ⟨List.pairwise_cons.mpr ⟨fun j hj => ?_, hs⟩, fun j hj => ?_⟩
      · obtain rfl | hj := hm j hj
        · omega
        · exact hk j hj
      · obtain rfl | hj := List.mem_cons.mp hj
        · exact .inr (List.mem_cons_self ..)
        · exact (hm j hj).imp_right (List.mem_cons_of_mem _)

/-- Rising keys stay so where some are dropped. -/
theorem Tab.keep_sorted {α : Type} (p : Nat → Bool) (t : Tab α) (h : (t.map Prod.fst).Pairwise (· < ·)) :
    ((Tab.keep p t).map Prod.fst).Pairwise (· < ·) :=
  h.sublist (List.filter_sublist.map _)

/-- The second state has the waiting commands of the first, and the form if the first has it. -/
structure Keeps (s₀ s : State) : Prop where
  pending : s.pending = s₀.pending
  formed : Formed s₀ → Formed s

namespace Keeps
variable {s₀ s : State}

theorem refl (s : State) : Keeps s s := ⟨rfl, id⟩

/-- Either branch. -/
theorem ite {c : Prop} [Decidable c] {t u : State} (ht : Keeps s₀ t) (hu : Keeps s₀ u) : Keeps s₀ (if c then t else u) := by
  split
  · exact ht
  · exact hu

/-- One operation after another. -/
theorem foldl {α : Type} {f : State → α → State} {l : List α} (hf : ∀ t b, Keeps s₀ t → Keeps s₀ (f t b))
    (h : Keeps s₀ s) : Keeps s₀ (l.foldl f s) := by
  induction l generalizing s with
  | nil => exact h
  | cons b l ih => exact ih (hf s b h)

/-- One operation after another, each with a result beside the state. -/
theorem foldlFst {α β : Type} {f : State × β → α → State × β} {l : List α} {x : State × β}
    (hf : ∀ y b, Keeps s₀ y.1 → Keeps s₀ (f y b).1) (h : Keeps s₀ x.1) : Keeps s₀ (l.foldl f x).1 := by
  induction l generalizing x with
  | nil => exact h
  | cons b l ih => exact ih (hf x b h)

/-! Each part of the state, rewritten: a part that the form does not speak of may take any value. -/

theorem die {x : Die} (h : Keeps s₀ s) : Keeps s₀ { s with die := x } := ⟨h.pending, h.formed⟩
theorem tim {x : Tim} (h : Keeps s₀ s) : Keeps s₀ { s with tim := x } := ⟨h.pending, h.formed⟩
theorem clk {x : Clk} (h : Keeps s₀ s) : Keeps s₀ { s with clk := x } := ⟨h.pending, h.formed⟩
theorem bud {x : Bud} (h : Keeps s₀ s) : Keeps s₀ { s with bud := x } := ⟨h.pending, h.formed⟩
theorem qos {x : Qos} (h : Keeps s₀ s) : Keeps s₀ { s with qos := x } := ⟨h.pending, h.formed⟩
theorem rng {x : Rng} (h : Keeps s₀ s) : Keeps s₀ { s with rng := x } := ⟨h.pending, h.formed⟩
theorem lnk {x : Lnk} (h : Keeps s₀ s) : Keeps s₀ { s with lnk := x } := ⟨h.pending, h.formed⟩
theorem scb {x : Scb} (h : Keeps s₀ s) : Keeps s₀ { s with scb := x } := ⟨h.pending, h.formed⟩
theorem pwr {x : Pwr} (h : Keeps s₀ s) : Keeps s₀ { s with pwr := x } := ⟨h.pending, h.formed⟩
theorem thm {x : Thm} (h : Keeps s₀ s) : Keeps s₀ { s with thm := x } := ⟨h.pending, h.formed⟩
theorem cal {x : Cal} (h : Keeps s₀ s) : Keeps s₀ { s with cal := x } := ⟨h.pending, h.formed⟩
theorem otp {x : Otp} (h : Keeps s₀ s) : Keeps s₀ { s with otp := x } := ⟨h.pending, h.formed⟩
theorem bst {x : Bst} (h : Keeps s₀ s) : Keeps s₀ { s with bst := x } := ⟨h.pending, h.formed⟩
theorem flt {x : Flt} (h : Keeps s₀ s) : Keeps s₀ { s with flt := x } := ⟨h.pending, h.formed⟩
theorem tw {x : Tw} (h : Keeps s₀ s) : Keeps s₀ { s with tw := x } := ⟨h.pending, h.formed⟩
theorem out {x : List Out} (h : Keeps s₀ s) : Keeps s₀ { s with out := x } := ⟨h.pending, h.formed⟩
theorem free {x : Nat} (h : Keeps s₀ s) : Keeps s₀ { s with free := x } := ⟨h.pending, h.formed⟩

/-- The register file may take any value in which the stored values have rising keys. -/
theorem regs_of {x : Regs} (h : Keeps s₀ s)
    (e : (s.regs.cfg.map Prod.fst).Pairwise (· < ·) → (x.cfg.map Prod.fst).Pairwise (· < ·)) : Keeps s₀ { s with regs := x } := by
  refine ⟨h.pending, fun g => ?_⟩
  obtain ⟨hl, hm, hc, ht, hch, hr, hs, hk, hg⟩ := h.formed g
  exact ⟨hl, hm, hc, ht, hch, hr, hs, hk, e hg⟩

/-- The tiers' part may take any value in which the tables of tiers and channels have their form. -/
theorem tch_of {x : Tch} (h : Keeps s₀ s) (e : Tab.wf .init s.tch.tiers = true → Tab.wf .init x.tiers = true)
    (e' : Tab.wf .init s.tch.chans = true → Tab.wf .init x.chans = true) : Keeps s₀ { s with tch := x } := by
  refine ⟨h.pending, fun g => ?_⟩
  obtain ⟨hl, hm, hc, ht, hch, hr, hs, hk, hg⟩ := h.formed g
  exact ⟨hl, hm, hc, e ht, e' hch, hr, hs, hk, hg⟩

/-- The page code's part may take any value in which the readiness bits and the tier rows have their form. -/
theorem pcd_of {x : Pcd} (h : Keeps s₀ s) (e : Tab.wf 0 s.pcd.rdy = true → Tab.wf 0 x.rdy = true)
    (e' : Tab.wf none s.pcd.store = true → Tab.wf none x.store = true) : Keeps s₀ { s with pcd := x } := by
  refine ⟨h.pending, fun g => ?_⟩
  obtain ⟨hl, hm, hc, ht, hch, hr, hs, hk, hg⟩ := h.formed g
  exact ⟨hl, hm, hc, ht, hch, e hr, e' hs, hk, hg⟩

/-- The security engine may take any value in which the key slots have their form. -/
theorem sec_of {x : Sec} (h : Keeps s₀ s) (e : Tab.wf [] s.sec.slots = true → Tab.wf [] x.slots = true) :
    Keeps s₀ { s with sec := x } := by
  refine ⟨h.pending, fun g => ?_⟩
  obtain ⟨hl, hm, hc, ht, hch, hr, hs, hk, hg⟩ := h.formed g
  exact ⟨hl, hm, hc, ht, hch, hr, hs, e hk, hg⟩

/-- The debug unit may take any value that keeps the levels in order and checks a token for LIMITED or FULL. -/
theorem dbg_of {x : Dbg} (h : Keeps s₀ s) (e : s.dbg.level.toNat ≤ s.dbg.max.toNat ∧ s.dbg.max.toNat ≤ 2 →
      x.level.toNat ≤ x.max.toNat ∧ x.max.toNat ≤ 2)
    (e' : (∀ l, s.dbg.checking = some l → l = 1 ∨ l = 2) → ∀ l, x.checking = some l → l = 1 ∨ l = 2) :
    Keeps s₀ { s with dbg := x } := by
  refine ⟨h.pending, fun g => ?_⟩
  obtain ⟨hl, hm, hc, ht, hch, hr, hs, hk, hg⟩ := h.formed g
  exact ⟨(e ⟨hl, hm⟩).1, (e ⟨hl, hm⟩).2, e' hc, ht, hch, hr, hs, hk, hg⟩

/-- Whatever changes, but for the parts that the form speaks of and the waiting commands. -/
theorem same {t : State} (h : Keeps s₀ s) (hr : t.regs = s.regs := by rfl) (ht : t.tch = s.tch := by rfl)
    (hp : t.pcd = s.pcd := by rfl) (hs : t.sec = s.sec := by rfl) (hd : t.dbg = s.dbg := by rfl)
    (hw : t.pending = s.pending := by rfl) : Keeps s₀ t :=
  ⟨hw.trans h.pending, fun g => by simpa only [Formed, hr, ht, hp, hs, hd] using h.formed g⟩

theorem regs {x : Regs} (h : Keeps s₀ s) (e : x.cfg = s.regs.cfg := by rfl) : Keeps s₀ { s with regs := x } :=
  h.regs_of fun g => e ▸ g

theorem tch {x : Tch} (h : Keeps s₀ s) (e : x.tiers = s.tch.tiers := by rfl) (e' : x.chans = s.tch.chans := by rfl) :
    Keeps s₀ { s with tch := x } :=
  h.tch_of (fun g => e ▸ g) fun g => e' ▸ g

theorem pcd {x : Pcd} (h : Keeps s₀ s) (e : x.rdy = s.pcd.rdy := by rfl) (e' : x.store = s.pcd.store := by rfl) :
    Keeps s₀ { s with pcd := x } :=
  h.pcd_of (fun g => e ▸ g) fun g => e' ▸ g

theorem sec {x : Sec} (h : Keeps s₀ s) (e : x.slots = s.sec.slots := by rfl) : Keeps s₀ { s with sec := x } :=
  h.sec_of fun g => e ▸ g

theorem dbg {x : Dbg} (h : Keeps s₀ s) (e : x.level = s.dbg.level := by rfl) (e' : x.max = s.dbg.max := by rfl)
    (e'' : x.checking = s.dbg.checking := by rfl) : Keeps s₀ { s with dbg := x } :=
  h.dbg_of (fun g => by rwa [e, e']) fun g => by rwa [e'']


end Keeps

end Sys2Proof.Machine
end

section
/-! SUPPORT. The frame of the named operations on the instanced parts of the state: what each operation leaves as it is. -/

set_option Elab.async false

namespace Sys2Proof.Machine
open Sys2Proof.Safety

namespace Keeps
variable {s₀ s : State}

theorem setChan {i : Nat} {c : Chan} (h : Keeps s₀ s) : Keeps s₀ (s.setChan i c) :=
  h.tch_of id (Tab.wf_set _ _ _ _)

theorem updChan {i : Nat} {f : Chan → Chan} (h : Keeps s₀ s) : Keeps s₀ (s.updChan i f) :=
  h.setChan

theorem setTier {t : Nat} {x : Tier} (h : Keeps s₀ s) : Keeps s₀ (s.setTier t x) :=
  h.tch_of (Tab.wf_set _ _ _ _) id

theorem updTier {t : Nat} {f : Tier → Tier} (h : Keeps s₀ s) : Keeps s₀ (s.updTier t f) :=
  h.setTier

theorem setPort {n : Nat} {p : Port} (h : Keeps s₀ s) : Keeps s₀ (s.setPort n p) :=
  h.lnk

theorem updPort {n : Nat} {f : Port → Port} (h : Keeps s₀ s) : Keeps s₀ (s.updPort n f) :=
  h.setPort

theorem updSq {q : Nat} {f : SqCtx → SqCtx} (h : Keeps s₀ s) : Keeps s₀ (s.updSq q f) :=
  h.rng

theorem updCq {q : Nat} {f : CqCtx → CqCtx} (h : Keeps s₀ s) : Keeps s₀ (s.updCq q f) :=
  h.rng

theorem setWindow {w : Nat} {x : Window} (h : Keeps s₀ s) : Keeps s₀ (s.setWindow w x) :=
  h.pcd

theorem updCmd {id : Nat} {f : Cmd → Cmd} (h : Keeps s₀ s) : Keeps s₀ (s.updCmd id f) :=
  h.rng

theorem updChans {is_ : List Nat} {f : Nat → Chan → Chan} (h : Keeps s₀ s) : Keeps s₀ (s.updChans is_ f) :=
  .foldl (fun _ _ h => h.updChan) h

theorem setCfg {n : RegName} {i : Nat} {w : Word} (h : Keeps s₀ s) : Keeps s₀ (s.setCfg n i w) :=
  h.regs_of fun g => (Tab.set_sorted _ _ _ _ g).1

theorem raise {src detail : Nat} (h : Keeps s₀ s) : Keeps s₀ (s.raise src detail) :=
  h.flt

theorem emit {o : Out} (h : Keeps s₀ s) : Keeps s₀ (s.emit o) :=
  h.out

theorem random (h : Keeps s₀ s) : Keeps s₀ s.random.2 :=
  h.free

theorem randoms {n : Nat} (h : Keeps s₀ s) : Keeps s₀ (s.randoms n).2 :=
  h.free

theorem noteEyeAt {k time temp : Nat} (h : Keeps s₀ s) : Keeps s₀ (s.noteEyeAt k time temp) :=
  h.cal

theorem noteEye {k temp : Nat} (h : Keeps s₀ s) : Keeps s₀ (s.noteEye k temp) :=
  h.noteEyeAt

theorem putSlot {i b phys : Nat} {x : Option Slot} (h : Keeps s₀ s) : Keeps s₀ (s.putSlot i b phys x) :=
  h.pcd_of id (Tab.wf_set _ _ _ _)

theorem loseTier {t : Nat} (h : Keeps s₀ s) : Keeps s₀ (s.loseTier t) := by
  refine h.pcd_of id fun g => ?_
  dsimp only
  exact Tab.wf_keep _ _ _ g

theorem setReady {r t : Nat} (h : Keeps s₀ s) : Keeps s₀ (s.setReady r t) := by
  refine h.pcd_of (fun g => ?_) id
  dsimp only
  exact Tab.wf_upd _ _ _ _ g

theorem formatAgain {t : Nat} (h : Keeps s₀ s) : Keeps s₀ (s.formatAgain t) :=
  h.updChans

theorem unready {t : Nat} (h : Keeps s₀ s) : Keeps s₀ (s.unready t) := by
  refine h.pcd_of (fun g => ?_) id
  dsimp only
  exact Tab.wf_mapVals _ _ _ _ g

end Keeps

end Sys2Proof.Machine
end

section
/-! SUPPORT. The frame of sending on a port: what each operation leaves as it is. -/

set_option Elab.async false

namespace Sys2Proof.Machine
open Sys2Proof.Safety

namespace Keeps
variable {s₀ s : State}

theorem burst {n : Nat} {lanes : Byte} {count : Nat} (h : Keeps s₀ s) : Keeps s₀ (s.burst n lanes count) :=
  .emit (.foldl (fun _ _ h => h.emit) h)

theorem wakeL0 {n : Nat} (h : Keeps s₀ s) : Keeps s₀ (s.wakeL0 n) :=
  .ite h h.clk.emit.burst.updPort

theorem sendAck {n : Nat} (h : Keeps s₀ s) : Keeps s₀ (s.sendAck n) := by
  unfold State.sendAck
  exact h.wakeL0.emit.updPort

theorem sendNak {n : Nat} (h : Keeps s₀ s) : Keeps s₀ (s.sendNak n) :=
  .ite h.wakeL0 h.wakeL0.emit.updPort

theorem mrdLeft {x : Packet} (h : Keeps s₀ s) : Keeps s₀ (s.mrdLeft x) :=
  h.rng

theorem pump {fuel n : Nat} (h : Keeps s₀ s) : Keeps s₀ (State.pump fuel s n) := by
  induction fuel generalizing s with
  | zero => exact h
  | succ fuel ih =>
    unfold State.pump
    extract_lets
    split
    · exact h
    · split
      · exact h
      · exact ih (.emit (.setPort (.ite h.mrdLeft h)))

theorem enqueue {n src : Nat} {x : Packet} (h : Keeps s₀ s) : Keeps s₀ (s.enqueue n src x) :=
  .ite h (.pump h.updPort.wakeL0)

theorem toHost {t : PType} {len tc tag : Nat} {w2 w3 : Word} {payload : List Word} (h : Keeps s₀ s) :
    Keeps s₀ (s.toHost t len tc tag w2 w3 payload) :=
  h.enqueue

theorem mwr {tc addr : Nat} {bytes : List Byte} (h : Keeps s₀ s) : Keeps s₀ (s.mwr tc addr bytes) :=
  h.toHost

theorem mwrAll {tc addr : Nat} {bytes : List Byte} (h : Keeps s₀ s) : Keeps s₀ (s.mwrAll tc addr bytes) :=
  .foldlFst (fun _ _ h => h.mwr) h

theorem sendMrd {tag : BitVec 12} {tc addr words : Nat} {use : MrdFor} (h : Keeps s₀ s) :
    Keeps s₀ (s.sendMrd tag tc addr words use) :=
  h.rng.toHost

theorem mrdNext (h : Keeps s₀ s) : Keeps s₀ s.mrdNext := by
  unfold State.mrdNext
  extract_lets
  split
  · exact h.rng.sendMrd
  · exact h

theorem mrd {tc addr words : Nat} {use : MrdFor} (h : Keeps s₀ s) : Keeps s₀ (s.mrd tc addr words use) :=
  h.rng.mrdNext

end Keeps

end Sys2Proof.Machine
end

section
/-! SUPPORT. The frame of status that is computed: what each operation leaves as it is. -/

set_option Elab.async false

namespace Sys2Proof.Machine
open Sys2Proof.Safety

namespace Keeps
variable {s₀ s : State}

theorem onPin {f : State → State} (h : Keeps s₀ s) (hf : ∀ t, Keeps s₀ t → Keeps s₀ (f t)) : Keeps s₀ (s.onPin f) :=
  .ite (hf _ h) (.ite (hf _ h.free) h.free)

theorem judgeQuotas (h : Keeps s₀ s) : Keeps s₀ s.judgeQuotas :=
  h.qos

theorem hiveResume (h : Keeps s₀ s) : Keeps s₀ s.hiveResume :=
  h.same

end Keeps

end Sys2Proof.Machine
end

section
/-! SUPPORT. The frame of starting an exit to P0: what each operation leaves as it is. -/

set_option Elab.async false

namespace Sys2Proof.Machine
open Sys2Proof.Safety

namespace Keeps
variable {s₀ s : State}

theorem grant {l : Load} {span : Nat} (h : Keeps s₀ s) : Keeps s₀ (s.grant l span) :=
  h.pwr

theorem isleTick (h : Keeps s₀ s) : Keeps s₀ s.isleTick :=
  .ite h h.grant.pwr

theorem moveIslands (h : Keeps s₀ s) : Keeps s₀ s.moveIslands :=
  h.pwr.isleTick

theorem moveBulk {n dest : Nat} (h : Keeps s₀ s) : Keeps s₀ (s.moveBulk n dest) := by
  unfold State.moveBulk
  extract_lets _ _ _ s₁ _ _ s₂ _ s₃
  have h₁ : Keeps s₀ s₁ := .ite h.grant h
  have h₂ : Keeps s₀ s₂ := .ite (.burst (.ite h₁.wakeL0.emit h₁.wakeL0)) h₁
  have h₃ : Keeps s₀ s₃ := .ite (.emit (.ite h₂.emit h₂)) (.ite h₂.emit h₂)
  exact .ite h h₃.updPort

theorem moveAllBulk {dest : Nat} (h : Keeps s₀ s) : Keeps s₀ (s.moveAllBulk dest) :=
  .foldl (fun _ _ h => h.moveBulk) h

theorem setPower {dest cause : Nat} (h : Keeps s₀ s) : Keeps s₀ (s.setPower dest cause) :=
  .ite h h.pwr.moveAllBulk

theorem startWake {t : Nat} {judge : Bool} (h : Keeps s₀ s) : Keeps s₀ (s.startWake t judge) :=
  .ite h h.updTier.updChans

theorem endExit (h : Keeps s₀ s) : Keeps s₀ s.endExit :=
  .foldl (fun _ _ h => .ite h h.startWake) h.pwr.setPower

theorem ungate (h : Keeps s₀ s) : Keeps s₀ s.ungate :=
  .ite h (.ite h.pwr.pwr.setPower h.pwr)

theorem pulseWake (h : Keeps s₀ s) : Keeps s₀ s.pulseWake :=
  h.pwr

theorem beginExit {cause at_ : Nat} (h : Keeps s₀ s) : Keeps s₀ (s.beginExit cause at_) :=
  h.pwr

theorem startExit {cause : Nat} (h : Keeps s₀ s) : Keeps s₀ (s.startExit cause) := by
  unfold State.startExit
  extract_lets
  split
  · exact h
  · split
    · exact h.setPower
    · exact h.beginExit.ungate
    · exact h.beginExit.ungate
    · exact h.pwr.beginExit.pulseWake.moveIslands
    · exact h

end Keeps

end Sys2Proof.Machine
end

section
/-! SUPPORT. The frame of completion and event entries: what each operation leaves as it is. -/

set_option Elab.async false

namespace Sys2Proof.Machine
open Sys2Proof.Safety

namespace Keeps
variable {s₀ s : State}

theorem notify {q : Nat} (h : Keeps s₀ s) : Keeps s₀ (s.notify q) :=
  h.updCq.toHost

theorem judgeNotify {q : Nat} {atOnce : Bool} (h : Keeps s₀ s) : Keeps s₀ (s.judgeNotify q atOnce) :=
  .ite h.notify h

theorem placeEntry {q : Nat} {e : Entry} {tc : Nat} {atOnce : Bool} (h : Keeps s₀ s) :
    Keeps s₀ (s.placeEntry q e tc atOnce) :=
  .judgeNotify (.ite h.mwr.updCq.updCq h.mwr.updCq)

theorem remember {q : Nat} {cid : BitVec 16} (h : Keeps s₀ s) : Keeps s₀ (s.remember q cid) :=
  h.rng

theorem writeHeld {q : Nat} {e : HeldEntry} (h : Keeps s₀ s) : Keeps s₀ (s.writeHeld q e) := by
  unfold State.writeHeld
  extract_lets _ _ s₁
  have h₁ : Keeps s₀ s₁ := h.placeEntry.updCq
  split
  · exact h₁
  · exact h₁
  · exact h₁.remember
  · split
    · exact h₁
    · exact .foldl (fun _ _ h => h.mwrAll) h₁.updCmd

theorem writeEntry {q : Nat} {e : HeldEntry} (h : Keeps s₀ s) : Keeps s₀ (s.writeEntry q e) :=
  .ite h.updCq h.writeHeld

theorem reportLost (h : Keeps s₀ s) : Keeps s₀ s.reportLost :=
  .ite h.rng.placeEntry h

theorem loseEvent (h : Keeps s₀ s) : Keeps s₀ s.loseEvent :=
  h.rng.reportLost

theorem eventEntry {e : Entry} (h : Keeps s₀ s) : Keeps s₀ (s.eventEntry e) :=
  .ite h.placeEntry h.loseEvent

theorem eventMessage {e : Entry} (h : Keeps s₀ s) : Keeps s₀ (s.eventMessage e) :=
  h.toHost

theorem deliver {e : HeldEvent} (h : Keeps s₀ s) : Keeps s₀ (s.deliver e).1 := by
  unfold State.deliver
  extract_lets _ s₁ _ s₂
  have h₁ : Keeps s₀ s₁ := .ite h.eventEntry h
  exact .ite h₁.eventMessage h₁

theorem flushHeld (h : Keeps s₀ s) : Keeps s₀ s.flushHeld :=
  .rng (.foldlFst (fun _ _ h => h.deliver) h.reportLost)

theorem postAs {atFloor : Bool} {code sqid sev : Nat} {res0 : Word} {res1 : Nat} (h : Keeps s₀ s) :
    Keeps s₀ (s.postAs atFloor code sqid sev res0 res1) := by
  unfold State.postAs
  extract_lets _ _ _ _ s₁
  have h₁ : Keeps s₀ s₁ := .rng (.flushHeld (.ite h.startExit h))
  exact .ite h₁.loseEvent (.ite h₁.deliver.rng h₁.deliver)

theorem postEvent {code sqid sev : Nat} {res0 : Word} {res1 : Nat} (h : Keeps s₀ s) :
    Keeps s₀ (s.postEvent code sqid sev res0 res1) :=
  h.postAs

theorem park {x : Parked} (h : Keeps s₀ s) : Keeps s₀ (s.park x) :=
  h.lnk.startExit

theorem noteLevel (h : Keeps s₀ s) : Keeps s₀ s.noteLevel :=
  .ite h (.postAs (.ite h.die h.die.flt))

end Keeps

end Sys2Proof.Machine
end

section
/-! SUPPORT. The frame of places and the governor: what each operation leaves as it is. -/

set_option Elab.async false

namespace Sys2Proof.Machine
open Sys2Proof.Safety

namespace Keeps
variable {s₀ s : State}

theorem charge {i : Nat} {c : Class} {q : Nat} (h : Keeps s₀ s) : Keeps s₀ (s.charge i c q) := by
  unfold State.charge
  extract_lets
  split
  · exact h.bud.bud.setChan
  · exact h.bud.setChan

theorem recutClass {k : Class} (h : Keeps s₀ s) : Keeps s₀ (s.recutClass k) :=
  h.updChans

theorem retarget (h : Keeps s₀ s) : Keeps s₀ s.retarget :=
  .ite h.same.postEvent h.same

theorem takePlace {i : Nat} {maint : Bool} {q : Nat} (h : Keeps s₀ s) : Keeps s₀ (s.takePlace i maint q) := by
  unfold State.takePlace
  exact h.updChan

theorem releasePlace {i : Nat} (h : Keeps s₀ s) : Keeps s₀ (s.releasePlace i) :=
  h.updChan

theorem releasePlaces (h : Keeps s₀ s) : Keeps s₀ s.releasePlaces := by
  refine h.tch_of id fun g => ?_
  dsimp only
  exact Tab.wf_mapVals _ _ _ _ g

theorem governor (h : Keeps s₀ s) : Keeps s₀ s.governor :=
  .bud (.ite h h.grant)

theorem budgetBoundary (h : Keeps s₀ s) : Keeps s₀ s.budgetBoundary :=
  h.bud.updChans

end Keeps

end Sys2Proof.Machine
end

section
/-! SUPPORT. The frame of outstanding commands and their requests: what each operation leaves as it is. -/

set_option Elab.async false

namespace Sys2Proof.Machine
open Sys2Proof.Safety

namespace Keeps
variable {s₀ s : State}

theorem setMerge {k : Nat} {m : Option Merge} (h : Keeps s₀ s) : Keeps s₀ (s.setMerge k m) :=
  h.pcd

theorem mergeTo {k : Option Nat} {st : MergeSt} (h : Keeps s₀ s) : Keeps s₀ (s.mergeTo k st) := by
  unfold State.mergeTo
  split
  · exact h
  · split
    · exact h
    · exact h.setMerge

theorem mergeRelease {k : Option Nat} (h : Keeps s₀ s) : Keeps s₀ (s.mergeRelease k) := by
  unfold State.mergeRelease
  split
  · exact h
  · exact h.setMerge

theorem encode {r : Req} (h : Keeps s₀ s) : Keeps s₀ (s.encode r).1 := by
  unfold State.encode
  split
  · exact h
  · exact .ite h.pcd h

theorem enter {i : Nat} {r : Req} (h : Keeps s₀ s) : Keeps s₀ (s.enter i r) := by
  unfold State.enter
  refine updChan ?_
  split
  · exact h.encode.mergeTo
  · exact h

theorem letIn {i : Nat} (h : Keeps s₀ s) : Keeps s₀ (s.letIn i) :=
  .ite (.foldl (fun _ _ h => .ite h.enter h) h) h

theorem letInAll (h : Keeps s₀ s) : Keeps s₀ s.letInAll :=
  .foldl (fun _ _ h => h.letIn) h

theorem submit {r : Req} (h : Keeps s₀ s) : Keeps s₀ (s.submit r) :=
  h.rng.updChan.letIn

theorem setFill {q fill : Nat} (h : Keeps s₀ s) : Keeps s₀ (s.setFill q fill) :=
  h.updSq

theorem streamRelease {q n : Nat} (h : Keeps s₀ s) : Keeps s₀ (s.streamRelease q n) :=
  .ite h h.qos.setFill

theorem streamTake {q n : Nat} (h : Keeps s₀ s) : Keeps s₀ (s.streamTake q n) :=
  .ite h h.qos.setFill

theorem writeFinal {c : Cmd} {f : Final} (h : Keeps s₀ s) : Keeps s₀ (s.writeFinal c f) := by
  unfold State.writeFinal
  extract_lets _ _ _ _ s₁ _ s₂ _ _ s₃
  have h₁ : Keeps s₀ s₁ := .ite (.ite h.mwrAll h) (.foldl (fun _ _ h => h.mwrAll) (.ite h.mwrAll h))
  have h₂ : Keeps s₀ s₂ := by
    unfold s₂
    split
    · exact .ite h₁ (.ite h₁.setCfg h₁.setCfg)
    · split
      · exact .ite (h₁.sec_of (Tab.wf_set _ _ _ _)) h₁
      · exact h₁
    · exact h₁
  have h₃ : Keeps s₀ s₃ := .ite h₂.writeHeld.streamRelease h₂.writeHeld
  split
  · exact .postEvent (.updSq (.rng (.ite h₃.updCq h₃)))
  · exact .updSq (.rng (.ite h₃.updCq h₃))

theorem complete {c : Cmd} {f : Final} (h : Keeps s₀ s) : Keeps s₀ (s.complete c f) :=
  .ite h.rng (.ite h.updCmd.writeEntry h.writeFinal)

theorem releaseEntry {q : Nat} {e : HeldEntry} (h : Keeps s₀ s) : Keeps s₀ (s.releaseEntry q e) := by
  unfold State.releaseEntry
  split
  · split
    · exact h.writeFinal
    · exact h
  all_goals exact h.writeHeld

theorem settleN {fuel : Nat} (h : Keeps s₀ s) : Keeps s₀ (State.settleN fuel s) := by
  induction fuel generalizing s with
  | zero => exact h
  | succ fuel ih =>
    unfold State.settleN
    split
    · exact h
    · split
      · exact h
      · exact ih h.complete

theorem settle (h : Keeps s₀ s) : Keeps s₀ s.settle :=
  .settleN h

theorem finish {id : Nat} {f : Final} (h : Keeps s₀ s) : Keeps s₀ (s.finish id f) :=
  h.updCmd.settle

theorem judgeProvisional {id : Nat} (h : Keeps s₀ s) : Keeps s₀ (s.judgeProvisional id) := by
  unfold State.judgeProvisional
  split
  · exact h
  · exact .ite h h.updCmd.writeEntry

theorem tryFinish {id : Nat} (h : Keeps s₀ s) : Keeps s₀ (s.tryFinish id) := by
  unfold State.tryFinish
  extract_lets
  split
  · exact h.judgeProvisional
  · exact .ite h.judgeProvisional.finish h.judgeProvisional

theorem judgeMiss {c : Cmd} {forced : Bool} (h : Keeps s₀ s) : Keeps s₀ (s.judgeMiss c forced) := by
  unfold State.judgeMiss
  extract_lets
  split
  · exact h
  · exact .ite h h.updSq.qos

theorem endBlock {id o : Nat} {done : Bool} {fail : Option (Nat × Nat)} {forced : Bool} (h : Keeps s₀ s) :
    Keeps s₀ (s.endBlock id o done fail forced) := by
  unfold State.endBlock
  split
  · exact h
  · exact .ite h (.tryFinish (.ite (.streamRelease (.updCmd (.ite h.judgeMiss h))) (.updCmd (.ite h.judgeMiss h))))

theorem doneIssued {r : Req} {gen : Word} (h : Keeps s₀ s) : Keeps s₀ (s.doneIssued r gen) := by
  unfold State.doneIssued
  split
  · exact h
  · exact .ite (.updCmd (.ite (.streamRelease (.ite h h.judgeMiss)) (.ite h h.judgeMiss))) h

theorem undone {r : Req} (h : Keeps s₀ s) : Keeps s₀ (s.undone r) := by
  unfold State.undone
  split
  · exact h
  · exact .ite (.letInAll (.updCmd (.ite h.streamTake h))) h

theorem unissue {r : Req} (h : Keeps s₀ s) : Keeps s₀ (s.unissue r).1 := by
  unfold State.unissue
  extract_lets
  split
  · exact h.undone
  · exact h.undone.mergeRelease

theorem recodeMark {l : Nat} (h : Keeps s₀ s) : Keeps s₀ (s.recodeMark l) := by
  unfold State.recodeMark
  extract_lets
  split
  · exact h
  · exact .ite h (.ite h.setWindow h.setWindow.setCfg)

theorem openBlock {id o : Nat} {b : BlockBuf} (h : Keeps s₀ s) : Keeps s₀ (s.openBlock id o b) :=
  h.updCmd

theorem updBuf {id o : Nat} {f : BlockBuf → BlockBuf} (h : Keeps s₀ s) : Keeps s₀ (s.updBuf id o f) :=
  h.updCmd

theorem tally {id : Nat} {f : Tally → Tally} (h : Keeps s₀ s) : Keeps s₀ (s.tally id f) :=
  h.updCmd

theorem logIntegrity {l : Nat} {x : Slot} {computed : Word} {source sq cid : Nat} {d : Decode} (h : Keeps s₀ s) :
    Keeps s₀ (s.logIntegrity l x computed source sq cid d) :=
  h.rng

theorem cmdIntegrity {c : Cmd} {l : Nat} {x : Slot} {computed : Word} {d : Decode} (h : Keeps s₀ s) :
    Keeps s₀ (s.cmdIntegrity c l x computed d) :=
  h.logIntegrity.updCmd

theorem askParts {c : Cmd} {o : Nat} {parts : List (Nat × Nat × Nat)} (h : Keeps s₀ s) : Keeps s₀ (s.askParts c o parts) :=
  .foldl (fun _ _ h => h.mrd) h

theorem checkPlain {c : Cmd} {l : Nat} {x : Slot} {d : Decode} {p : List Byte} (h : Keeps s₀ s) :
    Keeps s₀ (s.checkPlain c l x d p).1 := by
  unfold State.checkPlain
  extract_lets
  split
  · exact h
  · dsimp only
    exact h.cmdIntegrity.tally

theorem judgeSide {c : Cmd} {l : Nat} {y : Slot × Nat} (h : Keeps s₀ s) : Keeps s₀ (s.judgeSide c l y).1 := by
  unfold State.judgeSide
  split
  · exact h
  · exact h.checkPlain

theorem judgeCompare {c : Cmd} {o : Nat} (h : Keeps s₀ s) : Keeps s₀ (s.judgeCompare c o) := by
  unfold State.judgeCompare
  extract_lets _ _ a
  have ha : Keeps s₀ a.1 := .foldlFst (fun _ _ h => h.judgeSide) h
  refine .ite h ?_
  split
  · exact ha.endBlock
  · split
    · exact ha.endBlock
    · exact ha.tally.endBlock

theorem judgeVerify {c : Cmd} {o : Nat} (h : Keeps s₀ s) : Keeps s₀ (s.judgeVerify c o) := by
  unfold State.judgeVerify
  extract_lets _ _ a
  have ha : Keeps s₀ a.1 := by
    unfold a
    split
    · split
      · exact h
      · split
        · exact h
        · exact h.checkPlain
    · exact h
  refine .ite h ?_
  split
  · exact ha.endBlock
  · exact ha
  · exact .endBlock (.ite ha.tally ha)

theorem sideDone {c : Cmd} {r : Req} {y : Option (Slot × Nat)} {f : Option (Nat × Nat)} (h : Keeps s₀ s) :
    Keeps s₀ (s.sideDone c r y f) := by
  unfold State.sideDone
  extract_lets
  split
  · exact h.updBuf
  · exact .ite h.updBuf.judgeVerify h.updBuf.judgeCompare

theorem failReq {r : Req} {st sd : Nat} (h : Keeps s₀ s) : Keeps s₀ (s.failReq r st sd) := by
  unfold State.failReq
  extract_lets
  split
  · exact h.mergeRelease.settle
  · split
    · exact h.mergeRelease.settle
    · exact .ite h.mergeRelease.recodeMark.updCmd.endBlock (.ite h.mergeRelease.sideDone h.mergeRelease.endBlock)

theorem trySubmit {c : Cmd} {r : Req} (h : Keeps s₀ s) : Keeps s₀ (s.trySubmit c r) := by
  unfold State.trySubmit
  split
  · exact h.failReq
  · exact h.submit

theorem submitHeld {c : Cmd} {r : Req} (h : Keeps s₀ s) : Keeps s₀ (s.submitHeld c r) := by
  unfold State.submitHeld
  split
  · exact h.submit
  · exact h.failReq
  · exact h.submit

end Keeps

end Sys2Proof.Machine
end

section
/-! SUPPORT. The frame of the fuses: what each operation leaves as it is. -/

set_option Elab.async false

namespace Sys2Proof.Machine
open Sys2Proof.Safety

namespace Keeps
variable {s₀ s : State}

theorem raiseUntrusted {was : BitVec 4} (h : Keeps s₀ s) : Keeps s₀ (s.raiseUntrusted was) :=
  .foldl (fun _ _ h => .ite h.raise h) h

theorem loadSub {i b row spare : Nat} (h : Keeps s₀ s) : Keeps s₀ (s.loadSub i b row spare) := by
  unfold State.loadSub
  extract_lets
  split
  · exact h.tch
  · exact h

theorem dropCandidates {i b row : Nat} (h : Keeps s₀ s) : Keeps s₀ (s.dropCandidates i b row) :=
  h.scb

theorem appendEnd {c : OtpCmd} {ok : Bool} (h : Keeps s₀ s) : Keeps s₀ (s.appendEnd c ok) := by
  unfold State.appendEnd
  split
  · split
    · exact h
    · exact .ite h.dropCandidates.loadSub.endBlock h.endBlock
  · exact .ite h.raise h

theorem vqpsNext (h : Keeps s₀ s) : Keeps s₀ s.vqpsNext := by
  unfold State.vqpsNext
  extract_lets
  split
  · exact h
  · exact .ite h h.setCfg.setCfg.tw.emit

theorem vqpsAsk {on : Bool} (h : Keeps s₀ s) : Keeps s₀ (s.vqpsAsk on) :=
  h.same.vqpsNext

theorem otpGo {c : OtpCmd} (h : Keeps s₀ s) : Keeps s₀ (s.otpGo c) :=
  .ite h.otp.vqpsAsk h.otp

theorem otpBegin {c : OtpCmd} (h : Keeps s₀ s) : Keeps s₀ (s.otpBegin c) := by
  unfold State.otpBegin
  split
  · split
    · exact h.appendEnd
    · exact h.otpGo
  · split
    · split
      · exact h.otp
      · exact h.otpGo
    · exact .ite (h.sec (x := { s.sec with busy := 0, err := 2 })).same h.otpGo

theorem otpPump {fuel : Nat} (h : Keeps s₀ s) : Keeps s₀ (State.otpPump fuel s) := by
  induction fuel generalizing s with
  | zero => exact h
  | succ fuel ih =>
    unfold State.otpPump
    split
    · exact .ite h (ih h.otp.otpBegin)
    · exact h

theorem otpAsk {c : OtpCmd} (h : Keeps s₀ s) : Keeps s₀ (s.otpAsk c) :=
  .otpPump h.otp

theorem otpInterrupt (h : Keeps s₀ s) : Keeps s₀ s.otpInterrupt := by
  unfold State.otpInterrupt
  extract_lets
  split
  · exact h.otp
  · exact .ite h.otp h.same.raiseUntrusted

end Keeps

end Sys2Proof.Machine
end

section
/-! SUPPORT. The frame of channels and tiers: what each operation leaves as it is. -/

set_option Elab.async false

namespace Sys2Proof.Machine
open Sys2Proof.Safety

namespace Keeps
variable {s₀ s : State}

theorem word {i op bank operand : Nat} (h : Keeps s₀ s) : Keeps s₀ (s.word i op bank operand) := by
  unfold State.word
  exact h.emit.updChan

theorem issueRef {i : Nat} (h : Keeps s₀ s) : Keeps s₀ (s.issueRef i) := by
  unfold State.issueRef
  exact h.takePlace.charge.word.updTier.updChan

theorem issueRefs {n i : Nat} (h : Keeps s₀ s) : Keeps s₀ (State.issueRefs n s i) := by
  induction n generalizing s with
  | zero => exact h
  | succ n ih => exact ih h.issueRef

theorem issueOwed {i : Nat} (h : Keeps s₀ s) : Keeps s₀ (s.issueOwed i) :=
  .ite h.updChan (.issueRefs h.updChan)

theorem issueNrefs {i : Nat} (h : Keeps s₀ s) : Keeps s₀ (s.issueNrefs i) :=
  .ite h (.updChan (.foldl (fun _ _ h => h.takePlace.charge.word.tch.updTier) h))

theorem maintFirst {i : Nat} (h : Keeps s₀ s) : Keeps s₀ (s.maintFirst i) :=
  .ite h.issueOwed.issueNrefs h

theorem trainMrw {i ma data : Nat} (h : Keeps s₀ s) : Keeps s₀ (s.trainMrw i ma data) :=
  .ite h.takePlace.charge.word.updChan h.takePlace.charge.word

theorem trainWrite {i : Nat} (h : Keeps s₀ s) : Keeps s₀ (s.trainWrite i) := by
  unfold State.trainWrite
  extract_lets
  split
  · exact h
  · split
    · exact h
    · exact .ite h.maintFirst.trainMrw.updChan h.maintFirst

theorem trainWrites {i : Nat} (h : Keeps s₀ s) : Keeps s₀ (s.trainWrites i) :=
  h.trainWrite.trainWrite.trainWrite

theorem startTraining {i : Nat} {st : ChanSt} (h : Keeps s₀ s) : Keeps s₀ (s.startTraining i st) :=
  h.updChan.trainWrites

theorem judgeRetrain {i : Nat} (h : Keeps s₀ s) : Keeps s₀ (s.judgeRetrain i) :=
  .ite h.startTraining h

theorem probeWords {i : Nat} {which : BitVec 2} {res : ProbeEnd} (h : Keeps s₀ s) : Keeps s₀ (s.probeWords i which res) := by
  unfold State.probeWords
  extract_lets
  split
  · exact .ite (.word (.word (.foldl (fun _ _ h => h.emit) h))) (.word (.foldl (fun _ _ h => h.emit) h))
  · exact h.word
  · exact h.word.word

theorem inputChange {cause : Nat} (h : Keeps s₀ s) : Keeps s₀ (s.inputChange cause) :=
  h.qos.retarget

theorem failAll {rs : List Req} {st sd : Nat} (h : Keeps s₀ s) : Keeps s₀ (s.failAll rs st sd) :=
  .foldl (fun _ _ h => h.failReq) h

theorem freeze {i cause bank row : Nat} {word : BitVec 24} (h : Keeps s₀ s) : Keeps s₀ (s.freeze i cause bank row word) :=
  .ite h h.setChan.raise.postEvent

theorem failLate {i age : Nat} (h : Keeps s₀ s) : Keeps s₀ (s.failLate i age) :=
  h.setChan.failAll

theorem freezeParity {i win : Nat} {idle : Bool} (h : Keeps s₀ s) : Keeps s₀ (s.freezeParity i win idle) := by
  unfold State.freezeParity
  extract_lets _ _ _ _ _ s₁
  have h₁ : Keeps s₀ s₁ := .foldl (fun _ _ h => h.unissue.updChan) h.failLate.setChan
  exact h₁.freeze.word.word.releasePlace.issueOwed

theorem reopen {i : Nat} (h : Keeps s₀ s) : Keeps s₀ (s.reopen i) :=
  .ite h.startTraining h.updChan.letIn.judgeRetrain

theorem judgeFreeze {i : Nat} (h : Keeps s₀ s) : Keeps s₀ (s.judgeFreeze i) :=
  .ite h (.ite h.setChan.failAll.reopen h.reopen)

theorem judgePair {r t : Nat} (h : Keeps s₀ s) : Keeps s₀ (s.judgePair r t) :=
  .ite h.setReady.updChans h

theorem judgePairs {t : Nat} (h : Keeps s₀ s) : Keeps s₀ (s.judgePairs t) :=
  .foldl (fun _ _ h => h.judgePair) h

theorem retire {i : Nat} (h : Keeps s₀ s) : Keeps s₀ (s.retire i) := by
  unfold State.retire
  extract_lets _ _ _ s₁
  have h₁ : Keeps s₀ s₁ := .releasePlace (.ite h.setChan.word h.setChan)
  exact .ite h h₁.failAll.raise.postEvent.otpAsk.inputChange.noteLevel.judgePairs

theorem endTraining {i : Nat} {w : Sweep} (h : Keeps s₀ s) : Keeps s₀ (s.endTraining i w) := by
  unfold State.endTraining
  extract_lets
  split
  · exact h.noteEye.setChan.releasePlace.letIn.retarget.noteLevel
  · exact .ite h.noteEye.setChan.releasePlace.retire h.noteEye.setChan.releasePlace.startTraining

theorem trainProbe {i : Nat} {res : ProbeEnd} (h : Keeps s₀ s) : Keeps s₀ (s.trainProbe i res) := by
  unfold State.trainProbe
  extract_lets
  split
  · exact h.trainWrites.maintFirst
  · extract_lets
    split
    · exact h.trainWrites.maintFirst
    · split
      · exact h.trainWrites.maintFirst.takePlace.charge.probeWords.updChan
      · split
        · exact h.trainWrites.maintFirst.takePlace.charge.probeWords.updChan.trainWrites
        · exact h.trainWrites.maintFirst.takePlace.charge.probeWords.updChan
        · exact h.trainWrites.maintFirst.takePlace.charge.probeWords.endTraining

theorem settleTier {t : Nat} (h : Keeps s₀ s) : Keeps s₀ (s.settleTier t) :=
  .foldl (fun _ _ h => .updChan (.ite h.word.issueRefs h.word)) h

theorem sreTier {t mult : Nat} (h : Keeps s₀ s) : Keeps s₀ (s.sreTier t mult) := by
  unfold State.sreTier
  exact .updTier (.foldl (fun _ _ h => h.word.word) h)

theorem selfRefresh {t mult : Nat} (h : Keeps s₀ s) : Keeps s₀ (s.selfRefresh t mult) :=
  h.settleTier.sreTier

theorem judgeTierReset {t : Nat} (h : Keeps s₀ s) : Keeps s₀ (s.judgeTierReset t) :=
  .ite (.sreTier (.foldl (fun _ _ h => h.word) h)) h

theorem judgeFreq {t : Nat} (h : Keeps s₀ s) : Keeps s₀ (s.judgeFreq t) :=
  .ite h.selfRefresh.clk h

theorem startFreq {t : Nat} {f : BitVec 2} (h : Keeps s₀ s) : Keeps s₀ (s.startFreq t f) :=
  .ite h.updTier (.ite h.updTier h.updTier.judgeFreq)

theorem retrainFirst {i : Nat} (h : Keeps s₀ s) : Keeps s₀ (s.retrainFirst i) :=
  .ite h.startTraining h

theorem clockTier {t : Nat} (h : Keeps s₀ s) : Keeps s₀ (s.clockTier t) := by
  unfold State.clockTier
  extract_lets _ s₁
  have h₁ : Keeps s₀ s₁ := .updTier (.ite (.foldl (fun _ _ h => h.word) h) h)
  exact .foldl (fun _ _ h => h.judgeFreeze.retrainFirst.letIn) h₁.updChans.grant.pwr

theorem heldFreq {t : Nat} (h : Keeps s₀ s) : Keeps s₀ (s.heldFreq t) := by
  unfold State.heldFreq
  split
  · exact .ite h h.startFreq
  · exact h

theorem retrainTier {t : Nat} (h : Keeps s₀ s) : Keeps s₀ (s.retrainTier t) := by
  unfold State.retrainTier
  refine .foldl (fun _ _ h => ?_) h
  split
  · exact h.updChan
  · exact h.startTraining
  · exact h.startTraining
  · exact h.startTraining
  · exact h

theorem endFreq {t : Nat} (h : Keeps s₀ s) : Keeps s₀ (s.endFreq t) :=
  .heldFreq (.inputChange (.retrainTier (.clockTier (.foldl (fun _ _ h => h.word) h.updTier))))

theorem judgeLocked {t : Nat} (h : Keeps s₀ s) : Keeps s₀ (s.judgeLocked t) :=
  .ite h.endFreq h

theorem resetTier {t : Nat} (h : Keeps s₀ s) : Keeps s₀ (s.resetTier t) := by
  unfold State.resetTier
  exact h.loseTier.unready.updChans.updTier

end Keeps

end Sys2Proof.Machine
end

section
/-! SUPPORT. The frame of receiving packets: what each operation leaves as it is. -/

set_option Elab.async false

namespace Sys2Proof.Machine
open Sys2Proof.Safety

namespace Keeps
variable {s₀ s : State}

theorem countUnroutable (h : Keeps s₀ s) : Keeps s₀ s.countUnroutable :=
  h.lnk

theorem countBadMsg (h : Keeps s₀ s) : Keeps s₀ s.countBadMsg :=
  h.lnk

theorem countMalformed {n : Nat} (h : Keeps s₀ s) : Keeps s₀ (s.countMalformed n) :=
  h.updPort

theorem dropDoorbell (h : Keeps s₀ s) : Keeps s₀ s.dropDoorbell :=
  h.rng

theorem judgeAck {n : Nat} (h : Keeps s₀ s) : Keeps s₀ (s.judgeAck n) :=
  .ite h.sendAck h

theorem acceptSeq {n : Nat} {p : Packet} (h : Keeps s₀ s) : Keeps s₀ (s.acceptSeq n p).1 := by
  unfold State.acceptSeq
  extract_lets
  split
  · exact h.updPort.judgeAck
  · split
    · exact h.sendAck
    · exact h.sendNak

theorem answer {p : Packet} {status : Nat} {ws : List Word} (h : Keeps s₀ s) : Keeps s₀ (s.answer p status ws) :=
  h.toHost

theorem dropPacket {p : Packet} (h : Keeps s₀ s) : Keeps s₀ (s.dropPacket p) :=
  .ite h.countUnroutable.answer h.countUnroutable

theorem route {n : Nat} {p : Packet} (h : Keeps s₀ s) : Keeps s₀ (s.route n p).1 := by
  unfold State.route
  extract_lets _ s₁
  have h₁ : Keeps s₀ s₁ := h.lnk
  split_ifs
  · exact h
  · exact h₁
  · exact h₁.countUnroutable.answer
  · exact h.countUnroutable
  · exact h
  · split
    · split
      · exact h.enqueue
      · exact h.dropPacket
    · exact h.dropPacket
  · exact h
  · exact h.enqueue
  · exact h.answer
  · exact h.dropPacket
  · exact h.enqueue
  · exact h.dropPacket
  · exact h.dropPacket

theorem discardMalformed {n : Nat} {p : Packet} (h : Keeps s₀ s) : Keeps s₀ (s.discardMalformed n p) :=
  .ite (.answer (.ite h.countMalformed h.countMalformed.lnk)) h.countMalformed

theorem crossingLoses {n : Nat} (h : Keeps s₀ s) : Keeps s₀ (s.crossingLoses n).1 := by
  unfold State.crossingLoses
  extract_lets
  split
  · exact h.free
  · exact h

theorem arrive {n : Nat} {p : Packet} (h : Keeps s₀ s) : Keeps s₀ (s.arrive n p).1 := by
  unfold State.arrive
  extract_lets a k s₁ r
  have ha : Keeps s₀ a.1 := h.acceptSeq
  have h₁ : Keeps s₀ s₁ := ha.crossingLoses
  have hr : Keeps s₀ r.1 := h₁.route
  split_ifs
  · exact h
  · exact ha
  · exact h₁
  · exact h₁.discardMalformed
  · exact hr.countBadMsg
  · exact hr

end Keeps

end Sys2Proof.Machine
end

section
/-! SUPPORT. The frame of rings: what each operation leaves as it is. -/

set_option Elab.async false

namespace Sys2Proof.Machine
open Sys2Proof.Safety

namespace Keeps
variable {s₀ s : State}

theorem sqError {q err : Nat} (h : Keeps s₀ s) : Keeps s₀ (s.sqError q err) :=
  h.updCq.updSq.postEvent

theorem cqError {q value : Nat} (h : Keeps s₀ s) : Keeps s₀ (s.cqError q value) :=
  h.updCq.postEvent

theorem sqBell {q value : Nat} (h : Keeps s₀ s) : Keeps s₀ (s.sqBell q value) :=
  .ite h.dropDoorbell (.ite h.sqError (.ite h.sqError h.updSq))

theorem cqBell {q value : Nat} (h : Keeps s₀ s) : Keeps s₀ (s.cqBell q value) :=
  .ite h.dropDoorbell (.ite h.cqError (.ite h.updCq.reportLost h.updCq))

theorem bell {w : Word} (h : Keeps s₀ s) : Keeps s₀ (s.bell w) :=
  .ite h.dropDoorbell (.ite h.cqBell h.sqBell)

theorem ringBell {n : Nat} {p : Packet} (h : Keeps s₀ s) : Keeps s₀ (s.ringBell n p) :=
  .ite h.park h.bell

theorem enableSq {q : Nat} {t : State} (h : Keeps s₀ s) (ht : s.enableSq q = some t) : Keeps s₀ t := by
  obtain ⟨-, ⟨⟩⟩ := Option.ite_none_right_eq_some.mp ht
  exact h.updSq

theorem disableSq {q : Nat} {t : State} (h : Keeps s₀ s) (ht : s.disableSq q = some t) : Keeps s₀ t := by
  obtain ⟨-, ⟨⟩⟩ := Option.ite_none_right_eq_some.mp ht
  exact h.updCq.updSq

theorem enableCq {q : Nat} {t : State} (h : Keeps s₀ s) (ht : s.enableCq q = some t) : Keeps s₀ t := by
  obtain ⟨-, ⟨⟩⟩ := Option.ite_none_right_eq_some.mp ht
  exact h.updCq.flushHeld

theorem disableCq {q : Nat} {t : State} (h : Keeps s₀ s) (ht : s.disableCq q = some t) : Keeps s₀ t := by
  obtain ⟨-, ⟨⟩⟩ := Option.ite_none_right_eq_some.mp ht
  exact h.updCq

theorem resumeCq {q : Nat} {t : State} (h : Keeps s₀ s) (ht : s.resumeCq q = some t) : Keeps s₀ t := by
  obtain ⟨-, ⟨⟩⟩ := Option.ite_none_right_eq_some.mp ht
  exact .flushHeld (.settle (.foldl (fun _ _ h => h.releaseEntry) h.updCq))

theorem askDescs {q i n : Nat} (h : Keeps s₀ s) : Keeps s₀ (s.askDescs q i n) :=
  .ite (.ite h h.rng.updSq.mrd) (.mrd (.updSq (.rng (.ite h h.rng.updSq.mrd))))

theorem turnOf {q : Nat} (h : Keeps s₀ s) : Keeps s₀ (s.turnOf q) :=
  .ite h h.updCq.updSq.rng.askDescs

theorem advanceHead {q : Nat} (h : Keeps s₀ s) : Keeps s₀ (s.advanceHead q) := by
  unfold State.advanceHead
  exact h.updSq

theorem judgeAtFetch {c : Cmd} (h : Keeps s₀ s) : Keeps s₀ (s.judgeAtFetch c) := by
  unfold State.judgeAtFetch
  extract_lets
  split
  · exact h.updCmd
  · exact .ite h h.sec.updCmd
  · exact .ite h h.sec.updCmd
  · exact h.updCmd
  · exact h

theorem takeDesc {q : Nat} {d : Desc} (h : Keeps s₀ s) : Keeps s₀ (s.takeDesc q d).1 := by
  unfold State.takeDesc
  extract_lets _ _ _ _ _ s₁ s₂ _ _ _ _ _ s₃
  have h₁ : Keeps s₀ s₁ := h.writeEntry.updCq.updSq
  have h₂ : Keeps s₀ s₂ := h.advanceHead
  have h₃ : Keeps s₀ s₃ := h₂.rng.updSq.updCq
  split
  · exact h₁.sqError
  · split
    · exact h₃.finish
    · extract_lets _ _ _ _ t₁ t₂ t₃
      have ht₁ : Keeps s₀ t₁ := h₂.rng.updSq
      have ht₂ : Keeps s₀ t₂ := .ite ht₁ ht₁.updCq
      have ht₃ : Keeps s₀ t₃ := .ite ht₂.updCmd.streamTake.letInAll ht₂
      split
      · exact h
      · exact ht₃.judgeAtFetch

theorem takeDescs {fuel q : Nat} (h : Keeps s₀ s) : Keeps s₀ (State.takeDescs fuel s q) := by
  induction fuel generalizing s with
  | zero => exact h
  | succ fuel ih =>
    unfold State.takeDescs
    split
    · exact .ite (ih h.updSq) (.ite h (ih h.takeDesc.updSq))
    · exact h

theorem descsArrived {q id : Nat} {ws : List Word} (h : Keeps s₀ s) : Keeps s₀ (s.descsArrived q id ws) :=
  h.updSq.takeDescs.reportLost

end Keeps

end Sys2Proof.Machine
end

section
/-! SUPPORT. The frame of Scarab: what each operation leaves as it is. -/

set_option Elab.async false

namespace Sys2Proof.Machine
open Sys2Proof.Safety

namespace Keeps
variable {s₀ s : State}

theorem setLog {k : Nat} {x : Option ScbEntry} (h : Keeps s₀ s) : Keeps s₀ (s.setLog k x) :=
  h.scb

theorem finding {i b row kind l : Nat} {code : BitVec 3} {other : Bool} {k : Nat} {hiRw second : Bool} (h : Keeps s₀ s) :
    Keeps s₀ (s.finding i b row kind l code other k hiRw second) := by
  unfold State.finding
  extract_lets
  split
  · exact .ite h.setLog.postEvent h.setLog
  · split
    · exact h.scb
    · exact .ite h.setLog.postEvent h.setLog

theorem logOther {r : Req} {d : Decode} (h : Keeps s₀ s) : Keeps s₀ (s.logOther r d) := by
  unfold State.logOther
  split
  · exact h
  · exact .ite h.finding h
  · exact h.finding

theorem takeOrd (h : Keeps s₀ s) : Keeps s₀ s.takeOrd.2 :=
  h.rng

theorem scarabGoes {r : Req} (h : Keeps s₀ s) : Keeps s₀ (s.scarabGoes r) :=
  .ite h.mergeRelease h.submit

theorem scarabRead {r : Req} {d : Decode} {x : Option Slot} (h : Keeps s₀ s) : Keeps s₀ (s.scarabRead r d x) := by
  unfold State.scarabRead
  extract_lets
  split
  · exact h.finding
  · exact h.finding
  · extract_lets
    split
    · exact h.updTier.finding.logIntegrity.postEvent
    · exact .ite (.ite h.updTier.finding h.updTier.finding.scarabGoes) (.ite h.updTier h.updTier.finding)

theorem scarabMerge {r : Req} {d : Decode} {x : Option Slot} (h : Keeps s₀ s) : Keeps s₀ (s.scarabMerge r d x) := by
  unfold State.scarabMerge
  extract_lets
  split
  · exact h.finding.mergeRelease
  · exact h.finding.mergeRelease
  · exact h.mergeTo.mergeTo.scarabGoes

theorem scarabDecoded {r : Req} {d : Decode} {x : Option Slot} (h : Keeps s₀ s) : Keeps s₀ (s.scarabDecoded r d x) :=
  .ite (.scarabMerge (.ite h.updChan h)) (.scarabRead (.ite h.updChan h))

theorem fmtFinish {i r : Nat} (h : Keeps s₀ s) : Keeps s₀ (s.fmtFinish i r) :=
  h.updChan.judgePair

theorem fmtWritten {r : Req} (h : Keeps s₀ s) : Keeps s₀ (s.fmtWritten r) :=
  .ite (.ite h.fmtFinish h.updChan) h

theorem fmtNext {fuel i : Nat} (h : Keeps s₀ s) : Keeps s₀ (State.fmtNext fuel s i) := by
  induction fuel generalizing s with
  | zero => exact h
  | succ fuel ih =>
    unfold State.fmtNext
    split
    · exact h
    · exact .ite (ih h.fmtFinish) h.updChan.takeOrd.submit

theorem fmtRestart {r : Nat} (h : Keeps s₀ s) : Keeps s₀ (s.fmtRestart r) :=
  h.updChans

theorem wakeHalt (h : Keeps s₀ s) : Keeps s₀ s.wakeHalt :=
  .updChans (.foldl (fun _ _ h => h.updTier) h)

theorem fmtHalt (h : Keeps s₀ s) : Keeps s₀ s.fmtHalt :=
  h.updChans

theorem fmtStop {r t : Nat} (h : Keeps s₀ s) : Keeps s₀ (s.fmtStop r t) :=
  h.setReady.updChans

theorem queueScarab {i k off : Nat} (h : Keeps s₀ s) : Keeps s₀ (s.queueScarab i k off) :=
  h.takeOrd.submit

theorem scarabBoundary (h : Keeps s₀ s) : Keeps s₀ s.scarabBoundary :=
  h.scb

theorem scarabNext {i : Nat} (h : Keeps s₀ s) : Keeps s₀ (s.scarabNext i) := by
  unfold State.scarabNext
  extract_lets
  split
  · exact h
  · split
    · exact .ite h.updChan h.updChan.queueScarab
    · exact .ite h (.ite h.updChan h.updChan.queueScarab)

theorem judgeWake {t : Nat} (h : Keeps s₀ s) : Keeps s₀ (s.judgeWake t) := by
  unfold State.judgeWake
  exact h.updTier

theorem judgeSeasons (h : Keeps s₀ s) : Keeps s₀ s.judgeSeasons := by
  unfold State.judgeSeasons
  split
  · exact h
  · exact .foldl (fun _ _ h => .ite (.postEvent (.updTier (.judgeWake (.ite h h.updTier)))) (.ite h h.updTier)) h

end Keeps

end Sys2Proof.Machine
end

section
/-! SUPPORT. The frame of slot transfers: what each operation leaves as it is. -/

set_option Elab.async false

namespace Sys2Proof.Machine
open Sys2Proof.Safety

namespace Keeps
variable {s₀ s : State}

theorem issue {i : Nat} {r : Req} (h : Keeps s₀ s) : Keeps s₀ (s.issue i r) := by
  unfold State.issue
  extract_lets _ _ s₁ _ _ _ _ _ s₂
  have h₁ : Keeps s₀ s₁ := by
    unfold s₁
    split
    · exact h.setMerge
    · exact h
  have h₂ : Keeps s₀ s₂ := by
    unfold s₂
    split
    · exact h₁.takePlace.charge.word.word.updTier.qos
    · exact h₁.takePlace.charge.word.word.updTier
  exact .letIn (.issueNrefs (.ite h₂.updChan.doneIssued h₂.updChan))

theorem submitWrite {c : Cmd} {r : Req} (h : Keeps s₀ s) : Keeps s₀ (s.submitWrite c r) :=
  h.mergeTo.trySubmit

theorem sendLate {id addr : Nat} {bytes : List Byte} (h : Keeps s₀ s) : Keeps s₀ (s.sendLate id addr bytes) := by
  unfold State.sendLate
  split
  · exact h
  · exact .ite h.mwrAll h.updCmd

theorem sendEarly {c : Cmd} {r : Req} (h : Keeps s₀ s) : Keeps s₀ (s.sendEarly c r) := by
  unfold State.sendEarly
  extract_lets _ _ s₁ plain
  have h₁ : Keeps s₀ s₁ := .ite h.free h
  clear_value plain
  cases plain with
  | none => exact h₁
  | some p => exact h₁.mwrAll.updBuf.updCmd.judgeProvisional

theorem amend {c : Cmd} {o : Nat} {x : Slot} {p : List Byte} (h : Keeps s₀ s) : Keeps s₀ (s.amend c o x p) :=
  .ite (.foldl (fun _ _ h => h.sendLate) h) (.updCmd (.foldl (fun _ _ h => h.sendLate) h))

theorem readDone {c : Cmd} {r : Req} {d : Decode} {x : Slot} (h : Keeps s₀ s) : Keeps s₀ (s.readDone c r d x) := by
  unfold State.readDone
  extract_lets
  split
  · exact h.updCmd.endBlock
  · split
    · exact h.updCmd.rng.endBlock
    · split
      · exact h.updCmd.endBlock
      · extract_lets _ _ _ s₁
        have h₁ : Keeps s₀ s₁ := .ite h.updCmd.checkPlain.amend h.updCmd.checkPlain.mwrAll
        exact .endBlock (.ite h₁ (.ite h₁.sendLate h₁.mwrAll))

theorem writeSlot {c : Cmd} {r : Req} {p : List Byte} (h : Keeps s₀ s) : Keeps s₀ (s.writeSlot c r p) := by
  unfold State.writeSlot
  extract_lets
  split
  · exact h.failReq
  · exact h.submitWrite

theorem mergeDone {c : Cmd} {r : Req} {d : Decode} {x : Slot} (h : Keeps s₀ s) : Keeps s₀ (s.mergeDone c r d x) := by
  unfold State.mergeDone
  extract_lets
  split
  · exact h.failReq
  · exact .ite h.checkPlain.failReq h.checkPlain.mergeTo.writeSlot

theorem copyDone {c : Cmd} {r : Req} {d : Decode} {x : Slot} (h : Keeps s₀ s) : Keeps s₀ (s.copyDone c r d x) := by
  unfold State.copyDone
  extract_lets
  split
  · exact h.failReq
  · extract_lets
    split
    · exact h.checkPlain.failReq
    · split
      · exact h.checkPlain.trySubmit
      · split
        · exact h.checkPlain.failReq
        · exact h.checkPlain.trySubmit

theorem checkDone {c : Cmd} {r : Req} {d : Decode} {x : Slot} (h : Keeps s₀ s) : Keeps s₀ (s.checkDone c r d x) := by
  unfold State.checkDone
  extract_lets
  split
  · exact h.updCmd.endBlock
  · split
    · exact h.failReq
    · exact .ite h.checkPlain.updCmd.endBlock h.checkPlain.failReq

theorem recodeDone {c : Cmd} {r : Req} {x : Slot} (h : Keeps s₀ s) : Keeps s₀ (s.recodeDone c r x) :=
  h.mergeTo.submitWrite

theorem sanitizeWrite {c : Cmd} {o l : Nat} (h : Keeps s₀ s) : Keeps s₀ (s.sanitizeWrite c o l) :=
  h.trySubmit

theorem sanitizeDone {c : Cmd} {r : Req} {x : Slot} (h : Keeps s₀ s) : Keeps s₀ (s.sanitizeDone c r x) :=
  .ite h.submitHeld h.endBlock

theorem repairDone {c : Cmd} {r : Req} {x : Slot} (h : Keeps s₀ s) : Keeps s₀ (s.repairDone c r x) := by
  unfold State.repairDone
  extract_lets
  split
  · exact h.failReq
  · exact h.updCmd.mergeTo.submitWrite

theorem contentsRead {c : Cmd} {r : Req} {d : Decode} {x : Option Slot} (h : Keeps s₀ s) :
    Keeps s₀ (s.contentsRead c r d x) := by
  unfold State.contentsRead
  extract_lets
  split
  · exact .ite h.sideDone h.failReq
  · exact .ite h.sideDone h.failReq
  · split
    · exact h.readDone
    · exact h.mergeDone
    · exact h.copyDone
    · exact h.checkDone
    · exact h.sideDone
    · exact h.sideDone
    · exact h.recodeDone
    · exact h.sanitizeDone
    · exact h.repairDone
    · exact h
    · exact h
    · exact h
    · exact h
    · exact h
    · exact h
    · exact h
    · exact h
    · exact h

theorem examine {r : Req} (h : Keeps s₀ s) : Keeps s₀ (s.examine r) := by
  unfold State.examine
  split
  · exact .ite h.tally h
  · exact h

theorem cmdWritten {r : Req} (h : Keeps s₀ s) : Keeps s₀ (s.cmdWritten r) := by
  unfold State.cmdWritten
  split
  · exact h
  · extract_lets
    split
    · exact h
    · split
      · exact h.recodeMark.updCmd.endBlock
      · exact h.updCmd.otpAsk
      · exact h.endBlock

theorem written {r : Req} (h : Keeps s₀ s) : Keeps s₀ (s.written r) := by
  unfold State.written
  extract_lets
  split
  · exact h.putSlot.mergeRelease.cmdWritten
  · exact h.putSlot.mergeRelease.scarabGoes
  · exact h.putSlot.mergeRelease.fmtWritten
  · exact h.putSlot.mergeRelease
  · exact h.putSlot.mergeRelease
  · exact h.putSlot.mergeRelease
  · exact h.putSlot.mergeRelease
  · exact h.putSlot.mergeRelease

theorem streamed {r : Req} {errs : List Nat} (h : Keeps s₀ s) : Keeps s₀ (s.streamed r errs) := by
  unfold State.streamed
  extract_lets
  split
  · exact .ite h.updChan.sendEarly h.updChan
  · exact h.updChan

theorem afterTransfer {i : Nat} (h : Keeps s₀ s) : Keeps s₀ (s.afterTransfer i) :=
  h.releasePlace.judgeTierReset.judgeFreq.judgeRetrain.letIn.settle

theorem countDecode {t : Nat} {d : Decode} (h : Keeps s₀ s) : Keeps s₀ (s.countDecode t d) := by
  unfold State.countDecode
  extract_lets
  split
  · exact h
  · exact h.pcd
  · exact h.pcd.updTier

theorem freezeRead {i bank row : Nat} (h : Keeps s₀ s) : Keeps s₀ (s.freezeRead i bank row) :=
  .ite h.freeze (.ite h h.updChan)

theorem calProbe {i : Nat} {t : State} (h : Keeps s₀ s) (ht : s.calProbe i = some t) : Keeps s₀ t := by
  obtain ⟨-, ⟨⟩⟩ := Option.ite_none_left_eq_some.mp ht
  exact .cal (.word (.ite h.takePlace.charge h.takePlace.charge.word))

theorem resumeChan {i : Nat} {t : State} (h : Keeps s₀ s) (ht : s.resumeChan i = some t) : Keeps s₀ t := by
  obtain ⟨-, ⟨⟩⟩ := Option.ite_none_left_eq_some.mp ht
  exact h.updChan.judgeFreeze

theorem discardChan {i : Nat} {t : State} (h : Keeps s₀ s) (ht : s.discardChan i = some t) : Keeps s₀ t := by
  obtain ⟨-, ⟨⟩⟩ := Option.ite_none_left_eq_some.mp ht
  exact h.updChan.judgeFreeze

theorem retrainChan {i : Nat} {t : State} (h : Keeps s₀ s) (ht : s.retrainChan i = some t) : Keeps s₀ t := by
  obtain ⟨-, ⟨⟩⟩ := Option.ite_none_left_eq_some.mp ht
  exact h.updChan.judgeRetrain

end Keeps

end Sys2Proof.Machine
end

section
/-! SUPPORT. The frame of identity and keys: what each operation leaves as it is. -/

set_option Elab.async false

namespace Sys2Proof.Machine
open Sys2Proof.Safety

namespace Keeps
variable {s₀ s : State}

theorem eraseAs {id : Nat} (h : Keeps s₀ s) : Keeps s₀ (s.eraseAs id) :=
  h.sec

theorem takeId (h : Keeps s₀ s) : Keeps s₀ s.takeId :=
  h.rng

theorem eraseAll (h : Keeps s₀ s) : Keeps s₀ s.eraseAll :=
  h.takeId.eraseAs

/-- A session opens at LIMITED or FULL, and the highest level reached follows (R488). -/
theorem openSession {level : BitVec 2} {left : Option Nat} (h : Keeps s₀ s) (hl : Formed s → level.toNat ≤ 2) :
    Keeps s₀ (s.openSession level left) := by
  refine ⟨h.pending, fun g => ?_⟩
  have hle := hl (h.formed g)
  obtain ⟨-, hm, hc, ht, hch, hr, hs, hk, hg⟩ := h.formed g
  refine ⟨?_, ?_, fun _ => nofun, ht, hch, hr, hs, hk, hg⟩
  · simp only [State.openSession]
    split <;> omega
  · simp only [State.openSession]
    split <;> omega

theorem fullWhenErased (h : Keeps s₀ s) : Keeps s₀ s.fullWhenErased :=
  .ite (.openSession h.sec fun _ => by decide) h

theorem randomScalar (h : Keeps s₀ s) : Keeps s₀ s.randomScalar.2 :=
  h.randoms

theorem report {nonce : List Byte} (h : Keeps s₀ s) : Keeps s₀ (s.report nonce).2 :=
  h.randomScalar

theorem gather {c : Cmd} {addr bytes : Nat} (h : Keeps s₀ s) : Keeps s₀ (s.gather c addr bytes) :=
  h.updCmd.askParts

theorem startLoad {c : Cmd} (h : Keeps s₀ s) : Keeps s₀ (s.startLoad c) := by
  unfold State.startLoad
  extract_lets
  split
  · exact h
  · split
    · exact h.updCmd.finish
    · exact h.updCmd.gather

theorem loadArrived {c : Cmd} (h : Keeps s₀ s) : Keeps s₀ (s.loadArrived c) := by
  unfold State.loadArrived
  split
  · exact h.finish
  · split
    · exact h.finish
    · split
      · exact h.finish
      · exact h.updBuf.finish

theorem startAttest {c : Cmd} (h : Keeps s₀ s) : Keeps s₀ (s.startAttest c) :=
  .ite h (.ite h.updCmd.finish (.ite h.updCmd.finish h.updCmd.gather))

theorem attestArrived {c : Cmd} (h : Keeps s₀ s) : Keeps s₀ (s.attestArrived c) :=
  .ite h (.ite h.finish (.ite h.finish h.report.mwrAll.finish))

end Keeps

end Sys2Proof.Machine
end

section
/-! SUPPORT. The frame of the commands of the rings: what each operation leaves as it is. -/

set_option Elab.async false

namespace Sys2Proof.Machine
open Sys2Proof.Safety

namespace Keeps
variable {s₀ s : State}

theorem turn {id : Nat} {op : Op} {start : Cmd → State → State} {block : Cmd → Nat → State → State} (h : Keeps s₀ s)
    (hs : ∀ c, Keeps s₀ (start c s)) (hb : ∀ c o, Keeps s₀ (block c o s)) : Keeps s₀ (s.turn id op start block) := by
  unfold State.turn
  split
  · exact h
  · exact .ite h (.ite (.ite (hs _) h) (.ite (hb _ _) h))

theorem begin_ {c : Cmd} (h : Keeps s₀ s) : Keeps s₀ (s.begin_ c) :=
  h.updCmd

theorem startBlock {c : Cmd} {o : Nat} (h : Keeps s₀ s) : Keeps s₀ (s.startBlock c o) :=
  h.openBlock

theorem refuseBlock {c : Cmd} {o : Nat} {f : Nat × Nat} (h : Keeps s₀ s) : Keeps s₀ (s.refuseBlock c o f) :=
  h.startBlock.failReq

theorem readBlock {c : Cmd} {o : Nat} (h : Keeps s₀ s) : Keeps s₀ (s.readBlock c o) :=
  h.startBlock.trySubmit

theorem startRead {c : Cmd} (h : Keeps s₀ s) : Keeps s₀ (s.startRead c) :=
  .begin_ (.ite h.updCmd.updCq h)

theorem startKeyed {needs : Cmd → Bool} {c : Cmd} (h : Keeps s₀ s) : Keeps s₀ (s.startKeyed needs c) :=
  .ite h.finish h.begin_

theorem writeBlock {c : Cmd} {o : Nat} (h : Keeps s₀ s) : Keeps s₀ (s.writeBlock c o) := by
  unfold State.writeBlock
  extract_lets
  split
  · exact h.refuseBlock
  · exact h.openBlock.askParts

theorem writeData {c : Cmd} {o : Nat} (h : Keeps s₀ s) : Keeps s₀ (s.writeData c o) :=
  .ite h.rng.endBlock (.ite h.writeSlot h.trySubmit)

theorem fillBlock {c : Cmd} {o : Nat} (h : Keeps s₀ s) : Keeps s₀ (s.fillBlock c o) := by
  unfold State.fillBlock
  extract_lets
  split
  · exact h.refuseBlock
  · exact .ite h.startBlock.trySubmit h.startBlock.writeSlot

theorem copyBlock {c : Cmd} {o : Nat} (h : Keeps s₀ s) : Keeps s₀ (s.copyBlock c o) := by
  unfold State.copyBlock
  split
  · exact h.refuseBlock
  · exact h.readBlock

theorem compareBlock {c : Cmd} {o : Nat} (h : Keeps s₀ s) : Keeps s₀ (s.compareBlock c o) := by
  unfold State.compareBlock
  extract_lets
  split
  · split
    · exact h.refuseBlock
    · exact h.openBlock.trySubmit.trySubmit
  · split
    · exact h.refuseBlock
    · exact h.openBlock.askParts.trySubmit

theorem verifyBlock {c : Cmd} {o : Nat} (h : Keeps s₀ s) : Keeps s₀ (s.verifyBlock c o) := by
  unfold State.verifyBlock
  extract_lets
  split
  · exact h.refuseBlock
  · exact h.openBlock.askParts.trySubmit

theorem startRecode {c : Cmd} (h : Keeps s₀ s) : Keeps s₀ (s.startRecode c) := by
  unfold State.startRecode
  extract_lets
  split
  · exact h
  · split
    · exact .ite h.updCmd h.finish
    · split
      · exact h.finish
      · split
        · exact h.finish
        · split
          · exact h.setWindow.begin_
          · exact .ite h.finish h

theorem recodeBlock {c : Cmd} {o : Nat} (h : Keeps s₀ s) : Keeps s₀ (s.recodeBlock c o) := by
  unfold State.recodeBlock
  split
  · exact h.updCmd.tryFinish
  · extract_lets
    split
    · exact h
    · split
      · exact h.updCmd.tryFinish
      · split
        · exact h.refuseBlock
        · exact h.readBlock

theorem startErasing {c : Cmd} {go : State} (h : Keeps s₀ s) (hgo : Keeps s₀ go) : Keeps s₀ (s.startErasing c go) :=
  .ite h.finish (.ite hgo h)

theorem startSanitize {c : Cmd} (h : Keeps s₀ s) : Keeps s₀ (s.startSanitize c) :=
  .ite h.begin_ (h.startErasing h.begin_)

theorem sanitizeBlock {c : Cmd} {o : Nat} (h : Keeps s₀ s) : Keeps s₀ (s.sanitizeBlock c o) := by
  unfold State.sanitizeBlock
  extract_lets
  split
  · exact h.refuseBlock
  · exact .ite h.startBlock.sanitizeWrite h.readBlock

theorem failErasure {e : Nat × Nat} (h : Keeps s₀ s) : Keeps s₀ (s.failErasure e) :=
  h.sec.finish

theorem eraseKey {k : Nat} (h : Keeps s₀ s) : Keeps s₀ (s.eraseKey k) := by
  unfold State.eraseKey
  split
  · exact h
  · exact .ite h.failErasure (h.sec_of (Tab.wf_set _ _ _ _)).updCmd

theorem startNop {c : Cmd} (h : Keeps s₀ s) : Keeps s₀ (s.startNop c) :=
  h.updCmd.finish

theorem startFlush {c : Cmd} (h : Keeps s₀ s) : Keeps s₀ (s.startFlush c) :=
  h.begin_.finish

theorem startLatency {c : Cmd} (h : Keeps s₀ s) : Keeps s₀ (s.startLatency c) :=
  h.updCmd.finish

theorem repairBlock {c : Cmd} {o : Nat} (h : Keeps s₀ s) : Keeps s₀ (s.repairBlock c o) := by
  unfold State.repairBlock
  split
  · exact h.refuseBlock
  · exact h.readBlock

theorem dropBlock {id o : Nat} (h : Keeps s₀ s) : Keeps s₀ (s.dropBlock id o) :=
  .letInAll (.updCmd (.updChans (.foldl (fun _ _ h => h.mergeRelease) h)))

theorem abortCmd {id : Nat} (h : Keeps s₀ s) : Keeps s₀ (s.abortCmd id) := by
  unfold State.abortCmd
  extract_lets
  split
  · exact h
  · extract_lets
    split
    · exact h
    · exact h
    · exact h
    · exact h
    · exact h.updCmd.tryFinish
    · split
      · exact h
      · split
        · exact .ite h (.ite h.updCmd.tryFinish h)
        · exact .ite h (.tryFinish (.updCmd (.foldl (fun _ _ h => h.dropBlock) h)))

theorem startAbort {c : Cmd} (h : Keeps s₀ s) : Keeps s₀ (s.startAbort c) :=
  .ite h.begin_.finish (.finish (.foldl (fun _ _ h => h.abortCmd) h.begin_))

theorem partArrived {id o part : Nat} {bytes : Option (List Byte)} (h : Keeps s₀ s) :
    Keeps s₀ (s.partArrived id o part bytes) := by
  unfold State.partArrived
  extract_lets
  split
  · exact h.updBuf
  · extract_lets
    split
    · exact .ite h.updBuf.loadArrived h.updBuf
    · split
      · exact .ite h.updBuf.attestArrived h.updBuf
      · split
        · exact h.updBuf
        · split
          · exact .ite h.updBuf.endBlock (.ite h.updBuf.writeData h.updBuf)
          · exact h.updBuf.judgeCompare
          · exact h.updBuf.judgeVerify
          · exact h.updBuf

theorem noBlock {c : Cmd} {o : Nat} (h : Keeps s₀ s) : Keeps s₀ (Machine.noBlock c o s) :=
  h

theorem startPlain {c : Cmd} (h : Keeps s₀ s) : Keeps s₀ (Machine.startPlain c s) :=
  h.begin_

theorem attestGo {id : Nat} (h : Keeps s₀ s) : Keeps s₀ (s.attestGo id) := by
  unfold State.attestGo
  split
  · exact h
  · split
    · exact .ite h.attestArrived h
    · exact h

end Keeps

end Sys2Proof.Machine
end

section
/-! SUPPORT. The frame of regulation and admission: what each operation leaves as it is. -/

set_option Elab.async false

namespace Sys2Proof.Machine
open Sys2Proof.Safety

namespace Keeps
variable {s₀ s : State}

theorem qosBoundary (h : Keeps s₀ s) : Keeps s₀ s.qosBoundary :=
  h.qos.judgeQuotas

theorem admitNow (h : Keeps s₀ s) : Keeps s₀ s.admitNow :=
  .ite h.qos.judgeQuotas.postEvent h.qos.judgeQuotas

theorem clampLimits {n : Nat} (h : Keeps s₀ s) : Keeps s₀ (s.clampLimits n) :=
  h.updChans.letInAll

end Keeps

end Sys2Proof.Machine
end

section
/-! SUPPORT. The frame of shelf time: what each operation leaves as it is. -/

set_option Elab.async false

namespace Sys2Proof.Machine
open Sys2Proof.Safety

namespace Keeps
variable {s₀ s : State}

theorem irregular (h : Keeps s₀ s) : Keeps s₀ s.irregular :=
  h.tim

theorem shiftTimers {d : Int} (h : Keeps s₀ s) : Keeps s₀ (s.shiftTimers d) := by
  refine (h.tch_of (x := (s.shiftTimers d).tch) (fun g => ?_) fun g => ?_).same
  · dsimp only [State.shiftTimers]
    exact Tab.wf_mapVals _ _ _ _ g
  · dsimp only [State.shiftTimers]
    exact Tab.wf_mapVals _ _ _ _ g

theorem stepCount {d : ℤ} (h : Keeps s₀ s) : Keeps s₀ (s.stepCount d) :=
  h.shiftTimers.tim.irregular

theorem goOrphan (h : Keeps s₀ s) : Keeps s₀ s.goOrphan :=
  .ite h.tim h.tim.tim.irregular.raise.postEvent

theorem takeTime {n : Nat} {ts : TimeSet} (h : Keeps s₀ s) : Keeps s₀ (s.takeTime n ts) :=
  .ite (.ite h.stepCount.tim.raise.postEvent h.stepCount.tim) (.ite h.tim h.tim.tim)

theorem forwardTime {n : Nat} {ts : TimeSet} {delay : Nat} (h : Keeps s₀ s) : Keeps s₀ (s.forwardTime n ts delay) :=
  .foldl (fun _ _ h => .ite h.emit.updPort h) h

end Keeps

end Sys2Proof.Machine
end

section
/-! SUPPORT. The frame of ports: what each operation leaves as it is. -/

set_option Elab.async false

namespace Sys2Proof.Machine
open Sys2Proof.Safety

namespace Keeps
variable {s₀ s : State}

theorem stopCmd {id : Nat} (h : Keeps s₀ s) : Keeps s₀ (s.stopCmd id) := by
  unfold State.stopCmd
  split
  · exact h
  · exact .tryFinish (.updCmd (.foldl (fun _ _ h => h.dropBlock) h))

theorem stopRings (h : Keeps s₀ s) : Keeps s₀ s.stopRings :=
  .same (.foldl (fun _ _ h => h.stopCmd) h.rng)

theorem portDown {n : Nat} (h : Keeps s₀ s) : Keeps s₀ (s.portDown n) := by
  unfold State.portDown
  extract_lets _ _ _ _ s₁ _ s₂
  have h₁ : Keeps s₀ s₁ := .ite h.setPort (.foldl (fun _ _ h => .ite h h.dropPacket) h.setPort)
  have h₂ : Keeps s₀ s₂ := .ite (.raise (.ite h₁.stopRings h₁)) (.ite h₁.stopRings h₁)
  exact .ite h (.noteLevel (.retarget (.ite h₂.postEvent.goOrphan h₂.postEvent)))

theorem sendTs1 {n : Nat} {lanes ctrl : Byte} (h : Keeps s₀ s) : Keeps s₀ (s.sendTs1 n lanes ctrl) :=
  h.emit

theorem sendTs2 {n : Nat} {lanes lanesOk : Byte} (h : Keeps s₀ s) : Keeps s₀ (s.sendTs2 n lanes lanesOk) :=
  h.emit

theorem toConfig {n : Nat} (h : Keeps s₀ s) : Keeps s₀ (s.toConfig n) :=
  h.updPort.sendTs1

theorem toLaneTrain {n : Nat} (h : Keeps s₀ s) : Keeps s₀ (s.toLaneTrain n) :=
  h.updPort.sendTs1

theorem toConfirm {n : Nat} (h : Keeps s₀ s) : Keeps s₀ (s.toConfirm n) :=
  h.updPort.sendTs2

theorem judgeDeskew {n : Nat} (h : Keeps s₀ s) : Keeps s₀ (s.judgeDeskew n) :=
  .ite h.toConfirm h

theorem toDeskew {n : Nat} (h : Keeps s₀ s) : Keeps s₀ (s.toDeskew n) :=
  .judgeDeskew (.foldl (fun _ _ h => h.emit) h.updPort)

theorem toDetect {n : Nat} (h : Keeps s₀ s) : Keeps s₀ (s.toDetect n) :=
  h.updPort.sendTs1

theorem fallback {n : Nat} (h : Keeps s₀ s) : Keeps s₀ (s.fallback n) := by
  unfold State.fallback
  exact h.emit.updPort

theorem sendTurn {n : Nat} (h : Keeps s₀ s) : Keeps s₀ (s.sendTurn n) := by
  unfold State.sendTurn
  split
  · exact h
  · exact h.enqueue

theorem resend {n : Nat} {x : Packet} (h : Keeps s₀ s) : Keeps s₀ (s.resend n x) :=
  h.emit.updPort

theorem replayCut {n : Nat} (h : Keeps s₀ s) : Keeps s₀ (s.replayCut n) := by
  unfold State.replayCut
  extract_lets
  split
  · exact h.updPort.resend
  · exact h.updPort

theorem linkUp {n : Nat} {agreed : Byte} (h : Keeps s₀ s) : Keeps s₀ (s.linkUp n agreed) := by
  unfold State.linkUp
  extract_lets _ _ _ _ _ s₁ _ _ s₂ _ _ s₃
  have h₁ : Keeps s₀ s₁ := .ite h.setPort.emit.replayCut h.setPort.emit
  have h₂ : Keeps s₀ s₂ := .ite (.postEvent (.sendTurn (.ite h₁ h₁.sendAck))) (.sendTurn (.ite h₁ h₁.sendAck))
  have h₃ : Keeps s₀ s₃ := .noteLevel (.retarget (.moveBulk (.ite h₂.die h₂)))
  exact .pump (.ite h₃.flushHeld h₃)

theorem endConfirm {n : Nat} (h : Keeps s₀ s) : Keeps s₀ (s.endConfirm n) :=
  .ite (.ite h.linkUp h.portDown) (.ite h.linkUp (.ite h.toDetect h.fallback))

theorem endConfig {n : Nat} (h : Keeps s₀ s) : Keeps s₀ (s.endConfig n) :=
  .ite h.updPort.toLaneTrain h.updPort.emit.updPort

theorem judgeRun {n : Nat} (h : Keeps s₀ s) : Keeps s₀ (s.judgeRun n) :=
  .ite h (.ite h.setPort.sendTs2 (.ite h.endConfig (.ite h.endConfirm h)))

theorem countTrain {n : Nat} {ts : TrainSet} {two : Bool} (h : Keeps s₀ s) : Keeps s₀ (s.countTrain n ts two) :=
  .ite h.setPort.judgeRun (.ite h.setPort.judgeRun h)

theorem recover {n : Nat} (h : Keeps s₀ s) : Keeps s₀ (s.recover n) :=
  .ite h h.same.wakeL0.updPort.toLaneTrain.retarget

theorem takeAck {n : Nat} {ackseq : BitVec 12} {w1 : Word} {t : State} (h : Keeps s₀ s) (ht : s.takeAck n ackseq w1 = some t) :
    Keeps s₀ t := by
  obtain ⟨-, ⟨⟩⟩ := Option.ite_none_left_eq_some.mp ht
  exact h.setPort

theorem replayAll {n : Nat} (h : Keeps s₀ s) : Keeps s₀ (s.replayAll n) :=
  .ite h (.ite h.raise.recover (.updPort (.foldl (fun _ _ h => h.resend) h.wakeL0)))

theorem endMrd {m : Mrd} {ws : Option (List Word)} (h : Keeps s₀ s) : Keeps s₀ (s.endMrd m ws) := by
  unfold State.endMrd
  extract_lets
  split
  · split
    · exact h.rng.mrdNext.descsArrived
    · exact .ite h.rng.mrdNext.sqError h.rng.mrdNext
  · exact h.rng.mrdNext.partArrived

theorem takeCpl {p : Packet} (h : Keeps s₀ s) : Keeps s₀ (s.takeCpl p) := by
  unfold State.takeCpl
  extract_lets
  split
  · exact h.lnk
  · exact h.endMrd

theorem takeTurn {n : Nat} {ws : List Word} (h : Keeps s₀ s) : Keeps s₀ (s.takeTurn n ws) := by
  unfold State.takeTurn
  extract_lets
  split
  · exact .ite h.updPort.updPort h.updPort
  · exact h.updPort

theorem pumpAll {n : Nat} (h : Keeps s₀ s) : Keeps s₀ (s.pumpAll n) :=
  h.pump

theorem retrainPort {n : Nat} {t : State} (h : Keeps s₀ s) (ht : s.retrainPort n = some t) : Keeps s₀ t := by
  obtain ⟨-, ⟨⟩⟩ := Option.ite_none_right_eq_some.mp ht
  exact h.portDown.updPort

theorem recoverPort {n : Nat} {t : State} (h : Keeps s₀ s) (ht : s.recoverPort n = some t) : Keeps s₀ t := by
  obtain ⟨-, ⟨⟩⟩ := Option.ite_none_right_eq_some.mp ht
  exact h.recover.updPort

end Keeps

end Sys2Proof.Machine
end

section
/-! SUPPORT. The frame of power states and tier gates: what each operation leaves as it is. -/

set_option Elab.async false

namespace Sys2Proof.Machine
open Sys2Proof.Safety

namespace Keeps
variable {s₀ s : State}

theorem closeSession (h : Keeps s₀ s) : Keeps s₀ s.closeSession :=
  hiveResume (h.dbg_of (fun ⟨_, hm⟩ => ⟨Nat.zero_le _, hm⟩) id)

theorem newChallenge (h : Keeps s₀ s) : Keeps s₀ s.newChallenge :=
  h.randoms.dbg

theorem dropCheck (h : Keeps s₀ s) : Keeps s₀ s.dropCheck := by
  unfold State.dropCheck
  extract_lets _ s₁
  have h₁ : Keeps s₀ s₁ := h.dbg
  exact .ite (newChallenge (h₁.dbg_of id fun _ _ => nofun)) h₁

theorem endSession (h : Keeps s₀ s) : Keeps s₀ s.endSession :=
  .ite h.closeSession.otpPump h.closeSession

theorem twDrop (h : Keeps s₀ s) : Keeps s₀ s.twDrop :=
  h.tw

theorem twAbort (h : Keeps s₀ s) : Keeps s₀ s.twAbort :=
  .ite h.same h

theorem parkTier {dest t : Nat} (h : Keeps s₀ s) : Keeps s₀ (s.parkTier dest t) := by
  unfold State.parkTier
  extract_lets
  split
  · exact .ite h h.settleTier.updTier
  · exact .ite (.ite h (.sreTier (.foldl (fun _ _ h => h.word) h))) (.ite h.sreTier h.selfRefresh)

theorem gateClocks {dest : Nat} (h : Keeps s₀ s) : Keeps s₀ (s.gateClocks dest) :=
  .ite h.pwr h.pwr.clk

theorem enterCicada (h : Keeps s₀ s) : Keeps s₀ s.enterCicada := by
  unfold State.enterCicada
  extract_lets keep s₁
  have h₁ : Keeps s₀ s₁ := h.closeSession.dropCheck.twDrop.twAbort
  refine (h₁.sec_of (x := if keep then s₁.sec else { s₁.sec with slots := [], kwk := none }) fun g => ?_).same
  split
  · exact g
  · rfl

theorem enterDeep {dest cause : Nat} (h : Keeps s₀ s) : Keeps s₀ (s.enterDeep dest cause) := by
  unfold State.enterDeep
  extract_lets _ s₁ _ s₂
  have h₁ : Keeps s₀ s₁ := .foldl (fun _ _ h => h.parkTier) h.moveAllBulk
  have h₂ : Keeps s₀ s₂ := .ite h₁.gateClocks.enterCicada h₁.gateClocks
  exact .retarget (.setPower (.pwr (.ite h₂.moveIslands h₂)))

theorem judgePower (h : Keeps s₀ s) : Keeps s₀ s.judgePower := by
  unfold State.judgePower
  split
  · exact h
  · split
    · exact .ite h.setPower.retarget h
    · exact .ite h.setPower.retarget (.ite h.startExit h)
    · exact .ite h.startExit.retarget (.ite h.startExit.retarget (.ite h.enterDeep h))

theorem judgeIdle (h : Keeps s₀ s) : Keeps s₀ s.judgeIdle :=
  .ite h.judgePower.enterDeep h.judgePower

theorem gateChange {old new : Word} (h : Keeps s₀ s) : Keeps s₀ (s.gateChange old new) :=
  .foldl (fun _ _ h => .ite h (.ite h.pwr h.pwr)) h

theorem queueOpenings (h : Keeps s₀ s) : Keeps s₀ s.queueOpenings :=
  h.pwr

theorem closeGates {t : Nat} (h : Keeps s₀ s) : Keeps s₀ (s.closeGates t) :=
  h.resetTier.updTier

theorem trainTier {t : Nat} (h : Keeps s₀ s) : Keeps s₀ (s.trainTier t) :=
  .foldl (fun _ _ h => .ite h.startTraining h) h

theorem readIdentity {t : Nat} (h : Keeps s₀ s) : Keeps s₀ (s.readIdentity t) := by
  unfold State.readIdentity
  split
  · exact .updTier (.foldl (fun _ _ h => h.word) h)
  · exact h

theorem restartsDone (h : Keeps s₀ s) : Keeps s₀ s.restartsDone :=
  .ite (.ite h.pwr.endExit.retarget.flushHeld h.pwr) h

theorem tierRestartDue (h : Keeps s₀ s) : Keeps s₀ s.tierRestartDue := by
  unfold State.tierRestartDue
  extract_lets
  split
  · exact h
  · extract_lets _ s₁ _ s₂
    have h₁ : Keeps s₀ s₁ := .ite h.pwr (.foldl (fun _ _ h => h.word) h.pwr)
    have h₂ : Keeps s₀ s₂ := .ite h₁.clockTier.heldFreq.startWake h₁.clockTier.heldFreq
    exact .ite h (.restartsDone (.ite (.ite h₂ h₂.readIdentity) h.pwr))

theorem reopenGate {n : Nat} (h : Keeps s₀ s) : Keeps s₀ (s.reopenGate n) :=
  .ite h.pwr h

end Keeps

end Sys2Proof.Machine
end

section
/-! SUPPORT. The frame of logic BIST: what each operation leaves as it is. -/

set_option Elab.async false

namespace Sys2Proof.Machine
open Sys2Proof.Safety

namespace Keeps
variable {s₀ s : State}

theorem bistResult {res : Nat} (h : Keeps s₀ s) : Keeps s₀ (s.bistResult res) :=
  h.bst

theorem bistNext (h : Keeps s₀ s) : Keeps s₀ s.bistNext := by
  unfold State.bistNext
  extract_lets
  split
  · exact h.bst
  · exact h.bst

theorem bistStart {periodic : Bool} (h : Keeps s₀ s) : Keeps s₀ (s.bistStart periodic) :=
  h.bst.bistNext

theorem bistHalt (h : Keeps s₀ s) : Keeps s₀ s.bistHalt := by
  unfold State.bistHalt
  have h₁ := h.pcd_of (x := { s.pcd with rdy := [], store := [] }) (fun _ => rfl) fun _ => rfl
  exact .ite h₁.same (.ite h h.bistResult.bst)

theorem settleDebts {p : Nat} (h : Keeps s₀ s) : Keeps s₀ (s.settleDebts p) :=
  .foldl (fun _ _ h => .ite h.issueRefs h) h

theorem bistBoundary (h : Keeps s₀ s) : Keeps s₀ s.bistBoundary := by
  unfold State.bistBoundary
  extract_lets s₁ s₂
  have h₁ : Keeps s₀ s₁ := .ite h.bistStart h
  have h₂ : Keeps s₀ s₂ := .foldl (fun _ _ h => h.takePlace.charge) h₁.settleDebts
  exact .ite h₁ h₂.bst

theorem afterSegment {p : Nat} {chans : List Nat} (h : Keeps s₀ s) : Keeps s₀ (s.afterSegment p chans) := by
  unfold State.afterSegment
  extract_lets s₁
  have h₁ : Keeps s₀ s₁ := .foldl (fun _ _ h => h.issueOwed.issueNrefs.judgeFreeze.judgeRetrain.letIn) h
  exact .ite (.foldl (fun _ _ h => h.heldFreq.judgeFreq) h₁) h₁

theorem segmentEnd {misr : Word} (h : Keeps s₀ s) : Keeps s₀ (s.segmentEnd misr) := by
  unfold State.segmentEnd
  extract_lets _ _ _ _ _ _ _ _ _ s₁ _ s₂
  have h₁ : Keeps s₀ s₁ := .ite h.bst.bistResult.bst h.bst.bistResult.bst.raise
  have h₂ : Keeps s₀ s₂ := .ite (.ite h₁.bst.bistNext h₁.bistNext) (.ite h.bst.bistHalt h.bst)
  exact .ite h h₂.afterSegment

theorem bistRun {t : State} (h : Keeps s₀ s) (ht : s.bistRun = some t) : Keeps s₀ t := by
  obtain ⟨-, ⟨⟩⟩ := Option.ite_none_left_eq_some.mp ht
  exact h.bistStart

theorem bistStop (h : Keeps s₀ s) : Keeps s₀ s.bistStop :=
  .ite h (.ite h.bst h.bistHalt)

theorem spoilMemory (h : Keeps s₀ s) : Keeps s₀ s.spoilMemory := by
  have h₁ := h.stopRings
  have h₂ : Keeps s₀ { s.stopRings with tch := s.spoilMemory.tch } := h₁.tch_of id fun g => by
    dsimp only [State.spoilMemory]
    exact Tab.wf_mapVals _ _ _ _ g
  have h₃ := (h₂.sec_of (x := { s.stopRings.sec with slots := [] }) fun _ => rfl).pcd (x := { s.stopRings.pcd with merge := [] })
  exact h₃.same

theorem groupFails {g : Nat} (h : Keeps s₀ s) : Keeps s₀ (s.groupFails g) := by
  unfold State.groupFails
  extract_lets s₁ half
  have h₁ : Keeps s₀ s₁ := h.raise
  have h₂ := h₁.pcd (x := { s₁.pcd with codecOut := s₁.pcd.codecOut ||| (Config.failedEngines s₁.free &&& half) })
  exact .ite h₁.die (.ite h₁.portDown (.ite h₂.same h₁))

theorem stackMemory {fail2 : Bool} (h : Keeps s₀ s) : Keeps s₀ (s.stackMemory fail2) := by
  unfold State.stackMemory
  exact .foldl (fun _ _ h => .ite h.same.groupFails h.same) h.spoilMemory.same

theorem stackResults {fail1 : Bool} (h : Keeps s₀ s) : Keeps s₀ (s.stackResults fail1) :=
  .foldl (fun _ _ h => .ite h.bst.raise h.bst) (.free (.ite h.free h))

theorem stackVerdict {fail : BitVec 4} (h : Keeps s₀ s) : Keeps s₀ (s.stackVerdict fail) :=
  (h.pcd_of (x := { s.pcd with rdy := [], store := [] }) (fun _ => rfl) fun _ => rfl).same

theorem stackEnd {fail : BitVec 4} (h : Keeps s₀ s) : Keeps s₀ (s.stackEnd fail) :=
  .stackVerdict (.foldl (fun _ _ h => h.formatAgain) h)

theorem patternRows {bank from_ to_ : Nat} (h : Keeps s₀ s) : Keeps s₀ (s.patternRows bank from_ to_) :=
  .foldl (fun _ _ h => .foldl (fun _ _ h => h.putSlot) h) h

theorem stackBegin {r : RetainRun} (h : Keeps s₀ s) : Keeps s₀ (s.stackBegin r) := by
  unfold State.stackBegin
  extract_lets _ _ _ s₁
  have h₁ : Keeps s₀ s₁ := .foldl (fun _ _ h => h.patternRows) h.stackResults.stackMemory
  exact .ite h₁.stackEnd h₁.bst

theorem stackTest {f : Option (BitVec 4)} {t : State} (h : Keeps s₀ s) (ht : s.stackTest f = some t) : Keeps s₀ t := by
  obtain ⟨-, ⟨⟩⟩ := Option.ite_none_left_eq_some.mp ht
  exact .ite h.bst.stackBegin h.bst

theorem retainRowsTo {r : RetainRun} {w d : Nat} (h : Keeps s₀ s) : Keeps s₀ (s.retainRowsTo r w d).1 :=
  h.patternRows

theorem retainTick (h : Keeps s₀ s) : Keeps s₀ s.retainTick := by
  unfold State.retainTick
  extract_lets
  split
  · exact h
  · extract_lets
    split
    · exact h
    · split
      · exact h.stackBegin
      · split
        · exact .ite h.retainRowsTo.bst h
        · exact .ite (.ite h.retainRowsTo.stackEnd h.retainRowsTo.retainRowsTo.bst) h.retainRowsTo.bst

end Keeps

end Sys2Proof.Machine
end

section
/-! SUPPORT. The frame of temperatures: what each operation leaves as it is. -/

set_option Elab.async false

namespace Sys2Proof.Machine
open Sys2Proof.Safety

namespace Keeps
variable {s₀ s : State}

theorem startModel (h : Keeps s₀ s) : Keeps s₀ s.startModel :=
  h.thm

theorem stepModel (h : Keeps s₀ s) : Keeps s₀ s.stepModel :=
  .foldl (fun _ _ h => h.updTier) (.ite h.thm (.ite h.startModel h))

theorem suspectTier {t : Nat} {invalid : Bool} (h : Keeps s₀ s) : Keeps s₀ (s.suspectTier t invalid) :=
  .ite (.ite h.thm h) h.thm.raise.postEvent

theorem judgeDistrust {t : Nat} (h : Keeps s₀ s) : Keeps s₀ (s.judgeDistrust t) :=
  .ite h (.ite h.thm.suspectTier h.thm)

theorem cut {on : Bool} (h : Keeps s₀ s) : Keeps s₀ (s.cut on) :=
  h.same.recutClass.recutClass

theorem judgeSource {k : Nat} (h : Keeps s₀ s) : Keeps s₀ (s.judgeSource k) := by
  unfold State.judgeSource
  extract_lets _ _ _ _ _ s₁
  have h₁ : Keeps s₀ s₁ := .ite h.thm.postEvent (.ite h.thm h)
  exact .ite h₁.thm.postEvent (.ite h₁.thm h₁)

theorem judgeThrottle (h : Keeps s₀ s) : Keeps s₀ s.judgeThrottle :=
  .ite h (.ite h.cut h.thm)

theorem judgeHot {t : Nat} (h : Keeps s₀ s) : Keeps s₀ (s.judgeHot t) := by
  unfold State.judgeHot
  exact h.updTier

theorem thermalWatch (h : Keeps s₀ s) : Keeps s₀ s.thermalWatch :=
  .ite h.startExit h

theorem sreAll (h : Keeps s₀ s) : Keeps s₀ s.sreAll :=
  .foldl (fun _ _ h => .sreTier (.foldl (fun _ _ h => h.word) h)) h

theorem restTier {t : Nat} (h : Keeps s₀ s) : Keeps s₀ (s.restTier t) :=
  .ite h.selfRefresh (.ite h (.sreTier (.foldl (fun _ _ h => h.word.word) h)))

theorem restAll (h : Keeps s₀ s) : Keeps s₀ s.restAll :=
  .foldl (fun _ _ h => h.restTier) h

theorem portsDown {idle : Bool} (h : Keeps s₀ s) : Keeps s₀ (s.portsDown idle) :=
  .foldl (fun _ _ h => .ite h (.portDown (.ite h.emit h))) h

theorem endBursts (h : Keeps s₀ s) : Keeps s₀ s.endBursts :=
  .updChans (.foldl (fun _ _ h => .ite h.putSlot.recodeMark h.putSlot) h)

theorem shutdown {src : Nat} (h : Keeps s₀ s) : Keeps s₀ (s.shutdown src) := by
  unfold State.shutdown
  extract_lets _ _ _ _ s₁ s₂ s₃ _ _ _ s₄
  have h₁ : Keeps s₀ s₁ := h.thm
  have h₂ : Keeps s₀ s₂ := h₁.bistHalt.stopRings.endBursts.restAll.portsDown
  have h₃ : Keeps s₀ s₃ := .ite h₂.pulseWake h₂
  clear_value s₃
  have h₄ : Keeps s₀ s₄ := h₃.same.setPower.twAbort
  clear_value s₄
  exact .ite h₁ (h₄.pcd (x := { s₄.pcd with merge := [] })).same

theorem click {src : Nat} (h : Keeps s₀ s) : Keeps s₀ (s.click src) :=
  .ite h h.shutdown.raise

theorem judgeShut {k : Nat} (h : Keeps s₀ s) : Keeps s₀ (s.judgeShut k) :=
  .ite h.click h

theorem judgeRaw {k code : Nat} (h : Keeps s₀ s) : Keeps s₀ (s.judgeRaw k code) :=
  .ite h.click h

theorem newTemp {k : Nat} (h : Keeps s₀ s) : Keeps s₀ (s.newTemp k) :=
  .judgeShut (.thermalWatch (.judgeThrottle (.judgeSource (.ite h.judgeHot h))))

theorem dropSources (h : Keeps s₀ s) : Keeps s₀ s.dropSources :=
  .ite h h.thm.judgeThrottle

theorem thermalBoundary (h : Keeps s₀ s) : Keeps s₀ s.thermalBoundary :=
  .ite h (.foldl (fun _ _ h => h.newTemp) h.stepModel.dropSources)

end Keeps

end Sys2Proof.Machine
end

section
/-! SUPPORT. The frame of calibration and lane eyes: what each operation leaves as it is. -/

set_option Elab.async false

namespace Sys2Proof.Machine
open Sys2Proof.Safety

namespace Keeps
variable {s₀ s : State}

theorem calSettle (h : Keeps s₀ s) : Keeps s₀ s.calSettle :=
  .ite h.cal h

theorem startRound {k : Nat} (h : Keeps s₀ s) : Keeps s₀ (s.startRound k) :=
  h.cal

theorem judgeCal (h : Keeps s₀ s) : Keeps s₀ s.judgeCal :=
  .ite h (.ite h.cal (.calSettle (.foldl (fun _ _ h => h.startRound) h.cal)))

theorem allDue (h : Keeps s₀ s) : Keeps s₀ s.allDue :=
  h.cal

theorem latchChan {i : Nat} {x : ChanCodes} {time temp : Nat} (h : Keeps s₀ s) : Keeps s₀ (s.latchChan i x time temp) :=
  .ite h h.noteEyeAt.updChan.judgeRetrain

theorem laneCheck {n k : Nat} {eye : Byte} (h : Keeps s₀ s) : Keeps s₀ (s.laneCheck n k eye) :=
  .ite h.updPort (.ite h.updPort.postEvent.recover h.updPort.postEvent)

theorem latchOff {k : Nat} {v : Byte} (h : Keeps s₀ s) : Keeps s₀ (s.latchOff k v) :=
  .ite h.same.raise h.same

theorem latchItem {e : CalItem × CalLatch} (h : Keeps s₀ s) : Keeps s₀ (s.latchItem e) := by
  unfold State.latchItem
  extract_lets s₁
  have h₁ : Keeps s₀ s₁ := by
    unfold s₁
    split
    · exact .foldl (fun _ _ h => h.latchChan) h
    · exact .foldl (fun _ _ h => h.updPort.noteEyeAt.laneCheck) h
  exact .cal (.foldl (fun _ _ h => h.latchOff) h₁)

theorem calBoundary (h : Keeps s₀ s) : Keeps s₀ s.calBoundary :=
  .foldl (fun _ _ h => h.latchItem) h.cal

theorem dropProbes {k : Nat} (h : Keeps s₀ s) : Keeps s₀ (s.dropProbes k) :=
  .ite h h.cal

theorem calNow (h : Keeps s₀ s) : Keeps s₀ s.calNow :=
  h.allDue.cal.judgeCal

end Keeps

end Sys2Proof.Machine
end

section
/-! SUPPORT. The frame of resets: what each operation leaves as it is. -/

set_option Elab.async false

namespace Sys2Proof.Machine
open Sys2Proof.Safety

namespace Keeps
variable {s₀ s : State}

theorem ballastOn (h : Keeps s₀ s) : Keeps s₀ s.ballastOn :=
  h.same

theorem ballastTick (h : Keeps s₀ s) : Keeps s₀ s.ballastTick :=
  .ite h h.grant.die

theorem quiesce (h : Keeps s₀ s) : Keeps s₀ s.quiesce :=
  .pcd (.sreAll (.updChans (.foldl (fun _ _ h => h.word) h.endBursts)))

theorem judgeRetention (h : Keeps s₀ s) : Keeps s₀ s.judgeRetention := by
  unfold State.judgeRetention
  extract_lets _ _ s₁ _ s₂
  have h₁ : Keeps s₀ s₁ := h.die
  have h₂ : Keeps s₀ s₂ := .foldl (fun _ _ h => h.setCfg) h₁
  refine .ite (h₁.pcd_of (fun g => ?_) id) (h₂.pcd_of (fun _ => rfl) id)
  dsimp only
  exact Tab.wf_mapVals _ _ _ _ g

theorem unretain {t : Nat} (h : Keeps s₀ s) : Keeps s₀ (s.unretain t) :=
  h.die.judgeRetention

theorem resetFields {warm : Bool} (h : Keeps s₀ s) : Keeps s₀ (s.resetFields warm) := by
  refine ⟨h.pending, fun g => ?_⟩
  obtain ⟨-, hm, -, ht, hch, hr, hs, -, hg⟩ := h.formed g
  simp only [Formed, State.resetFields]
  exact ⟨Nat.zero_le _, hm, fun _ => nofun, Tab.wf_mapVals _ _ _ _ ht, Tab.wf_mapVals _ _ _ _ hch, hr, hs, rfl,
    Tab.keep_sorted _ _ hg⟩

theorem sendHotReset {n : Nat} (h : Keeps s₀ s) : Keeps s₀ (s.sendHotReset n) :=
  .foldl (fun _ _ h => h.sendTs1) h.wakeL0

theorem resetBegin {kind : ResetKind} {cause : Nat} (h : Keeps s₀ s) : Keeps s₀ (s.resetBegin kind cause) := by
  unfold State.resetBegin
  extract_lets _ _ _ s₁ _ _ _ s₂ _ s₃
  have h₁ : Keeps s₀ s₁ := .foldl (fun _ _ h => .ite h.sendHotReset h) h
  have h₂ : Keeps s₀ s₂ := by
    unfold s₂
    split
    · exact h₁.bistHalt.ballastOn.quiesce.otpInterrupt.pwr.raise
    · exact h₁.bistHalt.ballastOn.quiesce.otpInterrupt
  have ht := foldl (f := State.resetTier) (l := s₂.pwr.closeQ) (fun _ _ h => h.resetTier) h₂
  have h₃ : Keeps s₀ s₃ := .setPower (.ite ht.pulseWake ht)
  exact h₃.die

theorem loadRepairs (h : Keeps s₀ s) : Keeps s₀ s.loadRepairs :=
  .foldl (fun _ _ h => .ite h.loadSub h.updChan) h.tch

theorem hardReset {cause : Nat} (h : Keeps s₀ s) : Keeps s₀ (s.hardReset cause) := by
  unfold State.hardReset
  extract_lets _ s₁
  have h₁ : Keeps s₀ s₁ := h.resetBegin.resetFields.judgeRetention
  split
  case h_7 => exact h₁.die.newChallenge
  all_goals exact h

theorem pulseTiers (h : Keeps s₀ s) : Keeps s₀ s.pulseTiers :=
  .foldl (fun _ _ h => .ite h.resetTier h) h

theorem endHold (h : Keeps s₀ s) : Keeps s₀ s.endHold :=
  h.same.pulseTiers

theorem powerOn {cause : Nat} {mode : DieMode} (h : Keeps s₀ s) : Keeps s₀ (s.powerOn cause mode) := by
  unfold State.powerOn
  extract_lets p5 s₁
  have h₁ : Keeps s₀ s₁ := h.otpInterrupt
  refine newChallenge ⟨h₁.pending, fun g => ?_⟩
  obtain ⟨-, -, -, -, -, -, -, -, hg⟩ := h₁.formed g
  refine ⟨Nat.le_refl _, Nat.zero_le _, fun _ => nofun, rfl, rfl, rfl, rfl, rfl, ?_⟩
  dsimp only
  split
  · dsimp only
    exact Tab.keep_sorted _ _ hg
  · exact .nil

theorem offBegin (h : Keeps s₀ s) : Keeps s₀ s.offBegin :=
  h.bistHalt.stopRings.quiesce.pwr

theorem powerOff (h : Keeps s₀ s) : Keeps s₀ s.powerOff :=
  .ite h (.ite h.pwr h.offBegin)

theorem offEnd (h : Keeps s₀ s) : Keeps s₀ s.offEnd := by
  unfold State.offEnd
  extract_lets s₁ _ s₂
  have h₂ : Keeps s₀ s₂ := h.closeSession.dropCheck.twDrop.twAbort.pwr.setPower
  exact (h₂.sec_of (x := { s₂.sec with slots := [], kwk := none }) fun _ => rfl).same

theorem offTick (h : Keeps s₀ s) : Keeps s₀ s.offTick := by
  unfold State.offTick
  extract_lets
  split
  · exact h
  · split
    · exact .ite h.offBegin h
    · exact .ite h h.portsDown.pwr.moveIslands
    · exact .ite h.offEnd h
    · exact h

theorem wakeOff {cause : Nat} (h : Keeps s₀ s) : Keeps s₀ (s.wakeOff cause) :=
  h.setPower.powerOn

theorem wake {cause : Nat} (h : Keeps s₀ s) : Keeps s₀ (s.wake cause) :=
  .ite h.wakeOff (.ite h.startExit h)

end Keeps

end Sys2Proof.Machine
end

section
/-! SUPPORT. The frame of start-up and the resets of the whole die: what each operation leaves as it is. -/

set_option Elab.async false

namespace Sys2Proof.Machine
open Sys2Proof.Safety

namespace Keeps
variable {s₀ s : State}

theorem loadOtp {n : RegName} {i fixed : Nat} (h : Keeps s₀ s) : Keeps s₀ (s.loadOtp n i fixed) :=
  h.setCfg

theorem loadTrims (h : Keeps s₀ s) : Keeps s₀ s.loadTrims :=
  .foldl (fun _ _ h => h.updPort) h.cal

theorem loadOtpRegs (h : Keeps s₀ s) : Keeps s₀ s.loadOtpRegs :=
  .setCfg (.loadTrims (.foldl (fun _ _ h => h.loadOtp) h.loadOtp.loadOtp.loadOtp))

theorem refuseImage {result : Nat} (h : Keeps s₀ s) : Keeps s₀ (s.refuseImage result) :=
  h.die.sec.raise

theorem readImage (h : Keeps s₀ s) : Keeps s₀ s.readImage :=
  h.die.sec.tw.emit

theorem imageArrive {bytes : List Byte} {done : Nat} (h : Keeps s₀ s) : Keeps s₀ (s.imageArrive bytes done) :=
  .ite h (.ite h.same h.same.emit)

theorem seedGen (h : Keeps s₀ s) : Keeps s₀ s.seedGen :=
  .ite h.pcd h.random.pcd

theorem stepCounter {c n : Nat} (h : Keeps s₀ s) : Keeps s₀ (s.stepCounter c n) :=
  .foldl (fun _ _ h => h.otpAsk) h

theorem startFirmware (h : Keeps s₀ s) : Keeps s₀ s.startFirmware :=
  h.seedGen.die.tch.pwr.sec.stepCounter.noteLevel

theorem judgeImage (h : Keeps s₀ s) : Keeps s₀ s.judgeImage :=
  .ite (.ite h.startFirmware h.refuseImage) h

theorem standAgain (h : Keeps s₀ s) : Keeps s₀ s.standAgain := by
  unfold State.standAgain
  extract_lets _ s₁ _ s₂
  have h₁ : Keeps s₀ s₁ := .ite (.raise (.ite h.raise h)) (.ite h.raise h)
  have h₂ : Keeps s₀ s₂ := .ite (.raise (.ite h₁.raise h₁)) (.ite h₁.raise h₁)
  exact .ite h₂.raise h₂

theorem release (h : Keeps s₀ s) : Keeps s₀ s.release :=
  h.standAgain.die.bst.loadOtpRegs.queueOpenings.retarget.noteLevel

theorem groupBoundary (h : Keeps s₀ s) : Keeps s₀ s.groupBoundary :=
  .ite h (.ite (.ite h.tch h) (.foldl (fun _ _ h => h.trainTier) (.tch (.ite h.tch h))))

theorem warmRestart {cause : Nat} (h : Keeps s₀ s) : Keeps s₀ (s.warmRestart cause) := by
  unfold State.warmRestart
  extract_lets _ _ _ s₁
  have hr : Keeps s₀ ((s.resetBegin .warm cause).resetFields true).judgeRetention := h.resetBegin.resetFields.judgeRetention
  have h₁ : Keeps s₀ s₁ := .ite hr.goOrphan (.ite hr.irregular hr)
  split
  · exact h₁.pulseTiers.newChallenge.loadRepairs.pwr.moveIslands.die
  · split
    · exact h₁.pulseTiers.newChallenge.loadRepairs.pwr.moveIslands.release.die
    · split
      · exact h₁.pulseTiers.newChallenge.loadRepairs.pwr.moveIslands.release.die.startFirmware
      · exact h₁.pulseTiers.newChallenge.loadRepairs.pwr.moveIslands.release.die.readImage

theorem warmReset {cause : Nat} (h : Keeps s₀ s) : Keeps s₀ (s.warmReset cause) := by
  unfold State.warmReset
  split
  · exact h.hardReset
  · exact h.warmRestart
  · exact h.warmRestart
  · exact h.warmRestart
  · exact h

theorem ctlHard (h : Keeps s₀ s) : Keeps s₀ s.ctlHard :=
  h.hardReset

end Keeps

end Sys2Proof.Machine
end

section
/-! SUPPORT. The frame of rails and clocks: what each operation leaves as it is. -/

set_option Elab.async false

namespace Sys2Proof.Machine
open Sys2Proof.Safety

namespace Keeps
variable {s₀ s : State}

theorem dropUnready {t : Nat} (h : Keeps s₀ s) : Keeps s₀ (s.dropUnready t) :=
  .foldl (fun _ _ h => h.setChan.failAll) h

theorem supplyFell (h : Keeps s₀ s) : Keeps s₀ s.supplyFell := by
  unfold State.supplyFell
  extract_lets _ s₁
  have h₁ : Keeps s₀ s₁ := .foldl (fun _ _ h => h.unready.formatAgain.dropUnready) h
  exact .foldl (fun _ _ h => .ite h.unretain.pwr h.unretain.pwr.resetTier) h₁

theorem xtalBack (h : Keeps s₀ s) : Keeps s₀ s.xtalBack := by
  unfold State.xtalBack
  extract_lets
  split
  · exact .ite h.clk.moveIslands h
  · exact .ite h h.same
  · exact .ite h.allDue.clk h
  · exact h

theorem xtalFailed (h : Keeps s₀ s) : Keeps s₀ s.xtalFailed := by
  unfold State.xtalFailed
  extract_lets _ _ _ s₁ s₂ s₃
  have h₁ : Keeps s₀ s₁ := h.clk.raise.bistHalt
  have h₂ : Keeps s₀ s₂ := h₁.portsDown.goOrphan.stopRings.ballastOn.endBursts.restAll
  have h₃ : Keeps s₀ s₃ := .setPower (.ite h₂.pulseWake h₂)
  clear_value s₃
  exact .ite h₁.portsDown.goOrphan (h₃.pcd (x := { s₃.pcd with merge := [] })).same.noteLevel

theorem rcTripped (h : Keeps s₀ s) : Keeps s₀ s.rcTripped :=
  h.ballastOn.otpInterrupt.same

theorem pllLock {k : Nat} (h : Keeps s₀ s) : Keeps s₀ (s.pllLock k) := by
  unfold State.pllLock
  extract_lets
  split
  · exact h
  · exact .ite h.clk.clk.ungate.restartsDone (.ite h.clk.clk.ungate.restartsDone (.ite h.clk.clk.judgeLocked h.clk.clk))

end Keeps

end Sys2Proof.Machine
end

section
/-! SUPPORT. The frame of block resets: what each operation leaves as it is. -/

set_option Elab.async false

namespace Sys2Proof.Machine
open Sys2Proof.Safety

namespace Keeps
variable {s₀ s : State}

theorem failBlock {id o st sd : Nat} (h : Keeps s₀ s) : Keeps s₀ (s.failBlock id o st sd) :=
  h.dropBlock.updCmd.endBlock

theorem failSecured (h : Keeps s₀ s) : Keeps s₀ s.failSecured := by
  unfold State.failSecured
  extract_lets _ _ s₁
  have h₁ : Keeps s₀ s₁ := .foldl (fun _ _ h => h.failErasure) (.foldl (fun _ _ h => h.finish) h)
  exact .foldl (fun _ _ h => .foldl (fun _ _ h => h.failBlock) h) h₁

theorem restartScarab (h : Keeps s₀ s) : Keeps s₀ s.restartScarab :=
  h.updChans.scb

theorem blockStart {b : Byte} (h : Keeps s₀ s) : Keeps s₀ (s.blockStart b) := by
  unfold State.blockStart
  extract_lets n
  refine .ite h.portDown.updPort (.ite h.judgeTierReset ?_)
  clear_value n
  split
  · exact h.stopRings
  · exact .foldl (fun _ _ h => h.abortCmd) h
  · exact h.failSecured.sec_of fun _ => rfl
  · exact h.restartScarab
  · exact h.cal
  · exact h.thm
  · exact h.same
  · exact .ite h.twDrop.twAbort.tw.refuseImage h.twDrop.twAbort.tw

theorem blockBegin {b : Byte} {reaction : Bool} (h : Keeps s₀ s) : Keeps s₀ (s.blockBegin b reaction) :=
  h.same.blockStart.noteLevel

theorem blockReset {b : Byte} {reaction : Bool} {t : State} (h : Keeps s₀ s) (ht : s.blockReset b reaction = some t) :
    Keeps s₀ t := by
  obtain ⟨-, ht⟩ := Option.ite_none_left_eq_some.mp ht
  split at ht
  · cases ht
    exact h.die
  · cases ht
    exact h.blockBegin

theorem drainBlocks (h : Keeps s₀ s) : Keeps s₀ s.drainBlocks :=
  .ite (.foldl (fun _ _ h => h.blockBegin) h.die) h.die

theorem blockEnd {b : Byte} (h : Keeps s₀ s) : Keeps s₀ (s.blockEnd b) := by
  unfold State.blockEnd
  extract_lets
  split
  · exact .ite h (.ite h.updChans h.clockTier.retrainTier.heldFreq)
  · exact .ite (.ite h.die.otpPump (.ite h h.readImage)) h

theorem blockResetEnd {block : Byte} (h : Keeps s₀ s) : Keeps s₀ (s.blockResetEnd block) :=
  .ite h h.die.blockEnd.noteLevel

end Keeps

end Sys2Proof.Machine
end

section
/-! SUPPORT. The frame of the clamp log and the fuse controller: what each operation leaves as it is. -/

set_option Elab.async false

namespace Sys2Proof.Machine
open Sys2Proof.Safety

namespace Keeps
variable {s₀ s : State}

theorem clampNote {w : RegWrite} {kind lo hi written applied : Nat} (h : Keeps s₀ s) :
    Keeps s₀ (s.clampNote w kind lo hi written applied) :=
  h.regs

theorem ignoredField {w : RegWrite} {lo wd : Nat} (h : Keeps s₀ s) : Keeps s₀ (s.ignoredField w lo wd) :=
  h.clampNote

theorem ignoredWhole {w : RegWrite} {stays : Word} (h : Keeps s₀ s) : Keeps s₀ (s.ignoredWhole w stays) :=
  h.clampNote

theorem otpRefuse {err : Nat} (h : Keeps s₀ s) : Keeps s₀ (s.otpRefuse err) :=
  h.otp

theorem otpProgram {src : Nat} (h : Keeps s₀ s) : Keeps s₀ (s.otpProgram src).1 := by
  unfold State.otpProgram
  extract_lets
  split_ifs
  · exact h
  · exact h.otpRefuse
  · exact h.otpRefuse
  · exact h.otpRefuse
  · exact h.otpGo

theorem otpLock {src r : Nat} (h : Keeps s₀ s) : Keeps s₀ (s.otpLock src r).1 := by
  unfold State.otpLock
  extract_lets _ _ _ _ start
  have hstart : ∀ l, Keeps s₀ (start l) := by
    intro l
    unfold start
    split
    · exact h
    · exact h.otpGo
  clear_value start
  split_ifs
  · exact h
  · exact h.otpRefuse
  · exact h.otpRefuse
  · exact hstart _
  · exact h.otpRefuse
  · exact h.otpRefuse
  · exact hstart _

theorem otpDone {c : OtpCmd} (h : Keeps s₀ s) : Keeps s₀ (s.otpDone c) :=
  .noteLevel (.otpPump (.ite h.vqpsAsk h))

theorem otpAfter {c : OtpCmd} {ok : Bool} (h : Keeps s₀ s) : Keeps s₀ (s.otpAfter c ok) := by
  unfold State.otpAfter
  extract_lets
  split
  · exact h.sec
  · exact h.appendEnd
  · exact h.appendEnd
  · exact h.sec.eraseAll
  · exact .ite h.sec.endSession.eraseAll h.sec.endSession
  · exact h

theorem otpUnpowered (h : Keeps s₀ s) : Keeps s₀ s.otpUnpowered := by
  unfold State.otpUnpowered
  extract_lets
  split
  · exact h
  · extract_lets s₁
    have h₁ : Keeps s₀ s₁ := by
      unfold s₁
      split
      · exact h.otp.sec
      · exact h.otp.sec
      · exact h.otp.otpAfter
    exact h₁.otpDone

theorem vqpsEnded {ok : Bool} (h : Keeps s₀ s) : Keeps s₀ (s.vqpsEnded ok) := by
  unfold State.vqpsEnded
  refine vqpsNext ?_
  split
  · exact h.tw.otp
  · exact h.tw.otpUnpowered
  · exact h.tw

theorem vqpsCheck (h : Keeps s₀ s) : Keeps s₀ s.vqpsCheck := by
  unfold State.vqpsCheck
  split
  · exact h
  · exact .ite h h.otpUnpowered

end Keeps

end Sys2Proof.Machine
end

section
/-! SUPPORT. The frame of the security engine and debug: what each operation leaves as it is. -/

set_option Elab.async false

namespace Sys2Proof.Machine
open Sys2Proof.Safety

namespace Keeps
variable {s₀ s : State}

theorem secRefuse {err : Nat} (h : Keeps s₀ s) : Keeps s₀ (s.secRefuse err) :=
  h.sec

theorem keygen (h : Keeps s₀ s) : Keeps s₀ s.keygen.1 := by
  unfold State.keygen
  split_ifs
  · exact h.secRefuse
  · exact h.secRefuse
  · exact h.secRefuse
  · extract_lets
    split
    · exact h.randomScalar.randoms.sec
    · exact h.randomScalar.randoms.sec.otpAsk

theorem kxSet (h : Keeps s₀ s) : Keeps s₀ s.kxSet.1 := by
  unfold State.kxSet
  split_ifs
  · exact h.secRefuse
  · exact h.secRefuse
  · exact h.secRefuse
  · exact h.secRefuse
  · exact h.sec

theorem revoke (h : Keeps s₀ s) : Keeps s₀ s.revoke.1 := by
  unfold State.revoke
  split_ifs
  · exact h.secRefuse
  · exact h.secRefuse
  · exact h.secRefuse
  · exact h.sec.otpAsk

theorem lifeAdv {target : Nat} (h : Keeps s₀ s) : Keeps s₀ (s.lifeAdv target).1 := by
  unfold State.lifeAdv
  split_ifs
  · exact h.secRefuse
  · exact h.secRefuse
  · exact h.secRefuse
  · exact h.sec.otpAsk

/-- A request asks for LIMITED or FULL (R488). -/
theorem levelRequest {level : Nat} (h : Keeps s₀ s) (hl : level < 4) : Keeps s₀ (s.levelRequest level).1 := by
  unfold State.levelRequest
  split_ifs with h₁ h₂ h₃ h₄
  · exact h
  · exact h
  · exact h.openSession fun _ => by rw [BitVec.toNat_ofNat]; omega
  · exact h
  · refine (takeId h).dbg_of id fun _ l hc => ?_
    obtain rfl := Option.some.inj hc
    obtain rfl | rfl : level = 1 ∨ level = 2 := by omega
    · exact .inl rfl
    · exact .inr rfl

theorem tokenFailed (h : Keeps s₀ s) : Keeps s₀ s.tokenFailed :=
  raise (h.dbg_of id fun _ _ => nofun)

end Keeps

end Sys2Proof.Machine
end

section
/-! SUPPORT. The frame of fault collection and reaction: what each operation leaves as it is. -/

set_option Elab.async false

namespace Sys2Proof.Machine
open Sys2Proof.Safety

namespace Keeps
variable {s₀ s : State}

theorem enterSafe (h : Keeps s₀ s) : Keeps s₀ s.enterSafe := by
  unfold State.enterSafe
  extract_lets _ _ _ s₁
  have h₁ : Keeps s₀ s₁ := h.bistHalt.twAbort.ballastOn.stopRings.quiesce.die.portsDown
  clear_value s₁
  exact .ite h h₁.same.noteLevel

theorem countEvent {k : Nat} {shadow : Bool} (h : Keeps s₀ s) : Keeps s₀ (s.countEvent k shadow).2 := by
  unfold State.countEvent
  extract_lets
  split
  · exact h
  · exact h.flt

theorem grade {l : FaultLine} (h : Keeps s₀ s) : Keeps s₀ (s.grade l).2 := by
  unfold State.grade
  extract_lets k shadow counting c
  show Keeps s₀ (if counting then s.countEvent k shadow else (0, s)).2
  split
  · exact h.countEvent
  · exact h

theorem gradeAll {l : List FaultLine} (h : Keeps s₀ s) : Keeps s₀ (s.gradeAll l).2 := by
  induction l generalizing s with
  | nil => exact h
  | cons x l ih => exact ih h.grade

theorem record {g : Graded} {same : Bool} {react : Nat} (h : Keeps s₀ s) : Keeps s₀ (s.record g same react) :=
  .ite h.flt (.ite h.flt.postAs h.flt)

theorem freezeNamed {g : Graded} (h : Keeps s₀ s) : Keeps s₀ (s.freezeNamed g) :=
  .ite h h.freeze

theorem isolate {k : Nat} (h : Keeps s₀ s) : Keeps s₀ (s.isolate k) :=
  .ite h.sec.failSecured (.ite h.pcd h.portDown.updPort)

theorem blockReaction {k : Nat} (h : Keeps s₀ s) : Keeps s₀ (s.blockReaction k) := by
  unfold State.blockReaction
  split
  · exact h
  · cases ht : s.blockReset _ true with
    | none => exact h
    | some t => exact h.blockReset ht

theorem perform {g : Graded} (h : Keeps s₀ s) : Keeps s₀ (s.perform g) := by
  unfold State.perform
  split
  · exact h.freezeNamed
  · exact h.isolate
  · exact h.blockReaction
  · exact h.warmReset
  · exact h.hardReset
  · exact h.enterSafe
  · exact h

theorem performAll {gs : List Graded} (h : Keeps s₀ s) : Keeps s₀ (s.performAll gs) := by
  unfold State.performAll
  split
  · exact h.perform
  · exact .foldl (fun _ _ h => h.perform) h

theorem fixedReaction {k : Nat} (h : Keeps s₀ s) : Keeps s₀ (s.fixedReaction k) := by
  unfold State.fixedReaction
  split
  · exact .ite h.xtalFailed h
  · exact h.rcTripped
  · exact h.portsDown
  · exact h.supplyFell
  · exact .ite h h.shutdown
  · exact h

theorem collect {ls : List FaultLine} (h : Keeps s₀ s) : Keeps s₀ (s.collect ls) := by
  unfold State.collect
  extract_lets _ _ s₁ _ _ s₂ s₃
  have h₂ : Keeps s₀ s₂ := .foldlFst (fun _ _ h => h.record) (h.gradeAll : Keeps s₀ s₁)
  have h₃ : Keeps s₀ s₃ := .ite h₂ (.foldl (fun _ _ h => h.fixedReaction) h₂)
  exact h₃.performAll.noteLevel

theorem finding91 {l : FaultLine} (h : Keeps s₀ s) : Keeps s₀ (s.finding91 l) :=
  h.postEvent.raise

theorem raiseExt {l : FaultLine} (h : Keeps s₀ s) : Keeps s₀ (s.raiseExt l) :=
  .ite (.ite h.finding91 h) h.raise

theorem parityTrip {histOk : Bool} (h : Keeps s₀ s) : Keeps s₀ (s.parityTrip histOk) := by
  unfold State.parityTrip
  exact .enterSafe (.ite h.record h.flt)

theorem collectorOdd {hist : Bool} (h : Keeps s₀ s) : Keeps s₀ (s.collectorOdd hist) :=
  h.flt

theorem fltSnapshot (h : Keeps s₀ s) : Keeps s₀ s.fltSnapshot :=
  h.flt

theorem fltAck {x : BitVec 16} {t : State} (h : Keeps s₀ s) (ht : s.fltAck x = some t) : Keeps s₀ t := by
  obtain ⟨-, ⟨⟩⟩ := Option.ite_none_left_eq_some.mp ht
  exact h.flt

theorem fltInject {data : Word} (h : Keeps s₀ s) : Keeps s₀ (s.fltInject data).1 := by
  unfold State.fltInject
  extract_lets
  split_ifs
  · exact h
  · exact h
  · exact h.regs.collectorOdd.parityTrip
  · exact h
  · exact h.raise

end Keeps

end Sys2Proof.Machine
end

section
/-! SUPPORT. The frame of the passing of time: what each operation leaves as it is. -/

set_option Elab.async false

namespace Sys2Proof.Machine
open Sys2Proof.Safety

namespace Keeps
variable {s₀ s : State}

theorem tickWork (h : Keeps s₀ s) : Keeps s₀ s.tickWork := by
  unfold State.tickWork
  extract_lets _ _ s₁ s₂
  have h₁ : Keeps s₀ s₁ := .judgeSeasons (.judgeQuotas (.governor (.releasePlaces (.ite h.dbg.retarget h.dbg))))
  have h₂ : Keeps s₀ s₂ := .restartsDone (.xtalBack (.ungate (.moveAllBulk (.foldl (fun _ _ h => h.judgeLocked) h₁))))
  exact .offTick (.judgeCal (.judgePower (.vqpsNext (.vqpsCheck (.retainTick (.dropSources (.ite h₂.pwr h₂)))))))

theorem tick (h : Keeps s₀ s) : Keeps s₀ s.tick :=
  .ite h (.ite h.ballastTick.same.isleTick h.ballastTick.same.isleTick.tim.tickWork)

theorem nextEpoch (h : Keeps s₀ s) : Keeps s₀ s.nextEpoch :=
  h.tim

theorem snapCounters (h : Keeps s₀ s) : Keeps s₀ s.snapCounters := by
  have h₁ := h.pcd (x := s.snapCounters.pcd) rfl rfl
  exact (h₁.tch (x := s.snapCounters.tch) rfl rfl).same

theorem snapLanes (h : Keeps s₀ s) : Keeps s₀ s.snapLanes :=
  .foldl (fun _ _ h => h.updPort) h

end Keeps

end Sys2Proof.Machine
end

section
/-! SUPPORT. The frame of reading and writing the register file: what each operation leaves as it is. -/

set_option Elab.async false

namespace Sys2Proof.Machine
open Sys2Proof.Safety

namespace Keeps
variable {s₀ s : State}

theorem settleFields {w : RegWrite} {n : RegName} {i : Nat} {l : List Field} {acc : Word} (h : Keeps s₀ s) :
    Keeps s₀ (s.settleFields w n i l acc).1 := by
  induction l generalizing s acc with
  | nil => exact h
  | cons f l ih =>
    unfold State.settleFields
    extract_lets
    split
    · exact ih h
    · split
      · exact ih h.clampNote
      · split
        · exact ih (.ite h h.clampNote)
        · exact ih (.ite h h.clampNote)

/-- A change of one path's pointer leaves the stored values. -/
theorem setPtr {src : Nat} {p : IndPtr} (h : Keeps s₀ s) : Keeps s₀ { s with regs := s.regs.setPtr src p } := by
  refine h.regs ?_
  unfold Regs.setPtr
  split <;> rfl

theorem store {src : Nat} {n : RegName} {i : Nat} {x : Word} (h : Keeps s₀ s) : Keeps s₀ (s.store src n i x) := by
  unfold State.store
  split
  · exact h.setPtr
  · exact h.setPtr
  · exact h.setCfg.updSq
  · exact h.updSq
  · exact h.updCq
  · exact h.pcd
  · exact h.lnk
  · exact h.setCfg

theorem setPar {src : Nat} {n : RegName} {i : Nat} {odd : Bool} (h : Keeps s₀ s) : Keeps s₀ (s.setPar src n i odd) :=
  h.regs

theorem lowerMult {t : Nat} (h : Keeps s₀ s) : Keeps s₀ (s.lowerMult t) :=
  h.updTier

theorem coalChanged {q : Nat} {wasOn : Bool} (h : Keeps s₀ s) : Keeps s₀ (s.coalChanged q wasOn) :=
  .ite h.updCq h.judgeNotify

theorem gatesWritten {old new : Word} (h : Keeps s₀ s) : Keeps s₀ (s.gatesWritten old new) :=
  .gateChange (.ite h.startExit h)

theorem took {w : RegWrite} {n : RegName} {i : Nat} {o x : Word} (h : Keeps s₀ s) : Keeps s₀ (s.took w n i o x) := by
  unfold State.took
  extract_lets
  split
  · exact .ite h.irregular h
  · exact h.judgeIdle
  · exact h.judgePower
  · exact h.judgePower
  · exact h.judgePower
  · exact h.judgePower
  · exact h.gatesWritten
  · exact h.judgeCal
  · exact .ite h.recutClass.recutClass.inputChange h
  · exact h.retarget
  · exact h.retarget
  · exact h.retarget
  · exact .ite (.inputChange (.ite h h.recutClass)) (.ite h h.recutClass)
  · exact .ite (.clampLimits (.ite h.inputChange h)) (.ite h.inputChange h)
  · exact h.fmtRestart
  · exact .ite (.fmtHalt (.ite h.wakeHalt h)) (.ite h.wakeHalt h)
  · exact h.lowerMult
  · exact .ite h.flt h
  · exact .ite h.bistStop h
  · exact .ite h.portDown h
  · exact .ite h.wakeL0 h
  · exact .ite (.flushHeld (.ite h.lnk h)) (.ite h.lnk h)
  · exact h.flushHeld
  · exact h.coalChanged
  · exact h.startFreq
  · exact h

theorem commitFields {w : RegWrite} {n : RegName} {i : Nat} (h : Keeps s₀ s) : Keeps s₀ (s.commitFields w n i).1 := by
  unfold State.commitFields
  extract_lets
  split
  · exact h
  · exact h.settleFields.store.setPar

theorem takeFields {w : RegWrite} {n : RegName} {i : Nat} {o x : Word} (h : Keeps s₀ s) :
    Keeps s₀ (s.takeFields w n i o x) :=
  .ite h h.took

theorem bitAction {w : RegWrite} {lo : Nat} {go : State → Option State} (hgo : ∀ t u, Keeps s₀ t → go t = some u → Keeps s₀ u)
    (h : Keeps s₀ s) : Keeps s₀ (s.bitAction w lo go) := by
  unfold State.bitAction
  split
  · exact h
  · split
    case h_1 t ht => exact hgo _ _ h ht
    case h_2 => exact h.ignoredField

theorem actRstCtl {w : RegWrite} (h : Keeps s₀ s) : Keeps s₀ (s.actRstCtl w) :=
  .ite h.ignoredField (.ite h.ctlHard (.ite h.warmReset h.ignoredField))

theorem actRstBlock {w : RegWrite} (h : Keeps s₀ s) : Keeps s₀ (s.actRstBlock w) := by
  unfold State.actRstBlock
  split
  · exact h.ignoredField
  · split
    case h_1 t ht => exact h.blockReset ht
    case h_2 => exact h.ignoredField

theorem actClampAck {w : RegWrite} (h : Keeps s₀ s) : Keeps s₀ (s.actClampAck w) :=
  .ite h.regs h

theorem actPwrCtl {w : RegWrite} (h : Keeps s₀ s) : Keeps s₀ (s.actPwrCtl w) :=
  .ite (.ite h.startExit h) (.ite (.powerOff (.ite h.startExit h)) (.ignoredField (.ite h.startExit h)))

theorem actRetrust {w : RegWrite} (h : Keeps s₀ s) : Keeps s₀ (s.actRetrust w) :=
  h.thm

/-- What a refused action reports leaves the frame. -/
theorem reported {r : State × Verdict} {w : RegWrite} (h : Keeps s₀ r.1) : Keeps s₀ (State.reported r w) := by
  unfold State.reported
  split
  · exact h
  · exact h.ignoredField
  · exact h.ignoredWhole

theorem actOtpCmd {w : RegWrite} (h : Keeps s₀ s) : Keeps s₀ (s.actOtpCmd w) := by
  unfold State.actOtpCmd
  split
  · exact h.ignoredField
  · split
    · exact .reported h.otpProgram
    · exact .reported h.otpLock
    · exact h.ignoredField

theorem actSecCtl {w : RegWrite} (h : Keeps s₀ s) : Keeps s₀ (s.actSecCtl w) := by
  unfold State.actSecCtl
  extract_lets s₁ s₂ s₃
  have h₁ : Keeps s₀ s₁ := .ite (.reported h.keygen) h
  have h₂ : Keeps s₀ s₂ := .ite (.reported h₁.kxSet) h₁
  have h₃ : Keeps s₀ s₃ := .ite (.reported h₂.revoke) h₂
  exact .ite h.ignoredField (.ite h₃ (.reported h₃.lifeAdv))

theorem actDbgReq {w : RegWrite} (h : Keeps s₀ s) : Keeps s₀ (s.actDbgReq w) := by
  unfold State.actDbgReq
  extract_lets s₁ s₂
  have h₁ : Keeps s₀ s₁ := .reported (h.levelRequest (Nat.mod_lt _ (by decide)))
  have h₂ : Keeps s₀ s₂ := .ite h₁.endSession h₁
  exact .ite h₂.newChallenge h₂

theorem twGo {t : State} (h : Keeps s₀ s) (ht : s.twGo = some t) : Keeps s₀ t := by
  obtain ⟨-, ⟨⟩⟩ := Option.ite_none_left_eq_some.mp ht
  exact h.tw.emit

theorem actChctl {w : RegWrite} {i : Nat} (h : Keeps s₀ s) : Keeps s₀ (s.actChctl w i) := by
  unfold State.actChctl
  extract_lets both may s₁ s₂
  have h₁ : Keeps s₀ s₁ := .ite h.ignoredField (.bitAction (fun _ _ h => h.resumeChan) h)
  have h₂ : Keeps s₀ s₂ := .bitAction (fun _ _ h => h.discardChan) h₁
  exact .bitAction (fun _ _ h ht => h.retrainChan (Option.ite_none_right_eq_some.mp ht).2) h₂

theorem actDismiss {w : RegWrite} (h : Keeps s₀ s) : Keeps s₀ (s.actDismiss w) := by
  unfold State.actDismiss
  extract_lets
  split
  · exact .ite h.scb (.ite h.ignoredField h.ignoredField)
  · exact h.ignoredField

theorem actRetire {w : RegWrite} {n : Nat} (h : Keeps s₀ s) : Keeps s₀ (s.actRetire w n) :=
  .foldl (fun _ _ h => h.retire) h

theorem actReady {w : RegWrite} {r : Nat} (h : Keeps s₀ s) : Keeps s₀ (s.actReady w r) :=
  .foldl (fun _ _ h => h.fmtStop) h

theorem act {w : RegWrite} {n : RegName} {i : Nat} (h : Keeps s₀ s) : Keeps s₀ (s.act w n i) := by
  unfold State.act
  split
  · exact h.actRstCtl
  · exact h.actRstBlock
  · exact h.actClampAck
  · exact h.actPwrCtl
  · exact .bitAction (fun _ _ h ht => Option.some.inj ht ▸ h.calNow) h
  · exact h.actRetrust
  · split
    case h_1 t ht => exact h.fltAck ht
    case h_2 => exact h.ignoredField
  · exact .reported h.fltInject
  · exact h.actOtpCmd
  · refine .bitAction (fun _ _ h => h.stackTest) (.bitAction (fun _ _ h ht => ?_) (.bitAction (fun _ _ h => h.bistRun) h))
    exact Option.some.inj ht ▸ h.bistStop
  · exact h.actSecCtl
  · exact h.actDbgReq
  · exact h.dbg
  · exact .bitAction (fun _ _ h => h.twGo) h
  · exact .bitAction (fun _ _ h => h.recoverPort) (.bitAction (fun _ _ h => h.retrainPort) h)
  · exact h.actRetire
  · exact h.actDismiss
  · exact .bitAction (fun _ _ h => h.disableSq) (.bitAction (fun _ _ h => h.enableSq) h)
  · exact .bitAction (fun _ _ h => h.resumeCq) (.bitAction (fun _ _ h => h.disableCq) (.bitAction (fun _ _ h => h.enableCq) h))
  · exact h.actChctl
  · exact h.actReady
  · exact h

theorem actLate (h : Keeps s₀ s) : Keeps s₀ s.actLate := by
  unfold State.actLate
  extract_lets
  split
  · exact h
  · refine .foldl (fun _ _ h => ?_) h.regs
    split
    · exact h.act.takeFields
    · exact h

theorem writeReg {w : RegWrite} {n : RegName} {i : Nat} (h : Keeps s₀ s) : Keeps s₀ (s.writeReg w n i) := by
  unfold State.writeReg
  extract_lets _ _ _ _ _ _ _ s₁
  have h₁ : Keeps s₀ s₁ := .takeFields (.commitFields (.ite h.actLate h.actLate.act))
  exact .ite h.ignoredWhole (.ite h.actLate.commitFields.regs (.ite h₁.act.actLate h₁.actLate))

theorem writeInd {w : RegWrite} {a : Nat} (h : Keeps s₀ s) : Keeps s₀ (s.writeInd w a) := by
  unfold State.writeInd
  extract_lets
  split
  · exact h.writeReg
  · exact h.clampNote

theorem advance {src k : Nat} (h : Keeps s₀ s) : Keeps s₀ (s.advance src k) :=
  h.setPtr

theorem writeWin {w : RegWrite} {k : Nat} (h : Keeps s₀ s) : Keeps s₀ (s.writeWin w k) :=
  h.writeInd.advance

theorem writeDirect {w : RegWrite} {a : Nat} (h : Keeps s₀ s) : Keeps s₀ (s.writeDirect w a) := by
  unfold State.writeDirect
  extract_lets
  split
  · exact h.writeWin
  · exact h.writeReg
  · exact h.clampNote

theorem readDirect {src k : Nat} (h : Keeps s₀ s) : Keeps s₀ (s.readDirect src k).1 := by
  unfold State.readDirect
  split
  · exact h.advance
  · exact h.fltSnapshot
  · exact h
  · exact h

theorem cfgWake (h : Keeps s₀ s) : Keeps s₀ s.cfgWake :=
  .ite h.startExit h

theorem onPath {p : Path} {served : Bool} {x : Parked} {go : State → State} (h : Keeps s₀ s)
    (hgo : ∀ t, Keeps s₀ t → Keeps s₀ (go t)) : Keeps s₀ (s.onPath p served x go) :=
  .ite (hgo _ (.ite h.cfgWake h)) (.ite h.park h)

theorem pathRead {p : Path} {k : Nat} (h : Keeps s₀ s) : Keeps s₀ (s.pathRead p k) :=
  h.onPath fun _ h => h.readDirect.emit

theorem pathWrite {p : Path} {k : Nat} {data : Word} {port : Nat} {fail : Option (BitVec 4)} (h : Keeps s₀ s) :
    Keeps s₀ (s.pathWrite p k data port fail) :=
  h.onPath fun _ h => h.writeDirect.noteLevel

theorem namedWrite {p : Path} {n : RegName} {i : Nat} {data : Word} {port : Nat} {fail : Option (BitVec 4)} (h : Keeps s₀ s) :
    Keeps s₀ (s.namedWrite p n i data port fail) :=
  h.onPath fun _ h => h.writeReg.noteLevel

end Keeps

end Sys2Proof.Machine
end

section
/-! SUPPORT. The frame of writes and reads of registers: what each operation leaves as it is. -/

set_option Elab.async false

namespace Sys2Proof.Machine
open Sys2Proof.Safety

namespace Keeps
variable {s₀ s : State}

theorem upset {u : Upset} (h : Keeps s₀ s) : Keeps s₀ (s.upset u) := by
  unfold State.upset
  extract_lets
  split
  · exact h
  · exact h.store.setPar

theorem upsetFound {u : Upset} (h : Keeps s₀ s) : Keeps s₀ (s.upsetFound u) :=
  .ite h.upset.collectorOdd.parityTrip h.upset

end Keeps

end Sys2Proof.Machine
end

section
/-! SUPPORT. The frame of the two-wire interface: what each operation leaves as it is. -/

set_option Elab.async false

namespace Sys2Proof.Machine
open Sys2Proof.Safety

namespace Keeps
variable {s₀ s : State}

theorem twDecode {byte : Byte} (h : Keeps s₀ s) : Keeps s₀ (s.twDecode byte) :=
  .ite h.tw.emit h.tw

theorem twTake {byte : Byte} (h : Keeps s₀ s) : Keeps s₀ (s.twTake byte) := by
  unfold State.twTake
  extract_lets
  split
  · exact h.tw.emit
  · exact h.tw.emit
  · exact .ite h.tw.emit h.tw.emit
  · exact h
  · exact h
  · exact h
  · exact h

theorem twSend {first acked : Bool} (h : Keeps s₀ s) : Keeps s₀ (s.twSend first acked) :=
  .emit (.tw (.ite h.readDirect.tw h))

theorem twPartial {a count : Nat} (h : Keeps s₀ s) : Keeps s₀ (s.twPartial a count) :=
  .ite h h.clampNote

theorem twCommit {k : Nat} {l : List Word} (h : Keeps s₀ s) : Keeps s₀ (s.twCommit k l) := by
  induction l generalizing s k with
  | nil => exact h
  | cons w l ih => exact .ite h.pathWrite (ih h.pathWrite)

theorem twFail {r : TwResult} {done : Nat} (h : Keeps s₀ s) : Keeps s₀ (s.twFail r done) :=
  .ite (.refuseImage (.vqpsEnded (.ite h.tw h.tw.raise))) (.vqpsEnded (.ite h.tw h.tw.raise))

theorem twFill {k : Nat} {l : List Byte} (h : Keeps s₀ s) : Keeps s₀ (s.twFill k l) := by
  induction l generalizing s k with
  | nil => exact h
  | cons b l ih => exact ih h.setCfg

theorem twArrive {bytes : List Byte} (h : Keeps s₀ s) : Keeps s₀ (s.twArrive bytes) :=
  .ite h h.twFill

end Keeps

end Sys2Proof.Machine
end

section
/-! SUPPORT. The frame of what arrives on a port and reaches registers: what each operation leaves as it is. -/

set_option Elab.async false

namespace Sys2Proof.Machine
open Sys2Proof.Safety

namespace Keeps
variable {s₀ s : State}

theorem hotReset {n : Nat} (h : Keeps s₀ s) : Keeps s₀ (s.hotReset n) :=
  .ite h.hardReset h.portDown

theorem takeTs1 {n : Nat} {ts : TrainSet} (h : Keeps s₀ s) : Keeps s₀ (s.takeTs1 n ts) := by
  unfold State.takeTs1
  extract_lets
  split
  · exact .hotReset (.ite h.updPort.judgeRun h.updPort)
  · split
    · exact .portDown (.ite h.updPort.judgeRun h.updPort)
    · exact .ite (.recover (.ite h.updPort.judgeRun h.updPort)) (.countTrain (.ite h.updPort.judgeRun h.updPort))

theorem cfgReads {n k : Nat} {l : List Word} (h : Keeps s₀ s) : Keeps s₀ (s.cfgReads n k l).1 := by
  induction n generalizing s k l with
  | zero => exact h
  | succ n ih => exact ih h.readDirect

theorem cfgWrites {port k : Nat} {l : List Word} (h : Keeps s₀ s) : Keeps s₀ (s.cfgWrites port k l) := by
  induction l generalizing s k with
  | nil => exact h
  | cons w l ih =>
    unfold State.cfgWrites
    extract_lets s₁
    have h₁ : Keeps s₀ s₁ := .ite h.writeDirect.noteLevel h
    exact .ite h₁ (ih h₁)

theorem takeCfgRd {n : Nat} {p : Packet} (h : Keeps s₀ s) : Keeps s₀ (s.takeCfgRd n p) :=
  .ite h.park (.ite h.cfgWake (.ite h.cfgWake.answer h.cfgWake.cfgReads.answer))

theorem otpBarred {p : Packet} {t : State} (h : Keeps s₀ s) (ht : s.otpBarred p = some t) : Keeps s₀ t := by
  obtain ⟨-, ht⟩ := Option.ite_none_right_eq_some.mp ht
  obtain ⟨-, ht⟩ := Option.ite_none_left_eq_some.mp ht
  obtain ⟨-, ⟨⟩⟩ := Option.ite_none_right_eq_some.mp ht
  exact .ite h.otpProgram (.ite h.otpLock h)

theorem takeCfgWr {n : Nat} {p : Packet} (h : Keeps s₀ s) : Keeps s₀ (s.takeCfgWr n p) := by
  unfold State.takeCfgWr
  extract_lets s₁
  have h₁ : Keeps s₀ s₁ := h.cfgWake
  refine .ite h.park (.ite h₁ (.ite h₁.answer ?_))
  split
  case h_1 t ht => exact (h₁.otpBarred ht).answer
  case h_2 => exact .ite h₁.cfgWrites h₁.cfgWrites.answer

theorem serveOne {x : Parked} (h : Keeps s₀ s) : Keeps s₀ (s.serveOne x) := by
  unfold State.serveOne
  split
  · exact .ite h.takeCfgRd (.ite h.takeCfgWr h.bell)
  · extract_lets
    split
    · exact h
    · split
      · exact .noteLevel (.ite h.writeInd h.writeDirect)
      · exact h.readDirect.emit

theorem serveParked (h : Keeps s₀ s) : Keeps s₀ s.serveParked :=
  .foldl (fun _ _ h => h.serveOne) h.lnk

theorem startLog {c : Cmd} (h : Keeps s₀ s) : Keeps s₀ (s.startLog c) :=
  .ite h h.begin_.mwrAll.finish

end Keeps

end Sys2Proof.Machine
end

section
/-! SUPPORT. The frame of the stalled blocks that run again: what each operation leaves as it is. -/

set_option Elab.async false

namespace Sys2Proof.Machine
open Sys2Proof.Safety

namespace Keeps
variable {s₀ s : State}

theorem resume (h : Keeps s₀ s) : Keeps s₀ s.resume :=
  h.actLate.serveParked.flushHeld

end Keeps

end Sys2Proof.Machine
end

section
/-! SUPPORT. The frame of the JTAG port: what each operation leaves as it is. -/

set_option Elab.async false

namespace Sys2Proof.Machine
open Sys2Proof.Safety

namespace Keeps
variable {s₀ s : State}

theorem dbgAccess {r : DbgReg} {wr : Option Word} (h : Keeps s₀ s) : Keeps s₀ (s.dbgAccess r wr) := by
  unfold State.dbgAccess
  extract_lets
  split
  · exact h
  · split
    · exact h.emit
    · exact h.writeReg.noteLevel

theorem scanCells {cells : BitVec 17} (h : Keeps s₀ s) : Keeps s₀ (s.scanCells cells) :=
  emit (h.dbg (x := { s.dbg with cells := cells })).same

theorem tapDoes {x : TapInstr} (h : Keeps s₀ s) : Keeps s₀ (s.tapDoes x) := by
  unfold State.tapDoes
  extract_lets
  split
  · exact h.emit
  · exact h
  · exact h.dbgAccess
  · exact h.scanCells
  · exact h.scanCells
  · exact .ite h (.ite h.readDirect.free.emit h.readDirect.emit)
  · exact .ite (.ite h.free h) (.pathWrite (.ite h.free h))
  · exact h.free.emit
  · exact .ite h.die h
  · exact h
  · exact .ite h.hiveResume.otpPump h
  · exact h.free.emit
  · exact h.die
  · exact h

end Keeps

end Sys2Proof.Machine
end

section
/-! PROOF. Every command answers a next state that keeps the waiting commands and the form (O3). -/

set_option Elab.async false

namespace Sys2Proof.Machine
open Sys2Proof.Safety

/-- The outcome is a next state, and it keeps the waiting commands and the form. -/
def Answers (s₀ : State) (o : Host.Outcome State Fault Refusal) : Prop := ∃ t, o = .next t ∧ Keeps s₀ t

namespace Answers
variable {s₀ t : State}

theorem next (h : Keeps s₀ t) : Answers s₀ (.next t) := ⟨t, rfl, h⟩

theorem ite {c : Prop} [Decidable c] {o o' : Host.Outcome State Fault Refusal} (ho : Answers s₀ o) (ho' : Answers s₀ o') :
    Answers s₀ (if c then o else o') := by
  split
  · exact ho
  · exact ho'

end Answers

namespace Keeps
variable {s₀ s : State}

theorem execDescriptorFetch {q : BitVec 12} (h : Keeps s₀ s) : Answers s₀ (Machine.execDescriptorFetch q s) :=
  .next (.ite h.takeDescs.reportLost.turnOf h.takeDescs.reportLost)

theorem execSqDoorbell {n : BitVec 2} {pkt : Packet} (h : Keeps s₀ s) : Answers s₀ (Machine.execSqDoorbell n pkt s) :=
  .next (.ite h.arrive.ringBell h.arrive)

theorem execCqDoorbell {n : BitVec 2} {pkt : Packet} (h : Keeps s₀ s) : Answers s₀ (Machine.execCqDoorbell n pkt s) :=
  .next (.ite h.arrive.ringBell h.arrive)

theorem execCoalTimeout {q : BitVec 12} (h : Keeps s₀ s) : Answers s₀ (Machine.execCoalTimeout q s) :=
  .next (.ite h.notify h)

theorem execDataFloorReached (h : Keeps s₀ s) : Answers s₀ (Machine.execDataFloorReached s) :=
  .next (.ite h.noteLevel.flushHeld h)

theorem execScarabRead {i : BitVec 10} (h : Keeps s₀ s) : Answers s₀ (Machine.execScarabRead i s) :=
  .next h.scarabNext

theorem execFormatWrite {i : BitVec 10} (h : Keeps s₀ s) : Answers s₀ (Machine.execFormatWrite i s) :=
  .next (.ite h.fmtNext h)

theorem execScarabPassEnd (h : Keeps s₀ s) : Answers s₀ (Machine.execScarabPassEnd s) :=
  .ite (.next (.judgeSeasons (.scb (.foldl (fun _ _ h => h.updTier) h.updChans)))) (.next h)

theorem execWakePassEnd {t : BitVec 5} (h : Keeps s₀ s) : Answers s₀ (Machine.execWakePassEnd t s) :=
  .ite (.next (.ite h.updTier.updChans.judgeSeasons h.updTier.updChans.postEvent)) (.next h)

theorem execBurstComplete {i : BitVec 10} {errs : List Nat} (h : Keeps s₀ s) :
    Answers s₀ (Machine.execBurstComplete i errs s) := by
  unfold Machine.execBurstComplete
  split
  · exact .next h
  · exact .next (.afterTransfer (.ite h.updChan.examine.written h.updChan.examine.streamed))

theorem execDecodeEnd {i : BitVec 10} {mis : Option Slot} (h : Keeps s₀ s) : Answers s₀ (Machine.execDecodeEnd i mis s) := by
  unfold Machine.execDecodeEnd
  split
  · exact .next h
  · extract_lets _ _ _ _ _ s₁ s₂ _ s₃
    have h₁ : Keeps s₀ s₁ := .ite h.updChan.countDecode.scarabDecoded h.updChan.countDecode.logOther
    have h₂ : Keeps s₀ s₂ := by
      unfold s₂
      split
      · exact h₁.tally
      · exact h₁
    have h₃ : Keeps s₀ s₃ := by
      unfold s₃
      split
      · exact .ite (.contentsRead (.ite h₂.freezeRead h₂)) (.mergeRelease (.ite h₂.freezeRead h₂))
      · exact .ite (.ite h₂.freezeRead h₂) (.mergeRelease (.ite h₂.freezeRead h₂))
    exact .next h₃.afterTransfer

/-- A step of a probe, where one can go, else what stands. -/
theorem calProbe_getD {i : Nat} {t : State} (h : Keeps s₀ s) (ht : Keeps s₀ t) : Keeps s₀ ((s.calProbe i).getD t) := by
  cases hp : s.calProbe i with
  | none => exact ht
  | some u => exact h.calProbe hp

theorem execRequestIssue {i : BitVec 10} (h : Keeps s₀ s) : Answers s₀ (Machine.execRequestIssue i s) := by
  unfold Machine.execRequestIssue
  extract_lets n s₁
  have h₁ : Keeps s₀ s₁ := h.issueOwed.issueNrefs.letIn
  split
  · exact .next h
  · split
    · exact .ite (.next h₁.issue) (.next (h₁.calProbe_getD h₁.issue))
    · exact .next (h₁.calProbe_getD h₁)

theorem execRefreshDue {i : BitVec 10} {ahead : Bool} (h : Keeps s₀ s) : Answers s₀ (Machine.execRefreshDue i ahead s) := by
  unfold Machine.execRefreshDue
  extract_lets
  split
  · exact .next h
  · split
    · exact .ite (.next h) (.ite (.next h.issueOwed) (.ite (.next h.issueRef) (.next h)))
    · exact .ite (.next h) (.next h.updChan.issueOwed.issueNrefs)

theorem execTalertLow {t : BitVec 5} (h : Keeps s₀ s) : Answers s₀ (Machine.execTalertLow t s) :=
  .next (.foldl (fun _ _ h => h.updChan.word) h)

theorem execMr6ReadDone {i : BitVec 10} {parErr : Bool} {win : Nat} {idle : Bool} (h : Keeps s₀ s) :
    Answers s₀ (Machine.execMr6ReadDone i parErr win idle s) := by
  unfold Machine.execMr6ReadDone
  extract_lets n u s₁
  have h₁ : Keeps s₀ s₁ := h.updChan
  refine .ite (.next h) (.next (.ite h₁.freezeParity ?_))
  cases u with
  | none => exact h₁
  | some f => exact h₁.failLate.freeze

theorem execTrainingProbeDone {i : BitVec 10} {res : ProbeEnd} (h : Keeps s₀ s) :
    Answers s₀ (Machine.execTrainingProbeDone i res s) :=
  .next h.trainProbe

theorem execNop {id : Nat} (h : Keeps s₀ s) : Answers s₀ (Machine.execNop id s) :=
  .next (h.turn (fun _ => h.startNop) fun _ _ => h.noBlock)

theorem execRead {id : Nat} (h : Keeps s₀ s) : Answers s₀ (Machine.execRead id s) :=
  .next (h.turn (fun _ => h.startRead) fun _ _ => h.readBlock)

theorem execWrite {id : Nat} (h : Keeps s₀ s) : Answers s₀ (Machine.execWrite id s) :=
  .next (h.turn (fun _ => h.startKeyed) fun _ _ => h.writeBlock)

theorem execFlush {id : Nat} (h : Keeps s₀ s) : Answers s₀ (Machine.execFlush id s) :=
  .next (h.turn (fun _ => h.startFlush) fun _ _ => h.noBlock)

theorem execFill {id : Nat} (h : Keeps s₀ s) : Answers s₀ (Machine.execFill id s) :=
  .next (h.turn (fun _ => h.startKeyed) fun _ _ => h.fillBlock)

theorem execCopy {id : Nat} (h : Keeps s₀ s) : Answers s₀ (Machine.execCopy id s) :=
  .next (h.turn (fun _ => h.startPlain) fun _ _ => h.copyBlock)

theorem execCompare {id : Nat} (h : Keeps s₀ s) : Answers s₀ (Machine.execCompare id s) :=
  .next (h.turn (fun _ => h.startPlain) fun _ _ => h.compareBlock)

theorem execCheck {id : Nat} (h : Keeps s₀ s) : Answers s₀ (Machine.execCheck id s) :=
  .next (h.turn (fun _ => h.startPlain) fun _ _ => h.readBlock)

theorem execVerify {id : Nat} (h : Keeps s₀ s) : Answers s₀ (Machine.execVerify id s) :=
  .next (h.turn (fun _ => h.startPlain) fun _ _ => h.verifyBlock)

theorem execRecode {id : Nat} (h : Keeps s₀ s) : Answers s₀ (Machine.execRecode id s) :=
  .next (h.turn (fun _ => h.startRecode) fun _ _ => h.recodeBlock)

theorem execSanitize {id : Nat} (h : Keeps s₀ s) : Answers s₀ (Machine.execSanitize id s) :=
  .next (h.turn (fun _ => h.startSanitize) fun _ _ => h.sanitizeBlock)

theorem execRepair {id : Nat} (h : Keeps s₀ s) : Answers s₀ (Machine.execRepair id s) :=
  .next (h.turn (fun _ => h.startPlain) fun _ _ => h.repairBlock)

theorem execSetLatency {id : Nat} (h : Keeps s₀ s) : Answers s₀ (Machine.execSetLatency id s) :=
  .next (h.turn (fun _ => h.startLatency) fun _ _ => h.noBlock)

theorem execAbort {id : Nat} (h : Keeps s₀ s) : Answers s₀ (Machine.execAbort id s) :=
  .next (h.turn (fun _ => h.startAbort) fun _ _ => h.noBlock)

theorem execKeyErase {k : BitVec 10} (h : Keeps s₀ s) : Answers s₀ (Machine.execKeyErase k s) :=
  .next h.eraseKey.fullWhenErased

theorem execKeyLoad {id : Nat} (h : Keeps s₀ s) : Answers s₀ (Machine.execKeyLoad id s) :=
  .next (h.turn (fun _ => h.startLoad) fun _ _ => h.noBlock)

theorem execAttest {id : Nat} (h : Keeps s₀ s) : Answers s₀ (Machine.execAttest id s) :=
  .next (.attestGo (h.turn (fun _ => h.startAttest) fun _ _ => h.noBlock))

theorem execKeyDestroy {id : Nat} (h : Keeps s₀ s) : Answers s₀ (Machine.execKeyDestroy id s) :=
  .next (h.turn (fun _ => h.startErasing h.begin_.finish) fun _ _ => h.noBlock)

theorem execQosAdaptStep (h : Keeps s₀ s) : Answers s₀ (Machine.execQosAdaptStep s) :=
  .ite (.next h) (.next (.letInAll (.qos (.foldl (fun _ _ h => h.updChan) h))))

theorem execAdmissionRecompute (h : Keeps s₀ s) : Answers s₀ (Machine.execAdmissionRecompute s) :=
  .ite (.next h) (.ite (.next h.admitNow) (.next h.qos))

theorem execTimeSetReceived {n : BitVec 2} {ts : TimeSet} (h : Keeps s₀ s) :
    Answers s₀ (Machine.execTimeSetReceived n ts s) :=
  .ite (.next h.lnk.takeTime.forwardTime) (.next h)

theorem execOrphanTimeout (h : Keeps s₀ s) : Answers s₀ (Machine.execOrphanTimeout s) :=
  .next (.ite h.goOrphan h)

theorem execLinkDetect {n : BitVec 2} (h : Keeps s₀ s) : Answers s₀ (Machine.execLinkDetect n s) :=
  .ite (.next h.updPort.toDetect) (.next h)

theorem execSignalDetected {n : BitVec 2} (h : Keeps s₀ s) : Answers s₀ (Machine.execSignalDetected n s) :=
  .next (.ite h.updPort h)

theorem execSymbolLock {n : BitVec 2} {lane : BitVec 3} {seen : LockSeen} (h : Keeps s₀ s) :
    Answers s₀ (Machine.execSymbolLock n lane seen s) :=
  .ite (.next h) (.next (.ite h.updPort.toConfig h.updPort))

theorem execTs2Received {n : BitVec 2} {lane : BitVec 3} {ts : TrainSet} {stamp : Nat} {sent : List Nat} (h : Keeps s₀ s) :
    Answers s₀ (Machine.execTs2Received n lane ts stamp sent s) :=
  .ite (.next h) (.next h.setPort.countTrain)

theorem execRateSwitchEnd {n : BitVec 2} (h : Keeps s₀ s) : Answers s₀ (Machine.execRateSwitchEnd n s) :=
  .next (.ite h.updPort.toLaneTrain h)

theorem execFallbackIdleEnd {n : BitVec 2} (h : Keeps s₀ s) : Answers s₀ (Machine.execFallbackIdleEnd n s) :=
  .next (.ite h.updPort.sendTs1 h)

theorem execLaneTrainDone {n : BitVec 2} (h : Keeps s₀ s) : Answers s₀ (Machine.execLaneTrainDone n s) :=
  .next (.ite h.toDeskew h)

theorem execLmkReceived {n : BitVec 2} {lane : BitVec 3} {num count : Byte} {delay : Nat} (h : Keeps s₀ s) :
    Answers s₀ (Machine.execLmkReceived n lane num count delay s) :=
  .ite (.next h) (.next h.updPort.judgeDeskew)

theorem execLinkStateTimeout {n : BitVec 2} (h : Keeps s₀ s) : Answers s₀ (Machine.execLinkStateTimeout n s) := by
  unfold Machine.execLinkStateTimeout
  extract_lets
  split
  · exact .next h.portDown
  · split
    · exact .next h
    · split
      · exact .next h.toDetect
      · exact .next h.toDetect
      · exact .next h.toDeskew
      · exact .next h.updPort.toConfirm
      · exact .next (.ite h.portDown h.fallback)
      · exact .next h
      · exact .next h
      · exact .next h
      · exact .next h
      · exact .next h

theorem execLaneError {n : BitVec 2} {lane : BitVec 3} {rx : RxError} {place : ErrPlace} (h : Keeps s₀ s) :
    Answers s₀ (Machine.execLaneError n lane rx place s) := by
  unfold Machine.execLaneError
  extract_lets
  split
  · exact .next h
  · split
    · exact .next h.updPort
    · exact .next (.ite (.recover (.ite h.updPort.sendNak h.updPort)) (.ite h.updPort.sendNak h.updPort))

theorem execSignalLoss {n : BitVec 2} (h : Keeps s₀ s) : Answers s₀ (Machine.execSignalLoss n s) :=
  .next (.ite h.recover h)

theorem execSkpReceived {n : BitVec 2} {count : BitVec 4} {aligned : Bool} (h : Keeps s₀ s) :
    Answers s₀ (Machine.execSkpReceived n count aligned s) :=
  .ite (.next h) (.next (.ite h.free.updPort h.free.updPort.recover))

theorem execSkpDue {n : BitVec 2} (h : Keeps s₀ s) : Answers s₀ (Machine.execSkpDue n s) :=
  .next (.ite h.emit.emit h)

theorem execIdlEReceived {n : BitVec 2} {onL0 : Bool} (h : Keeps s₀ s) : Answers s₀ (Machine.execIdlEReceived n onL0 s) := by
  unfold Machine.execIdlEReceived
  extract_lets
  split
  · exact .next h.fallback
  · exact .next h.fallback
  · exact .next h.fallback
  · exact .next h.free.updPort.retarget
  · exact .next h
  · exact .next h
  · exact .next h
  · exact .next h
  · exact .next h
  · exact .next h

theorem execFireflyBurstEnd {n : BitVec 2} {service locked : Bool} (h : Keeps s₀ s) :
    Answers s₀ (Machine.execFireflyBurstEnd n service locked s) :=
  .ite (.next h) (.ite (.next h.recover) (.next h.updPort.retarget))

theorem execL0Sleep {n : BitVec 2} (h : Keeps s₀ s) : Answers s₀ (Machine.execL0Sleep n s) :=
  .ite (.next (.retarget (.ite h.emit.updPort.clk h.emit.updPort))) (.next h)

theorem execAckReceived {n : BitVec 2} {ackseq : BitVec 12} {w1 : Word} (h : Keeps s₀ s) :
    Answers s₀ (Machine.execAckReceived n ackseq w1 s) := by
  unfold Machine.execAckReceived
  split
  next ht => exact .next (h.takeAck ht).pumpAll
  next => exact .next h

theorem execNakReceived {n : BitVec 2} {ackseq : BitVec 12} {w1 : Word} (h : Keeps s₀ s) :
    Answers s₀ (Machine.execNakReceived n ackseq w1 s) := by
  unfold Machine.execNakReceived
  split
  next ht => exact .next (h.takeAck ht).replayAll.pumpAll
  next => exact .next h

theorem execPacketError {n : BitVec 2} {rx : List Byte} {framing : Bool} (h : Keeps s₀ s) :
    Answers s₀ (Machine.execPacketError n rx framing s) :=
  .ite (.next h) (.next (.ite (.ite h h.updPort) (.sendNak (.ite h h.updPort))))

theorem execAckLatencyTimeout {n : BitVec 2} (h : Keeps s₀ s) : Answers s₀ (Machine.execAckLatencyTimeout n s) :=
  .next (.ite h.sendAck h)

theorem execReplayTimeout {n : BitVec 2} (h : Keeps s₀ s) : Answers s₀ (Machine.execReplayTimeout n s) :=
  .next (.ite h.replayAll h)

theorem execCplReceived {n : BitVec 2} {pkt : Packet} (h : Keeps s₀ s) : Answers s₀ (Machine.execCplReceived n pkt s) :=
  .next (.ite h.arrive.takeCpl h.arrive)

theorem execMrdTimeout {tag : BitVec 12} (h : Keeps s₀ s) : Answers s₀ (Machine.execMrdTimeout tag s) := by
  unfold Machine.execMrdTimeout
  split
  · exact .next (.ite h.endMrd h)
  · exact .next h

theorem execTurn {n : BitVec 2} {pkt : Packet} (h : Keeps s₀ s) : Answers s₀ (Machine.execTurn n pkt s) :=
  .next (.ite h.arrive.takeTurn h.arrive)

theorem execTurnTimeout {n : BitVec 2} (h : Keeps s₀ s) : Answers s₀ (Machine.execTurnTimeout n s) :=
  .next (.ite h.updPort h)

theorem execIdleTimeout (h : Keeps s₀ s) : Answers s₀ (Machine.execIdleTimeout s) :=
  .next h.judgeIdle

theorem execRingWindowExpire {q : BitVec 12} (h : Keeps s₀ s) : Answers s₀ (Machine.execRingWindowExpire q s) :=
  .next (.ite h h.judgeIdle)

theorem execWakePulseEnd (h : Keeps s₀ s) : Answers s₀ (Machine.execWakePulseEnd s) :=
  .next (.ite h.pwr h)

theorem execGateOpeningStart (h : Keeps s₀ s) : Answers s₀ (Machine.execGateOpeningStart s) := by
  unfold Machine.execGateOpeningStart
  extract_lets
  split
  · exact .next h
  · exact .ite (.next h) (.next h.grant.pwr.updTier)

theorem execTierGood {t : BitVec 5} (h : Keeps s₀ s) : Answers s₀ (Machine.execTierGood t s) :=
  .ite (.next h) (.next h.pwr.resetTier.updTier.inputChange.noteLevel)

theorem execTierGateTimeout {t : BitVec 5} (h : Keeps s₀ s) : Answers s₀ (Machine.execTierGateTimeout t s) :=
  .ite (.next h) (.next h.pwr.closeGates.updTier.raise)

theorem execGateClosing {t : BitVec 5} (h : Keeps s₀ s) : Answers s₀ (Machine.execGateClosing t s) := by
  unfold Machine.execGateClosing
  extract_lets _ _ _ _ _ _ s₁
  have h₁ : Keeps s₀ s₁ := .reopenGate (.failAll (.closeGates (.pwr (.grant (.ite h h.selfRefresh)))))
  exact .ite (.next h) (.next h₁.inputChange.noteLevel)

theorem execTrstRelease {t : BitVec 5} (h : Keeps s₀ s) : Answers s₀ (Machine.execTrstRelease t s) :=
  .ite (.next h.updTier.updChans.readIdentity) (.next h)

theorem execIdentityCheck {t : BitVec 5} {ident : TierId} (h : Keeps s₀ s) :
    Answers s₀ (Machine.execIdentityCheck t ident s) := by
  unfold Machine.execIdentityCheck
  extract_lets
  split
  · exact .next h
  · exact .ite (.next h.updTier.raise) (.ite (.next h.updTier.trainTier.heldFreq) (.next h.updTier.heldFreq))

theorem execBistPeriodicDue (h : Keeps s₀ s) : Answers s₀ (Machine.execBistPeriodicDue s) :=
  .ite (.next h) (.next h.bst)

theorem execSensorSample {base : List (BitVec 10)} (h : Keeps s₀ s) : Answers s₀ (Machine.execSensorSample base s) := by
  unfold Machine.execSensorSample
  extract_lets
  split
  · exact .next (.foldl (fun _ _ h => h.judgeRaw) h)
  · exact .next (.foldl (fun _ _ h => h.newTemp) (.foldl (fun _ _ h => h.thm) h))

theorem execTierSensorFrame {t : BitVec 5} {frame : BitVec 12} (h : Keeps s₀ s) :
    Answers s₀ (Machine.execTierSensorFrame t frame s) := by
  unfold Machine.execTierSensorFrame
  extract_lets
  split
  · exact .next h
  · split
    · exact .next (.ite h.judgeRaw h)
    · exact .ite (.next h.thm.judgeDistrust.newTemp) (.next (.ite h.thm.suspectTier h.thm))

theorem execGraceTimeout (h : Keeps s₀ s) : Answers s₀ (Machine.execGraceTimeout s) := by
  unfold Machine.execGraceTimeout
  split
  · exact .next h
  · exact .ite (.next h) (.next h.cut.postEvent)

theorem execCalRoundDone {item : CalItem} {res : CalResult} (h : Keeps s₀ s) :
    Answers s₀ (Machine.execCalRoundDone item res s) := by
  unfold Machine.execCalRoundDone
  extract_lets _ s₁
  have h₁ : Keeps s₀ s₁ := by
    unfold s₁
    split
    · exact h.dropProbes
    · exact h
  exact .ite (.next h) (.next h₁.cal.calSettle)

theorem execEyeMeasureDone {n : BitVec 2} {lane : BitVec 3} {steps : BitVec 7} (h : Keeps s₀ s) :
    Answers s₀ (Machine.execEyeMeasureDone n lane steps s) :=
  .ite (.next h.updPort.noteEye) (.ite (.next h.noteEye.laneCheck) (.next h))

theorem execPowerOnReset {cause : PorCause} (h : Keeps s₀ s) : Answers s₀ (Machine.execPowerOnReset cause s) := by
  cases cause with
  | _ => exact .next h.powerOn

theorem execPorstNRelease {strap : BitVec 3} (h : Keeps s₀ s) : Answers s₀ (Machine.execPorstNRelease strap s) :=
  .ite (.next h.same) (.next h)

theorem execRcReady (h : Keeps s₀ s) : Answers s₀ (Machine.execRcReady s) :=
  .ite (.next h.die) (.ite (.next h.same) (.ite (.next h.die) (.next h)))

theorem execStartupWatchdogExpiry (h : Keeps s₀ s) : Answers s₀ (Machine.execStartupWatchdogExpiry s) :=
  .ite (.next h.die.raise) (.next h)

theorem execOtpSenseDone {decay : List FuseRead} (h : Keeps s₀ s) : Answers s₀ (Machine.execOtpSenseDone decay s) := by
  unfold Machine.execOtpSenseDone
  extract_lets _ _ s₁
  have h₁ : Keeps s₀ s₁ := .foldl (fun _ _ h => .ite h h.raise) h.otp
  split
  · exact .next h
  · exact .ite (.next (.die (.loadRepairs (.ite h₁.raise h₁)))) (.next (.release (.loadRepairs (.ite h₁.raise h₁))))

theorem execMemoryBistDone {group : BitVec 4} {fails : Nat} (h : Keeps s₀ s) :
    Answers s₀ (Machine.execMemoryBistDone group fails s) := by
  unfold Machine.execMemoryBistDone
  extract_lets _ _ _ _ _ _ _ _ s₃ half _ s₄ s₅
  have h₃ : Keeps s₀ s₃ := .ite (raise h.same.bst) h.same.bst
  clear_value s₃
  have hpcd := h₃.pcd (x := { s₃.pcd with codecOut := s₃.pcd.codecOut ||| (Config.failedEngines s₃.free &&& half) })
  have h₄ : Keeps s₀ s₄ := .ite hpcd.free h₃
  have h₅ : Keeps s₀ s₅ := .ite h₄.readImage h₄
  exact .ite (.next h) (.next h₅.judgeImage.noteLevel)

theorem execImageReadDone (h : Keeps s₀ s) : Answers s₀ (Machine.execImageReadDone s) :=
  .ite (.next h) (.next h.same.judgeImage)

theorem execImageRetry (h : Keeps s₀ s) : Answers s₀ (Machine.execImageRetry s) :=
  .ite (.next h) (.next h.readImage)

theorem execDataService (h : Keeps s₀ s) : Answers s₀ (Machine.execDataService s) :=
  .ite (.next h) (.next h.same.admitNow.stepCounter.noteLevel)

theorem execResetNLow {ns : Nat} (h : Keeps s₀ s) : Answers s₀ (Machine.execResetNLow ns s) :=
  .ite (.next h) (.next (h.onPin fun _ h => .ite (.ite h h.free) (.hardReset (.die (.ite h h.free)))))

theorem execResetNRise (h : Keeps s₀ s) : Answers s₀ (Machine.execResetNRise s) :=
  .next (h.onPin fun _ h => .ite h.die.endHold h.die)

theorem execResetHoldEnd (h : Keeps s₀ s) : Answers s₀ (Machine.execResetHoldEnd s) :=
  .next (.ite h.endHold h)

theorem execQuiesceOverrun {t : BitVec 5} (h : Keeps s₀ s) : Answers s₀ (Machine.execQuiesceOverrun t s) :=
  .ite (.next h) (.next (.ite h.raise.unretain.pwr h.raise.unretain.pwr.resetTier))

theorem execClickRestart (h : Keeps s₀ s) : Answers s₀ (Machine.execClickRestart s) :=
  .ite (.next h) (.next h.warmReset.postEvent)

theorem execWakeNFall (h : Keeps s₀ s) : Answers s₀ (Machine.execWakeNFall s) :=
  .next (.ite h (h.onPin fun _ h => h.wake))

theorem execL0SignalWake {n : BitVec 2} (h : Keeps s₀ s) : Answers s₀ (Machine.execL0SignalWake n s) :=
  .next (.ite h.wake h)

theorem execRailUndervoltage {rail : Rail} (h : Keeps s₀ s) : Answers s₀ (Machine.execRailUndervoltage rail s) := by
  cases rail with
  | aon | core => exact .next h.powerOn
  | lnk => exact .next h.die.portsDown.raise
  | io => exact .next h.die.raise
  | vddT | vppT => exact .next h.die.supplyFell.raise

theorem execRailRestored {rail : Rail} (h : Keeps s₀ s) : Answers s₀ (Machine.execRailRestored rail s) := by
  cases rail with
  | aon | core => exact .next h
  | lnk | io | vddT | vppT => exact .next h.die

theorem execXtalGood (h : Keeps s₀ s) : Answers s₀ (Machine.execXtalGood s) :=
  .ite (.next h) (.next h.clk)

theorem execXtalTimeout (h : Keeps s₀ s) : Answers s₀ (Machine.execXtalTimeout s) :=
  .next (.ite h.raise h)

theorem execXtalFail (h : Keeps s₀ s) : Answers s₀ (Machine.execXtalFail s) :=
  .next (.ite h h.xtalFailed.raise)

theorem execRcWatchTrip (h : Keeps s₀ s) : Answers s₀ (Machine.execRcWatchTrip s) :=
  .next (.ite h h.rcTripped.raise)

theorem execPllMonitorTrip {pll : BitVec 6} {drift : Bool} (h : Keeps s₀ s) :
    Answers s₀ (Machine.execPllMonitorTrip pll drift s) :=
  .ite (.next h) (.next (.raise (.ite h.clk (.ite h.clk.clk (.ite h.clk.clk (.ite h.clk.clk h.clk.clk))))))

theorem execMuxForce {hive : Bool} (h : Keeps s₀ s) : Answers s₀ (Machine.execMuxForce hive s) :=
  .ite (.next h) (.next h.clk.raise)

theorem execOtpCommandEnd {normal strict : BitVec 39} (h : Keeps s₀ s) :
    Answers s₀ (Machine.execOtpCommandEnd normal strict s) := by
  unfold Machine.execOtpCommandEnd
  extract_lets
  split
  · exact .next h
  · extract_lets
    split
    · exact .next h
    · split
      · exact .next h.otp
      · exact .next h.otp.raiseUntrusted.otpAfter.otpDone

theorem execDebugTokenChecked (h : Keeps s₀ s) : Answers s₀ (Machine.execDebugTokenChecked s) := by
  unfold Machine.execDebugTokenChecked
  split
  case h_1 => exact .next h
  case h_2 level hl =>
    refine .next (.newChallenge (.ite h.tokenFailed (.ite (.fullWhenErased (h.eraseAs.dbg_of id fun _ _ => nofun)) ?_)))
    refine h.openSession fun g => ?_
    obtain ⟨-, -, hc, -⟩ := g
    obtain rfl | rfl := hc level hl <;> decide

theorem execDebugSessionExpire (h : Keeps s₀ s) : Answers s₀ (Machine.execDebugSessionExpire s) :=
  .next (.ite h.endSession h)

theorem execFaultEvent {ext : List FaultLine} (h : Keeps s₀ s) : Answers s₀ (Machine.execFaultEvent ext s) :=
  .ite (.next h) (.next (.collect (.flt (.foldl (fun _ _ h => h.raiseExt) h))))

theorem execFaultWindowEnd {src : BitVec 7} (h : Keeps s₀ s) : Answers s₀ (Machine.execFaultWindowEnd src s) := by
  unfold Machine.execFaultWindowEnd
  extract_lets
  split
  · exact .next h
  · exact .ite (.next h) (.next h.flt)

theorem execShadowEnd {src : BitVec 7} (h : Keeps s₀ s) : Answers s₀ (Machine.execShadowEnd src s) := by
  unfold Machine.execShadowEnd
  extract_lets _ _ _ s₁
  have h₁ : Keeps s₀ s₁ := h.flt
  refine .next ?_
  split
  · exact h₁.raise
  · exact h₁

theorem execCollectorParity {histOk : Bool} (h : Keeps s₀ s) : Answers s₀ (Machine.execCollectorParity histOk s) :=
  .next (.ite h.collectorOdd.parityTrip h)

theorem execEpochBoundary (h : Keeps s₀ s) : Answers s₀ (Machine.execEpochBoundary s) := by
  unfold Machine.execEpochBoundary
  extract_lets
  split
  · exact .next h
  · have h₁ := h.nextEpoch.budgetBoundary.qosBoundary.snapCounters.snapLanes
    exact .next h₁.scarabBoundary.thermalBoundary.calBoundary.bistBoundary.groupBoundary

theorem execRegisterWrite {p : Path} {addr : BitVec 16} {data : Word} (h : Keeps s₀ s) :
    Answers s₀ (Machine.execRegisterWrite p addr data s) :=
  .next h.pathWrite

theorem execIndWinAccess {p : Path} {k : BitVec 5} {wr : Option Word} (h : Keeps s₀ s) :
    Answers s₀ (Machine.execIndWinAccess p k wr s) := by
  unfold Machine.execIndWinAccess
  split
  · exact .next h.pathWrite
  · exact .next h.pathRead

theorem execFltStat0Read {p : Path} (h : Keeps s₀ s) : Answers s₀ (Machine.execFltStat0Read p s) :=
  .next h.pathRead

theorem execConfigParityScan {upset : Option Upset} (h : Keeps s₀ s) :
    Answers s₀ (Machine.execConfigParityScan upset s) := by
  unfold Machine.execConfigParityScan
  extract_lets s₁
  have h₁ : Keeps s₀ s₁ := by
    cases upset with
    | none => exact h
    | some u => exact h.upsetFound
  exact .ite (.next (.foldl (fun _ _ h => .ite h.raise h) h₁)) (.next h)

theorem execTwAddress {byte : Byte} (h : Keeps s₀ s) : Answers s₀ (Machine.execTwAddress byte s) :=
  .ite (.next (h.onPin fun _ h => h.twDecode)) (.next h)

theorem execTwWriteByte {byte : Byte} (h : Keeps s₀ s) : Answers s₀ (Machine.execTwWriteByte byte s) :=
  .next (h.onPin fun _ h => h.twTake)

theorem execTwReadByte {acked : Bool} (h : Keeps s₀ s) : Answers s₀ (Machine.execTwReadByte acked s) := by
  unfold Machine.execTwReadByte
  split
  · exact .next (h.onPin fun _ h => h.twSend)
  · exact .next (h.onPin fun _ h => h.twSend)
  · exact .next h
  · exact .next h
  · exact .next h
  · exact .next h
  · exact .next h

theorem execTwStop {repeated : Bool} (h : Keeps s₀ s) : Answers s₀ (Machine.execTwStop repeated s) :=
  .next h.tw.twCommit.twPartial.twPartial

theorem execTwMisplacedCondition {isStop inAckSlot : Bool} (h : Keeps s₀ s) :
    Answers s₀ (Machine.execTwMisplacedCondition isStop inAckSlot s) :=
  .next (.tw (.ite h.twDrop.twPartial h))

theorem execTwSdaTimeout (h : Keeps s₀ s) : Answers s₀ (Machine.execTwSdaTimeout s) :=
  .ite (.next h) (.next h.twDrop.twPartial.tw.raise)

theorem execTwTransactionEnd {res : TwResult} {done : Nat} {bytes : List Byte} (h : Keeps s₀ s) :
    Answers s₀ (Machine.execTwTransactionEnd res done bytes s) := by
  unfold Machine.execTwTransactionEnd
  extract_lets
  split
  · exact .next h
  · split
    · split
      · exact .next h.imageArrive
      · exact .next h.twFail
    · split
      · exact .next h
      · split
        · exact .next h.twFill.tw.vqpsEnded
        · exact .next h.twFill.twFail

theorem execTwArbLost {byte : Option Byte} {done : Nat} {bytes : List Byte} (h : Keeps s₀ s) :
    Answers s₀ (Machine.execTwArbLost byte done bytes s) := by
  unfold Machine.execTwArbLost
  extract_lets
  split
  · exact .next h
  · split
    · exact .next (.twDecode (.ite h.twArrive.tw.twFail h.twArrive.tw))
    · exact .next (.ite h.twArrive.tw.twFail h.twArrive.tw)

theorem execTwStretchTimeout {done : Nat} {bytes : List Byte} (h : Keeps s₀ s) :
    Answers s₀ (Machine.execTwStretchTimeout done bytes s) :=
  .ite (.next h.twArrive.twFail) (.next h)

theorem execTwBusRecovery {freed : Bool} (h : Keeps s₀ s) : Answers s₀ (Machine.execTwBusRecovery freed s) :=
  .ite (.next h) (.ite (.next h.tw.twFail) (.next h.tw))

theorem execTs1Received {n : BitVec 2} {lane : BitVec 3} {rx : TrainRx} (h : Keeps s₀ s) :
    Answers s₀ (Machine.execTs1Received n lane rx s) :=
  .ite (.next h) (.next h.updPort.takeTs1)

theorem execPacketForward {n : BitVec 2} {pkt : Packet} (h : Keeps s₀ s) : Answers s₀ (Machine.execPacketForward n pkt s) :=
  .next (.ite h h.arrive)

theorem execMalformedPacket {n : BitVec 2} {pkt : Packet} (h : Keeps s₀ s) :
    Answers s₀ (Machine.execMalformedPacket n pkt s) :=
  .next (.ite h.arrive h)

theorem execDuplicatePacket {n : BitVec 2} {pkt : Packet} (h : Keeps s₀ s) :
    Answers s₀ (Machine.execDuplicatePacket n pkt s) :=
  .next (.ite h.arrive h)

theorem execCfgRd {n : BitVec 2} {pkt : Packet} (h : Keeps s₀ s) : Answers s₀ (Machine.execCfgRd n pkt s) :=
  .next (.ite h.arrive.takeCfgRd h.arrive)

theorem execCfgWr {n : BitVec 2} {pkt : Packet} (h : Keeps s₀ s) : Answers s₀ (Machine.execCfgWr n pkt s) :=
  .next (.ite h.arrive.takeCfgWr h.arrive)

theorem execGetLog {id : Nat} (h : Keeps s₀ s) : Answers s₀ (Machine.execGetLog id s) :=
  .next (h.turn (fun _ => h.startLog) fun _ _ => h.noBlock)

theorem execCricketTick (h : Keeps s₀ s) : Answers s₀ (Machine.execCricketTick s) :=
  .next h.tick.drainBlocks.resume

theorem execPllLock {pll : BitVec 6} (h : Keeps s₀ s) : Answers s₀ (Machine.execPllLock pll s) :=
  .next h.pllLock.resume

theorem execTierRestartDue (h : Keeps s₀ s) : Answers s₀ (Machine.execTierRestartDue s) :=
  .next h.tierRestartDue.resume

theorem execBlockResetEnd {block : Byte} (h : Keeps s₀ s) : Answers s₀ (Machine.execBlockResetEnd block s) :=
  .next h.blockResetEnd.actLate

theorem execBistSegmentEnd {misr : Word} (h : Keeps s₀ s) : Answers s₀ (Machine.execBistSegmentEnd misr s) :=
  .next h.segmentEnd.drainBlocks.actLate

theorem execTapReset (h : Keeps s₀ s) : Answers s₀ (Machine.execTapReset s) :=
  .next h.dbg

theorem execTapInstruction {ins : TapInstr} (h : Keeps s₀ s) : Answers s₀ (Machine.execTapInstruction ins s) :=
  .next (.ite h h.dbg.tapDoes)

/-- Every command answers a next state that keeps the waiting commands and the form. -/
theorem exec {c : Instr} (h : Keeps s₀ s) : Answers s₀ (Machine.exec c s) := by
  cases c with
  | registerWrite => exact h.execRegisterWrite
  | indWinAccess => exact h.execIndWinAccess
  | fltStat0Read => exact h.execFltStat0Read
  | blockResetEnd => exact h.execBlockResetEnd
  | otpCommandEnd => exact h.execOtpCommandEnd
  | debugTokenChecked => exact h.execDebugTokenChecked
  | debugSessionExpire => exact h.execDebugSessionExpire
  | nop => exact h.execNop
  | read => exact h.execRead
  | write => exact h.execWrite
  | flush => exact h.execFlush
  | fill => exact h.execFill
  | copy => exact h.execCopy
  | compare => exact h.execCompare
  | check => exact h.execCheck
  | verify => exact h.execVerify
  | recode => exact h.execRecode
  | sanitize => exact h.execSanitize
  | keyLoad => exact h.execKeyLoad
  | keyDestroy => exact h.execKeyDestroy
  | keyErase => exact h.execKeyErase
  | attest => exact h.execAttest
  | repair => exact h.execRepair
  | getLog => exact h.execGetLog
  | setLatency => exact h.execSetLatency
  | abort => exact h.execAbort
  | descriptorFetch => exact h.execDescriptorFetch
  | sqDoorbell => exact h.execSqDoorbell
  | cqDoorbell => exact h.execCqDoorbell
  | dataFloorReached => exact h.execDataFloorReached
  | coalTimeout => exact h.execCoalTimeout
  | cricketTick => exact h.execCricketTick
  | timeSetReceived => exact h.execTimeSetReceived
  | orphanTimeout => exact h.execOrphanTimeout
  | epochBoundary => exact h.execEpochBoundary
  | bistSegmentEnd => exact h.execBistSegmentEnd
  | bistPeriodicDue => exact h.execBistPeriodicDue
  | requestIssue => exact h.execRequestIssue
  | burstComplete => exact h.execBurstComplete
  | decodeEnd => exact h.execDecodeEnd
  | refreshDue => exact h.execRefreshDue
  | talertLow => exact h.execTalertLow
  | mr6ReadDone => exact h.execMr6ReadDone
  | trainingProbeDone => exact h.execTrainingProbeDone
  | gateOpeningStart => exact h.execGateOpeningStart
  | tierGood => exact h.execTierGood
  | tierGateTimeout => exact h.execTierGateTimeout
  | gateClosing => exact h.execGateClosing
  | trstRelease => exact h.execTrstRelease
  | identityCheck => exact h.execIdentityCheck
  | formatWrite => exact h.execFormatWrite
  | scarabRead => exact h.execScarabRead
  | scarabPassEnd => exact h.execScarabPassEnd
  | wakePassEnd => exact h.execWakePassEnd
  | qosAdaptStep => exact h.execQosAdaptStep
  | admissionRecompute => exact h.execAdmissionRecompute
  | linkDetect => exact h.execLinkDetect
  | signalDetected => exact h.execSignalDetected
  | symbolLock => exact h.execSymbolLock
  | ts1Received => exact h.execTs1Received
  | ts2Received => exact h.execTs2Received
  | rateSwitchEnd => exact h.execRateSwitchEnd
  | laneTrainDone => exact h.execLaneTrainDone
  | lmkReceived => exact h.execLmkReceived
  | linkStateTimeout => exact h.execLinkStateTimeout
  | laneError => exact h.execLaneError
  | signalLoss => exact h.execSignalLoss
  | skpReceived => exact h.execSkpReceived
  | skpDue => exact h.execSkpDue
  | idlEReceived => exact h.execIdlEReceived
  | fireflyBurstEnd => exact h.execFireflyBurstEnd
  | l0Sleep => exact h.execL0Sleep
  | l0SignalWake => exact h.execL0SignalWake
  | eyeMeasureDone => exact h.execEyeMeasureDone
  | ackReceived => exact h.execAckReceived
  | nakReceived => exact h.execNakReceived
  | packetError => exact h.execPacketError
  | packetAbandoned => exact .next h
  | cplReceived => exact h.execCplReceived
  | cfgRd => exact h.execCfgRd
  | cfgWr => exact h.execCfgWr
  | turn => exact h.execTurn
  | packetForward => exact h.execPacketForward
  | ackLatencyTimeout => exact h.execAckLatencyTimeout
  | replayTimeout => exact h.execReplayTimeout
  | mrdTimeout => exact h.execMrdTimeout
  | turnTimeout => exact h.execTurnTimeout
  | idleTimeout => exact h.execIdleTimeout
  | ringWindowExpire => exact h.execRingWindowExpire
  | wakeNFall => exact h.execWakeNFall
  | wakePulseEnd => exact h.execWakePulseEnd
  | tierRestartDue => exact h.execTierRestartDue
  | sensorSample => exact h.execSensorSample
  | tierSensorFrame => exact h.execTierSensorFrame
  | graceTimeout => exact h.execGraceTimeout
  | clickRestart => exact h.execClickRestart
  | calRoundDone => exact h.execCalRoundDone
  | railUndervoltage => exact h.execRailUndervoltage
  | railRestored => exact h.execRailRestored
  | rcReady => exact h.execRcReady
  | startupWatchdogExpiry => exact h.execStartupWatchdogExpiry
  | xtalGood => exact h.execXtalGood
  | xtalTimeout => exact h.execXtalTimeout
  | xtalFail => exact h.execXtalFail
  | rcWatchTrip => exact h.execRcWatchTrip
  | pllLock => exact h.execPllLock
  | pllMonitorTrip => exact h.execPllMonitorTrip
  | muxForce => exact h.execMuxForce
  | powerOnReset => exact h.execPowerOnReset
  | porstNRelease => exact h.execPorstNRelease
  | resetNLow => exact h.execResetNLow
  | resetNRise => exact h.execResetNRise
  | resetHoldEnd => exact h.execResetHoldEnd
  | quiesceOverrun => exact h.execQuiesceOverrun
  | otpSenseDone => exact h.execOtpSenseDone
  | memoryBistDone => exact h.execMemoryBistDone
  | imageReadDone => exact h.execImageReadDone
  | imageRetry => exact h.execImageRetry
  | dataService => exact h.execDataService
  | faultEvent => exact h.execFaultEvent
  | faultWindowEnd => exact h.execFaultWindowEnd
  | shadowEnd => exact h.execShadowEnd
  | collectorParity => exact h.execCollectorParity
  | configParityScan => exact h.execConfigParityScan
  | twAddress => exact h.execTwAddress
  | twWriteByte => exact h.execTwWriteByte
  | twReadByte => exact h.execTwReadByte
  | twStop => exact h.execTwStop
  | twMisplacedCondition => exact h.execTwMisplacedCondition
  | twSdaTimeout => exact h.execTwSdaTimeout
  | twTransactionEnd => exact h.execTwTransactionEnd
  | twArbLost => exact h.execTwArbLost
  | twStretchTimeout => exact h.execTwStretchTimeout
  | twBusRecovery => exact h.execTwBusRecovery
  | tapReset => exact h.execTapReset
  | tapInstruction => exact h.execTapInstruction
  | fallbackIdleEnd => exact h.execFallbackIdleEnd
  | malformedPacket => exact h.execMalformedPacket
  | duplicatePacket => exact h.execDuplicatePacket
  | fltAck | clampAck | fltInject | timCfgWrite | budCapWrite | qosTcWrite | pcdSmapWrite | pcdRdySet | scbLogDismiss
    | maxMultWrite | tierFreqWrite | channelRetire | channelResume | channelDiscard | channelRetrain | sqEnable
    | sqDisable | cqEnable | cqDisable | cqResume | rngEvtCqWrite | portEnWrite | lnkRetrain | lnkRecover
    | nodeIdAssign | pwrWake | pwrOff | pwrTierGateWrite | thmRetrust | calNow | rstCtlHard | rstCtlWarm | rstBlock
    | otpProgram | otpLock | bistRun | bistStop | stackTest | keygen | kxSet | revoke | lifeAdv | dbgLevelRequest
    | dbgEnd | newchal | twGo =>
    exact .next h.namedWrite

end Keeps

end Sys2Proof.Machine

namespace Sys2Proof.Proofs
open Sys2Proof.Machine Sys2Proof.Safety

/-- Settles O3: the command at the front is carried out on the state with the rest of the queue, and every operation a command is made
of keeps the form. -/
theorem everyStepKeepsTheForm : Obligations.EveryStepKeepsTheForm := by
  unfold Obligations.EveryStepKeepsTheForm
  intro s t hs ht
  unfold step at ht
  split at ht
  case h_1 =>
    cases ht
    exact hs
  case h_2 c rest _ =>
    obtain ⟨u, hu, hk⟩ := Keeps.exec (c := c) (Keeps.refl { s with pending := rest })
    rw [hu] at ht
    cases ht
    exact hk.formed hs

end Sys2Proof.Proofs
end

section
/-! SUPPORT. The state of one channel after a write of it: what is read back, two writes in a row, and the state it reports. -/

namespace Sys2Proof.Machine
open Sys2Proof.Safety

/-- Of two writes of a value at one key the second stands, where neither is the default. -/
theorem Tab.set_set_of_ne {α : Type} [DecidableEq α] (d : α) (t : Tab α) (i : Nat) (x y : α) (hx : x ≠ d) (hy : y ≠ d) :
    Tab.set d (Tab.set d t i x) i y = Tab.set d t i y := by
  induction t with
  | nil => simp [Tab.set, hx, hy]
  | cons e r ih => grind [Tab.set]

section
variable (s : State) (i : Nat)

/-- A channel that is not as after reset is read back as it was written. -/
theorem State.chan_setChan (j : Nat) {c : Chan} (hc : c ≠ .init) : (s.setChan i c).chan j = if j = i then c else s.chan j :=
  Tab.get_set_of_ne Chan.init s.tch.chans i j c hc

theorem State.chan_setChan_self {c : Chan} (hc : c ≠ .init) : (s.setChan i c).chan i = c := by
  rw [s.chan_setChan i i hc, if_pos rfl]

theorem State.setChan_setChan {c d : Chan} (hc : c ≠ .init) (hd : d ≠ .init) : (s.setChan i c).setChan i d = s.setChan i d := by
  simp only [State.setChan, Tab.set_set_of_ne Chan.init s.tch.chans i c d hc hd]

end

theorem Chan.ne_init_of_frozen {c : Chan} (h : c.st = .frozen) : c ≠ .init := by
  rintro rfl
  cases h

theorem Chan.ne_init_of_retrain {c : Chan} (h : c.retrain = true) : c ≠ .init := by
  rintro rfl
  cases h

end Sys2Proof.Machine
end

section
/-! SUPPORT. TCH_CHCTL (R104, R109, R121): what each of its three bits does to its channel. -/

namespace Sys2Proof.Machine
open Sys2Proof.Safety

section
variable {s : State} {i : Nat} {w : RegWrite}

/-- While the tier controller does not run, RESUME and DISCARD wait (R109). -/
theorem State.judgeFreeze_stopped (h : s.tierClocked (tierOf i) = false) : s.judgeFreeze i = s := by
  simp [State.judgeFreeze, h]

/-- Where nothing bars the end of a freeze, DISCARD ends the held requests and RESUME does not (R109). -/
theorem State.judgeFreeze_runs (hst : (s.chan i).st = .frozen) (hret : (s.chan i).retired = false)
    (hask : ((s.chan i).resume || (s.chan i).discard) = true) (hclk : s.tierClocked (tierOf i) = true)
    (htest : s.testing (tierOf i / 8) = false) (hbusy : s.die.blockBusy.contains (BitVec.ofNat 8 (0x20 + tierOf i)) = false) :
    s.judgeFreeze i = if (s.chan i).discard then
        ((s.setChan i { s.chan i with queue := [], ringq := [] }).failAll ((s.chan i).queue ++ (s.chan i).ringq) 0x11 0).reopen i
      else s.reopen i := by
  unfold State.judgeFreeze
  refine if_neg ?_
  simp only [hst, hret, hask, hclk, htest, hbusy]
  decide

/-- A channel whose tier has kept its frequency serves again with the least limits, and a retraining that waited is judged (R109). -/
theorem State.reopen_kept (h : (s.chan i).freqChg = false) :
    s.reopen i = ((s.updChan i fun c =>
      { c with st := .serving, resume := false, discard := false, lim := s.minLimits }).letIn i).judgeRetrain i := by
  simp [State.reopen, h]

/-- A retraining waits for the requests of its channel (R104). -/
theorem State.judgeRetrain_held (h : (s.chan i).queue ≠ []) : s.judgeRetrain i = s := by
  simp [State.judgeRetrain, h]

theorem State.resumeChan_none (h : (s.chan i).st ≠ .frozen) : s.resumeChan i = none := by simp [State.resumeChan, h]
theorem State.discardChan_none (h : (s.chan i).st ≠ .frozen) : s.discardChan i = none := by simp [State.discardChan, h]

theorem State.resumeChan_frozen (hst : (s.chan i).st = .frozen) (hret : (s.chan i).retired = false) (hres : (s.chan i).resume = false)
    (hdis : (s.chan i).discard = false) :
    s.resumeChan i = some ((s.updChan i fun c => { c with resume := true }).judgeFreeze i) := by
  simp [State.resumeChan, hst, hret, hres, hdis]

theorem State.discardChan_frozen (hst : (s.chan i).st = .frozen) (hret : (s.chan i).retired = false) (hres : (s.chan i).resume = false)
    (hdis : (s.chan i).discard = false) :
    s.discardChan i = some ((s.updChan i fun c => { c with discard := true }).judgeFreeze i) := by
  simp [State.discardChan, hst, hret, hres, hdis]

theorem State.actChctl_resume (h : w.data = 1) : s.actChctl w i = (s.resumeChan i).getD (s.ignoredField w 0 1) := by
  cases hr : s.resumeChan i <;> simp [State.actChctl, State.bitAction, bitOf, h, hr]

theorem State.actChctl_discard (h : w.data = 2) : s.actChctl w i = (s.discardChan i).getD (s.ignoredField w 1 1) := by
  cases hr : s.discardChan i <;> simp [State.actChctl, State.bitAction, bitOf, h, hr]

theorem State.actChctl_retrain (h : w.data = 4) : s.actChctl w i = (s.retrainChan i).getD (s.ignoredField w 2 1) := by
  cases hr : s.retrainChan i <;> simp [State.actChctl, State.bitAction, bitOf, h, hr]

theorem tchChctl_acts : (regFields .tchChctl i).all (fun f => !f.typ.stored) = true := rfl

end

section
variable {p : Path} {i : BitVec 10} {s : State}

/-- A report in the clamp log leaves no late write behind. -/
theorem ignored_actLate {n : RegName} {k lo wd : Nat} {data : Word} (h : s.regs.late = []) :
    (ignored p n k data lo wd s).actLate = ignored p n k data lo wd s :=
  State.actLate_nil _ ((State.ignoredField_late _ _ _ _).trans h)

/-- RESUME acts on its channel, or is ignored and reported. -/
theorem channelResume_eq (h : Acts p .tchChctl i.toNat s) :
    exec (.channelResume p i) s = .next ((s.resumeChan i.toNat).getD (ignored p .tchChctl i.toNat 1 0 1 s)).actLate.noteLevel :=
  congrArg _ ((s.namedWrite_action p _ _ 1 0 none h tchChctl_acts rfl).trans
    (congrArg (fun t : State => t.actLate.noteLevel) (State.actChctl_resume rfl)))

/-- DISCARD acts on its channel, or is ignored and reported. -/
theorem channelDiscard_eq (h : Acts p .tchChctl i.toNat s) :
    exec (.channelDiscard p i) s = .next ((s.discardChan i.toNat).getD (ignored p .tchChctl i.toNat 2 1 1 s)).actLate.noteLevel :=
  congrArg _ ((s.namedWrite_action p _ _ 2 0 none h tchChctl_acts rfl).trans
    (congrArg (fun t : State => t.actLate.noteLevel) (State.actChctl_discard rfl)))

/-- RETRAIN acts on its channel, or is ignored and reported. -/
theorem channelRetrain_eq (h : Acts p .tchChctl i.toNat s) :
    exec (.channelRetrain p i) s = .next ((s.retrainChan i.toNat).getD (ignored p .tchChctl i.toNat 4 2 1 s)).actLate.noteLevel :=
  congrArg _ ((s.namedWrite_action p _ _ 4 0 none h tchChctl_acts rfl).trans
    (congrArg (fun t : State => t.actLate.noteLevel) (State.actChctl_retrain rfl)))

end

end Sys2Proof.Machine
end

section
/-! PROOF. RESUME, DISCARD and RETRAIN of a channel (O26). -/

namespace Sys2Proof.Machine
open Sys2Proof.Safety

section
variable {p : Path} {i : BitVec 10} {s : State}

/-- RESUME and DISCARD of a frozen channel whose tier is not clocked are remembered (R109). -/
theorem chctl_remembered (h : Acts p .tchChctl i.toNat s) (hst : (s.chan i.toNat).st = .frozen)
    (hret : (s.chan i.toNat).retired = false) (hres : (s.chan i.toNat).resume = false) (hdis : (s.chan i.toNat).discard = false)
    (hclk : s.tierClocked (tierOf i.toNat) = false) :
    exec (.channelResume p i) s = .next (s.updChan i.toNat fun c => { c with resume := true }).noteLevel ∧
      exec (.channelDiscard p i) s = .next (s.updChan i.toNat fun c => { c with discard := true }).noteLevel := by
  obtain ⟨-, -, hlate, -⟩ := id h
  have hstop : ∀ f, (s.updChan i.toNat f).judgeFreeze i.toNat = s.updChan i.toNat f := fun f => State.judgeFreeze_stopped hclk
  have hact : ∀ f, (s.updChan i.toNat f).actLate = s.updChan i.toNat f := fun f => State.actLate_nil _ hlate
  constructor
  · rw [channelResume_eq h, State.resumeChan_frozen hst hret hres hdis, Option.getD_some, hstop, hact]
  · rw [channelDiscard_eq h, State.discardChan_frozen hst hret hres hdis, Option.getD_some, hstop, hact]

/-- RESUME and DISCARD of a channel that is not frozen are ignored and reported (R109). -/
theorem chctl_ignored (h : Acts p .tchChctl i.toNat s) (hst : (s.chan i.toNat).st ≠ .frozen) :
    exec (.channelResume p i) s = .next (ignored p .tchChctl i.toNat 1 0 1 s).noteLevel ∧
      exec (.channelDiscard p i) s = .next (ignored p .tchChctl i.toNat 2 1 1 s).noteLevel := by
  obtain ⟨-, -, hlate, -⟩ := id h
  constructor
  · rw [channelResume_eq h, State.resumeChan_none hst, Option.getD_none, ignored_actLate hlate]
  · rw [channelDiscard_eq h, State.discardChan_none hst, Option.getD_none, ignored_actLate hlate]

/-- RETRAIN of a serving channel with requests waits for them (R104). -/
theorem retrain_waits (h : Acts p .tchChctl i.toNat s) (hpow : (s.tier (tierOf i.toNat)).powered = true)
    (hcode : s.chanCode i.toNat = 2) (hq : (s.chan i.toNat).queue ≠ []) :
    exec (.channelRetrain p i) s = .next (s.updChan i.toNat fun c => { c with retrain := true }).noteLevel := by
  obtain ⟨-, -, hlate, -⟩ := id h
  have hgo : s.retrainChan i.toNat = some ((s.updChan i.toNat fun c => { c with retrain := true }).judgeRetrain i.toNat) := by
    simp [State.retrainChan, hpow, hcode]
  have hchan := s.chan_setChan_self i.toNat (c := { s.chan i.toNat with retrain := true }) (Chan.ne_init_of_retrain rfl)
  have hheld : ((s.updChan i.toNat fun c => { c with retrain := true }).chan i.toNat).queue ≠ [] := by
    rw [State.updChan, hchan]
    exact hq
  rw [channelRetrain_eq h, hgo, Option.getD_some, State.judgeRetrain_held hheld,
    State.actLate_nil (s.updChan i.toNat _) hlate]

/-- RETRAIN of a channel whose tier has no power, or that neither serves nor rests, is ignored and reported (R104). -/
theorem retrain_ignored (h : Acts p .tchChctl i.toNat s) (hno : (s.tier (tierOf i.toNat)).powered = false ∨
      (s.chanCode i.toNat ≠ 2 ∧ s.chanCode i.toNat ≠ 6 ∧ s.chanCode i.toNat ≠ 7)) :
    exec (.channelRetrain p i) s = .next (ignored p .tchChctl i.toNat 4 2 1 s).noteLevel := by
  obtain ⟨-, -, hlate, -⟩ := id h
  have hgo : s.retrainChan i.toNat = none := by
    refine if_pos ?_
    simpa using hno
  rw [channelRetrain_eq h, hgo, Option.getD_none, ignored_actLate hlate]

/-- RESUME of a frozen channel whose tier controller runs reopens it (R109). -/
theorem resume_reopens (h : Acts p .tchChctl i.toNat s) (hst : (s.chan i.toNat).st = .frozen)
    (hret : (s.chan i.toNat).retired = false) (hres : (s.chan i.toNat).resume = false) (hdis : (s.chan i.toNat).discard = false)
    (hfreq : (s.chan i.toNat).freqChg = false) (hclk : s.tierClocked (tierOf i.toNat) = true)
    (htest : s.testing (tierOf i.toNat / 8) = false)
    (hbusy : s.die.blockBusy.contains (BitVec.ofNat 8 (0x20 + tierOf i.toNat)) = false) :
    exec (.channelResume p i) s = .next (((s.updChan i.toNat fun c => { c with resume := true }).updChan i.toNat fun c =>
      { c with st := .serving, resume := false, discard := false, lim := s.minLimits }).letIn i.toNat |>.judgeRetrain i.toNat
      |>.actLate.noteLevel) := by
  have hchan : (s.updChan i.toNat fun c => { c with resume := true }).chan i.toNat = { s.chan i.toNat with resume := true } :=
    s.chan_setChan_self i.toNat (Chan.ne_init_of_frozen hst)
  have hruns : ((s.updChan i.toNat fun c => { c with resume := true }).judgeFreeze i.toNat) = _ :=
    State.judgeFreeze_runs (by rw [hchan]; exact hst) (by rw [hchan]; exact hret) (by rw [hchan]; rfl) hclk htest hbusy
  rw [channelResume_eq h, State.resumeChan_frozen hst hret hres hdis, Option.getD_some, hruns, if_neg (by rw [hchan]; simp [hdis]),
    State.reopen_kept (by rw [hchan]; exact hfreq)]
  rfl

/-- DISCARD of a frozen channel whose tier controller runs ends every request it holds with FROZEN, and reopens it (R109). -/
theorem discard_reopens (h : Acts p .tchChctl i.toNat s) (hst : (s.chan i.toNat).st = .frozen)
    (hret : (s.chan i.toNat).retired = false) (hres : (s.chan i.toNat).resume = false) (hdis : (s.chan i.toNat).discard = false)
    (hclk : s.tierClocked (tierOf i.toNat) = true) (htest : s.testing (tierOf i.toNat / 8) = false)
    (hbusy : s.die.blockBusy.contains (BitVec.ofNat 8 (0x20 + tierOf i.toNat)) = false) :
    exec (.channelDiscard p i) s =
      .next (((s.setChan i.toNat { s.chan i.toNat with discard := true, queue := [], ringq := [] }).failAll
        ((s.chan i.toNat).queue ++ (s.chan i.toNat).ringq) 0x11 0).reopen i.toNat).actLate.noteLevel := by
  have hchan : (s.updChan i.toNat fun c => { c with discard := true }).chan i.toNat = { s.chan i.toNat with discard := true } :=
    s.chan_setChan_self i.toNat (Chan.ne_init_of_frozen hst)
  have hruns : ((s.updChan i.toNat fun c => { c with discard := true }).judgeFreeze i.toNat) = _ :=
    State.judgeFreeze_runs (by rw [hchan]; exact hst) (by rw [hchan]; exact hret) (by rw [hchan]; simp) hclk htest hbusy
  rw [channelDiscard_eq h, State.discardChan_frozen hst hret hres hdis, Option.getD_some, hruns, hchan, if_pos rfl, State.updChan,
    State.setChan_setChan s i.toNat (Chan.ne_init_of_frozen (by exact hst)) (Chan.ne_init_of_frozen (by exact hst))]

end

end Sys2Proof.Machine

namespace Sys2Proof.Proofs
open Sys2Proof.Machine Sys2Proof.Safety

/-- Settles O26, clause by clause: what each bit of TCH_CHCTL does by the channel's state and its tier's clock. -/
theorem channelControl : Obligations.ChannelControl := by
  unfold Obligations.ChannelControl
  refine ⟨fun p i s h => ⟨chctl_remembered h, chctl_ignored h, retrain_waits h, retrain_ignored h⟩,
    fun p i s h hst hret hres hdis hfreq hclk htest hbusy => ⟨resume_reopens h hst hret hres hdis hfreq hclk htest hbusy, ?_⟩⟩
  rintro _ rfl
  exact ⟨_, discard_reopens h hst hret hres hdis hclk htest hbusy, rfl⟩

end Sys2Proof.Proofs
end

section
/-! PROOF. TCH_RETIRE and PCD_RDY (O27). -/

namespace Sys2Proof.Machine
open Sys2Proof.Safety

theorem tierOf_eq_iff {i t : Nat} : tierOf i = t ↔ i ∈ chansOfTier t := by
  simp only [tierOf, chansOfTier, List.mem_map, List.mem_range]
  constructor
  · rintro rfl
    exact ⟨i % 32, Nat.mod_lt _ (by omega), Nat.div_add_mod i 32⟩
  · rintro ⟨c, hc, rfl⟩
    omega

theorem chansOfTier_nodup (t : Nat) : (chansOfTier t).Nodup :=
  List.nodup_range.map fun _ _ h => by omega

section
variable {s : State} {i r t : Nat}

theorem State.chan_updChan (j : Nat) (f : Chan → Chan) (h : Tab.wf .init s.tch.chans = true) :
    (s.updChan i f).chan j = if j = i then f (s.chan j) else s.chan j := by
  refine (Tab.get_set _ _ _ _ _ h).trans ?_
  split
  next hj => rw [hj]
  next => rfl

/-- A rewrite of listed channels, each once, rewrites those and no other. -/
theorem State.chan_updChans {l : List Nat} (f : Nat → Chan → Chan) (h : Tab.wf .init s.tch.chans = true) (hl : l.Nodup) :
    (s.updChans l f).chan i = if i ∈ l then f i (s.chan i) else s.chan i := by
  induction l generalizing s with
  | nil => rfl
  | cons j l ih =>
    obtain ⟨hj, hl⟩ := List.nodup_cons.mp hl
    have hrest := ih (s.wf_updChan j (f j) h) hl
    rw [State.chan_updChan i (f j) h] at hrest
    refine hrest.trans ?_
    by_cases hi : i = j
    · subst hi
      simp [hj]
    · simp [hi]

theorem State.updChans_only (l : List Nat) (f : Nat → Chan → Chan) : Only [.tch] s (s.updChans l f) := by
  induction l generalizing s with
  | nil => exact (Only.refl s).mono (List.nil_subset _)
  | cons j l ih => exact ((s.updChan_only j _).trans ih).mono (by simp)

/-- A readiness bit that is set, and no other (R139). -/
theorem State.ready_setReady (r' t' : Nat) (h : Tab.wf 0 s.pcd.rdy = true) (ht : t < 32) :
    (s.setReady r t).ready r' t' = (s.ready r' t' || (r' == r && t' == t)) := by
  simp only [State.ready, State.setReady, Tab.upd, Tab.get_set _ _ _ _ _ h]
  by_cases hr : r' = r
  · subst hr
    have hbit : ((1 : Word) <<< t).getLsbD t' = (t' == t) := by
      rw [BitVec.getLsbD_shiftLeft]
      grind
    simp only [if_pos, BitVec.getLsbD_or, hbit, beq_self_eq_true, Bool.true_and]
  · simp [hr]

/-! ## The stop of a tier's format (R139) -/

/-- A channel whose format of this region stops: its queued requests go, and the walk forgets the region (R139). -/
def Chan.fmtStop (r : Nat) (c : Chan) : Chan :=
  { c with
    queue := c.queue.filter fun q => !(q.src == .format && regionOf q.lbn == r)
    ringq := c.ringq.filter fun q => !(q.src == .format && regionOf q.lbn == r)
    fmt := c.fmt.forget r }

theorem State.fmtStop_eq : s.fmtStop r t = (s.setReady r t).updChans (chansOfTier t) fun _ => Chan.fmtStop r := rfl

theorem State.fmtStop_only : Only [.pcd, .tch] s (s.fmtStop r t) :=
  (show Only [.pcd] s (s.setReady r t) by simp [Only]).trans (State.updChans_only _ _)

theorem State.fmtStop_pcd : (s.fmtStop r t).pcd = (s.setReady r t).pcd := (State.updChans_only _ _).same .pcd (by simp)

theorem State.chan_fmtStop (h : Formed s) : (s.fmtStop r t).chan i = if tierOf i = t then (s.chan i).fmtStop r else s.chan i := by
  obtain ⟨-, -, -, -, hch, -⟩ := h
  simp only [State.fmtStop_eq, tierOf_eq_iff]
  exact (s.setReady r t).chan_updChans _ hch (chansOfTier_nodup t)

theorem State.ready_fmtStop (r' t' : Nat) (h : Formed s) (ht : t < 32) :
    (s.fmtStop r t).ready r' t' = (s.ready r' t' || (r' == r && t' == t)) := by
  obtain ⟨-, -, -, -, -, hr, -⟩ := h
  rw [← State.ready_setReady r' t' hr ht, State.ready, State.fmtStop_pcd]
  rfl

end

/-- The formats of one region stop on the listed tiers, in order (R139). -/
def State.fmtStops (s : State) (r : Nat) (l : List Nat) : State := l.foldl (fun s t => s.fmtStop r t) s

section
variable {s : State} {i r : Nat} {l : List Nat}

theorem State.fmtStops_cons (t : Nat) : s.fmtStops r (t :: l) = (s.fmtStop r t).fmtStops r l := by
  simp only [State.fmtStops, List.foldl_cons]

theorem State.fmtStops_only : Only [.pcd, .tch] s (s.fmtStops r l) := by
  induction l generalizing s with
  | nil => exact (Only.refl s).mono (List.nil_subset _)
  | cons t l ih =>
    rw [State.fmtStops_cons]
    exact (State.fmtStop_only.trans ih).mono (by simp)

/-- Of the page code's part only the readiness bits change. -/
theorem State.fmtStops_pcd : (s.fmtStops r l).pcd = { s.pcd with rdy := (s.fmtStops r l).pcd.rdy } := by
  induction l generalizing s with
  | nil => rfl
  | cons t l ih =>
    rw [State.fmtStops_cons, ih, State.fmtStop_pcd]
    rfl

theorem State.formed_fmtStop (t : Nat) (h : Formed s) : Formed (s.fmtStop r t) := (Keeps.refl s).fmtStop.formed h

theorem State.ready_fmtStops (r' t' : Nat) (h : Formed s) (hl : ∀ t ∈ l, t < 32) :
    (s.fmtStops r l).ready r' t' = (s.ready r' t' || (r' == r && l.contains t')) := by
  induction l generalizing s with
  | nil => simp [State.fmtStops]
  | cons t l ih =>
    rw [List.forall_mem_cons] at hl
    rw [State.fmtStops_cons, ih (State.formed_fmtStop t h) hl.2, State.ready_fmtStop r' t' h hl.1, List.contains_cons,
      Bool.or_assoc, ← Bool.and_or_distrib_left]

theorem State.chan_fmtStops (h : Formed s) (hl : l.Nodup) :
    (s.fmtStops r l).chan i = if tierOf i ∈ l then (s.chan i).fmtStop r else s.chan i := by
  induction l generalizing s with
  | nil => rfl
  | cons t l ih =>
    obtain ⟨ht, hl⟩ := List.nodup_cons.mp hl
    rw [State.fmtStops_cons, ih (State.formed_fmtStop t h) hl, State.chan_fmtStop h]
    by_cases hi : tierOf i = t
    · subst hi
      simp [ht]
    · simp [hi]

end

/-! ## The two writes -/

section
variable {s : State}

theorem tchRetire_acts (n : Nat) : (regFields .tchRetire n).all (fun f => !f.typ.stored) = true := rfl
theorem pcdRdy_acts (r : Nat) : (regFields .pcdRdy r).all (fun f => !f.typ.stored) = true := rfl

/-- A retired channel stays as it is (R111). -/
theorem State.retire_retired {i : Nat} (h : (s.chan i).retired = true) : s.retire i = s := by
  simp [State.retire, h]

theorem channelRetire_eq {p : Path} {n : BitVec 5} {data : Word} (h : Acts p .tchRetire n.toNat s) :
    exec (.channelRetire p n data) s = .next (((List.range 32).filter fun c => data.getLsbD c).foldl
      (fun t c => t.retire (32 * n.toNat + c)) s).actLate.noteLevel :=
  congrArg _ (s.namedWrite_action p _ _ data 0 none h (tchRetire_acts _) rfl)

/-- A retirement of channels that are retired already changes nothing (R111). -/
theorem State.foldl_retire_retired {k : Nat} {l : List Nat} (h : ∀ c ∈ l, (s.chan (32 * k + c)).retired = true) :
    l.foldl (fun t c => t.retire (32 * k + c)) s = s := by
  induction l with
  | nil => rfl
  | cons c l ih =>
    rw [List.forall_mem_cons] at h
    rw [List.foldl_cons, State.retire_retired h.1]
    exact ih h.2

theorem pcdRdySet_eq {p : Path} {r : Byte} {data : Word} (h : Acts p .pcdRdy r.toNat s) :
    exec (.pcdRdySet p r data) s = .next (s.fmtStops r.toNat ((List.range 32).filter fun t => data.getLsbD t)).noteLevel := by
  obtain ⟨-, -, hlate, -⟩ := id h
  have hregs : (s.fmtStops r.toNat ((List.range 32).filter fun t => data.getLsbD t)).regs = s.regs :=
    State.fmtStops_only.same .regs (by simp)
  exact congrArg _ (s.namedWrite_does _ p _ _ data 0 none h (pcdRdy_acts _) rfl rfl (hregs ▸ hlate))

end

end Sys2Proof.Machine

namespace Sys2Proof.Proofs
open Sys2Proof.Machine Sys2Proof.Safety

/-- Settles O27: the folds over the tiers and channels that the written word names. -/
theorem retireAndReadinessWrites : Obligations.RetireAndReadinessWrites := by
  unfold Obligations.RetireAndReadinessWrites
  refine ⟨fun p n data s h => ⟨channelRetire_eq h, fun hall => ?_⟩, fun p r data s h hf => ?_⟩
  · obtain ⟨-, -, hlate, -⟩ := id h
    have hsame := State.foldl_retire_retired (s := s) (k := n.toNat) (l := (List.range 32).filter fun c => data.getLsbD c) fun c hc =>
      hall c (List.mem_range.mp (List.mem_filter.mp hc).1) (List.mem_filter.mp hc).2
    rw [channelRetire_eq h, hsame, State.actLate_nil _ hlate]
  · have hlt : ∀ t ∈ (List.range 32).filter fun t => data.getLsbD t, t < 32 := fun t ht =>
      List.mem_range.mp (List.mem_filter.mp ht).1
    refine ⟨_, pcdRdySet_eq h, State.fmtStops_only, State.fmtStops_pcd, fun t ht => ?_, fun r' t hr _ => ?_, fun i hi => ?_⟩
    · rw [State.ready_fmtStops _ _ hf hlt]
      simp [ht]
    · rw [State.ready_fmtStops _ _ hf hlt]
      simp [hr]
    · have hit : tierOf i < 32 := Nat.div_lt_of_lt_mul hi
      rw [State.chan_fmtStops hf (List.nodup_range.filter _)]
      simp [hit, Chan.fmtStop]

end Sys2Proof.Proofs
end

section
/-! PROOF. TALERT_N and the training probes (O51): the statement speaks of every state, also of one whose table lists a channel twice. -/

namespace Sys2Proof.Proofs
open Sys2Proof.Machine Sys2Proof.Safety

/-- A channel in a read sweep whose mode-register writes have issued, with a place and budget for a probe. -/
def probingChan : Chan :=
  { Chan.init with
    sweep := some { Sweep.fresh with which := 1 }
    place := true
    remain := { Chan.init.remain with train := 10000 } }

/-- A clocked tier, time left in the epoch, and channel 0 listed twice: as it is after reset, and behind that in a sweep. The
form that every step keeps (`Formed`) shuts such a table out. -/
def twiceListed : State :=
  { State.reset with
    tim := { State.reset.tim with epochEnd := 1000000 }
    tch := { State.reset.tch with
      tiers := [(0, { Tier.init with open_ := true, good := true })]
      chans := [(0, .init), (0, probingChan)] } }

theorem twiceListed_sweep : (twiceListed.chan 0).sweep = none := rfl

/-- The refreshes that go first write channel 0 back as after reset, which drops its first entry and bares the second: the probe that
follows sends its word. -/
theorem twiceListed_probe_sends :
    (twiceListed.trainProbe 0 .pass).out.length = 1 ∧ (twiceListed.maintFirst 0).out.length = 0 := by
  decide +kernel

/-- Refutes O51: without a sweep a probe need not be the waiting refreshes alone. The clause asks it of every state, and where the table
of channels is not in its canonical form, a write of the default uncovers an older entry, here one in the middle of a sweep. -/
theorem not_commandErrorsAndTraining : ¬ Obligations.CommandErrorsAndTraining := by
  unfold Obligations.CommandErrorsAndTraining
  rintro ⟨-, hprobe, -⟩
  obtain ⟨hnone, -⟩ := hprobe 0 .pass twiceListed
  have hsame : twiceListed.trainProbe 0 .pass = twiceListed.maintFirst 0 := by
    simpa [exec, execTrainingProbeDone] using hnone twiceListed_sweep
  obtain ⟨hsent, hquiet⟩ := twiceListed_probe_sends
  rw [hsame, hquiet] at hsent
  cases hsent

end Sys2Proof.Proofs
end

section
/-! SUPPORT. A register of one stored field, and the writes of PCD_SMAP, MAX_MULT and a tier's frequency (R116, R133, R158). -/

namespace Sys2Proof.Machine
open Sys2Proof.Safety

/-- A word with one field rewritten is the word before exactly where that field is. -/
theorem withField_eq_iff {w : Word} {lo wd v : Nat} (h : lo + wd ≤ 32) :
    withField w lo wd v = w ↔ fieldOf (withField w lo wd v) lo wd = fieldOf w lo wd := by
  refine ⟨fun he => by rw [he], fun he => BitVec.eq_of_toNat_eq (Nat.eq_of_testBit_eq fun j => ?_)⟩
  by_cases hj : lo ≤ j ∧ j < lo + wd
  · have hbit := congrArg (fun x => x.testBit (j - lo)) he
    simpa [testBit_fieldOf, show j - lo < wd by omega, show lo + (j - lo) = j by omega] using hbit
  · rw [testBit_withField h, if_neg hj]

section
variable {s : State} {w : RegWrite} {n : RegName} {i : Nat} {f : Field} {fs : List Field} {o x acc : Word}

/-- A field whose write is ignored keeps its value, and is reported where another was written. -/
theorem State.settleFields_refuses (ht : f.typ = .rw) (hj : s.judgeField n i f acc w.data = none) (hn : n ≠ .lnkNode) :
    ∃ u, Clamped s u ∧ (fieldOf w.data f.lo f.wd ≠ fieldOf acc f.lo f.wd → u.regs.clampNew = true) ∧
      s.settleFields w n i (f :: fs) acc = u.settleFields w n i fs acc := by
  by_cases hv : fieldOf w.data f.lo f.wd = fieldOf acc f.lo f.wd
  · refine ⟨s, .refl s, fun hne => absurd hv hne, ?_⟩
    rw [State.settleFields, ht, hj]
    simp [FTyp.stored, hv, hn]
  · obtain ⟨u, hu, hnew, hsettle⟩ := State.settleFields_ignores (fs := fs) ht hj hv
    exact ⟨u, hu, fun _ => hnew, hsettle⟩

/-- A write that acts at once finds no late write and leaves none. -/
theorem Stored.late_nil {p : Path} {v : State} (hv : Stored n i x s v) (h : Acts p n i s) : v.regs.late = [] := by
  obtain ⟨-, -, hlate, -⟩ := h
  exact hv.late.trans hlate

theorem plainReg_pcdSmap : PlainReg .pcdSmap i := ⟨fun _ _ => rfl, rfl, rfl, fun _ _ _ => rfl, fun _ _ => rfl⟩
theorem plainReg_scbSeason : PlainReg .scbSeason i := ⟨fun _ _ => rfl, rfl, rfl, fun _ _ _ => rfl, fun _ _ => rfl⟩
theorem plainReg_tchTcfg : PlainReg .tchTcfg i := ⟨fun _ _ => rfl, rfl, rfl, fun _ _ _ => rfl, fun _ _ => rfl⟩

/-- PCD_SMAP takes a strength of at most 4 where no window of its region is open (R133). -/
theorem State.settle_pcdSmap (h : s.openWindow i = none) : ∃ u, Clamped s u ∧
    s.settleFields w .pcdSmap i (regFields .pcdSmap i) o = (u, withField o 0 3 (min 4 (fieldOf w.data 0 3))) := by
  have hj : s.judgeField .pcdSmap i ⟨0, 3, .rw, 2, .range 0 4⟩ o w.data = some (min 4 (fieldOf w.data 0 3)) := by
    simp [State.judgeField, h, onlyIf, bounded]
  exact State.settleFields_takes (fs := []) rfl hj

/-- Otherwise it keeps its strength (R133). -/
theorem State.settle_pcdSmap_open (h : s.openWindow i ≠ none) : ∃ u, Clamped s u ∧
    (fieldOf w.data 0 3 ≠ fieldOf o 0 3 → u.regs.clampNew = true) ∧
    s.settleFields w .pcdSmap i (regFields .pcdSmap i) o = (u, o) := by
  have hj : s.judgeField .pcdSmap i ⟨0, 3, .rw, 2, .range 0 4⟩ o w.data = none := by
    simp [State.judgeField, onlyIf, Option.isNone_eq_false_iff.mpr (Option.isSome_iff_ne_none.mpr h)]
  exact State.settleFields_refuses (fs := []) rfl hj (by decide)

theorem State.settle_scbSeason : ∃ u, Clamped s u ∧
    s.settleFields w .scbSeason i (regFields .scbSeason i) o = (u, withField o 6 2 (fieldOf w.data 6 2)) :=
  State.settleFields_takes (s := s) (w := w) (n := .scbSeason) (i := i) (f := ⟨6, 2, .rw, 3, .any⟩) (fs := []) (acc := o) rfl rfl

theorem State.settle_tchTcfg : ∃ u, Clamped s u ∧
    s.settleFields w .tchTcfg i (regFields .tchTcfg i) o = (u, withField o 0 2 (fieldOf w.data 0 2)) :=
  State.settleFields_takes (s := s) (w := w) (n := .tchTcfg) (i := i) (f := ⟨0, 2, .rw, 0, .any⟩) (fs := []) (acc := o) rfl rfl

theorem State.takeFields_pcdSmap : s.takeFields w .pcdSmap i o x = if x = o then s else s.fmtRestart i := rfl
theorem State.takeFields_scbSeason : s.takeFields w .scbSeason i o x = if x = o then s else s.lowerMult i := rfl
theorem State.takeFields_tchTcfg : s.takeFields w .tchTcfg i o x = if x = o then s else s.startFreq i (x.setWidth 2) := rfl

/-- The restart of a region's format is a matter of the channels (R138). -/
theorem State.fmtRestart_only (s : State) (r : Nat) : Only [.tch] s (s.fmtRestart r) := s.updChans_only _ _

/-- A frequency written during a change, or while the tier cannot act, waits (R39, R116). -/
theorem State.startFreq_waits {t : Nat} (q : BitVec 2) (h : (s.tier t).changing = true ∨ s.tierClocked t = false ∨
    s.testing (t / 8) = true ∨ s.die.blockBusy.contains (BitVec.ofNat 8 (0x20 + t)) = true) :
    s.startFreq t q = s.updTier t fun x => { x with freqNext := some q } := by
  unfold State.startFreq
  by_cases hc : (s.tier t).changing = true
  · exact if_pos hc
  · exact (if_neg hc).trans (if_pos (by simpa using h.resolve_left hc))

/-- A frequency written to a tier that can act starts a change (R116). -/
theorem State.startFreq_starts {t : Nat} (q : BitVec 2) (hc : (s.tier t).changing = false) (hk : s.tierClocked t = true)
    (ht : s.testing (t / 8) = false) (hb : s.die.blockBusy.contains (BitVec.ofNat 8 (0x20 + t)) = false) :
    s.startFreq t q = (s.updTier t fun x => { x with changing := true, freqTo := q, freqNext := none }).judgeFreq t := by
  unfold State.startFreq
  simp only [hc, hk, ht, hb]
  rfl

end

end Sys2Proof.Machine

namespace Sys2Proof.Safety
open Sys2Proof.Machine

/-- Where only the register file may differ, every other part is literally the same. -/
theorem Only.regs_eq {s t : State} (h : Only [.regs] s t) : ∃ r, t = { s with regs := r } := by
  refine ⟨t.regs, ?_⟩
  cases s
  cases t
  simpa [Only, and_assoc] using h

end Sys2Proof.Safety
end

section
/-! PROOF. Writes of PCD_SMAP, MAX_MULT and a tier's frequency (O29). -/

namespace Sys2Proof.Proofs
open Sys2Proof.Machine Sys2Proof.Safety

section
variable {p : Path} {data : Word} {s : State}

/-- PCD_SMAP in a region without an open window takes its strength; a moved one restarts the format (R133). -/
theorem pcdSmap_write {r : Byte} (h : Acts p .pcdSmap r.toNat s) (hf : Formed s) (hwin : s.openWindow r.toNat = none) : ∃ u v : State,
    exec (.pcdSmapWrite p r data) s = .next u.noteLevel ∧ Only [.regs] s v ∧
    v.fld .pcdSmap r.toNat 0 3 = min 4 (fieldOf data 0 3) ∧
    u = (if v.fld .pcdSmap r.toNat 0 3 = s.fld .pcdSmap r.toNat 0 3 then v else v.fmtRestart r.toNat) := by
  obtain ⟨u, hu, hsettle⟩ := State.settle_pcdSmap (w := writeOf p .pcdSmap r.toNat data) (o := s.cfgWord .pcdSmap r.toNat) hwin
  obtain ⟨v, hv, -, hexec⟩ := hu.written plainReg_pcdSmap h hf hsettle
  have hlate : v.regs.late = [] := hv.late_nil h
  have hfld := (hv.fld 0 3).trans (fieldOf_withField_of_lt (by omega) (by omega))
  have hsame : v.cfgWord .pcdSmap r.toNat = s.cfgWord .pcdSmap r.toNat ↔ v.fld .pcdSmap r.toNat 0 3 = s.fld .pcdSmap r.toNat 0 3 := by
    rw [State.fld, hv.word]
    exact withField_eq_iff (by omega)
  have hstays : (if v.cfgWord .pcdSmap r.toNat = s.cfgWord .pcdSmap r.toNat then v else v.fmtRestart r.toNat).regs.late = [] := by
    split
    · exact hlate
    · exact (congrArg Regs.late ((v.fmtRestart_only r.toNat).same .regs (by decide))).trans hlate
  rw [State.takeFields_pcdSmap, ← hv.word, State.actLate_nil _ hstays] at hexec
  exact ⟨_, v, congrArg Host.Outcome.next hexec, hv.only, hfld, if_congr hsame rfl rfl⟩

/-- PCD_SMAP in a region with an open window keeps its strength (R133). -/
theorem pcdSmap_write_open {r : Byte} (h : Acts p .pcdSmap r.toNat s) (hf : Formed s) (hwin : s.openWindow r.toNat ≠ none) :
    ∃ u : State, exec (.pcdSmapWrite p r data) s = .next u.noteLevel ∧ Only [.regs] s u ∧
    u.fld .pcdSmap r.toNat 0 3 = s.fld .pcdSmap r.toNat 0 3 ∧
    (fieldOf data 0 3 ≠ s.fld .pcdSmap r.toNat 0 3 → u.regs.clampNew = true) := by
  obtain ⟨u, hu, hnew, hsettle⟩ := State.settle_pcdSmap_open (w := writeOf p .pcdSmap r.toNat data)
    (o := s.cfgWord .pcdSmap r.toNat) hwin
  obtain ⟨v, hv, hnoted, hexec⟩ := hu.written plainReg_pcdSmap h hf hsettle
  rw [State.takeFields_pcdSmap, if_pos rfl, State.actLate_nil v (hv.late_nil h)] at hexec
  exact ⟨v, congrArg Host.Outcome.next hexec, hv.only, hv.fld 0 3, fun hne => hnoted.trans (hnew hne)⟩

/-- MAX_MULT takes its value, and lowers the tier's multipliers to it at once (R158). -/
theorem maxMult_write {n : BitVec 5} (h : Acts p .scbSeason n.toNat s) (hf : Formed s) (hne : fieldOf data 6 2 ≠ s.maxMult n.toNat) :
    ∃ u v : State, exec (.maxMultWrite p n data) s = .next u.noteLevel ∧ Only [.regs] s v ∧ v.maxMult n.toNat = fieldOf data 6 2 ∧
    u = v.updTier n.toNat fun x => { x with
      acceptedM := BitVec.ofNat 2 (min x.acceptedM.toNat (fieldOf data 6 2)),
      trial := BitVec.ofNat 2 (min x.trial.toNat (fieldOf data 6 2)) } := by
  obtain ⟨u, hu, hsettle⟩ := State.settle_scbSeason (s := s) (w := writeOf p .scbSeason n.toNat data) (i := n.toNat)
    (o := s.cfgWord .scbSeason n.toNat)
  obtain ⟨v, hv, -, hexec⟩ := hu.written plainReg_scbSeason h hf hsettle
  have hmax : v.maxMult n.toNat = fieldOf data 6 2 := (hv.fld 6 2).trans (fieldOf_withField_of_lt (by omega) fieldOf_lt)
  have hlate : (v.lowerMult n.toNat).regs.late = [] := hv.late_nil h
  have hmoved : v.cfgWord .scbSeason n.toNat ≠ s.cfgWord .scbSeason n.toNat := fun he =>
    hne (hmax.symm.trans (congrArg (fieldOf · 6 2) he))
  rw [State.takeFields_scbSeason, ← hv.word, if_neg hmoved, State.actLate_nil _ hlate] at hexec
  exact ⟨_, v, congrArg Host.Outcome.next hexec, hv.only, hmax, by rw [State.lowerMult, hmax]⟩

/-- A tier's FREQ takes its value, and the tier takes the frequency (R116). -/
theorem tierFreq_write {n : BitVec 5} (h : Acts p .tchTcfg n.toNat s) (hf : Formed s)
    (hne : fieldOf data 0 2 ≠ s.fld .tchTcfg n.toNat 0 2) : ∃ r : Regs,
    ({ s with regs := r } : State).fld .tchTcfg n.toNat 0 2 = fieldOf data 0 2 ∧ r.late = [] ∧ exec (.tierFreqWrite p n data) s =
      .next (({ s with regs := r } : State).startFreq n.toNat (BitVec.ofNat 2 (fieldOf data 0 2))).actLate.noteLevel := by
  obtain ⟨u, hu, hsettle⟩ := State.settle_tchTcfg (s := s) (w := writeOf p .tchTcfg n.toNat data) (i := n.toNat)
    (o := s.cfgWord .tchTcfg n.toNat)
  obtain ⟨v, hv, -, hexec⟩ := hu.written plainReg_tchTcfg h hf hsettle
  have hfreq : v.fld .tchTcfg n.toNat 0 2 = fieldOf data 0 2 := (hv.fld 0 2).trans (fieldOf_withField_of_lt (by omega) fieldOf_lt)
  have hmoved : v.cfgWord .tchTcfg n.toNat ≠ s.cfgWord .tchTcfg n.toNat := fun he =>
    hne (hfreq.symm.trans (congrArg (fieldOf · 0 2) he))
  have htaken : (v.cfgWord .tchTcfg n.toNat).setWidth 2 = BitVec.ofNat 2 (fieldOf data 0 2) := by
    rw [← hfreq]
    apply BitVec.eq_of_toNat_eq
    simp [State.fld, fieldOf]
  rw [State.takeFields_tchTcfg, ← hv.word, if_neg hmoved, htaken] at hexec
  have hlate : v.regs.late = [] := hv.late_nil h
  obtain ⟨r, rfl⟩ := hv.only.regs_eq
  exact ⟨r, hfreq, hlate, congrArg Host.Outcome.next hexec⟩

end

/-- Settles O29: each register has one stored field, and its block takes the word where that field has moved. -/
theorem tierAndRegionWrites : Obligations.TierAndRegionWrites := by
  unfold Obligations.TierAndRegionWrites
  refine ⟨⟨fun p r data s h hf => ⟨pcdSmap_write h hf, pcdSmap_write_open h hf⟩, fun p n data s h hf => maxMult_write h hf⟩,
    fun p n data s h hf hne => ?_⟩
  obtain ⟨r, hfreq, hlate, hexec⟩ := tierFreq_write h hf hne
  refine ⟨{ s with regs := r }, by simp [Only], hfreq, fun hwaits => ?_, fun hchanging hclocked htesting hbusy => ?_⟩
  · rw [hexec, State.startFreq_waits (s := { s with regs := r }) _ hwaits, State.actLate_nil _ hlate]
  · rw [hexec, State.startFreq_starts (s := { s with regs := r }) _ hchanging hclocked htesting hbusy]

end Sys2Proof.Proofs
end

section
/-! SUPPORT. The end of a wake pass, and the judgement that waits for the Hive core (R26, R157). -/

namespace Sys2Proof.Machine

/-- A tier without its wake pass: neither the tier nor its channels run one. -/
def State.wakeOver (s : State) (t : Nat) : State :=
  (s.updTier t fun x => { x with wake := false }).updChans (chansOfTier t) fun _ c => { c with wakeAt := none }

/-- The Hive core that does not run judges nothing. -/
theorem State.judgeSeasons_waits {s : State} (h : s.hiveOk = false) : s.judgeSeasons = s := by
  simp [State.judgeSeasons, h]

/-- A wake pass that every serving channel of the tier has walked to its end is judged, or its season is reported. -/
theorem wakePassEnd_walked {t : BitVec 5} {s : State} (hwake : (s.tier t.toNat).wake = true)
    (hwalked : s.walked ((chansOfTier t.toNat).filter s.isServing) (fun c => c.wakeAt.getD 65536) = true) :
    exec (.wakePassEnd t) s = .next (if ((s.wakeOver t.toNat).tier t.toNat).wakeJudge then (s.wakeOver t.toNat).judgeSeasons
      else (s.wakeOver t.toNat).postEvent 0x0011 0 0 (BitVec.ofNat 32 t.toNat) ((s.wakeOver t.toNat).seasonWord t.toNat).toNat) := by
  simp only [exec, execWakePassEnd]
  rw [if_pos ⟨hwake, hwalked⟩]
  rfl

end Sys2Proof.Machine
end

section
/-! PROOF. The end of a wake pass (O52): the statement speaks of every state, also of one whose table lists a tier twice. -/

namespace Sys2Proof.Proofs
open Sys2Proof.Machine

/-- After reset, but for tier 0, which the table lists twice: in a wake pass that judges nothing, and behind that as one whose wake pass
waits for the Hive core. The form that every step keeps (`Formed`) shuts such a table out. -/
def tierTwiceListed : State :=
  { State.reset with
    tch := { State.reset.tch with tiers := [(0, { Tier.init with wake := true }), (0, { Tier.init with wakeJudge := true })] } }

/-- Without its wake pass the first entry is as after reset, which drops it and bares the second. -/
theorem tierTwiceListed_wakeJudge :
    (tierTwiceListed.tier 0).wakeJudge = false ∧ ((tierTwiceListed.wakeOver 0).tier 0).wakeJudge = true := by
  decide +kernel

/-- No channel serves after reset, so that every one has walked the pass. -/
theorem tierTwiceListed_walked : (tierTwiceListed.tier 0).wake = true ∧
    tierTwiceListed.walked ((chansOfTier 0).filter tierTwiceListed.isServing) (fun c => c.wakeAt.getD 65536) = true := by
  decide +kernel

/-- A report of the season takes an event number, and there is no Hive core that would judge the pass instead. -/
theorem tierTwiceListed_reports : (tierTwiceListed.wakeOver 0).hiveOk = false ∧ (tierTwiceListed.wakeOver 0).rng.evSeq = 0 ∧
    ((tierTwiceListed.wakeOver 0).postEvent 0x0011 0 0 (BitVec.ofNat 32 0)
      ((tierTwiceListed.wakeOver 0).seasonWord 0).toNat).rng.evSeq = 1 := by
  decide +kernel

/-- Refutes O52: a wake pass that judges nothing need not be reported at its end. The clause asks it of every state, and where the table of
tiers is not in its canonical form, a write of the default uncovers an older entry, here one that waits to be judged. -/
theorem not_scarabQueuesLogsAndPasses : ¬ Obligations.ScarabQueuesLogsAndPasses := by
  unfold Obligations.ScarabQueuesLogsAndPasses
  rintro ⟨-, -, -, -, -, -, hends, -⟩
  obtain ⟨hwake, hwalked⟩ := tierTwiceListed_walked
  obtain ⟨hjudgesNot, hjudges⟩ := tierTwiceListed_wakeJudge
  obtain ⟨hhive, hsilent, hreport⟩ := tierTwiceListed_reports
  obtain ⟨hreports, -⟩ := (hends 0 tierTwiceListed).2 hwake hwalked (tierTwiceListed.wakeOver 0) rfl
  have hexec : exec (.wakePassEnd 0) tierTwiceListed = .next (tierTwiceListed.wakeOver 0) := by
    refine (wakePassEnd_walked hwake hwalked).trans (congrArg Host.Outcome.next ?_)
    exact (if_pos hjudges).trans (State.judgeSeasons_waits hhive)
  injection hexec.symm.trans (hreports hjudgesNot) with hsame
  have hseq := congrArg (fun s => s.rng.evSeq) hsame
  exact absurd (hsilent.symm.trans (hseq.trans hreport)) (by decide)

end Sys2Proof.Proofs
end

section
/-! SUPPORT. Rings: what is read of a ring after it has been rewritten (R166 to R168), and the rules of doorbells (R173 to R176, R200). -/

namespace Sys2Proof.Safety
open Sys2Proof.Machine

/-- Of two steps that may change the same parts. -/
theorem Only.step {ps : List Part} {s t u : State} (h : Only ps s t) (g : Only ps t u) : Only ps s u := (h.trans g).mono (by simp)

end Sys2Proof.Safety

namespace Sys2Proof.Machine
open Sys2Proof.Safety

section
variable {s : State} {q : Nat}

/-- A ring that is not DISABLED is not at its reset values, so that a write of it stands in the table. -/
theorem SqCtx.ne_init {x : SqCtx} (h : x.st ≠ .disabled) : x ≠ .init := fun e => h (congrArg SqCtx.st e)
theorem CqCtx.ne_init {x : CqCtx} (h : x.st ≠ .disabled) : x ≠ .init := fun e => h (congrArg CqCtx.st e)

/-- A ring that is rewritten, as it is found afterwards. -/
theorem State.sq_updSq_self {f : SqCtx → SqCtx} (h : f (s.sq q) ≠ .init) : (s.updSq q f).sq q = f (s.sq q) :=
  (Tab.get_set_of_ne _ _ _ _ _ h).trans (if_pos rfl)

theorem State.cq_updCq_self {f : CqCtx → CqCtx} (h : f (s.cq q) ≠ .init) : (s.updCq q f).cq q = f (s.cq q) :=
  (Tab.get_set_of_ne _ _ _ _ _ h).trans (if_pos rfl)

theorem State.updSq_only (f : SqCtx → SqCtx) : Only [.rng] s (s.updSq q f) := by simp [Only]
theorem State.updCq_only (f : CqCtx → CqCtx) : Only [.rng] s (s.updCq q f) := by simp [Only]

/-! ## Errors of a ring (R200, R201) -/

theorem State.sqError_posts {e : Nat} (he : e < 8) : ∃ u : State,
    s.sqError q e = u.postEvent 0x000E q 2 (BitVec.ofNat 32 e) (u.sq q).head.toNat ∧ (u.sq q).st = .error ∧
      (u.sq q).err.toNat = e ∧ Only [.rng] s u := by
  refine ⟨_, rfl, ?_, ?_, (State.updCq_only _).step (State.updSq_only _)⟩
  all_goals rw [State.sq_updSq_self (SqCtx.ne_init (by simp))]
  exact Nat.mod_eq_of_lt he

theorem State.cqError_posts (v : Nat) : ∃ u : State,
    s.cqError q v = u.postEvent 0x000F 0 2 (BitVec.ofNat 32 q) v ∧ (u.cq q).st = .error ∧ Only [.rng] s u :=
  ⟨_, rfl, by rw [State.cq_updCq_self (CqCtx.ne_init (by simp))], State.updCq_only _⟩

/-! ## Doorbells (R173 to R176) -/

section
variable {v : Nat} {w : Word}

/-- A doorbell is handed to the ring that its word names, if its reserved bits are 0 (R173). -/
theorem State.bell_dropped (h : fieldOf w 29 3 ≠ 0) : s.bell w = s.dropDoorbell := if_pos h

theorem State.bell_sq (h : fieldOf w 29 3 = 0) (hsq : w.getLsbD 28 = false) :
    s.bell w = s.sqBell (fieldOf w 16 12) (fieldOf w 0 16) := by
  rw [State.bell, if_neg (not_not.mpr h), bitOf, hsq, if_neg Bool.false_ne_true]

theorem State.bell_cq (h : fieldOf w 29 3 = 0) (hcq : w.getLsbD 28 = true) :
    s.bell w = s.cqBell (fieldOf w 16 12) (fieldOf w 0 16) := by
  rw [State.bell, if_neg (not_not.mpr h), bitOf, hcq, if_pos rfl]

theorem State.sqBell_dropped (h : s.dataFloor = false ∨ (s.sq q).st ≠ .active) : s.sqBell q v = s.dropDoorbell :=
  if_pos (by simpa using h)

/-- A doorbell for an ACTIVE SQ at the data floor, by its value (R174, R176, R200). -/
theorem State.sqBell_active (hf : s.dataFloor = true) (ha : (s.sq q).st = .active) : s.sqBell q v =
    if s.sqSize q ≤ v then s.sqError q 2
    else if s.sqSize q - 1 < ringDist (s.sqSize q) v (s.sq q).tail.toNat + s.pend q then s.sqError q 3
    else s.updSq q fun x => { x with tail := BitVec.ofNat 16 v } :=
  if_neg (by simp [hf, ha])

theorem State.cqBell_dropped (h : s.dataFloor = false ∨ (s.cq q).st ≠ .active) : s.cqBell q v = s.dropDoorbell :=
  if_pos (by simpa using h)

/-- A CQ with its HEAD moved by a doorbell (R175). -/
def State.cqFreed (s : State) (q v : Nat) : State :=
  s.updCq q fun x => { x with head := BitVec.ofNat 16 v, accepted := BitVec.ofNat 16 v }

/-- A doorbell for an ACTIVE CQ at the data floor, by its value (R175, R195, R201). -/
theorem State.cqBell_active (hf : s.dataFloor = true) (ha : (s.cq q).st = .active) : s.cqBell q v =
    if s.cqSize q ≤ v ∨ s.cqUsed q < ringDist (s.cqSize q) v (s.cq q).head.toNat then s.cqError q v
    else if s.evtEn ∧ s.evtCq = q then (s.cqFreed q v).reportLost else s.cqFreed q v :=
  if_neg (by simp [hf, ha])

end

end

end Sys2Proof.Machine
end

section
/-! PROOF. Doorbells (O59). -/

namespace Sys2Proof.Proofs
open Sys2Proof.Machine Sys2Proof.Safety

section
variable {s : State} {q v : Nat}

/-- An ACTIVE SQ takes a TAIL that is an index and passes no descriptor it still holds; any other is an error of the ring. -/
theorem sqBell_value (hf : s.dataFloor = true) (ha : (s.sq q).st = .active) :
    (s.sqSize q ≤ v → s.sqBell q v = s.sqError q 2) ∧
    (v < s.sqSize q → s.sqSize q ≤ ringDist (s.sqSize q) v (s.sq q).tail.toNat + s.pend q → s.sqBell q v = s.sqError q 3) ∧
    (v < s.sqSize q → ringDist (s.sqSize q) v (s.sq q).tail.toNat + s.pend q < s.sqSize q →
      s.sqBell q v = s.updSq q fun x => { x with tail := BitVec.ofNat 16 v }) := by
  rw [State.sqBell_active hf ha]
  refine ⟨fun hbig => if_pos hbig, fun hidx hfull => ?_, fun hidx hfree => ?_⟩
  · rw [if_neg (by omega), if_pos (by omega)]
  · rw [if_neg (by omega), if_neg (by omega)]

/-- An ACTIVE CQ frees the entries up to a HEAD that is an index and passes no free entry; any other is an error of the ring. -/
theorem cqBell_value (hf : s.dataFloor = true) (ha : (s.cq q).st = .active) :
    ((s.cqSize q ≤ v ∨ s.cqUsed q < ringDist (s.cqSize q) v (s.cq q).head.toNat) → s.cqBell q v = s.cqError q v) ∧
    (∀ u, v < s.cqSize q → ringDist (s.cqSize q) v (s.cq q).head.toNat ≤ s.cqUsed q → u = s.cqFreed q v →
      s.cqBell q v = if s.evtEn = true ∧ s.evtCq = q then u.reportLost else u) := by
  rw [State.cqBell_active hf ha]
  refine ⟨fun hbad => if_pos hbad, fun u hidx hused hu => ?_⟩
  rw [if_neg (by omega), hu]

end

/-- Settles O59: the word names the ring, and the ring's state and size decide what its value does. -/
theorem doorbellsMoveTheirRings : Obligations.DoorbellsMoveTheirRings := by
  unfold Obligations.DoorbellsMoveTheirRings
  rintro w s q v rfl rfl
  refine ⟨State.bell_dropped, fun h hsq hdrop => ?_, fun h hsq hf ha => ?_, fun h hcq hdrop => ?_, fun h hcq hf ha => ?_,
    fun e he => State.sqError_posts he, State.cqError_posts _⟩
  · exact (State.bell_sq h hsq).trans (State.sqBell_dropped hdrop)
  · rw [State.bell_sq h hsq]
    exact sqBell_value hf ha
  · exact (State.bell_cq h hcq).trans (State.cqBell_dropped hdrop)
  · rw [State.bell_cq h hcq]
    exact cqBell_value hf ha

end Sys2Proof.Proofs
end

section
/-! PROOF. Turns of commands that have nothing left to start (O44): a counterexample. -/

namespace Sys2Proof.Proofs
open Sys2Proof.Machine

/-- An ATTEST that has started and whose request for the nonce the host has failed (R229, R340). -/
def attestAnswered : Cmd := { (default : Cmd) with
  op := .attest, started := true, bufs := [(0, some { BlockBuf.empty with bad := true })] }

/-- Its rings are ACTIVE, and the Hive core, which did not run when the answer came, runs again (R26). -/
def hiveRunsAgain : State := { State.reset with
  die := { Die.init with hiveRun := true }
  rng := { Rng.init with
    cmds := [attestAnswered]
    sqs := [(0, { SqCtx.init with st := .active, out := 1 })]
    cqs := [(0, { CqCtx.init with st := .active, reserved := 1 })] } }

/-- The command is outstanding, has started, and its range, which is empty, has no block left (R205). -/
theorem hiveRunsAgain_started : hiveRunsAgain.cmd 0 = some attestAnswered ∧ attestAnswered.started = true ∧
    attestAnswered.count ≤ attestAnswered.next := by
  decide +kernel

/-- Its turn ends it with HOST_ACCESS_ERROR: no command is outstanding afterwards. -/
theorem hiveRunsAgain_turn_ends :
    ((hiveRunsAgain.turn 0 .attest State.startAttest noBlock).attestGo 0).rng.cmds.length = 0 ∧ hiveRunsAgain.rng.cmds.length = 1 := by
  decide +kernel

/-- Refutes O44: a turn of a started command without a block left is said to change nothing, and ATTEST has no blocks at all. A started
ATTEST whose nonce, or the failure of its request, came while the Hive core did not run goes on in such a turn (R26, R229), and here ends. -/
theorem not_commandTurnsAndStarts : ¬ Obligations.CommandTurnsAndStarts := by
  unfold Obligations.CommandTurnsAndStarts
  rintro ⟨hturns, -⟩
  obtain ⟨-, -, -, -, hnoneLeft⟩ := hturns .attest 0 hiveRunsAgain
  obtain ⟨hfound, hstarted, hleft⟩ := hiveRunsAgain_started
  have hsame : (hiveRunsAgain.turn 0 .attest State.startAttest noBlock).attestGo 0 = hiveRunsAgain :=
    Host.Outcome.next.inj (hnoneLeft attestAnswered hfound hstarted (.inl hleft))
  obtain ⟨hafter, hbefore⟩ := hiveRunsAgain_turn_ends
  rw [hsame, hbefore] at hafter
  exact absurd hafter (by decide)

end Sys2Proof.Proofs
end

section
/-! SUPPORT. The write of an SQ's control register: its action, and its limit of commands (R170, R171, R555). -/

namespace Sys2Proof.Machine
open Sys2Proof.Safety

/-! ## The written word -/

section
variable {d : Word}

/-- The two action bits of a word that has neither. -/
theorem bitOf_of_low (h : fieldOf d 0 2 = 0) : bitOf d 0 = false ∧ bitOf d 1 = false := by
  have hbit : ∀ j, j < 2 → bitOf d j = false := by
    intro j hj
    have hj' := testBit_fieldOf (w := d) (lo := 0) (wd := 2) j
    rwa [h, Nat.zero_testBit, decide_eq_true hj, Bool.true_and, Nat.zero_add, eq_comm] at hj'
  exact ⟨hbit 0 (by decide), hbit 1 (by decide)⟩

theorem bitOf_or (m : Word) (j : Nat) : bitOf (d ||| m) j = (bitOf d j || bitOf m j) := BitVec.getLsbD_or

/-- Setting action bits below a field leaves the field. -/
theorem fieldOf_or_of_lt {m : Word} {lo wd : Nat} (hm : m.toNat < 2 ^ lo) : fieldOf (d ||| m) lo wd = fieldOf d lo wd := by
  refine Nat.eq_of_testBit_eq fun j => ?_
  have hout : m.toNat.testBit (lo + j) = false :=
    Nat.testBit_lt_two_pow (hm.trans_le (Nat.pow_le_pow_right (by decide) (Nat.le_add_right lo j)))
  rw [testBit_fieldOf, testBit_fieldOf, BitVec.toNat_or, Nat.testBit_or, hout, Bool.or_false]

end

section
variable {s v : State} {p : Path} {w : RegWrite} {q : Nat} {o d : Word}

/-! ## The limit of commands -/

/-- The limit of commands is stored within 1 to 1,024; the action bits are not stored. -/
theorem State.settle_sqcW7 : ∃ u, Clamped s u ∧
    s.settleFields w .sqcW7 q (regFields .sqcW7 q) o = (u, withField o 16 11 (bounded 1 1024 (fieldOf w.data 16 11))) :=
  State.settleFields_takes (s := s) (w := w) (n := .sqcW7) (i := q) (f := ⟨16, 11, .rw, 256, .range 1 1024⟩) (fs := []) (acc := o)
    rfl rfl

/-- The word that is stored. -/
theorem State.commit_sqcW7 (hsorted : (s.regs.cfg.map Prod.fst).Pairwise (· < ·)) : ∃ u x, Stored .sqcW7 q x s u ∧
    fieldOf x 16 11 = bounded 1 1024 (fieldOf w.data 16 11) ∧ (s.regs.clampNew = true → u.regs.clampNew = true) ∧
    s.commitFields w .sqcW7 q = (u, s.cfgWord .sqcW7 q, x) := by
  obtain ⟨t, ht, hsettle⟩ := State.settle_sqcW7 (s := s) (w := w) (q := q) (o := s.cfgWord .sqcW7 q)
  exact ⟨_, _, ht.stored hsorted w.src _, fieldOf_withField_of_lt (by decide) ((bounded_le _ _ _).trans_lt (by decide)), ht.noted,
    congrArg (fun r : State × Word => ((r.1.store w.src .sqcW7 q r.2).setPar w.src .sqcW7 q false, s.cfgWord .sqcW7 q, r.2)) hsettle⟩

/-- Nothing follows at once from a new limit. -/
theorem State.takeFields_sqcW7 {x : Word} : s.takeFields w .sqcW7 q o x = s := ite_self s

/-- A write to the register: its action, which leaves the stored fields alone, and then the limit. -/
theorem State.namedWrite_sqcW7 (h : Acts p .sqcW7 q s) (hf : Formed s) (hact : s.act (writeOf p .sqcW7 q d) .sqcW7 q = v)
    (hcfg : v.regs.cfg = s.regs.cfg) (hlate : v.regs.late = s.regs.late) : ∃ u : State,
    s.namedWrite p .sqcW7 q d 0 none = u.noteLevel ∧ Only [.regs] v u ∧
      (v.regs.clampNew = true → u.regs.clampNew = true) ∧ u.fld .sqcW7 q 16 11 = bounded 1 1024 (fieldOf d 16 11) := by
  obtain ⟨hpath, hmode, hnone, hstall, hawake⟩ := h
  obtain ⟨-, -, -, -, -, -, -, -, hsorted⟩ := hf
  obtain ⟨u, x, hu, hlimit, hnoted, hcommit⟩ := State.commit_sqcW7 (w := writeOf p .sqcW7 q d) (q := q) (hcfg ▸ hsorted)
  refine ⟨u, ?_, hu.only, hnoted, (hu.fld 16 11).trans hlimit⟩
  have hwrite : s.writeReg (writeOf p .sqcW7 q d) .sqcW7 q = u := by
    simp [State.writeReg, hmode, State.actLate_nil _ hnone, hstall, fieldsFirst, hact, hcommit, State.takeFields_sqcW7,
      State.actLate_nil _ (hu.late.trans (hlate.trans hnone))]
  rw [State.namedWrite, hpath, State.onPath_served _ _ _ _ hawake]
  exact congrArg State.noteLevel hwrite

/-! ## The actions -/

/-- ENABLE alone, and DISABLE alone, in the word. -/
theorem State.act_sqEnable (h0 : bitOf w.data 0 = true) (h1 : bitOf w.data 1 = false) :
    s.act w .sqcW7 q = (s.enableSq q).getD (s.ignoredField w 0 1) := by
  cases he : s.enableSq q <;> simp [State.act, State.bitAction, h0, h1, he]

theorem State.act_sqDisable (h0 : bitOf w.data 0 = false) (h1 : bitOf w.data 1 = true) :
    s.act w .sqcW7 q = (s.disableSq q).getD (s.ignoredField w 1 1) := by
  cases he : s.disableSq q <;> simp [State.act, State.bitAction, h0, h1, he]

/-- An SQ made ACTIVE and empty. -/
def State.sqStarted (s : State) (q : Nat) : State := s.updSq q fun x => { x with st := .active, tail := x.head, fetch := [] }

/-- A DISABLED ring of an ACTIVE CQ is made ACTIVE and empty (R170, R276). -/
theorem State.enableSq_some (hst : (s.sq q).st = .disabled) (hcq : (s.cq (s.sqCq q)).st = .active)
    (hstrm : s.sqStream q = false ∨ (s.fld .sqcW3 q 0 3 = 7 ∧ s.bst.memFail.getLsbD 3 = false))
    (hhead : (s.sq q).head.toNat < s.sqSize q) :
    s.enableSq q = some (s.sqStarted q) := by
  refine if_pos ⟨hst, hcq, hstrm.imp (by simp) And.left, hhead, ?_⟩
  obtain h | ⟨-, h⟩ := hstrm
  · rw [h]; rfl
  · rw [h, Bool.and_false]; rfl

theorem State.enableSq_none (h : (s.sq q).st ≠ .disabled ∨ (s.cq (s.sqCq q)).st ≠ .active) : s.enableSq q = none :=
  if_neg fun ⟨hst, hcq, _⟩ => h.elim (· hst) (· hcq)

/-- An SQ that fetches no more, and whose CQ has the entries back that its descriptors in flight had reserved (R171). -/
def State.sqStopped (s : State) (q : Nat) : State :=
  (s.updCq (s.sqCq q) fun c => { c with reserved := c.reserved - 2 * (s.sq q).fetch.foldl (fun a e => a + e.2.2.1) 0 }).updSq q
    fun x => { x with st := if x.out = 0 then .disabled else .draining, fetch := [] }

theorem State.disableSq_some (h : (s.sq q).st = .active ∨ (s.sq q).st = .error) : s.disableSq q = some (s.sqStopped q) := if_pos h

theorem State.disableSq_none (h : (s.sq q).st = .disabled ∨ (s.sq q).st = .draining) : s.disableSq q = none :=
  if_neg (by obtain h | h := h <;> simp [h])

end

end Sys2Proof.Machine
end

section
/-! PROOF. ENABLE and DISABLE of a submission ring (O24). -/

namespace Sys2Proof.Proofs
open Sys2Proof.Machine Sys2Proof.Safety

section
variable {p : Path} {q : BitVec 12} {data : Word} {s v : State}

/-- A write with ENABLE: the ring is enabled, or the bit is ignored, and the limit is stored. -/
theorem sqEnable_write (h : Acts p .sqcW7 q.toNat s) (hf : Formed s) (hlow : fieldOf data 0 2 = 0)
    (hv : (s.enableSq q.toNat).getD (ignored p .sqcW7 q.toNat (data ||| 1) 0 1 s) = v) (hcfg : v.regs.cfg = s.regs.cfg)
    (hlate : v.regs.late = s.regs.late) : ∃ u : State, exec (.sqEnable p q data) s = .next u.noteLevel ∧ Only [.regs] v u ∧
      (v.regs.clampNew = true → u.regs.clampNew = true) ∧ u.fld .sqcW7 q.toNat 16 11 = min 1024 (max 1 (fieldOf data 16 11)) := by
  obtain ⟨h0, h1⟩ := bitOf_of_low hlow
  have hact : s.act (writeOf p .sqcW7 q.toNat (data ||| 1)) .sqcW7 q.toNat = v :=
    (State.act_sqEnable (w := writeOf p .sqcW7 q.toNat (data ||| 1)) ((bitOf_or 1 0).trans (by rw [h0]; rfl))
      ((bitOf_or 1 1).trans (by rw [h1]; rfl))).trans hv
  obtain ⟨u, hexec, honly, hnoted, hlimit⟩ := State.namedWrite_sqcW7 h hf hact hcfg hlate
  exact ⟨u, congrArg _ hexec, honly, hnoted, hlimit.trans (congrArg (bounded 1 1024) (fieldOf_or_of_lt (by decide)))⟩

/-- A write with DISABLE: the ring is disabled, or the bit is ignored. -/
theorem sqDisable_write (h : Acts p .sqcW7 q.toNat s) (hf : Formed s) (hlow : fieldOf data 0 2 = 0)
    (hv : (s.disableSq q.toNat).getD (ignored p .sqcW7 q.toNat (data ||| 2) 1 1 s) = v) (hcfg : v.regs.cfg = s.regs.cfg)
    (hlate : v.regs.late = s.regs.late) : ∃ u : State, exec (.sqDisable p q data) s = .next u.noteLevel ∧ Only [.regs] v u ∧
      (v.regs.clampNew = true → u.regs.clampNew = true) := by
  obtain ⟨h0, h1⟩ := bitOf_of_low hlow
  have hact : s.act (writeOf p .sqcW7 q.toNat (data ||| 2)) .sqcW7 q.toNat = v :=
    (State.act_sqDisable (w := writeOf p .sqcW7 q.toNat (data ||| 2)) ((bitOf_or 2 0).trans (by rw [h0]; rfl))
      ((bitOf_or 2 1).trans (by rw [h1]; rfl))).trans hv
  obtain ⟨u, hexec, honly, hnoted, -⟩ := State.namedWrite_sqcW7 h hf hact hcfg hlate
  exact ⟨u, congrArg _ hexec, honly, hnoted⟩

/-- An ignored bit is a new entry of the clamp log. -/
theorem ignored_clamped (n : RegName) (i : Nat) (d : Word) (lo wd : Nat) :
    Clamped s (ignored p n i d lo wd s) ∧ (ignored p n i d lo wd s).regs.clampNew = true :=
  ⟨s.clampNote_clamped .., rfl⟩

end

/-- Settles O24: the action is carried out or ignored by the ring's state, and the limit is stored after it. -/
theorem submissionRingsEnableAndDisable : Obligations.SubmissionRingsEnableAndDisable := by
  unfold Obligations.SubmissionRingsEnableAndDisable
  intro p q data s h hf hlow
  refine ⟨fun hst hcq hstrm hhead => ?_, fun hno => ?_, fun hst => ?_, fun hst => ?_⟩
  · obtain ⟨u, hexec, honly, -, hlimit⟩ := sqEnable_write (v := s.sqStarted q.toNat) h hf hlow
      (by rw [State.enableSq_some hst hcq hstrm hhead, Option.getD_some]) rfl rfl
    exact ⟨u, hexec, ((State.updSq_only _).trans honly).mono (by simp), honly.same .rng (by decide), hlimit⟩
  · obtain ⟨hc, hnew⟩ := ignored_clamped (s := s) (p := p) .sqcW7 q.toNat (data ||| 1) 0 1
    obtain ⟨u, hexec, honly, hnoted, hlimit⟩ := sqEnable_write h hf hlow
      (by rw [State.enableSq_none hno, Option.getD_none]) hc.cfg hc.late
    exact ⟨u, hexec, hc.only.step honly, hnoted hnew, hlimit⟩
  · obtain ⟨u, hexec, honly, -⟩ := sqDisable_write (v := s.sqStopped q.toNat) h hf hlow
      (by rw [State.disableSq_some hst, Option.getD_some]) rfl rfl
    exact ⟨u, hexec, (((State.updCq_only _).step (State.updSq_only _)).trans honly).mono (by simp), honly.same .rng (by decide)⟩
  · obtain ⟨hc, hnew⟩ := ignored_clamped (s := s) (p := p) .sqcW7 q.toNat (data ||| 2) 1 1
    obtain ⟨u, hexec, honly, hnoted⟩ := sqDisable_write h hf hlow
      (by rw [State.disableSq_none hst, Option.getD_none]) hc.cfg hc.late
    exact ⟨u, hexec, hc.only.step honly, hnoted hnew⟩

end Sys2Proof.Proofs
end

section
/-! SUPPORT. The writes of a CQ's control register (R172, R201). Entries that RESUME releases, and the commands that end with them,
leave no write waiting (R554). -/

namespace Sys2Proof.Machine
open Sys2Proof.Safety

namespace Posts
variable (s : State)

theorem mwrAll (tc addr : Nat) (bytes : List Byte) : Posts s (s.mwrAll tc addr bytes) := by
  have hrun : ∀ (l : List (List Byte)) (a : State × Nat),
      Posts a.1 (l.foldl (fun (a : State × Nat) c => (a.1.mwr tc a.2 c, a.2 + c.length)) a).1 := by
    intro l
    induction l with
    | nil => exact fun a => refl a.1
    | cons c l ih => exact fun a => (mwr a.1 tc a.2 c).trans (ih _)
  exact hrun _ (s, addr)

/-- Writing a command's entry sends it, and what waited for it. -/
theorem writeHeld (q : Nat) (e : HeldEntry) : Posts s (s.writeHeld q e) := by
  unfold State.writeHeld
  extract_lets _ _ s₁
  have h₁ : Posts s s₁ := (placeEntry s ..).trans (rings _ _)
  split
  · exact h₁
  · exact h₁
  · exact h₁.trans (rings _ _)
  · split
    · exact h₁
    · exact (h₁.trans (rings _ _)).trans (foldl (fun t w => mwrAll t _ _ _) _ _)

theorem writeEntry (q : Nat) (e : HeldEntry) : Posts s (s.writeEntry q e) := ite (rings s _) (writeHeld s q e)

end Posts

/-- Two states have the same writes waiting. -/
structure SameLate (s t : State) : Prop where
  late : t.regs.late = s.regs.late

namespace SameLate
variable {s t u : State}

theorem refl (s : State) : SameLate s s := ⟨rfl⟩

/-- A step that at most sends, posts or wakes. -/
theorem posts (h : SameLate s t) (g : Posts t u) : SameLate s u := ⟨(congrArg Regs.late (Only.same g .regs (by decide))).trans h.late⟩

/-- One of two such steps. -/
theorem ite {c : Prop} [Decidable c] (h : SameLate s t) (g : SameLate s u) : SameLate s (if c then t else u) := by
  split
  · exact h
  · exact g

/-- A run of such steps. -/
theorem foldl {α : Type} {f : State → α → State} {l : List α} (hf : ∀ t a, SameLate s t → SameLate s (f t a)) (h : SameLate s t) :
    SameLate s (l.foldl f t) := by
  induction l generalizing t with
  | nil => exact h
  | cons a l ih => exact ih (hf t a h)

theorem rng {x : Rng} (h : SameLate s t) : SameLate s { t with rng := x } := ⟨h.late⟩
theorem sec {x : Sec} (h : SameLate s t) : SameLate s { t with sec := x } := ⟨h.late⟩
theorem qos {x : Qos} (h : SameLate s t) : SameLate s { t with qos := x } := ⟨h.late⟩
theorem updSq {q : Nat} {f : SqCtx → SqCtx} (h : SameLate s t) : SameLate s (t.updSq q f) := ⟨h.late⟩
theorem updCq {q : Nat} {f : CqCtx → CqCtx} (h : SameLate s t) : SameLate s (t.updCq q f) := ⟨h.late⟩
theorem updCmd {k : Nat} {f : Cmd → Cmd} (h : SameLate s t) : SameLate s (t.updCmd k f) := ⟨h.late⟩
theorem setCfg {n : RegName} {i : Nat} {w : Word} (h : SameLate s t) : SameLate s (t.setCfg n i w) := ⟨h.late⟩

theorem mwrAll {tc addr : Nat} {bytes : List Byte} (h : SameLate s t) : SameLate s (t.mwrAll tc addr bytes) :=
  h.posts (Posts.mwrAll ..)
theorem writeHeld {q : Nat} {e : HeldEntry} (h : SameLate s t) : SameLate s (t.writeHeld q e) := h.posts (Posts.writeHeld ..)
theorem writeEntry {q : Nat} {e : HeldEntry} (h : SameLate s t) : SameLate s (t.writeEntry q e) := h.posts (Posts.writeEntry ..)
theorem flushHeld (h : SameLate s t) : SameLate s t.flushHeld := h.posts (Posts.flushHeld _)
theorem postEvent {code sqid sev : Nat} {res0 : Word} {res1 : Nat} (h : SameLate s t) :
    SameLate s (t.postEvent code sqid sev res0 res1) := h.posts (Posts.postEvent ..)
theorem streamRelease {q n : Nat} (h : SameLate s t) : SameLate s (t.streamRelease q n) := ite h h.qos.updSq

/-- A final entry may bring a register write with it (R233), which is carried out at once. -/
theorem writeFinal {c : Cmd} {f : Final} (h : SameLate s t) : SameLate s (t.writeFinal c f) := by
  unfold State.writeFinal
  extract_lets _ _ _ _ s₁ _ s₂ _ _ s₃
  have h₁ : SameLate s s₁ := ite (ite h.mwrAll h) (foldl (fun _ _ h => h.mwrAll) (ite h.mwrAll h))
  have h₂ : SameLate s s₂ := by
    unfold s₂
    split
    · exact ite h₁ (ite h₁.setCfg h₁.setCfg)
    · split
      · exact ite h₁.sec h₁
      · exact h₁
    · exact h₁
  have h₃ : SameLate s s₃ := ite h₂.writeHeld.streamRelease h₂.writeHeld
  split
  · exact postEvent (updSq (rng (ite h₃.updCq h₃)))
  · exact updSq (rng (ite h₃.updCq h₃))

theorem complete {c : Cmd} {f : Final} (h : SameLate s t) : SameLate s (t.complete c f) :=
  ite h.rng (ite h.updCmd.writeEntry h.writeFinal)

theorem settleN {fuel : Nat} (h : SameLate s t) : SameLate s (t.settleN fuel) := by
  induction fuel generalizing t with
  | zero => exact h
  | succ fuel ih =>
    unfold State.settleN
    split
    · exact h
    · split
      · exact h
      · exact ih h.complete

theorem settle (h : SameLate s t) : SameLate s t.settle := h.settleN

theorem releaseEntry {q : Nat} {e : HeldEntry} (h : SameLate s t) : SameLate s (t.releaseEntry q e) := by
  unfold State.releaseEntry
  split
  · split
    · exact h.writeFinal
    · exact h
  all_goals exact h.writeHeld

end SameLate

section
variable {s : State} {w : RegWrite} {q : Nat}

theorem cqcW7_acts : (regFields .cqcW7 q).all (fun f => !f.typ.stored) = true := rfl

/-! ## The actions: ENABLE, DISABLE or RESUME alone in the word -/

theorem State.act_cqEnable (h : w.data = 1) : s.act w .cqcW7 q = (s.enableCq q).getD (s.ignoredField w 0 1) := by
  cases hr : s.enableCq q <;> simp [State.act, State.bitAction, bitOf, h, hr]

theorem State.act_cqDisable (h : w.data = 2) : s.act w .cqcW7 q = (s.disableCq q).getD (s.ignoredField w 1 1) := by
  cases hr : s.disableCq q <;> simp [State.act, State.bitAction, bitOf, h, hr]

theorem State.act_cqResume (h : w.data = 4) : s.act w .cqcW7 q = (s.resumeCq q).getD (s.ignoredField w 2 1) := by
  cases hr : s.resumeCq q <;> simp [State.act, State.bitAction, bitOf, h, hr]

/-- A CQ made ACTIVE and empty, with PHASE 1 (R172). -/
def State.cqStarted (s : State) (q : Nat) : State :=
  (s.updCq q fun c => { c with
    st := .active, head := 0, accepted := 0, tail := 0, phase := true, unNote := 0, oldest := none, reserved := 0, held := [] }).flushHeld

theorem State.enableCq_some (h : (s.cq q).st = .disabled) : s.enableCq q = some (s.cqStarted q) := if_pos h
theorem State.enableCq_none (h : (s.cq q).st ≠ .disabled) : s.enableCq q = none := if_neg h

theorem State.disableCq_some (hst : (s.cq q).st ≠ .disabled) (hsqs : s.sqsOf q = 0) (hres : (s.cq q).reserved = 0)
    (hevt : s.evtEn = false ∨ s.evtCq ≠ q) : s.disableCq q = some (s.updCq q fun c => { c with st := .disabled }) :=
  if_pos ⟨hst, hsqs, hres, by simpa [or_iff_not_imp_left] using hevt⟩

theorem State.disableCq_none (h : (s.cq q).st = .disabled ∨ s.sqsOf q ≠ 0 ∨ (s.cq q).reserved ≠ 0 ∨
    (s.evtEn = true ∧ s.evtCq = q)) : s.disableCq q = none := by
  refine if_neg ?_
  rintro ⟨hst, hsqs, hres, hevt⟩
  obtain h | h | h | ⟨hen, hq⟩ := h
  · exact hst h
  · exact h hsqs
  · exact h hres
  · simp [hen, hq] at hevt

/-- A CQ that has left ERROR with its HEAD as written, with its held entries written in their order (R201). -/
def State.cqResumed (s : State) (q : Nat) : State :=
  ((s.cq q).held.foldl (fun t e => t.releaseEntry q e)
    (s.updCq q fun c => { c with st := .active, accepted := c.head, held := [] })).settle.flushHeld

theorem State.resumeCq_some (hst : (s.cq q).st = .error) (hhead : (s.cq q).head.toNat < s.cqSize q)
    (hfree : ringDist (s.cqSize q) (s.cq q).head.toNat (s.cq q).accepted.toNat ≤
      ringDist (s.cqSize q) (s.cq q).tail.toNat (s.cq q).accepted.toNat) : s.resumeCq q = some (s.cqResumed q) :=
  if_pos ⟨hst, hhead, hfree⟩

theorem State.cqStarted_late : SameLate s (s.cqStarted q) := .flushHeld (.updCq (.refl s))

theorem State.cqResumed_late : SameLate s (s.cqResumed q) :=
  .flushHeld (.settle (.foldl (fun _ _ h => h.releaseEntry) (.updCq (.refl s))))

end

end Sys2Proof.Machine
end

section
/-! PROOF. ENABLE, DISABLE and RESUME of a completion ring (O25). -/

namespace Sys2Proof.Proofs
open Sys2Proof.Machine Sys2Proof.Safety

/-- A write to the register that acts at once is its action alone. -/
theorem cqcW7_write {p : Path} {q : Nat} {d : Word} {s v : State} (h : Acts p .cqcW7 q s)
    (hact : s.act (writeOf p .cqcW7 q d) .cqcW7 q = v) (hlate : SameLate s v) : s.namedWrite p .cqcW7 q d 0 none = v.noteLevel := by
  have hnone : v.regs.late = [] := by
    obtain ⟨-, -, hs, -⟩ := h
    exact hlate.late.trans hs
  exact s.namedWrite_does v p .cqcW7 q d 0 none h cqcW7_acts rfl hact hnone

theorem ignored_late (p : Path) (n : RegName) (i : Nat) (d : Word) (lo wd : Nat) (s : State) : SameLate s (ignored p n i d lo wd s) :=
  ⟨s.ignoredField_late ..⟩

/-- Settles O25: each bit acts, or is ignored, by the ring's state and what still counts on it. -/
theorem completionRingsEnableDisableResume : Obligations.CompletionRingsEnableDisableResume := by
  unfold Obligations.CompletionRingsEnableDisableResume
  intro p q s h
  refine ⟨fun hst => ?_, fun hst => ?_, fun hst hsqs hres hevt => ?_, fun hno => ?_, fun hst hhead hfree => ?_⟩
  · refine congrArg _ (cqcW7_write h ((State.act_cqEnable rfl).trans ?_) State.cqStarted_late)
    rw [State.enableCq_some hst, Option.getD_some]
  · refine congrArg _ (cqcW7_write h ((State.act_cqEnable rfl).trans ?_) (ignored_late ..))
    rw [State.enableCq_none hst, Option.getD_none]
    rfl
  · refine congrArg _ (cqcW7_write h ((State.act_cqDisable rfl).trans ?_) (.updCq (.refl s)))
    rw [State.disableCq_some hst hsqs hres hevt, Option.getD_some]
  · refine congrArg _ (cqcW7_write h ((State.act_cqDisable rfl).trans ?_) (ignored_late ..))
    rw [State.disableCq_none hno, Option.getD_none]
    rfl
  · refine congrArg _ (cqcW7_write h ((State.act_cqResume rfl).trans ?_) State.cqResumed_late)
    rw [State.resumeCq_some hst hhead hfree, Option.getD_some]

end Sys2Proof.Proofs
end

section
/-! SUPPORT. Fetching (R178, R179): how many descriptors an SQ asks for, and what its turn reserves. -/

namespace Sys2Proof.Machine
open Sys2Proof.Safety

section
variable {s : State} {q : Nat}

/-! ## A ring with no descriptors in flight -/

theorem State.takeDescs_none (n : Nat) (h : (s.sq q).fetch = []) : s.takeDescs n q = s := by
  cases n with
  | zero => rfl
  | succ n => simp [State.takeDescs, h]

theorem State.reportLost_none (h : s.rng.evLost = 0) : s.reportLost = s := if_neg fun hl => hl.2.1 h

theorem SqCtx.inFlight_none {x : SqCtx} (h : x.fetch = []) : x.inFlight = 0 := by simp [SqCtx.inFlight, h]

/-! ## How many are asked for -/

/-- A ring that is not ACTIVE, whose CQ is not, below the data floor or in a deep power state asks for none. -/
theorem State.fetchCount_stopped (h : s.dataFloor = false ∨ (s.sq q).st ≠ .active ∨ (s.cq (s.sqCq q)).st ≠ .active ∨
    2 ≤ s.pwr.state.toNat) : s.fetchCount q = 0 := by
  unfold State.fetchCount
  refine ite_eq_left_iff.mpr fun _ => if_pos ?_
  simp only [Bool.not_eq_true']
  tauto

/-- What bounds the number asked for: the window, the descriptors that wait, the limit of commands, the room of the CQ, and the commands
that the node can hold. -/
theorem State.fetchCount_le : s.fetchCount q ≤ s.fld .sqcW3 q 12 4 ∧ s.fetchCount q ≤ s.pend q - (s.sq q).inFlight ∧
    s.fetchCount q ≤ s.fld .sqcW7 q 16 11 - (s.sq q).out - (s.sq q).inFlight ∧
    s.fetchCount q ≤ s.cqRoom (s.sqCq q) ∧ s.fetchCount q ≤ 4096 - s.held := by
  unfold State.fetchCount
  dsimp only
  split
  · simp
  · split
    · simp
    · simp only [min_le_iff, le_refl, true_or, or_true, and_self]

theorem State.cmds_le_held : s.rng.cmds.length ≤ s.held := Nat.le_add_right _ _

/-! ## The turn -/

theorem State.turnOf_none (h : s.fetchCount q = 0) : s.turnOf q = s := if_pos h

/-- Two entries of the CQ are reserved for each descriptor asked for (R178). -/
def State.fetchReserved (s : State) (q n : Nat) : State :=
  let s := (s.updCq (s.sqCq q) fun c => { c with reserved := c.reserved + 2 * n }).updSq q fun x => { x with usedAt := some s.now }
  { s with rng := if s.sqStream q then { s.rng with lastStrm := q } else { s.rng with lastSq := q } }

/-- They are asked for behind those in flight (R179). -/
theorem State.turnOf_asks (h : s.fetchCount q ≠ 0) : s.turnOf q = (s.fetchReserved q (s.fetchCount q)).askDescs q
    (((s.sq q).head.toNat + (s.sq q).inFlight) % s.sqSize q) (s.fetchCount q) := if_neg h

theorem State.fetchReserved_only (n : Nat) : Only [.rng] s (s.fetchReserved q n) := by simp [Only, State.fetchReserved]

theorem State.fetchReserved_rings (n : Nat) : (s.fetchReserved q n).rng.cqs = (s.updCq (s.sqCq q) fun c =>
      { c with reserved := c.reserved + 2 * n }).rng.cqs ∧
    (s.fetchReserved q n).rng.sqs = (s.updSq q fun x => { x with usedAt := some s.now }).rng.sqs := by
  unfold State.fetchReserved
  constructor <;> dsimp only <;> split <;> rfl

theorem State.fetchReserved_cq {n : Nat} (h : n ≠ 0) :
    ((s.fetchReserved q n).cq (s.sqCq q)).reserved = (s.cq (s.sqCq q)).reserved + 2 * n := by
  have hne : { s.cq (s.sqCq q) with reserved := (s.cq (s.sqCq q)).reserved + 2 * n } ≠ CqCtx.init := fun e => by
    have hr : (s.cq (s.sqCq q)).reserved + 2 * n = 0 := congrArg CqCtx.reserved e
    omega
  rw [State.cq, (State.fetchReserved_rings n).1]
  exact congrArg CqCtx.reserved (State.cq_updCq_self (f := fun c => { c with reserved := c.reserved + 2 * n }) hne)

theorem State.fetchReserved_sq (n : Nat) : ((s.fetchReserved q n).sq q).usedAt = some s.now := by
  have hne : { s.sq q with usedAt := some s.now } ≠ SqCtx.init := fun e => by cases congrArg SqCtx.usedAt e
  rw [State.sq, (State.fetchReserved_rings n).2]
  exact congrArg SqCtx.usedAt (State.sq_updSq_self (f := fun x => { x with usedAt := some s.now }) hne)

/-! ## Notification by time (R199) -/

/-- COAL_TIMEOUT without COAL_US, an entry to notify, the enable, or the wait of its oldest entry over. -/
theorem coalTimeout_rests {q : BitVec 12} (h : s.fld .cqcW3 q.toNat 8 16 = 0 ∨ (s.cq q.toNat).unNote = 0 ∨
    s.flag .cqcW3 q.toNat 24 = false ∨ s.now < (s.cq q.toNat).oldest.getD s.now + s.fld .cqcW3 q.toNat 8 16) :
    exec (.coalTimeout q) s = .next s := by
  refine congrArg Host.Outcome.next (if_neg ?_)
  rintro ⟨hus, hnote, hdue, hen⟩
  obtain h | h | h | h := h
  · exact hus h
  · omega
  · simp [hen] at h
  · omega

/-- COAL_TIMEOUT once the oldest entry not yet notified has waited COAL_US. -/
theorem coalTimeout_notifies {q : BitVec 12} (hus : s.fld .cqcW3 q.toNat 8 16 ≠ 0) (hnote : 0 < (s.cq q.toNat).unNote)
    (hen : s.flag .cqcW3 q.toNat 24 = true)
    (hdue : (s.cq q.toNat).oldest.getD s.now + s.fld .cqcW3 q.toNat 8 16 ≤ s.now) :
    exec (.coalTimeout q) s = .next (s.notify q.toNat) := congrArg Host.Outcome.next (if_pos ⟨hus, hnote, hdue, hen⟩)

end

end Sys2Proof.Machine
end

section
/-! SUPPORT. A fetched descriptor (R180, R187, R200): what becomes of it, and what an entry for it leaves of its CQ. -/

namespace Sys2Proof.Machine
open Sys2Proof.Safety

/-! ## Packets leave the rings alone, but for MRDs that have left -/

/-- Of the rings at most the outstanding MRDs differ. -/
structure SameRings (s t : State) : Prop where
  rings : ∃ m, t.rng = { s.rng with mrds := m }

namespace SameRings
variable {s t u : State}

theorem refl (s : State) : SameRings s s := ⟨s.rng.mrds, rfl⟩

/-- One of two such steps. -/
theorem ite {c : Prop} [Decidable c] (h : SameRings s t) (g : SameRings s u) : SameRings s (if c then t else u) := by
  split
  · exact h
  · exact g

/-- A run of such steps. -/
theorem foldl {α : Type} {f : State → α → State} {l : List α} (hf : ∀ t a, SameRings s t → SameRings s (f t a)) (h : SameRings s t) :
    SameRings s (l.foldl f t) := by
  induction l generalizing t with
  | nil => exact h
  | cons a l ih => exact ih (hf t a h)

theorem clk {x : Clk} (h : SameRings s t) : SameRings s { t with clk := x } := ⟨h.rings⟩
theorem emit {o : Out} (h : SameRings s t) : SameRings s (t.emit o) := ⟨h.rings⟩
theorem setPort {n : Nat} {p : Port} (h : SameRings s t) : SameRings s (t.setPort n p) := ⟨h.rings⟩
theorem updPort {n : Nat} {f : Port → Port} (h : SameRings s t) : SameRings s (t.updPort n f) := ⟨h.rings⟩

theorem mrdLeft {x : Packet} (h : SameRings s t) : SameRings s (t.mrdLeft x) := by
  obtain ⟨m, h⟩ := h
  exact ⟨_, by rw [State.mrdLeft, h]⟩

theorem burst {n : Nat} {lanes : Byte} {count : Nat} (h : SameRings s t) : SameRings s (t.burst n lanes count) :=
  emit (foldl (fun _ _ h => h.emit) h)

theorem wakeL0 {n : Nat} (h : SameRings s t) : SameRings s (t.wakeL0 n) := ite h h.clk.emit.burst.updPort

theorem pump {fuel n : Nat} (h : SameRings s t) : SameRings s (State.pump fuel t n) := by
  induction fuel generalizing t with
  | zero => exact h
  | succ fuel ih =>
    unfold State.pump
    extract_lets
    split
    · exact h
    · split
      · exact h
      · exact ih (emit (setPort (ite h.mrdLeft h)))

theorem toHost {ty : PType} {len tc tag : Nat} {w2 w3 : Word} {payload : List Word} (h : SameRings s t) :
    SameRings s (t.toHost ty len tc tag w2 w3 payload) := ite h h.updPort.wakeL0.pump

theorem mwr {tc addr : Nat} {bytes : List Byte} (h : SameRings s t) : SameRings s (t.mwr tc addr bytes) := h.toHost

end SameRings

/-! ## A CQ that is not DISABLED keeps its state while an entry is written -/

/-- The state of a CQ, where it is not DISABLED, is the same. -/
structure CqStays (q : Nat) (s t : State) : Prop where
  st : (s.cq q).st ≠ .disabled → (t.cq q).st = (s.cq q).st

namespace CqStays
variable {q : Nat} {s t u : State}

theorem refl (s : State) : CqStays q s s := ⟨fun _ => rfl⟩

theorem ite {c : Prop} [Decidable c] (h : CqStays q s t) (g : CqStays q s u) : CqStays q s (if c then t else u) := by
  split
  · exact h
  · exact g

theorem rings (h : CqStays q s t) (g : SameRings t u) : CqStays q s u := by
  obtain ⟨m, g⟩ := g
  refine ⟨fun hs => ?_⟩
  rw [State.cq, g]
  exact h.st hs

theorem mwr {tc addr : Nat} {bytes : List Byte} (h : CqStays q s t) : CqStays q s (t.mwr tc addr bytes) :=
  h.rings (.mwr (.refl t))

/-- A rewrite of the ring that keeps its state. -/
theorem updCq {f : CqCtx → CqCtx} (h : CqStays q s t) (hf : ∀ c, (f c).st = c.st) : CqStays q s (t.updCq q f) := by
  refine ⟨fun hs => ?_⟩
  have hst : (f (t.cq q)).st = (s.cq q).st := (hf _).trans (h.st hs)
  rw [State.cq_updCq_self (CqCtx.ne_init (hst ▸ hs)), hst]

theorem notify (h : CqStays q s t) : CqStays q s (t.notify q) := by
  have hcleared := h.updCq (f := fun c => { c with unNote := 0, oldest := none }) fun _ => rfl
  exact hcleared.rings (.toHost (.refl _))

theorem placeEntry {e : Entry} {tc : Nat} {atOnce : Bool} (h : CqStays q s t) : CqStays q s (t.placeEntry q e tc atOnce) := by
  unfold State.placeEntry
  extract_lets c _ _ s₁ _ s₂ s₃
  have h₂ : CqStays q s s₂ := h.mwr.updCq fun _ => rfl
  have h₃ : CqStays q s s₃ := ite (h₂.updCq fun _ => rfl) h₂
  exact ite h₃.notify h₃

end CqStays

section
variable {s : State} {q c : Nat} {e : HeldEntry} {cid : BitVec 16}

/-- An entry whose pair is remembered, written on a CQ that is not in ERROR. -/
theorem State.writeHeld_pair (he : e.use = .pair cid) : ∃ v, CqStays c s v ∧ s.writeHeld c e = v.remember e.sq cid := by
  unfold State.writeHeld
  rw [he]
  refine ⟨_, ?_, rfl⟩
  exact (CqStays.refl s).placeEntry.updCq fun _ => rfl

theorem State.cq_remember : (s.remember q cid).cq c = s.cq c := by
  simp only [State.cq, State.remember]

/-- Written or held, it leaves the state of its CQ. -/
theorem State.writeEntry_stays (he : e.use = .pair cid) : CqStays c s (s.writeEntry c e) := by
  obtain ⟨v, hv, hwrite⟩ := State.writeHeld_pair (s := s) (c := c) he
  refine .ite ((CqStays.refl s).updCq fun _ => rfl) ⟨fun hs => ?_⟩
  rw [hwrite, State.cq_remember]
  exact hv.st hs

/-- The pair remembered last is among the last 256 (R236). -/
theorem State.remember_last : (s.remember q cid).rng.remembered.getLast? = some (q, cid) := by
  have hkeeps : ∀ (l : List (Nat × BitVec 16)), l ≠ [] → (l.drop (l.length - 256)).getLast? = l.getLast? := by
    intro l hl
    have hlen : 0 < l.length := List.length_pos_of_ne_nil hl
    rw [List.getLast?_drop, if_neg (by omega)]
  simp only [State.remember]
  rw [hkeeps _ (by simp), List.getLast?_concat]

/-- Its pair is remembered as it is written, and not while it is held (R201, R236). -/
theorem State.writeEntry_remembers (he : e.use = .pair cid) (h : (s.cq c).st ≠ .error) :
    (s.writeEntry c e).rng.remembered.getLast? = some (e.sq, cid) := by
  obtain ⟨v, -, hwrite⟩ := State.writeHeld_pair (s := s) (c := c) he
  rw [State.writeEntry, if_neg h, hwrite]
  exact State.remember_last

theorem State.writeEntry_holds (h : (s.cq c).st = .error) : (s.writeEntry c e).rng.remembered = s.rng.remembered := by
  rw [State.writeEntry, if_pos h]
  rfl

end

/-! ## A fetched descriptor -/

section
variable {s : State} {q : Nat} {op : Op} {d : Desc}

/-- HEAD has passed a descriptor (R180, R181). -/
def SqCtx.advanced (x : SqCtx) (size : Nat) : SqCtx :=
  { x with
    head := if x.head.toNat + 1 = size then 0 else x.head + 1
    gen := if x.head.toNat + 1 = size then x.gen + 1 else x.gen }

theorem State.sq_advanceHead (h : (s.sq q).st ≠ .disabled) : (s.advanceHead q).sq q = (s.sq q).advanced (s.sqSize q) :=
  State.sq_updSq_self (SqCtx.ne_init h)

/-- A descriptor that HEAD passes becomes an outstanding command of its ring (R180, R187). -/
def State.outstanding (s : State) (q : Nat) (c : Cmd) : State :=
  let s := s.advanceHead q
  let s := { s with rng := { s.rng with cmds := s.rng.cmds ++ [c], nextId := s.rng.nextId + 1 } }
  s.updSq q fun x => { x with out := x.out + 1 }

theorem State.outstanding_only (c : Cmd) : Only [.rng] s (s.outstanding q c) := by simp [Only, State.outstanding, State.advanceHead]

theorem State.sq_outstanding (c : Cmd) (h : (s.sq q).st ≠ .disabled) :
    (s.outstanding q c).sq q = { (s.sq q).advanced (s.sqSize q) with out := (s.sq q).out + 1 } := by
  have hhead := State.sq_advanceHead h
  have hout := State.sq_updSq_self (s := s.advanceHead q) (q := q) (f := fun x => { x with out := x.out + 1 })
    (SqCtx.ne_init (by rw [hhead]; exact h))
  rw [hhead] at hout
  exact hout

/-- One reserved entry of a CQ is given back, or no longer needed. -/
def State.unreserve (s : State) (c : Nat) : State := s.updCq c fun k => { k with reserved := k.reserved - 1 }

/-- A command that needs one entry gives the second of its descriptor back (R178). -/
def State.accepted (s : State) (q : Nat) (op : Op) (d : Desc) : State :=
  if (s.newCmd q op d).early then s.outstanding q (s.newCmd q op d)
  else (s.outstanding q (s.newCmd q op d)).unreserve (s.sqCq q)

theorem State.accepted_only : Only [.rng] s (s.accepted q op d) := by
  unfold State.accepted
  split
  · exact State.outstanding_only _
  · exact (State.outstanding_only _).step (State.updCq_only _)

theorem State.sqStream_accepted : (s.accepted q op d).sqStream q = s.sqStream q := by
  have hregs : (s.accepted q op d).regs = s.regs := State.accepted_only.same .regs (by decide)
  unfold State.sqStream State.flag State.cfgWord
  rw [hregs]

/-- The reservation is all that the two cases differ in. -/
theorem State.accepted_rings : (s.accepted q op d).rng.cmds = s.rng.cmds ++ [s.newCmd q op d] ∧
    (s.accepted q op d).rng.nextId = s.rng.nextId + 1 ∧
    (s.accepted q op d).sq q = (s.outstanding q (s.newCmd q op d)).sq q := by
  unfold State.accepted
  split <;> exact ⟨rfl, rfl, rfl⟩

/-- The check of these opcodes at their fetch decides nothing more. -/
theorem State.judgeAtFetch_plain {c : Cmd} (h : c.op ∉ [Op.flush, .sanitize, .keyDestroy, .abort]) : s.judgeAtFetch c = s := by
  unfold State.judgeAtFetch
  split
  case h_5 => rfl
  all_goals simp_all

/-- A descriptor that passes its checks. -/
theorem State.takeDesc_accepts (hstrm : s.sqStream q = false) (hgen : d.gen = (s.sq q).gen) (hcheck : s.checkDesc q d = .ok op)
    (hop : op ∉ [Op.flush, .sanitize, .keyDestroy, .abort]) : s.takeDesc q d = (s.accepted q op d, true) := by
  have hplain : ∀ t : State, t.judgeAtFetch (s.newCmd q op d) = t := fun t => State.judgeAtFetch_plain hop
  refine (if_neg (not_not.mpr hgen)).trans ?_
  rw [hcheck]
  refine (if_neg (by simp [hstrm])).trans ?_
  show ((if (s.accepted q op d).sqStream q = true ∧ (op == .read || op == .write) = true then _ else s.accepted q op d).judgeAtFetch
    (s.newCmd q op d), true) = _
  rw [if_neg (by simp [State.sqStream_accepted, hstrm]), hplain]

/-- A descriptor that fails a check is a command that ends at once. -/
theorem State.takeDesc_fails {st sd : Nat} (hgen : d.gen = (s.sq q).gen) (hcheck : s.checkDesc q d = .error (st, sd)) :
    s.takeDesc q d = (((s.outstanding q { s.newCmd q .nop d with key := 0 }).unreserve (s.sqCq q)).finish s.rng.nextId
      (plainFinal st sd 0 0), true) := by
  refine (if_neg (not_not.mpr hgen)).trans ?_
  rw [hcheck]
  rfl

/-- The entry of a descriptor of another generation: GEN_MISMATCH, with both generations (R200). -/
def State.staleEntry (s : State) (q : Nat) (d : Desc) : HeldEntry :=
  { entry := mkEntry d.cid.toNat q kindFinal 0x03 0 0 (BitVec.ofNat 32 d.gen.toNat) (s.sq q).gen.toNat
    sq := q, urgent := d.urgent, tc := (s.resolvedTc q d).toNat, use := .pair d.cid }

/-- The descriptor is no longer in flight. -/
def SqCtx.dropped (x : SqCtx) : SqCtx :=
  { x with fetch := match x.fetch with
    | (t, i, n, a) :: r => (t, i, n - 1, a) :: r
    | [] => [] }

theorem State.takeDesc_stale (hgen : d.gen ≠ (s.sq q).gen) : s.takeDesc q d =
    ((((s.writeEntry (s.sqCq q) (s.staleEntry q d)).unreserve (s.sqCq q)).updSq q SqCtx.dropped).sqError q 1, true) :=
  if_pos hgen

end

end Sys2Proof.Machine
end

section
/-! PROOF. Fetching, fetched descriptors and notification by time (O60). -/

namespace Sys2Proof.Proofs
open Sys2Proof.Machine Sys2Proof.Safety

section
variable {s : State} {q : Nat}

/-- With no descriptors in flight and no lost events to report, a fetch is the turn of the ring whose turn it is. -/
theorem descriptorFetch_turn {q : BitVec 12} (hnone : (s.sq q.toNat).fetch = []) (hlost : s.rng.evLost = 0) :
    exec (.descriptorFetch q) s = .next (if s.nextSq = some q.toNat then s.turnOf q.toNat else s) := by
  simp only [exec, execDescriptorFetch, State.takeDescs_none 32 hnone, State.reportLost_none hlost]

/-- What a ring with no descriptors in flight asks for, and what bounds it. -/
theorem fetch_bounds {n : Nat} (hnone : (s.sq q).fetch = []) (hn : s.fetchCount q = n) (h0 : n ≠ 0) :
    n ≤ s.fld .sqcW3 q 12 4 ∧ n ≤ s.pend q ∧ n + (s.sq q).out ≤ s.fld .sqcW7 q 16 11 ∧ s.rng.cmds.length + n ≤ 4096 ∧
      2 * n + (s.cq (s.sqCq q)).reserved + s.cqUsed (s.sqCq q) + 1 ≤ s.cqSize (s.sqCq q) := by
  obtain ⟨hwindow, hpend, hlimit, hroom, hheld⟩ := s.fetchCount_le (q := q)
  rw [SqCtx.inFlight_none hnone] at hpend hlimit
  rw [hn] at hwindow hpend hlimit hroom hheld
  have hcmds := s.cmds_le_held
  unfold State.cqRoom at hroom
  exact ⟨hwindow, by omega, by omega, by omega, by omega⟩

/-- Its turn reserves two entries for each descriptor, notes the tick, and asks for them from HEAD. -/
theorem fetch_reserves {n : Nat} (hnone : (s.sq q).fetch = []) (hn : s.fetchCount q = n) (h0 : n ≠ 0) : ∃ u : State,
    s.turnOf q = u.askDescs q ((s.sq q).head.toNat % s.sqSize q) n ∧ Only [.rng] s u ∧
      (u.cq (s.sqCq q)).reserved = (s.cq (s.sqCq q)).reserved + 2 * n ∧ (u.sq q).usedAt = some s.now := by
  refine ⟨s.fetchReserved q n, ?_, State.fetchReserved_only n, State.fetchReserved_cq h0, State.fetchReserved_sq n⟩
  rw [State.turnOf_asks (hn ▸ h0), hn, SqCtx.inFlight_none hnone, Nat.add_zero]

/-- A descriptor that passes its checks becomes an outstanding command, and HEAD passes it. -/
theorem descriptor_accepted {op : Op} {d : Desc} (hstrm : s.sqStream q = false) (hsq : (s.sq q).st ≠ .disabled)
    (hgen : d.gen = (s.sq q).gen) (hcheck : s.checkDesc q d = .ok op) (hop : op ∉ [Op.flush, .sanitize, .keyDestroy, .abort]) :
    ∃ u : State, s.takeDesc q d = (u, true) ∧ Only [.rng] s u ∧ u.rng.cmds = s.rng.cmds ++ [s.newCmd q op d] ∧
      u.rng.nextId = s.rng.nextId + 1 ∧ (u.sq q).out = (s.sq q).out + 1 ∧
      (u.sq q).head = (if (s.sq q).head.toNat + 1 = s.sqSize q then 0 else (s.sq q).head + 1) ∧
      ((s.sq q).head.toNat + 1 = s.sqSize q → (u.sq q).gen = (s.sq q).gen + 1) := by
  obtain ⟨hcmds, hid, hring⟩ := State.accepted_rings (s := s) (q := q) (op := op) (d := d)
  rw [State.sq_outstanding _ hsq] at hring
  refine ⟨s.accepted q op d, State.takeDesc_accepts hstrm hgen hcheck hop, State.accepted_only, hcmds, hid, ?_⟩
  rw [hring]
  exact ⟨rfl, rfl, fun hwraps => if_pos hwraps⟩

/-- A descriptor of another generation ends STALE within one reservation, and stops the ring. -/
theorem descriptor_stale {d : Desc} (hcq : (s.cq (s.sqCq q)).st ≠ .disabled) (hgen : d.gen ≠ (s.sq q).gen) : ∃ w u : State,
    w = s.writeEntry (s.sqCq q) (s.staleEntry q d) ∧ s.takeDesc q d = (u.sqError q 1, true) ∧ Only [.rng] w u ∧
      u.rng.cmds = w.rng.cmds ∧ (u.cq (s.sqCq q)).reserved = (w.cq (s.sqCq q)).reserved - 1 ∧
      ((s.cq (s.sqCq q)).st ≠ .error → u.rng.remembered.getLast? = some (q, d.cid)) ∧
      ((s.cq (s.sqCq q)).st = .error → u.rng.remembered = s.rng.remembered) := by
  have hst := (State.writeEntry_stays (s := s) (c := s.sqCq q) (e := s.staleEntry q d) rfl).st hcq
  have hreserved := State.cq_updCq_self (s := s.writeEntry (s.sqCq q) (s.staleEntry q d)) (q := s.sqCq q)
    (f := fun k => { k with reserved := k.reserved - 1 }) (CqCtx.ne_init (hst ▸ hcq))
  exact ⟨_, _, rfl, State.takeDesc_stale hgen, (State.updCq_only _).step (State.updSq_only _), rfl,
    congrArg CqCtx.reserved hreserved, fun hwritten => State.writeEntry_remembers rfl hwritten, fun herr => State.writeEntry_holds herr⟩

end

/-- Settles O60: the turn of a ring, the wait of a CQ's oldest entry, and what becomes of a fetched descriptor. -/
theorem fetchReservesAndDescriptorsBecomeCommands : Obligations.FetchReservesAndDescriptorsBecomeCommands := by
  unfold Obligations.FetchReservesAndDescriptorsBecomeCommands
  refine ⟨⟨fun q s hnone hlost => ⟨fun hturn => ?_, fun hturn => ?_, fun hstop => ?_, fun n hn h0 => ?_⟩,
      fun q s => ⟨fun hrests => ?_, fun a hus hnote hen ha => ⟨fun hdue => ?_, fun hearly => ?_⟩⟩,
      fun s => ⟨fun hf => ?_, fun hf => ?_⟩⟩,
    fun q d s hstrm hsq hcq => ⟨fun op hgen hcheck hop => ?_, fun st sd hgen hcheck => ?_, fun hgen => descriptor_stale hcq hgen⟩⟩
  · rw [descriptorFetch_turn hnone hlost, if_neg hturn]
  · rw [descriptorFetch_turn hnone hlost, if_pos hturn]
  · have hzero := State.fetchCount_stopped hstop
    exact ⟨hzero, State.turnOf_none hzero⟩
  · obtain ⟨hwindow, hpend, hlimit, hheld, hroom⟩ := fetch_bounds hnone hn h0
    exact ⟨hwindow, hpend, hlimit, hheld, hroom, fetch_reserves hnone hn h0⟩
  · exact coalTimeout_rests (hrests.imp_right (Or.imp_right .inl))
  · exact coalTimeout_notifies hus hnote hen (by rwa [ha])
  · exact coalTimeout_rests (.inr (.inr (.inr (by rwa [ha]))))
  · exact congrArg Host.Outcome.next (if_neg (by simp [hf]))
  · exact congrArg Host.Outcome.next (if_pos hf)
  · exact descriptor_accepted hstrm hsq hgen hcheck (by obtain rfl | rfl | rfl | rfl := hop <;> decide)
  · exact ⟨_, State.takeDesc_fails hgen hcheck, (State.outstanding_only _).step (State.updCq_only _)⟩

end Sys2Proof.Proofs
end

section
/-! PROOF. The commands that end in their first turn (O45, O46, O47): counterexamples. An entry is written by a packet to the host, and a
packet takes with it what waits in the port's queue, also an MRD of the node, whose timeout runs from then on (R332, R340, R356). -/

namespace Sys2Proof.Proofs
open Sys2Proof.Machine Sys2Proof.Safety

/-- What the statements say of the end of a command leaves the outstanding MRDs as they are. -/
theorem ended_keeps_mrds {c : Cmd} {status sdetail res1 : Nat} {res0 : Word} {s t : State}
    (h : Ended c status sdetail res0 res1 s t) : t.rng.mrds = s.rng.mrds := by
  obtain ⟨w, -, -, hrings, -⟩ := h
  rw [hrings]
  rfl

/-- The MRD of a descriptor, asked for and not sent. -/
def unsentMrd : Mrd := { tag := 0, use := .descs 0 1 1, words := 16, at_ := 0, sent := false, limit := 0 }

/-- A running node with one outstanding command on ACTIVE rings, which ask for no notification. Its upstream port is in UP, has credit, and
still holds that MRD, which was queued while the PLL of its lanes had tripped (R407): the lock alone sends nothing. -/
def mrdWaits (c : Cmd) : State :=
  { State.reset with
    die := { Die.init with mode := .running }
    rng := { Rng.init with
      cmds := [c]
      nextId := 2
      sqs := [(0, { SqCtx.init with st := .active, out := 1, fetch := [(1, 0, 1, none)] })]
      cqs := [(0, { CqCtx.init with st := .active, reserved := 4 })]
      mrds := [unsentMrd]
      nextTag := 1 }
    lnk := { Lnk.init with
      ports := [(0, { Port.init with
        st := .up
        lanes := 0xFF
        limit := [(0, 128), (1, 32), (2, 256)]
        txq := [(1, 4, { w0 := headWord .mrd 16, w1 := 0, w2 := 0, w3 := 0, payload := [] })] })] } }.setCfg .cqcW3 0 0

/-- It has the form that every step keeps: no malformed table is at fault. -/
theorem mrdWaits_formed (c : Cmd) : Formed (mrdWaits c) := by
  have hany : Formed (mrdWaits default) := by
    unfold Formed
    decide +kernel
  exact hany

theorem mrdWaits_unsent (c : Cmd) : (mrdWaits c).rng.mrds.map Mrd.sent = [false] := rfl

/-- A NOP (R234). -/
def loneNop : Cmd := { (default : Cmd) with op := .nop }

/-- A KEY_DESTROY whose erasure is done (R228). -/
def loneKeyDestroy : Cmd := { (default : Cmd) with op := .keyDestroy, phase := 2 }

/-- A RECODE of region 0 to the strength 2, which its map entry has after reset (R224). -/
def loneRecode : Cmd := { (default : Cmd) with op := .recode, desc := { (default : Desc) with opnd0 := 0x2000 } }

/-- Each of them is the only command, neither started nor judged. -/
theorem mrdWaits_sole : Sole loneNop (mrdWaits loneNop) ∧ Sole loneKeyDestroy (mrdWaits loneKeyDestroy) ∧
    Sole loneRecode (mrdWaits loneRecode) := by
  unfold Sole
  decide +kernel

/-! The final entry of each goes out behind the MRD that waited. -/

theorem nop_sends_mrd {t : State} (h : exec (.nop 0) (mrdWaits loneNop) = .next t) : t.rng.mrds.map Mrd.sent = [true] := by
  obtain rfl := Host.Outcome.next.inj h
  decide +kernel

theorem keyDestroy_sends_mrd {t : State} (h : exec (.keyDestroy 0) (mrdWaits loneKeyDestroy) = .next t) :
    t.rng.mrds.map Mrd.sent = [true] := by
  obtain rfl := Host.Outcome.next.inj h
  decide +kernel

theorem recode_sends_mrd {t : State} (h : exec (.recode 0) (mrdWaits loneRecode) = .next t) : t.rng.mrds.map Mrd.sent = [true] := by
  obtain rfl := Host.Outcome.next.inj h
  decide +kernel

/-- A turn that has sent the MRD has not ended its command as the statements say. -/
theorem not_ended_of_sent {c : Cmd} {status sdetail res1 : Nat} {res0 : Word} {t : State}
    (hsent : t.rng.mrds.map Mrd.sent = [true]) : ¬ Ended c status sdetail res0 res1 (mrdWaits c) t := by
  intro h
  rw [ended_keeps_mrds h, mrdWaits_unsent] at hsent
  cases hsent

/-- Refutes O45: the end of a NOP is said to change nothing of the rings but its own counts and entries, and the packet of its entry takes
along an MRD that waits in the port's queue, which is noted as sent (R332, R340, R356). -/
theorem not_commandsWithoutBlocksEnd : ¬ Obligations.CommandsWithoutBlocksEnd := by
  unfold Obligations.CommandsWithoutBlocksEnd
  intro h
  obtain ⟨hsole, -, -⟩ := mrdWaits_sole
  obtain ⟨hnop, -⟩ := h loneNop (mrdWaits loneNop) hsole rfl rfl
  obtain ⟨t, hexec, hended, -⟩ := hnop rfl
  exact not_ended_of_sent (nop_sends_mrd hexec) hended

/-- Refutes O46: the end of a KEY_DESTROY whose erasure is done is said to leave the outstanding MRDs as they are, and its entry goes out
behind one that waits, which is noted as sent (R332, R340, R356). -/
theorem not_keyCommands : ¬ Obligations.KeyCommands := by
  unfold Obligations.KeyCommands
  rintro ⟨h, -⟩
  obtain ⟨-, hsole, -⟩ := mrdWaits_sole
  obtain ⟨hdestroy, -⟩ := h loneKeyDestroy (mrdWaits loneKeyDestroy) hsole rfl rfl
  obtain ⟨t, hexec, hended, -⟩ := hdestroy rfl rfl
  exact not_ended_of_sent (keyDestroy_sends_mrd hexec) hended

/-- Refutes O47: the end of a RECODE of a region that has its new strength already is said to leave the outstanding MRDs as they are, and
its entry goes out behind one that waits, which is noted as sent (R332, R340, R356). -/
theorem not_getLogAndRecode : ¬ Obligations.GetLogAndRecode := by
  unfold Obligations.GetLogAndRecode
  rintro ⟨-, h⟩
  obtain ⟨-, -, hsole⟩ := mrdWaits_sole
  obtain ⟨hequal, -⟩ := h loneRecode (mrdWaits loneRecode) 0 hsole rfl rfl rfl rfl rfl
  obtain ⟨t, hexec, hended, -⟩ := hequal (by decide +kernel) rfl
  exact not_ended_of_sent (recode_sends_mrd hexec) hended

end Sys2Proof.Proofs
end

section
/-! PROOF. The adaptation of the class limits and the admission computation (O40). -/

namespace Sys2Proof.Machine
open Sys2Proof.Safety

/-- Rewrites at distinct keys, each of which sees the value that stood at its key before all of them. -/
theorem Tab.get_foldl_upd {α : Type} [DecidableEq α] {d : α} {t : Tab α} {f : Nat → α → α} {l : List Nat} (k : Nat)
    (h : Tab.wf d t = true) (hl : l.Nodup) :
    Tab.get d (l.foldl (fun t n => Tab.upd d t n (f n)) t) k = if k ∈ l then f k (Tab.get d t k) else Tab.get d t k := by
  induction l generalizing t with
  | nil => rfl
  | cons n l ih =>
    obtain ⟨hn, hl⟩ := List.nodup_cons.mp hl
    rw [List.foldl_cons, ih (Tab.wf_upd d t n (f n) h) hl, Tab.upd, Tab.get_set d t n k _ h]
    by_cases hk : k = n
    · subst hk
      simp [hn]
    · simp [hk]

/-! ## The adaptation step (R270) -/

theorem allChans_nodup : allChans.Nodup := List.nodup_range

theorem mem_allChans {i : Nat} : i ∈ allChans ↔ i < 1024 := List.mem_range

/-- The class is below the highest one that waits for the channel (R270). -/
def State.outranked (s : State) (i n : Nat) : Bool := (s.topWaiting i).any fun w => decide (n < w)

/-- Where the limit of a class moves from a value in one step (R270). -/
def State.adaptLim (s : State) (i n l : Nat) : Nat :=
  if s.fld .qosCfg 0 8 6 ≤ (s.chan i).queue.length then
    if s.outranked i n && !s.belowQuota n then max (s.fld .qosTc n 16 6) (l - s.fld .qosCfg 0 24 4) else l
  else if (s.chan i).queue.length ≤ s.fld .qosCfg 0 0 6 then max l (min (s.fld .qosTc n 24 6) (l + 1))
  else l

/-- The new limits on each channel (R270). -/
def State.limsMoved (s : State) : State := s.updChans allChans fun i c => { c with lim := s.adaptChan i }

/-- The tick of a step is noted: the next is due STEP_US ticks later (R270). -/
def State.stepNoted (s : State) (now : Nat) : State := { s with qos := { s.qos with lastStep := now } }

/-- The state after the step, before requests enter as the new limits allow (R270). -/
def State.adapted (s : State) : State := s.limsMoved.stepNoted s.now

section
variable {s : State} {i n : Nat}

theorem State.outranked_iff : s.outranked i n = true ↔ ∃ w, s.topWaiting i = some w ∧ n < w := by
  simp only [State.outranked, Option.any_eq_true, decide_eq_true_eq]

/-- Every class moves by itself. -/
theorem State.adaptChan_eq : s.adaptChan i = (List.range 8).foldl (fun t n => Tab.upd 2 t n (s.adaptLim i n)) (s.chan i).lim := by
  unfold State.adaptChan State.adaptLim State.outranked
  cases s.topWaiting i <;> rfl

theorem State.get_adaptChan (h : Tab.wf 2 (s.chan i).lim = true) (hn : n < 8) :
    Tab.get 2 (s.adaptChan i) n = s.adaptLim i n (Tab.get 2 (s.chan i).lim n) := by
  rw [State.adaptChan_eq, Tab.get_foldl_upd n h List.nodup_range, if_pos (List.mem_range.mpr hn)]

theorem State.limsMoved_only : Only [.tch] s s.limsMoved := State.updChans_only allChans _

theorem State.stepNoted_only (now : Nat) : Only [.qos] s (s.stepNoted now) := by simp [Only, State.stepNoted]
theorem State.stepNoted_qos (now : Nat) : (s.stepNoted now).qos = { s.qos with lastStep := now } := rfl
theorem State.chan_stepNoted (now : Nat) : (s.stepNoted now).chan i = s.chan i := rfl

theorem State.adapted_only : Only [.tch, .qos] s s.adapted := State.limsMoved_only.trans (State.stepNoted_only s.now)

theorem State.adapted_qos : s.adapted.qos = { s.qos with lastStep := s.now } := by
  have hq : s.limsMoved.qos = s.qos := State.limsMoved_only.same .qos (by decide)
  rw [State.adapted, State.stepNoted_qos, hq]

theorem State.chan_adapted (h : Tab.wf .init s.tch.chans = true) (hi : i < 1024) :
    s.adapted.chan i = { s.chan i with lim := s.adaptChan i } := by
  rw [State.adapted, State.chan_stepNoted, State.limsMoved, State.chan_updChans _ h allChans_nodup, if_pos (mem_allChans.mpr hi)]

/-- No step before its instant, and none in P2 to P4 (R270, R271). -/
theorem qosAdaptStep_early (h : s.now < s.qos.lastStep + s.fld .qosCfg 0 16 6 ∨ 2 ≤ s.pwr.state.toNat) :
    exec .qosAdaptStep s = .next s :=
  if_pos h

theorem qosAdaptStep_due (hnow : s.qos.lastStep + s.fld .qosCfg 0 16 6 ≤ s.now) (hpwr : s.pwr.state.toNat < 2) :
    exec .qosAdaptStep s = .next s.adapted.letInAll := by
  simp only [exec, execQosAdaptStep, State.adapted, State.stepNoted, State.limsMoved, State.updChans]
  exact if_neg (by omega)

end

/-! ## The admission computation (R280 to R284) -/

section
variable {s : State}

theorem State.admission_scale :
    s.admission.scale = if s.admission.sum ≤ s.admission.pool then 4096 else 4096 * s.admission.pool / s.admission.sum := rfl

theorem State.admission_app : s.admission.app = s.guars.map fun g => g * s.admission.scale / 4096 := rfl

/-- Guarantees are scaled down only (R280). -/
theorem State.admission_scale_le : s.admission.scale ≤ 4096 := by
  rw [State.admission_scale]
  split
  · exact le_rfl
  · next h => exact Nat.div_le_of_le_mul (by rw [Nat.mul_comm]; exact Nat.mul_le_mul_right 4096 (by omega))

/-- A recomputation writes its results and its report entry, and at most posts an event (R281, R283, R290). -/
theorem State.admitNow_posts : ∃ (log : List AdmEntry) (g : BitVec 8), Posts { s with qos := { s.qos with
    applied := Tab.setList 0 [] 0 s.admission.app, scale := s.admission.scale, pool := s.admission.pool, stale := false, causes := 0,
    report := log.drop (log.length - 16), repSeq := s.qos.repSeq + 1, guar := g } } s.admitNow :=
  ⟨_, _, (Posts.refl _).step (Posts.postEvent _ ..)⟩

/-- No input has changed and no old result is marked stale (R281). -/
theorem admissionRecompute_idle (hcause : s.qos.causes = 0) (hstale : s.qos.stale = false) : exec .admissionRecompute s = .next s :=
  if_pos ⟨hcause, by rw [hstale]; rfl⟩

/-- A recomputation is owed, and the Hive core carries it out or leaves the old result, marked (R281, R284). -/
theorem admissionRecompute_owed (h : s.qos.causes ≠ 0 ∨ s.qos.stale = true) : exec .admissionRecompute s =
    if s.hiveOk then .next s.admitNow else .next { s with qos := { s.qos with stale := true } } :=
  if_neg fun ⟨hcause, hstale⟩ => h.elim (· hcause) fun hold => by simp [hold] at hstale

end

end Sys2Proof.Machine

namespace Sys2Proof.Proofs
open Sys2Proof.Machine Sys2Proof.Safety

/-- Settles O40: a due step moves each limit by itself and no other part of a channel; a recomputation that is owed writes its results, and
the event it may post reaches neither the registers nor the results. -/
theorem classLimitsAndAdmission : Obligations.ClassLimitsAndAdmission := by
  unfold Obligations.ClassLimitsAndAdmission
  refine ⟨fun s => ⟨qosAdaptStep_early, fun hnow hpwr hwf => ?_⟩,
    fun s => ⟨admissionRecompute_idle, fun howed hhive => ?_, fun howed hhive => ?_⟩⟩
  · refine ⟨s.adapted, qosAdaptStep_due hnow hpwr, State.adapted_only, State.adapted_qos, ?_⟩
    rintro i c hi rfl hlim n hn
    rw [State.chan_adapted hwf hi, State.get_adaptChan hlim hn]
    simp only [State.adaptLim, Bool.and_eq_true, State.outranked_iff, Bool.not_eq_true']
  · rw [admissionRecompute_owed howed, hhive]
    rfl
  · obtain ⟨log, g, hposts⟩ := s.admitNow_posts
    have hqos : s.admitNow.qos = _ := hposts.same .qos (by decide)
    refine ⟨s.admitNow, s.admission, (admissionRecompute_owed howed).trans (if_pos hhive), rfl, ?_⟩
    rw [hqos]
    refine ⟨rfl, rfl, rfl, rfl, congrArg (Tab.setList 0 [] 0) State.admission_app, fun hfits => ?_, fun hover => ?_,
      State.admission_scale_le, ?_, rfl, hposts.same .regs (by decide), hposts.same .bud (by decide)⟩
    · rw [State.admission_scale, if_pos hfits]
    · rw [State.admission_scale, if_neg (by omega)]
    · rw [List.length_drop]
      omega

end Sys2Proof.Proofs
end

section
/-! SUPPORT. The registers of a port and of the node's ID: which fields take their values, and what the bits of LNK_CTL do (R304, R306,
R313, R335). -/

namespace Sys2Proof.Safety
open Sys2Proof.Machine

/-- A listed part that has stayed the same need not be listed. -/
theorem Only.unlist {p : Part} {ps : List Part} {s t : State} (h : Only (p :: ps) s t) (hp : Same s t p) : Only ps s t := by
  refine only_iff.mpr fun q => ?_
  by_cases hq : q = p
  · exact .inr (hq ▸ hp)
  · exact (only_iff.mp h q).imp_left fun hmem => (List.mem_cons.mp hmem).resolve_left hq

end Sys2Proof.Safety

namespace Sys2Proof.Machine
open Sys2Proof.Safety

/-- A word's lowest bits are its lowest field. -/
theorem setWidth_eq_fieldOf (w : Word) (k : Nat) : w.setWidth k = BitVec.ofNat k (fieldOf w 0 k) := by
  apply BitVec.eq_of_toNat_eq
  simp [fieldOf]

section
variable {s : State} {w : RegWrite} {n : RegName} {i : Nat} {f : Field} {fs : List Field} {o acc : Word}

/-- A field whose write is ignored keeps its value. -/
theorem State.settleFields_keeps (ht : f.typ = .rw) (hj : s.judgeField n i f acc w.data = none) :
    ∃ u, Clamped s u ∧ s.settleFields w n i (f :: fs) acc = u.settleFields w n i fs acc := by
  let v := fieldOf w.data f.lo f.wd
  let old := fieldOf acc f.lo f.wd
  refine ⟨if v = old ∧ !(n == .lnkNode && f.lo == 6) then s else s.clampNote w 2 f.lo (f.lo + f.wd - 1) v old, ?_, ?_⟩
  · split
    · exact .refl s
    · exact s.clampNote_clamped ..
  · rw [State.settleFields, ht, hj]
    rfl

/-- Settling fields above bit 0 leaves bit 0 as it is. -/
theorem State.settleFields_bit0 (h : ∀ f ∈ fs, f.typ = .rw ∧ 1 ≤ f.lo ∧ f.lo + f.wd ≤ 32) : ∃ u x, Clamped s u ∧
    s.settleFields w n i fs acc = (u, x) ∧ fieldOf x 0 1 = fieldOf acc 0 1 := by
  induction fs generalizing s acc with
  | nil => exact ⟨s, acc, .refl s, rfl, rfl⟩
  | cons f fs ih =>
    obtain ⟨⟨ht, hlo, hhi⟩, hrest⟩ := List.forall_mem_cons.mp h
    cases hj : s.judgeField n i f acc w.data with
    | none =>
      obtain ⟨t, hst, hkeeps⟩ := State.settleFields_keeps (fs := fs) ht hj
      obtain ⟨u, x, htu, hsettle, hbit⟩ := ih (s := t) (acc := acc) hrest
      exact ⟨u, x, hst.trans htu, hkeeps.trans hsettle, hbit⟩
    | some y =>
      obtain ⟨t, hst, htakes⟩ := State.settleFields_takes (fs := fs) ht hj
      obtain ⟨u, x, htu, hsettle, hbit⟩ := ih (s := t) (acc := withField acc f.lo f.wd y) hrest
      exact ⟨u, x, hst.trans htu, htakes.trans hsettle, hbit.trans (fieldOf_withField_of_disjoint hhi (.inl hlo))⟩

/-! ## LNK_PHY0 (R313) -/

theorem plainReg_lnkPhy0 : PlainReg .lnkPhy0 i := ⟨fun _ _ => rfl, rfl, rfl, fun _ _ _ => rfl, fun _ _ => rfl⟩

/-- LNK_PHY0 takes EN as it is written. -/
theorem State.settle_lnkPhy0 : ∃ u x, Clamped s u ∧ s.settleFields w .lnkPhy0 i (regFields .lnkPhy0 i) o = (u, x) ∧
    fieldOf x 0 1 = fieldOf w.data 0 1 := by
  obtain ⟨t, hst, hen⟩ := State.settleFields_takes (s := s) (w := w) (n := .lnkPhy0) (i := i) (f := ⟨0, 1, .rw, 1, .any⟩)
    (fs := (regFields .lnkPhy0 i).tail) (acc := o) rfl rfl
  obtain ⟨u, x, htu, hsettle, hbit⟩ := State.settleFields_bit0 (s := t) (w := w) (n := .lnkPhy0) (i := i)
    (fs := (regFields .lnkPhy0 i).tail) (acc := withField o 0 1 (fieldOf w.data 0 1)) (by simp [regFields])
  exact ⟨u, x, hst.trans htu, hen.trans hsettle, hbit.trans (fieldOf_withField_of_lt (by omega) fieldOf_lt)⟩

/-- EN falls, and the port goes DOWN (R313). -/
theorem State.takeFields_lnkPhy0 {x : Word} (h1 : fieldOf o 0 1 = 1) (h0 : fieldOf x 0 1 = 0) :
    s.takeFields w .lnkPhy0 i o x = s.portDown i := by
  have hne : x ≠ o := fun he => by simp [he, h1] at h0
  simp [State.takeFields, State.took, hne, h1, h0, bitOf_eq_fieldOf]

/-! ## LNK_CTL: RETRAIN or RECOVER alone in the word (R304, R306) -/

theorem lnkCtl_acts : (regFields .lnkCtl i).all (fun f => !f.typ.stored) = true := rfl

theorem State.act_lnkRetrain (h : w.data = 1) : s.act w .lnkCtl i = (s.retrainPort i).getD (s.ignoredField w 0 1) := by
  cases hr : s.retrainPort i <;> simp [State.act, State.bitAction, bitOf, h, hr]

theorem State.act_lnkRecover (h : w.data = 2) : s.act w .lnkCtl i = (s.recoverPort i).getD (s.ignoredField w 1 1) := by
  cases hr : s.recoverPort i <;> simp [State.act, State.bitAction, bitOf, h, hr]

/-! ## LNK_NODE (R335) -/

/-- The stored fields of LNK_NODE: the ID and VALID. -/
def Lnk.nodeWord (l : Lnk) : Word := packed [(l.id.toNat, 0, 6), (oneIf l.valid, 6, 1)]

theorem Lnk.nodeWord_valid (l : Lnk) : fieldOf l.nodeWord 6 1 = oneIf l.valid := by
  have h : ∀ (k : BitVec 6) (b : Bool), fieldOf (packed [(k.toNat, 0, 6), (oneIf b, 6, 1)]) 6 1 = oneIf b := by decide
  exact h l.id l.valid

theorem Lnk.nodeWord_id (l : Lnk) : l.nodeWord.setWidth 6 = l.id := by
  have h : ∀ (k : BitVec 6) (b : Bool), (packed [(k.toNat, 0, 6), (oneIf b, 6, 1)]).setWidth 6 = k := by decide
  exact h l.id l.valid

/-- A node without an ID takes the one written, with VALID. -/
theorem State.settle_lnkNode (hv : s.lnk.valid = false) (h1 : fieldOf w.data 6 1 = 1) : ∃ u, Clamped s u ∧
    s.settleFields w .lnkNode 0 (regFields .lnkNode 0) o = (u, withField (withField o 0 6 (fieldOf w.data 0 6)) 6 1 1) := by
  obtain ⟨t, hst, hid⟩ := State.settleFields_takes (s := s) (w := w) (n := .lnkNode) (i := 0) (f := ⟨0, 6, .rw, 0, .any⟩)
    (fs := [⟨6, 1, .rw, 0, .dyn⟩]) (acc := o) (x := fieldOf w.data 0 6) rfl (if_pos (by simp [hv]))
  obtain ⟨u, htu, hvalid⟩ := State.settleFields_takes (s := t) (w := w) (n := .lnkNode) (i := 0) (f := ⟨6, 1, .rw, 0, .dyn⟩)
    (fs := []) (acc := withField o 0 6 (fieldOf w.data 0 6)) (x := 1) rfl (if_pos (by simp [h1]))
  exact ⟨u, hst.trans htu, hid.trans hvalid⟩

/-- Without VALID the node still has no ID, which is reported. -/
theorem State.settle_lnkNode_unassigned (hv : s.lnk.valid = false) (h0 : fieldOf w.data 6 1 = 0) : ∃ u, Clamped s u ∧
    u.regs.clampNew = true ∧
    s.settleFields w .lnkNode 0 (regFields .lnkNode 0) o = (u, withField o 0 6 (fieldOf w.data 0 6)) := by
  obtain ⟨t, hst, hid⟩ := State.settleFields_takes (s := s) (w := w) (n := .lnkNode) (i := 0) (f := ⟨0, 6, .rw, 0, .any⟩)
    (fs := [⟨6, 1, .rw, 0, .dyn⟩]) (acc := o) (x := fieldOf w.data 0 6) rfl (if_pos (by simp [hv]))
  let acc := withField o 0 6 (fieldOf w.data 0 6)
  have hj : t.judgeField .lnkNode 0 ⟨6, 1, .rw, 0, .dyn⟩ acc w.data = none := if_neg (by simp [h0])
  have hnoted : t.settleFields w .lnkNode 0 [⟨6, 1, .rw, 0, .dyn⟩] acc =
      (t.clampNote w 2 6 6 (fieldOf w.data 6 1) (fieldOf acc 6 1), acc) := by
    rw [State.settleFields, hj]
    simp [FTyp.stored, State.settleFields]
  exact ⟨_, hst.trans (t.clampNote_clamped ..), rfl, hid.trans hnoted⟩

/-- A node that has an ID keeps it. -/
theorem State.settle_lnkNode_assigned (hv : s.lnk.valid = true) (ho : fieldOf o 6 1 = 1) : ∃ u, Clamped s u ∧
    s.settleFields w .lnkNode 0 (regFields .lnkNode 0) o = (u, o) := by
  obtain ⟨t, hst, hid⟩ := State.settleFields_keeps (s := s) (w := w) (n := .lnkNode) (i := 0) (f := ⟨0, 6, .rw, 0, .any⟩)
    (fs := [⟨6, 1, .rw, 0, .dyn⟩]) (acc := o) rfl (if_neg (by simp [hv]))
  by_cases h1 : fieldOf w.data 6 1 = 1
  · obtain ⟨u, htu, hvalid⟩ := State.settleFields_takes (s := t) (w := w) (n := .lnkNode) (i := 0) (f := ⟨6, 1, .rw, 0, .dyn⟩)
      (fs := []) (acc := o) (x := 1) rfl (if_pos (by simp [h1]))
    have hsame : withField o 6 1 1 = o := (withField_eq_iff (by omega)).mpr
      ((fieldOf_withField_of_lt (by omega) (by omega)).trans ho.symm)
    exact ⟨u, hst.trans htu, hid.trans (hvalid.trans (congrArg (Prod.mk u) hsame))⟩
  · obtain ⟨u, htu, hvalid⟩ := State.settleFields_keeps (s := t) (w := w) (n := .lnkNode) (i := 0) (f := ⟨6, 1, .rw, 0, .dyn⟩)
      (fs := []) (acc := o) rfl (if_neg (by simp [h1]))
    exact ⟨u, hst.trans htu, hid.trans hvalid⟩

/-- The write of LNK_NODE that a path makes, in a packet that came in by this port. -/
def nodeWrite (p : Path) (data : Word) (port : BitVec 2) : RegWrite :=
  ⟨pathSource p, (regPlace .lnkNode).ind, regAddr .lnkNode 0, data, port.toNat, none⟩

@[simp] theorem nodeWrite_data (p : Path) (data : Word) (port : BitVec 2) : (nodeWrite p data port).data = data := rfl

/-- A settled word of LNK_NODE is the node's ID and VALID now, and nothing else has changed but the register file. -/
structure NodeStored (x : Word) (s v : State) : Prop where
  only : Only [.regs, .lnk] s v
  cfg : v.regs.cfg = s.regs.cfg
  late : v.regs.late = s.regs.late
  lnk : v.lnk = { s.lnk with id := x.setWidth 6, valid := bitOf x 6 }

/-- A write of LNK_NODE that acts at once: the settled word is stored, and the node takes it where it has changed. -/
theorem Clamped.nodeWritten {u : State} {p : Path} {data x : Word} {port : BitVec 2} (hc : Clamped s u) (h : Acts p .lnkNode 0 s)
    (hu : s.settleFields (nodeWrite p data port) .lnkNode 0 (regFields .lnkNode 0) s.lnk.nodeWord = (u, x)) :
    ∃ v, NodeStored x s v ∧ v.regs.clampNew = u.regs.clampNew ∧ exec (.nodeIdAssign p port data) s =
      .next (v.takeFields (nodeWrite p data port) .lnkNode 0 s.lnk.nodeWord x).actLate.noteLevel := by
  let v := (u.store (pathSource p) .lnkNode 0 x).setPar (pathSource p) .lnkNode 0 false
  have hstore : Only [.regs, .lnk] u v := by simp [v, Only, State.store, State.setPar]
  have hlnk : v.lnk = { u.lnk with id := x.setWidth 6, valid := bitOf x 6 } := rfl
  rw [show u.lnk = s.lnk from hc.only.same .lnk (by decide)] at hlnk
  refine ⟨v, ⟨(hc.only.trans hstore).mono (by decide), hc.cfg, hc.late, hlnk⟩, rfl, congrArg Host.Outcome.next ?_⟩
  obtain ⟨hpath, hmode, hlate, hstall, hawake⟩ := h
  have hcommit : s.commitFields (nodeWrite p data port) .lnkNode 0 = (v, s.lnk.nodeWord, x) := by
    have hpresent : s.present (pathSource p) .lnkNode 0 = s.lnk.nodeWord := rfl
    have hkept : ((regFields .lnkNode 0).all fun f => !f.typ.stored) = false := rfl
    rw [State.commitFields, hkept, show (nodeWrite p data port).src = pathSource p from rfl, hpresent, hu]
    rfl
  rw [State.namedWrite, hpath, State.onPath_served _ _ _ _ hawake, ← nodeWrite]
  simp [State.writeReg, hmode, State.actLate_nil _ hlate, hstall, fieldsFirst, State.act, hcommit]

/-- On the CFG path the port that a packet came in by becomes the upstream port (R335). -/
def State.upstreamOf (s : State) (p : Path) (port : BitVec 2) : State :=
  { s with lnk := { s.lnk with upPort := if p = .cfg then port else s.lnk.upPort } }

theorem State.upstreamOf_only (p : Path) (port : BitVec 2) : Only [.lnk] s (s.upstreamOf p port) := by
  simp [Only, State.upstreamOf]

/-- What follows once the node has taken an ID: on the CFG path its upstream port, and the held messages go out (R335). -/
theorem State.takeFields_lnkNode {x data : Word} {p : Path} {port : BitVec 2} (h0 : fieldOf o 6 1 = 0) (h1 : fieldOf x 6 1 = 1) :
    s.takeFields (nodeWrite p data port) .lnkNode 0 o x = (s.upstreamOf p port).flushHeld := by
  have hne : x ≠ o := fun he => by simp [he, h0] at h1
  cases p <;> simp [State.takeFields, State.took, State.upstreamOf, nodeWrite, hne, h1, h0, pathSource]

/-- A word whose VALID has not moved starts nothing. -/
theorem State.takeFields_lnkNode_same {x : Word} (h : fieldOf x 6 1 = fieldOf o 6 1) : s.takeFields w .lnkNode 0 o x = s := by
  simp [State.takeFields, State.took, h]

end

end Sys2Proof.Machine
end

section
/-! PROOF. EN, RETRAIN and RECOVER of a port, and the node's ID (O30). -/

namespace Sys2Proof.Proofs
open Sys2Proof.Machine Sys2Proof.Safety

section
variable {p : Path} {data : Word} {s : State}

/-- Clearing EN takes the port DOWN (R313). -/
theorem portEn_cleared {n : BitVec 2} (h : Acts p .lnkPhy0 n.toNat s) (hf : Formed s) (h0 : fieldOf data 0 1 = 0)
    (h1 : s.fld .lnkPhy0 n.toNat 0 1 = 1) : ∃ v : State, Only [.regs] s v ∧ v.fld .lnkPhy0 n.toNat 0 1 = 0 ∧
      exec (.portEnWrite p n data) s = .next (v.portDown n.toNat).actLate.noteLevel := by
  obtain ⟨u, x, hu, hsettle, hen⟩ := State.settle_lnkPhy0 (s := s) (w := writeOf p .lnkPhy0 n.toNat data) (i := n.toNat)
    (o := s.cfgWord .lnkPhy0 n.toNat)
  obtain ⟨v, hv, -, hexec⟩ := hu.written plainReg_lnkPhy0 h hf hsettle
  have hx : fieldOf x 0 1 = 0 := hen.trans h0
  rw [State.takeFields_lnkPhy0 h1 hx] at hexec
  exact ⟨v, hv.only, (hv.fld 0 1).trans hx, congrArg Host.Outcome.next hexec⟩

/-- A write of LNK_CTL that acts at once is its action, then what waited for it. -/
theorem lnkCtl_write {n : Nat} {v : State} (h : Acts p .lnkCtl n s) (hact : s.act (writeOf p .lnkCtl n data) .lnkCtl n = v) :
    s.namedWrite p .lnkCtl n data 0 none = v.actLate.noteLevel := by
  rw [← hact]
  exact s.namedWrite_action p .lnkCtl n data 0 none h lnkCtl_acts rfl

/-- Nothing waits behind an action that is ignored. -/
theorem ignored_actLate {n : RegName} {i : Nat} (h : Acts p n i s) (d : Word) (lo wd : Nat) :
    (ignored p n i d lo wd s).actLate = ignored p n i d lo wd s := by
  obtain ⟨-, -, hlate, -⟩ := h
  exact State.actLate_nil _ ((ignored_late p n i d lo wd s).late.trans hlate)

/-- A node without an ID takes the one written with VALID (R335). -/
theorem nodeId_taken {port : BitVec 2} (h : Acts p .lnkNode 0 s) (hv : s.lnk.valid = false) (h1 : fieldOf data 6 1 = 1) :
    ∃ u : State, exec (.nodeIdAssign p port data) s = .next u.flushHeld.noteLevel ∧ Only [.regs, .lnk] s u ∧
      u.regs.cfg = s.regs.cfg ∧ u.lnk = { s.lnk with
        id := BitVec.ofNat 6 (fieldOf data 0 6), valid := true, upPort := if p = .cfg then port else s.lnk.upPort } := by
  obtain ⟨t, ht, hsettle⟩ := State.settle_lnkNode (w := nodeWrite p data port) (o := s.lnk.nodeWord) hv h1
  obtain ⟨v, hstored, -, hexec⟩ := ht.nodeWritten h hsettle
  have hnot : fieldOf s.lnk.nodeWord 6 1 = 0 := s.lnk.nodeWord_valid.trans (congrArg oneIf hv)
  have hlate : (v.upstreamOf p port).flushHeld.regs.late = [] := by
    obtain ⟨-, -, hnone, -⟩ := h
    have hposts : _ = (v.upstreamOf p port).regs := Only.same (Posts.flushHeld _) .regs (by decide)
    exact (congrArg Regs.late hposts).trans (hstored.late.trans hnone)
  rw [State.takeFields_lnkNode hnot (fieldOf_withField_of_lt (by omega) (by omega)), State.actLate_nil _ hlate] at hexec
  refine ⟨v.upstreamOf p port, hexec, (hstored.only.trans (v.upstreamOf_only p port)).mono (by decide), hstored.cfg, ?_⟩
  rw [State.upstreamOf, hstored.lnk, setWidth_eq_fieldOf, fieldOf_withField_of_disjoint (by omega) (by omega),
    fieldOf_withField_of_lt (by omega) fieldOf_lt, bitOf_eq_fieldOf, fieldOf_withField_of_lt (by omega) (by omega)]
  rfl

/-- Without VALID a node gets no ID, which is reported (R335). -/
theorem nodeId_unassigned {port : BitVec 2} (h : Acts p .lnkNode 0 s) (hv : s.lnk.valid = false) (h0 : fieldOf data 6 1 = 0) :
    ∃ u : State, exec (.nodeIdAssign p port data) s = .next u.noteLevel ∧ Only [.regs, .lnk] s u ∧
      u.lnk = { s.lnk with id := u.lnk.id } ∧ u.regs.clampNew = true := by
  obtain ⟨t, ht, hnew, hsettle⟩ := State.settle_lnkNode_unassigned (w := nodeWrite p data port) (o := s.lnk.nodeWord) hv h0
  rw [nodeWrite_data] at hsettle
  obtain ⟨v, hstored, hnoted, hexec⟩ := ht.nodeWritten h hsettle
  have hsame : fieldOf (withField s.lnk.nodeWord 0 6 (fieldOf data 0 6)) 6 1 = fieldOf s.lnk.nodeWord 6 1 :=
    fieldOf_withField_of_disjoint (by omega) (by omega)
  have hvalid : bitOf (withField s.lnk.nodeWord 0 6 (fieldOf data 0 6)) 6 = s.lnk.valid := by
    rw [bitOf_eq_fieldOf, hsame, Lnk.nodeWord_valid, hv]
    rfl
  obtain ⟨-, -, hnone, -⟩ := h
  rw [State.takeFields_lnkNode_same hsame, State.actLate_nil _ (hstored.late.trans hnone)] at hexec
  refine ⟨v, hexec, hstored.only, ?_, hnoted.trans hnew⟩
  rw [hstored.lnk, hvalid]

/-- A node that has an ID keeps it and its upstream port (R335). -/
theorem nodeId_kept {port : BitVec 2} (h : Acts p .lnkNode 0 s) (hv : s.lnk.valid = true) : ∃ u : State,
    exec (.nodeIdAssign p port data) s = .next u.noteLevel ∧ Only [.regs] s u ∧ u.regs.cfg = s.regs.cfg := by
  have hhas : fieldOf s.lnk.nodeWord 6 1 = 1 := s.lnk.nodeWord_valid.trans (congrArg oneIf hv)
  obtain ⟨t, ht, hsettle⟩ := State.settle_lnkNode_assigned (w := nodeWrite p data port) hv hhas
  obtain ⟨v, hstored, -, hexec⟩ := ht.nodeWritten h hsettle
  have hstays : v.lnk = s.lnk := by
    rw [hstored.lnk, Lnk.nodeWord_id, bitOf_eq_fieldOf, hhas]
    exact congrArg (fun b => { s.lnk with valid := b }) hv.symm
  obtain ⟨-, -, hnone, -⟩ := h
  rw [State.takeFields_lnkNode_same rfl, State.actLate_nil _ (hstored.late.trans hnone)] at hexec
  exact ⟨v, hexec, (hstored.only.mono (by decide)).unlist (p := .lnk) hstays, hstored.cfg⟩

end

/-- Settles O30: the fields of LNK_PHY0 and LNK_NODE are settled one by one, and a bit of LNK_CTL acts or is ignored by the port's state. -/
theorem portControlAndNodeId : Obligations.PortControlAndNodeId := by
  unfold Obligations.PortControlAndNodeId
  refine ⟨fun p n s => ⟨fun data => portEn_cleared, fun h hen => ?_, fun h hen => ?_, fun h hup => ?_, fun h hup => ?_⟩,
    fun p port data s h => ⟨nodeId_taken h, nodeId_unassigned h, nodeId_kept h⟩⟩
  · have hport : s.retrainPort n.toNat = some _ := if_pos hen
    exact congrArg _ (lnkCtl_write h ((State.act_lnkRetrain rfl).trans (by rw [hport, Option.getD_some])))
  · have hport : s.retrainPort n.toNat = none := if_neg (by simp [hen])
    refine congrArg _ ((lnkCtl_write h ((State.act_lnkRetrain rfl).trans ?_)).trans (congrArg _ (ignored_actLate h 1 0 1)))
    rw [hport, Option.getD_none]
    rfl
  · have hport : s.recoverPort n.toNat = some _ := if_pos hup
    exact congrArg _ (lnkCtl_write h ((State.act_lnkRecover rfl).trans (by rw [hport, Option.getD_some])))
  · have hport : s.recoverPort n.toNat = none := if_neg hup
    refine congrArg _ ((lnkCtl_write h ((State.act_lnkRecover rfl).trans ?_)).trans (congrArg _ (ignored_actLate h 2 1 1)))
    rw [hport, Option.getD_none]
    rfl

end Sys2Proof.Proofs
end

section
/-! SUPPORT. Ports: what is read of a port and of its lanes after they have been rewritten, lane errors (R296), and the start of RECOVERY
(R304). -/

namespace Sys2Proof.Machine
open Sys2Proof.Safety

section
variable {s : State} {n : Nat} {p : Port}

/-- A port out of DOWN is not at its reset values, so that a write of it stands in the table. -/
theorem Port.ne_init (h : p.st ≠ .down) : p ≠ .init := fun e => h (congrArg Port.st e)

/-- A port is found as it was rewritten. -/
theorem State.port_updPort {f : Port → Port} (h : (f (s.port n)).st ≠ .down) : (s.updPort n f).port n = f (s.port n) :=
  (Tab.get_set_of_ne _ _ _ _ _ (Port.ne_init h)).trans (if_pos rfl)

theorem State.port_emit (s : State) (o : Out) (k : Nat) : (s.emit o).port k = s.port k := rfl

/-- A lane of a port is found as it was rewritten, and every other lane as it was. -/
theorem Port.lane_updLane {k j : Nat} {f : Lane → Lane} (h : f (p.lane k) ≠ .init) :
    (p.updLane k f).lane j = if j = k then f (p.lane k) else p.lane j :=
  Tab.get_set_of_ne _ _ _ _ _ h

/-- A rewrite of the lanes rewrites nothing else of the port. -/
theorem Port.mapLanes_eq (p : Port) (f : Nat → Lane → Lane) : p.mapLanes f = { p with laneTab := (p.mapLanes f).laneTab } := by
  have h : ∀ (l : List Nat) (p : Port),
      l.foldl (fun p k => p.updLane k (f k)) p = { p with laneTab := (l.foldl (fun p k => p.updLane k (f k)) p).laneTab } := by
    intro l
    induction l with
    | nil => exact fun _ => rfl
    | cons k l ih => exact fun p => ih (p.updLane k (f k))
  exact h _ p

/-! ## Lane errors (R292, R296) -/

section
variable {x : Lane} {sym : Nat}

theorem Lane.erred_errs : (x.erred sym).errs = x.errs + 1 := rfl

/-- Fewer than eight errors leave the lock alone. -/
theorem Lane.erred_locked_few (h : x.errAt.length < 7) : (x.erred sym).locked = x.locked := by
  have hfew : ¬ 8 ≤ x.errAt.length + 1 := by omega
  have hall : x.errAt.length + 1 - 8 = 0 := by omega
  simp [Lane.erred, hall, hfew]

/-- The eighth error loses the lock where the first came less than 256 symbols before. -/
theorem Lane.erred_locked_eighth (h : x.errAt.length = 7) :
    (x.erred sym).locked = (x.locked && !decide (sym < x.errAt.headD 0 + 256)) := by
  cases he : x.errAt with
  | nil => simp [he] at h
  | cons a l =>
    have hl : l.length = 6 := by simpa [he] using h
    simp [Lane.erred, he, hl]

/-- The lane with the error counted, and the disparity its receiver follows (R292). -/
def Lane.tookError (x : Lane) (rx : RxError) : Lane := { x.erred rx.sym with rxPlus := plusAfter rx.plus rx.code }

/-- A lane with an error is not at its reset values. -/
theorem Lane.tookError_ne_init (x : Lane) (rx : RxError) : x.tookError rx ≠ .init := fun e =>
  Nat.succ_ne_zero x.errs (congrArg Lane.errs e)

end

/-- The port with an error of one of its lanes noted. -/
def Port.tookError (p : Port) (l : Nat) (rx : RxError) : Port := p.updLane l fun x => x.tookError rx

theorem Port.tookError_errs (l : Nat) (rx : RxError) : ((p.tookError l rx).lane l).errs = (p.lane l).errs + 1 := by
  rw [Port.tookError, Port.lane_updLane (Lane.tookError_ne_init _ _), if_pos rfl]
  rfl

theorem Port.tookError_locked (l j : Nat) (rx : RxError) :
    ((p.tookError l rx).lane j).locked = if j = l then ((p.lane l).erred rx.sym).locked else (p.lane j).locked := by
  rw [Port.tookError, Port.lane_updLane (Lane.tookError_ne_init _ _)]
  split <;> rfl

/-! ## RECOVERY (R304) -/

/-- Outside UP there is nothing to recover. -/
theorem State.recover_stays (h : (s.port n).st ≠ .up) : s.recover n = s := if_pos h

/-- A port as it enters LANE_TRAIN: its lanes gain lock afresh (R298). -/
def Port.laneTraining (p : Port) (now : Nat) : Port :=
  (p.toPhase .laneTrain now).mapLanes fun _ l =>
    { l with locked := false, passed := false, aligned := false, eyeDone := false, errAt := [] }

/-- Within RECOVERY the step is noted, and the port stays in RECOVERY. -/
theorem Port.laneTraining_eq (now : Nat) (h : p.st = .recovery) : ∃ t, p.laneTraining now =
    { p with
      recStep := .laneTrain, runLen := 0, runSet := none, tsSent := 0, runFull := false, phaseAt := now, laneTab := t } := by
  have hphase : p.toPhase .laneTrain now = { p with
      recStep := .laneTrain, runLen := 0, runSet := none, tsSent := 0, runFull := false, phaseAt := now } := if_pos h
  exact ⟨_, (Port.mapLanes_eq _ _).trans (by rw [hphase])⟩

theorem State.port_toLaneTrain (h : ((s.port n).laneTraining s.now).st ≠ .down) :
    (s.toLaneTrain n).port n = (s.port n).laneTraining s.now :=
  State.port_updPort (f := fun p => p.laneTraining s.now) h

/-- A port as it enters RECOVERY: the agreed lanes wake and train again (R304). -/
def Port.recovering (p : Port) (now : Nat) (cut : Bool) : Port :=
  { p.mapLanes fun k l => { l with enabled := p.lanes.getLsbD k } with
    st := .recovery, recAt := now, cut := cut, dvalid := false, turnWait := false, svcTx := 0, svcRx := 0, bulkTx := 0
    bulkRx := 0, replays := 0 }

/-- What has left where the entry to RECOVERY cuts off the packet sent last (R317). -/
def State.recoveryCut (s : State) (n : Nat) : Option (List Out) :=
  if s.now ≤ (s.port n).sentAt + 5 ∧ Config.cutsPacket s.free then s.cutOut n (s.port n) else none

/-- L0 awake as RECOVERY begins, with that packet cut off. -/
def State.recoveryWoken (s : State) (n : Nat) : State :=
  ({ s with free := s.free + 1, out := (s.recoveryCut n).getD s.out } : State).wakeL0 n

theorem State.recoveryWoken_now : (s.recoveryWoken n).now = s.now :=
  congrArg (fun t : Tim => t.count.toNat) (Only.same (Posts.wakeL0 _ n) .tim (by decide))

/-- The node as RECOVERY begins, before its lanes train. -/
def State.recovering (s : State) (n : Nat) : State :=
  (s.recoveryWoken n).updPort n fun p => p.recovering (s.recoveryWoken n).now (s.recoveryCut n).isSome

theorem State.recovering_now : (s.recovering n).now = s.now := s.recoveryWoken_now

theorem State.port_recovering :
    (s.recovering n).port n = ((s.recoveryWoken n).port n).recovering s.now (s.recoveryCut n).isSome := by
  rw [← State.recoveryWoken_now (n := n)]
  exact State.port_updPort (by simp [Port.recovering])

theorem State.recover_eq (h : (s.port n).st = .up) : s.recover n = ((s.recovering n).toLaneTrain n).retarget :=
  if_neg (by simp [h])

/-- The port in RECOVERY trains its lanes, and its hop delay is no longer valid. -/
theorem State.recovering_trains : (((s.recovering n).toLaneTrain n).port n).st = .recovery ∧
    (((s.recovering n).toLaneTrain n).port n).recStep = .laneTrain ∧ (((s.recovering n).toLaneTrain n).port n).dvalid = false ∧
    (((s.recovering n).toLaneTrain n).port n).recAt = s.now ∧ (((s.recovering n).toLaneTrain n).port n).phaseAt = s.now := by
  obtain ⟨t, ht⟩ := Port.laneTraining_eq (p := (s.recovering n).port n) (s.recovering n).now (by rw [State.port_recovering]; rfl)
  rw [State.port_recovering, State.recovering_now] at ht
  have hport : ((s.recovering n).toLaneTrain n).port n = _ :=
    State.port_toLaneTrain (by rw [State.port_recovering, State.recovering_now, ht]; simp [Port.recovering])
  rw [hport, State.port_recovering, State.recovering_now, ht]
  exact ⟨rfl, rfl, rfl, rfl, rfl⟩

/-- A NAK is a matter of what is sent (R327). -/
theorem State.sendNak_posts (s : State) (n : Nat) : Posts s (s.sendNak n) := by
  simp only [State.sendNak]
  split
  · exact .wakeL0 s n
  · exact ((Posts.wakeL0 s n).trans (.emit _ _)).trans (.links _ _)

/-- A port whose partner's transmitter has gone idle: L0's receiver or the bulk receivers idle too (R307, R309). -/
def Port.facingIdle (p : Port) (onL0 deep : Bool) : Port :=
  if onL0 then { p with svcRx := if deep then 2 else 1 } else { p with bulkRx := if deep then 3 else 2 }

theorem Port.facingIdle_st (onL0 deep : Bool) : (p.facingIdle onL0 deep).st = p.st := by
  cases onL0 <;> rfl

end

end Sys2Proof.Machine
end

section
/-! PROOF. The events of a port in UP (O55). -/

namespace Sys2Proof.Proofs
open Sys2Proof.Machine Sys2Proof.Safety

section
variable {n : BitVec 2} {s : State}

/-! ## Lane errors -/

section
variable {l : BitVec 3} {rx : RxError} {place : ErrPlace}

theorem laneError_ignored (h : (s.port n.toNat).st = .down ∨ (place ≠ .buffer ∧ codeBad rx.plus rx.code = false)) :
    exec (.laneError n l rx place) s = .next s :=
  if_pos (by simpa using h)

/-- Any other error is taken. -/
theorem laneError_taken (hbad : place = .buffer ∨ codeBad rx.plus rx.code = true) (hdown : (s.port n.toNat).st ≠ .down) :
    ¬ ((s.port n.toNat).st = .down ∨ (place ≠ .buffer ∧ (!codeBad rx.plus rx.code) = true)) := by
  rintro (hst | ⟨hplace, hcode⟩)
  · exact hdown hst
  · simp [hbad.resolve_left hplace] at hcode

/-- Outside UP an error is only counted. -/
theorem laneError_counts (hbad : place = .buffer ∨ codeBad rx.plus rx.code = true) (hdown : (s.port n.toNat).st ≠ .down)
    (hup : (s.port n.toNat).st ≠ .up) :
    exec (.laneError n l rx place) s = .next (s.updPort n.toNat fun p => p.tookError l.toNat rx) := by
  refine (if_neg (laneError_taken hbad hdown)).trans (if_pos ?_)
  exact (congrArg Port.st (State.port_updPort (f := fun p => p.tookError l.toNat rx) hdown)).trans_ne hup

/-- In UP an error in a packet is answered with a NAK, and RECOVERY starts where L0 loses its lock, where an agreed lane has ERR_THR
errors, or at an elastic buffer. -/
theorem laneError_up {u v : State} (hbad : place = .buffer ∨ codeBad rx.plus rx.code = true) (hup : (s.port n.toNat).st = .up)
    (hu : u = s.updPort n.toNat fun p => p.tookError l.toNat rx) (hv : v = if place = .inPacket then u.sendNak n.toNat else u) :
    exec (.laneError n l rx place) s = .next (if (((s.port n.toNat).lane 0).locked = true ∧ l = 0 ∧
        (((s.port n.toNat).lane 0).erred rx.sym).locked = false) ∨
      ((s.port n.toNat).lanes.getLsbD l.toNat = true ∧ s.fld .lnkPhy1 n.toNat 24 8 ≤ ((s.port n.toNat).lane l.toNat).errs + 1) ∨
      place = .buffer then v.recover n.toNat else v) := by
  have hdown : (s.port n.toNat).st ≠ .down := hup.trans_ne (by decide)
  have hport : u.port n.toNat = (s.port n.toNat).tookError l.toNat rx := by
    rw [hu]
    exact State.port_updPort (f := fun p => p.tookError l.toNat rx) hdown
  have hregs : v.regs = u.regs := by
    rw [hv]
    exact Only.same (Posts.ite (u.sendNak_posts n.toNat) (.refl u)) .regs (by decide)
  have hfld : v.fld .lnkPhy1 n.toNat 24 8 = s.fld .lnkPhy1 n.toNat 24 8 := by
    rw [State.fld, State.cfgWord, hregs, hu]
    rfl
  have hexec : exec (.laneError n l rx place) s = .next (if (((s.port n.toNat).lane 0).locked && !((u.port n.toNat).lane 0).locked ||
      (u.port n.toNat).lanes.getLsbD l.toNat && decide (v.fld .lnkPhy1 n.toNat 24 8 ≤ ((u.port n.toNat).lane l.toNat).errs) ||
      place == .buffer) = true then v.recover n.toNat else v) := by
    subst hu hv
    refine (if_neg (laneError_taken hbad hdown)).trans (if_neg (not_not.mpr ?_))
    exact (congrArg Port.st hport).trans hup
  have hlanes : (u.port n.toNat).lanes = (s.port n.toNat).lanes := by rw [hport]; rfl
  rw [hexec, hlanes, hport, Port.tookError_locked, Port.tookError_errs, hfld]
  refine congrArg _ (if_congr ?_ rfl rfl)
  by_cases hl : l = 0#3
  · subst hl
    simp [or_assoc]
  · have hne : 0 ≠ l.toNat := fun he => hl (BitVec.eq_of_toNat_eq he.symm)
    simp [hl, hne]

end

/-! ## Signals and SKPs -/

theorem signalLoss_recovers (h : (s.port n.toNat).svcRx = 0) : exec (.signalLoss n) s = .next (s.recover n.toNat) :=
  congrArg Host.Outcome.next (if_pos h)

theorem signalLoss_asleep (h : (s.port n.toNat).svcRx ≠ 0) : exec (.signalLoss n) s = .next s :=
  congrArg Host.Outcome.next (if_neg h)

theorem skpReceived_moves {c : BitVec 4} (h1 : 1 ≤ c.toNat) (h5 : c.toNat ≤ 5) : ∃ u : State,
    u = ({ s with free := s.free + 1 }.updPort n.toNat fun p =>
      { p.mapLanes fun _ l => { l with phase := l.phase + l.shift, shift := 0 } with
        elastic := p.elastic + if Config.addsSkip s.free then 1 else -1 }) ∧
    exec (.skpReceived n c true) s = .next u ∧ exec (.skpReceived n c false) s = .next (u.recover n.toNat) :=
  have hin : ¬ (c.toNat < 1 ∨ 5 < c.toNat) := by omega
  ⟨_, rfl, if_neg hin, if_neg hin⟩

theorem skpReceived_ignored {c : BitVec 4} {a : Bool} (h : c = 0 ∨ 5 < c.toNat) : exec (.skpReceived n c a) s = .next s :=
  if_pos (h.imp_left fun hc => by simp [hc])

theorem skpDue_sends (hsend : (s.port n.toNat).canSend = true) (htrip : 34 + n.toNat ∉ s.clk.tripped) : exec (.skpDue n) s = .next
    ((s.emit (.set n.toNat (s.port n.toNat).setLanes .skp)).emit (.set n.toNat (s.port n.toNat).setLanes .idle)) :=
  congrArg Host.Outcome.next (if_pos ⟨hsend, by simpa using htrip⟩)

theorem skpDue_quiet (h : (s.port n.toNat).canSend = false ∨ 34 + n.toNat ∈ s.clk.tripped) : exec (.skpDue n) s = .next s := by
  refine congrArg Host.Outcome.next (if_neg ?_)
  rintro ⟨hsend, htrip⟩
  obtain h | h := h
  · simp [h] at hsend
  · simp [h] at htrip

/-! ## Electrical idle and bursts -/

/-- In bring-up the partner falls back (R300). -/
theorem idlEReceived_bringUp (b : Bool) (h : (s.port n.toNat).st = .laneTrain ∨ (s.port n.toNat).st = .deskew ∨
    (s.port n.toNat).st = .confirm) : exec (.idlEReceived n b) s = .next (s.fallback n.toNat) := by
  obtain h | h | h := h <;> simp only [exec, execIdlEReceived, h]

theorem idlEReceived_ignored (b : Bool) (h : (s.port n.toNat).st = .down ∨ (s.port n.toNat).st = .detect ∨
    (s.port n.toNat).st = .align ∨ (s.port n.toNat).st = .config ∨ (s.port n.toNat).st = .rateSwitch ∨
    (s.port n.toNat).st = .recovery) : exec (.idlEReceived n b) s = .next s := by
  obtain h | h | h | h | h | h := h <;> simp only [exec, execIdlEReceived, h]

/-- In UP the facing receivers idle, as deep as a free value says (R307, R309). -/
theorem idlEReceived_up (b : Bool) (h : (s.port n.toNat).st = .up) : ∃ (u : State) (deep : Bool),
    exec (.idlEReceived n b) s = .next u.retarget ∧ Only [.lnk, .free] s u ∧ u.free = s.free + 1 ∧
    u.port n.toNat = (if b then { s.port n.toNat with svcRx := if deep then 2 else 1 }
      else { s.port n.toNat with bulkRx := if deep then 3 else 2 }) := by
  have hexec : exec (.idlEReceived n b) s = .next (({ s with free := s.free + 1 }.updPort n.toNat fun p =>
      p.facingIdle b (Config.partnerDeep s.free))).retarget := by
    simp only [exec, execIdlEReceived, h]
    rfl
  refine ⟨_, Config.partnerDeep s.free, hexec, by simp [Only], rfl, State.port_updPort ?_⟩
  rw [Port.facingIdle_st]
  exact h.trans_ne (by decide)

/-- The burst of a Firefly ends with lock, and the receivers are awake (R308). -/
theorem fireflyBurstEnd_locked (sv : Bool) (h : (s.port n.toNat).st = .up) : exec (.fireflyBurstEnd n sv true) s =
    .next (s.updPort n.toNat fun p => if sv then { p with svcRx := 0 } else { p with bulkRx := 0 }).retarget :=
  (if_neg (by simp [h])).trans (if_neg (by simp))

/-- It ends without lock, and the port recovers (R308). -/
theorem fireflyBurstEnd_unlocked (sv : Bool) (h : (s.port n.toNat).st = .up) :
    exec (.fireflyBurstEnd n sv false) s = .next (s.recover n.toNat) :=
  (if_neg (by simp [h])).trans (if_pos rfl)

/-! ## L0's sleep (R309) -/

/-- L0 has nothing to send and has been idle for its time, beside bulk lanes that sleep. -/
def idleL0 (s : State) (n : Nat) : Prop :=
  (s.port n).st = .up ∧ (s.port n).svcTx = 0 ∧ 2 ≤ (s.port n).bulkTx.toNat ∧ s.flag .lnkPhy1 n 16 = true ∧ (s.port n).txq = [] ∧
    (s.port n).ackOwed = 0 ∧ (s.port n).replay = [] ∧ (s.port n).sentAt + s.fld .lnkPhy1 n 8 8 ≤ s.now

/-- L0 as it falls asleep. -/
def asleepL0 (s : State) (n : Nat) (depth : BitVec 2) : State :=
  (s.emit (.set n 1 .idlE)).updPort n fun p => { p with svcTx := depth }

theorem asleepL0_svcTx {k : Nat} (depth : BitVec 2) (h : (s.port k).st = .up) : ((asleepL0 s k depth).port k).svcTx = depth := by
  rw [asleepL0, State.port_updPort (by simp [State.port_emit, h])]

theorem l0Sleep_light (h : idleL0 s n.toNat) (hp : s.pwr.state = 2 ∨ s.pwr.state = 3) :
    exec (.l0Sleep n) s = .next (asleepL0 s n.toNat 1).retarget := by
  obtain ⟨hst, htx, hbulk, hflag, hq, hack, hreplay, hat⟩ := h
  obtain hp | hp := hp <;>
    simp [exec, execL0Sleep, asleepL0, hst, htx, hbulk, hflag, hq, hack, hreplay, hat, hp]

theorem l0Sleep_deep (h : idleL0 s n.toNat) (hp : s.pwr.state = 4) : exec (.l0Sleep n) s = .next (State.retarget
    { asleepL0 s n.toNat 2 with
      clk := { s.clk with laneLock := s.clk.laneLock &&& ~~~ ((1 : BitVec 4) <<< n.toNat) } }) := by
  obtain ⟨hst, htx, hbulk, hflag, hq, hack, hreplay, hat⟩ := h
  simp [exec, execL0Sleep, asleepL0, hst, htx, hbulk, hflag, hq, hack, hreplay, hat, hp]

theorem l0Sleep_awake (h : s.pwr.state.toNat < 2 ∨ 4 < s.pwr.state.toNat) : exec (.l0Sleep n) s = .next s := by
  refine if_neg ?_
  simp only [Bool.and_eq_true, decide_eq_true_eq]
  omega

theorem l0Sleep_notUp (h : (s.port n.toNat).st ≠ .up) : exec (.l0Sleep n) s = .next s :=
  if_neg (by simp [h])

end

/-- Settles O55, event by event: what each does by the state of the port and of its receivers. -/
theorem portEventsInUp : Obligations.PortEventsInUp := by
  unfold Obligations.PortEventsInUp
  intro n s
  refine ⟨fun l rx place => laneError_ignored, fun l rx place hbad => ⟨_, _, rfl, rfl, laneError_counts hbad, ?_, ?_⟩,
    fun x sym => ⟨Lane.erred_errs, Lane.erred_locked_few, Lane.erred_locked_eighth⟩, signalLoss_recovers, signalLoss_asleep,
    fun c => skpReceived_moves, fun c a => skpReceived_ignored, skpDue_sends, skpDue_quiet, fun h b => idlEReceived_bringUp b h,
    fun h b => idlEReceived_up b h, fun h b => idlEReceived_ignored b h,
    fun h => ⟨fun sv l => if_pos h, l0Sleep_notUp h, State.recover_stays h⟩,
    fun h sv => ⟨fireflyBurstEnd_unlocked sv h, fireflyBurstEnd_locked sv h⟩,
    fun hst htx hbulk hflag hq hack hreplay hat => ?_, fun h => ⟨_, State.recover_eq h, State.recovering_trains⟩⟩
  · intro hup hcause
    refine (laneError_up hbad hup rfl rfl).trans (congrArg _ (if_pos ?_))
    exact hcause.imp_left fun ⟨hl, hlock, hlost⟩ => ⟨hlock, hl, hlost⟩
  · intro hup hlock hfew hplace
    refine (laneError_up hbad hup rfl rfl).trans (congrArg _ (if_neg ?_))
    rintro (⟨hlocked, hl, hlost⟩ | ⟨hlane, hmany⟩ | hbuffer)
    · simp [hlocked, hl, hlost] at hlock
    · exact hfew.elim (fun hno => by simp [hno] at hlane) fun hno => absurd hmany (by omega)
    · exact hplace hbuffer
  · have hidle : idleL0 s n.toNat := ⟨hst, htx, hbulk, hflag, hq, hack, hreplay, hat⟩
    refine ⟨l0Sleep_light hidle, fun hp => ⟨_, l0Sleep_deep hidle hp, by simp [Only, asleepL0, State.emit], rfl, ?_⟩, l0Sleep_awake⟩
    exact asleepL0_svcTx 2 hst

end Sys2Proof.Proofs
end

section
/-! PROOF. A port that leaves DOWN (O53): the statement speaks of every state, also of one whose table lists a port twice. -/

namespace Sys2Proof.Proofs
open Sys2Proof.Machine

/-- A port as it leaves DOWN, with these lanes enabled and nothing known of any (R298). -/
def broughtUp (lanes : Nat) (p : Port) : Port :=
  { p.mapLanes fun j l =>
      { l with
        enabled := lanes / 2 ^ j % 2 == 1, phase := 0, shift := 0, inverted := false, locked := false, passed := false
        aligned := false, eyeDone := false } with
    retPend := false, rateCap := 6 }

theorem linkDetect_leaves {n : BitVec 2} {s : State} (hst : (s.port n.toNat).st = .down) (hen : s.portEn n.toNat = true)
    (hxtal : s.clk.xtalGood = true) (hheld : s.portHeld n.toNat = false) :
    exec (.linkDetect n) s = .next ((s.updPort n.toNat (broughtUp (s.fld .lnkPhy0 n.toNat 4 8))).toDetect n.toNat) :=
  if_pos ⟨hst, hen, hxtal, by simp [hheld]⟩

/-- A running node whose port 0 is enabled, with no lane enabled, and listed twice: as after reset but for a retraining that waits, and
behind that as after a fallback. No step leaves such a state: a table in its canonical form lists no port twice, and a write of LNK_PHY0
leaves L0 enabled (R313). -/
def portTwiceListed : State :=
  State.setCfg { State.reset with
    die := { State.reset.die with mode := .running, rcReady := true }
    clk := { State.reset.clk with xtalGood := true }
    lnk := { State.reset.lnk with ports := [(0, { Port.init with retPend := true }), (0, { Port.init with rateCap := 5 })] } } .lnkPhy0 0 1

theorem portTwiceListed_may : (portTwiceListed.port 0).st = .down ∧ portTwiceListed.portEn 0 = true ∧
    portTwiceListed.clk.xtalGood = true ∧ portTwiceListed.portHeld 0 = false := by
  decide +kernel

/-- As it leaves DOWN the port is written back as after reset, which drops its first entry and bares the second. -/
theorem portTwiceListed_rateCap :
    (((portTwiceListed.updPort 0 (broughtUp (portTwiceListed.fld .lnkPhy0 0 4 8))).toDetect 0).port 0).rateCap = 5 := by
  decide +kernel

/-- Refutes O53: a port that leaves DOWN need not offer every rate again. The clause asks it of every state, and where the table of ports
is not in its canonical form, a write of the default uncovers an older entry, here one that a fallback has capped. -/
theorem not_linkBringUpToConfig : ¬ Obligations.LinkBringUpToConfig := by
  unfold Obligations.LinkBringUpToConfig
  rintro ⟨hbring, -⟩
  obtain ⟨-, hleaves, -⟩ := hbring 0 portTwiceListed
  obtain ⟨hst, hen, hxtal, hheld⟩ := portTwiceListed_may
  obtain ⟨t, hexec, -, -, -, -, hcap, -⟩ := hleaves hst hen hxtal hheld
  injection (linkDetect_leaves (n := 0) hst hen hxtal hheld).symm.trans hexec with hsame
  have hcapped : (t.port 0).rateCap = 5 := hsame ▸ portTwiceListed_rateCap
  exact absurd (hcap.symm.trans hcapped) (by decide)

end Sys2Proof.Proofs
end

section
/-! PROOF. The end of a rate switch (O54): the statement speaks of every state, also of one whose port lists a lane twice. -/

namespace Sys2Proof.Proofs
open Sys2Proof.Machine

/-- The port at the end of a rate switch: every lane enabled trains at the rate chosen (R298). -/
def rateSwitched (s : State) (n : Nat) : State := (s.updPort n fun p => { p with rate := p.chosen }).toLaneTrain n

theorem rateSwitchEnd_trains {n : BitVec 2} {s : State} (hst : (s.port n.toNat).st = .rateSwitch) (hfb : (s.port n.toNat).fbIdle = false)
    (hat : (s.port n.toNat).phaseAt + 50 ≤ s.now) :
    exec (.rateSwitchEnd n) s = .next (rateSwitched s n.toNat) :=
  congrArg Host.Outcome.next (if_pos ⟨hst, by simp [hfb], hat⟩)

/-- A port whose rate switch has idled for 50 ticks, and which lists lane 0 twice: as after reset but for its lock, and behind that as an
enabled lane. A table in its canonical form lists no lane twice. -/
def laneTwiceListed : State :=
  { State.reset with
    tim := { State.reset.tim with count := 50 }
    lnk := { State.reset.lnk with
      ports := [(0, { Port.init with
        st := .rateSwitch
        laneTab := [(0, { Lane.init with locked := true }), (0, { Lane.init with enabled := true })] })] } }

theorem laneTwiceListed_ends : (laneTwiceListed.port 0).st = .rateSwitch ∧ (laneTwiceListed.port 0).fbIdle = false ∧
    (laneTwiceListed.port 0).phaseAt + 50 ≤ laneTwiceListed.now := by
  decide +kernel

/-- The lanes that an ordered set goes out on. -/
def setLanes : Out → Byte
  | .set _ lanes _ => lanes
  | _ => 0

/-- No lane is enabled before LANE_TRAIN. As it is entered, lane 0 loses its lock and is written back as after reset, which drops its first
entry and bares the second: TS1 go out on L0. -/
theorem laneTwiceListed_sends :
    ((laneTwiceListed.port 0).laneMask fun l => l.enabled) = 0 ∧
    (rateSwitched laneTwiceListed 0).out.map setLanes = [1] := by
  decide +kernel

/-- Refutes O54: LANE_TRAIN need not send TS1 on the lanes that were enabled before. The clause asks it of every state, and where the lane
table of a port is not in its canonical form, a write of the default uncovers an older entry, here an enabled lane. -/
theorem not_linkBringUpToUp : ¬ Obligations.LinkBringUpToUp := by
  unfold Obligations.LinkBringUpToUp
  rintro ⟨hbring, -⟩
  obtain ⟨-, -, -, -, hends, -⟩ := hbring 0 laneTwiceListed
  obtain ⟨hst, hfb, hat⟩ := laneTwiceListed_ends
  obtain ⟨hnone, hsent⟩ := laneTwiceListed_sends
  obtain ⟨t, hexec, -, ⟨x, -, -, hout⟩, -⟩ := hends hst hfb hat
  injection (rateSwitchEnd_trains hst hfb hat).symm.trans hexec with hsame
  rw [show rateSwitched laneTwiceListed 0 = t from hsame, hout] at hsent
  have hlanes : [(laneTwiceListed.port 0).laneMask fun l => l.enabled] = [1] := hsent
  rw [hnone] at hlanes
  exact absurd hlanes (by decide)

end Sys2Proof.Proofs
end

section
/-! SUPPORT. The link layer of a port: the ACK and the NAK it sends while L0 is awake, what an ACK or a NAK that it receives leaves unacknowledged,
and the replay (R325 to R328). -/

namespace Sys2Proof.Machine
open Sys2Proof.Safety

section
variable {s : State} {n : Nat}

/-! ## ACK and NAK as sent (R327, R328) -/

/-- L0 that is awake needs no burst. -/
theorem State.wakeL0_awake (h : (s.port n).svcTx = 0) : s.wakeL0 n = s := if_pos (.inl (by simp [h]))

/-- The port once an ACK has left: no packet is owed one. -/
def Port.ackSent (p : Port) (now : Nat) : Port := { p with ackOwed := 0, freedSent := p.freed, sentAt := now }

theorem State.sendAck_awake (h : (s.port n).svcTx = 0) : s.sendAck n =
    (s.emit (.ack n (s.port n).sendLanes ((s.port n).ackWord 8) (s.port n).limitsWord
      (crc32 (ackBody ((s.port n).ackWord 8) (s.port n).limitsWord)))).updPort n fun p => p.ackSent s.now := by
  rw [State.sendAck, State.wakeL0_awake h]
  rfl

/-- The port once a NAK has left, which stands up to the tick `due`. -/
def Port.nakked (p : Port) (now due : Nat) : Port :=
  { p with nakSent := true, nakDue := due, ackOwed := 0, freedSent := p.freed, naksSent := satInc p.naksSent 1, sentAt := now }

/-- A port with a NAK sent is not at its reset values. -/
theorem Port.nakked_ne_init (p : Port) (now due : Nat) : p.nakked now due ≠ .init := fun e =>
  absurd (show true = false from congrArg Port.nakSent e) (by decide)

/-- While a NAK stands no other is sent (R327). -/
theorem State.sendNak_standing (h : (s.port n).svcTx = 0) (hsent : (s.port n).nakSent = true) (hdue : s.now < (s.port n).nakDue) :
    s.sendNak n = s := by
  rw [State.sendNak, State.wakeL0_awake h]
  exact if_pos ⟨hsent, hdue⟩

theorem State.sendNak_awake (h : (s.port n).svcTx = 0) (hfree : (s.port n).nakSent = false ∨ (s.port n).nakDue ≤ s.now) :
    s.sendNak n =
      (s.emit (.nak n (s.port n).sendLanes ((s.port n).ackWord 9) (s.port n).limitsWord
        (crc32 (ackBody ((s.port n).ackWord 9) (s.port n).limitsWord)))).updPort n fun p => p.nakked s.now (s.now + s.replayTo n) := by
  have hnone : ¬ ((s.port n).nakSent = true ∧ s.now < (s.port n).nakDue) := fun ⟨hsent, hdue⟩ =>
    hfree.elim (fun hno => by simp [hno] at hsent) fun hover => by omega
  rw [State.sendNak, State.wakeL0_awake h]
  exact if_neg hnone

/-- What is sent and a rewrite of a port are a matter of the links and of what leaves the die. -/
theorem State.sent_only (o : Out) (f : Port → Port) : Only [.lnk, .out] s ((s.emit o).updPort n f) := by
  simp [Only, State.emit]

theorem State.sendNak_only (h : (s.port n).svcTx = 0) : Only [.lnk, .out] s (s.sendNak n) := by
  by_cases hstands : (s.port n).nakSent = true ∧ s.now < (s.port n).nakDue
  · obtain ⟨hsent, hdue⟩ := hstands
    rw [State.sendNak_standing h hsent hdue]
    exact (Only.refl s).mono (by simp)
  · rw [State.sendNak_awake h (by simpa [imp_iff_not_or] using hstands)]
    exact State.sent_only _ _

/-! ## ACK and NAK as received (R326, R331) -/

/-- The port once a partner has acknowledged every packet but the last `left`, and has sent its limits; where that frees a packet the
replay timer starts afresh and runs out at `due`. -/
def Port.acknowledged (p : Port) (left : Nat) (w1 : Word) (due : Nat) : Port :=
  { p with
    replay := p.replay.drop (p.replay.length - left)
    replays := if p.replay.length - left = 0 then p.replays else 0
    limit := Tab.setList 0 [] 0 [BitVec.ofNat 10 (fieldOf w1 0 10), BitVec.ofNat 10 (fieldOf w1 10 10), BitVec.ofNat 10 (fieldOf w1 20 10)]
    replayDue := if p.replay.length - left = 0 then p.replayDue else due }

/-- Three values written at the keys 0, 1 and 2 are found there. -/
theorem Tab.get_setList_three {α : Type} [DecidableEq α] (d x y z : α) :
    Tab.get d (Tab.setList d [] 0 [x, y, z]) 0 = x ∧ Tab.get d (Tab.setList d [] 0 [x, y, z]) 1 = y ∧
      Tab.get d (Tab.setList d [] 0 [x, y, z]) 2 = z := by
  have hx : Tab.wf d (Tab.set d [] 0 x) = true := Tab.wf_set d [] 0 x rfl
  have hy : Tab.wf d (Tab.set d (Tab.set d [] 0 x) 1 y) = true := Tab.wf_set d _ 1 y hx
  simp [Tab.setList, Tab.get_set _ _ _ _ _ hy, Tab.get_set _ _ _ _ _ hx, Tab.get_set d [] _ _ _ rfl]

/-- The limits that the partner sent are those in force. -/
theorem Port.acknowledged_limit (p : Port) (left due : Nat) (w1 : Word) {k : Nat} (hk : k < 3) :
    Tab.get 0 (p.acknowledged left w1 due).limit k = BitVec.ofNat 10 (fieldOf w1 (10 * k) 10) := by
  obtain ⟨h0, h1, h2⟩ := Tab.get_setList_three (0 : BitVec 10) (BitVec.ofNat 10 (fieldOf w1 0 10)) (BitVec.ofNat 10 (fieldOf w1 10 10))
    (BitVec.ofNat 10 (fieldOf w1 20 10))
  match k, hk with
  | 0, _ => exact h0
  | 1, _ => exact h1
  | 2, _ => exact h2

variable {a : BitVec 12} {w : Word}

/-- Outside UP nothing is acknowledged, nor by the number of a packet that has not been sent (R326). -/
theorem State.takeAck_ignored (h : (s.port n).st ≠ .up ∨ (a.toNat + 4096 - (s.port n).nextTx.toNat) % 4096 < 2048) :
    s.takeAck n a w = none := if_pos h

/-- The state once an ACK or NAK that names `a` and carries these limits has been taken. -/
def State.acknowledged (s : State) (n : Nat) (a : BitVec 12) (w : Word) : State :=
  s.updPort n fun p => p.acknowledged ((p.nextTx.toNat + 4095 - a.toNat) % 4096) w (s.now + s.replayTo n)

theorem State.takeAck_taken (hup : (s.port n).st = .up) (hsent : 2048 ≤ (a.toNat + 4096 - (s.port n).nextTx.toNat) % 4096) :
    s.takeAck n a w = some (s.acknowledged n a w) :=
  if_neg fun h => h.elim (fun hno => hno hup) fun hnew => by omega

theorem State.acknowledged_only : Only [.lnk] s (s.acknowledged n a w) := by simp [Only, State.acknowledged]

theorem State.port_acknowledged (hup : (s.port n).st = .up) : (s.acknowledged n a w).port n =
    (s.port n).acknowledged (((s.port n).nextTx.toNat + 4095 - a.toNat) % 4096) w (s.now + s.replayTo n) :=
  State.port_updPort (f := fun p => p.acknowledged ((p.nextTx.toNat + 4095 - a.toNat) % 4096) w (s.now + s.replayTo n))
    (hup.trans_ne (by decide))

/-! ## Replay (R328) -/

theorem State.replayAll_nothing (h : (s.port n).replay = []) : s.replayAll n = s := if_pos (by simp [h])

/-- After REPLAY_MAX replays the port recovers. -/
theorem State.replayAll_last (h : (s.port n).replay ≠ []) (hmax : s.fld .lnkLlc n 16 3 ≤ (s.port n).replays) :
    s.replayAll n = (s.raise (64 + n) 1).recover n :=
  (if_neg (by simpa using h)).trans (if_pos hmax)

/-- The port once its replay buffer is on the wire again: one more replay, with the timer to run out at `due`. -/
def Port.replayed (p : Port) (due : Nat) : Port :=
  { p with replays := p.replays + 1, replaysC := satInc p.replaysC 1, replayDue := due }

/-- The packets of a list, each sent again. -/
def State.resendAll (s : State) (n : Nat) (l : List Packet) : State := l.foldl (fun s x => s.resend n x) s

theorem State.port_resend (hup : (s.port n).st = .up) (x : Packet) :
    (s.resend n x).port n = { s.port n with sentAt := s.now } :=
  State.port_updPort (s := s.emit _) (f := fun p => { p with sentAt := s.now }) (by simp [State.port_emit, hup])

theorem State.resend_only (x : Packet) : Only [.lnk, .out] s (s.resend n x) := State.sent_only _ _

/-- Packets sent again leave on the lanes of the port, and the port notes only when. -/
theorem State.resendAll_sends (l : List Packet) (hup : (s.port n).st = .up) : Only [.lnk, .out] s (s.resendAll n l) ∧
    (s.resendAll n l).out = s.out ++ l.map (fun x => .replay n (s.port n).sendLanes x (crc32 (packetBody x))) ∧
    ∃ at_, (s.resendAll n l).port n = { s.port n with sentAt := at_ } := by
  induction l generalizing s with
  | nil => exact ⟨(Only.refl s).mono (by simp), (List.append_nil _).symm, _, rfl⟩
  | cons x l ih =>
    have hport := State.port_resend hup x
    obtain ⟨honly, hout, at_, hlast⟩ := ih (s := s.resend n x) (by rw [hport]; exact hup)
    rw [hport] at hout hlast
    exact ⟨(State.resend_only x).step honly, hout.trans (List.append_assoc s.out [_] _), at_, hlast⟩

theorem State.replayAll_awake (h : (s.port n).replay ≠ []) (hmax : (s.port n).replays < s.fld .lnkLlc n 16 3)
    (htx : (s.port n).svcTx = 0) : s.replayAll n =
      (s.resendAll n (s.port n).replay).updPort n
        fun p => p.replayed ((s.resendAll n (s.port n).replay).now + (s.resendAll n (s.port n).replay).replayTo n) := by
  refine (if_neg (by simpa using h)).trans ((if_neg (by omega)).trans ?_)
  rw [State.wakeL0_awake htx]
  rfl

/-- The time and REPLAY_TO are the same for states that differ in the links and in what has left. -/
theorem State.replayTo_sent {t : State} (h : Only [.lnk, .out] s t) : t.now + t.replayTo n = s.now + s.replayTo n := by
  have htim : t.tim = s.tim := h.same .tim (by decide)
  have hregs : t.regs = s.regs := h.same .regs (by decide)
  rw [State.now, State.replayTo, State.fld, State.cfgWord, htim, hregs]
  rfl

/-! ## The check of a received packet (R325) -/

theorem length_leBytes (k v : Nat) : (leBytes k v).length = k := by
  induction k generalizing v with
  | zero => rfl
  | succ k ih => exact congrArg Nat.succ (ih _)

/-- The bytes of a value give the value back, held to their bits. -/
theorem leVal_leBytes (k v : Nat) : leVal (leBytes k v) = v % 256 ^ k := by
  induction k generalizing v with
  | zero => simp [leBytes, leVal, Nat.mod_one]
  | succ k ih => 
    rw [leBytes, leVal, ih, Nat.pow_succ', Nat.mod_mul]
    rfl

/-- A body with its CRC behind it matches. -/
theorem wireCrcBad_crc (body : List Byte) : wireCrcBad (body ++ leBytes 4 (crc32 body).toNat) = false := by
  have hlen : (body ++ leBytes 4 (crc32 body).toNat).length - 4 = body.length := by simp [length_leBytes]
  have hcrc : leVal (leBytes 4 (crc32 body).toNat) = (crc32 body).toNat :=
    (leVal_leBytes _ _).trans (Nat.mod_eq_of_lt (crc32 body).isLt)
  rw [wireCrcBad, hlen, List.drop_left, List.take_left, hcrc, bne_self_eq_false]

end

end Sys2Proof.Machine
end

section
/-! PROOF. ACK, NAK, bad packets and replay (O56). -/

namespace Sys2Proof.Proofs
open Sys2Proof.Machine Sys2Proof.Safety

section
variable {n : BitVec 2} {s : State}

/-! ## ACK and NAK -/

theorem ackReceived_ignored {a : BitVec 12} {w : Word}
    (h : (s.port n.toNat).st ≠ .up ∨ (a.toNat + 4096 - (s.port n.toNat).nextTx.toNat) % 4096 < 2048) :
    exec (.ackReceived n a w) s = .next s ∧ exec (.nakReceived n a w) s = .next s := by
  simp only [exec, execAckReceived, execNakReceived, State.takeAck_ignored h, and_self]

/-- What is acknowledged is freed and the limits are taken; then an ACK sends what may be sent, and a NAK replays the rest first. -/
theorem ackReceived_taken {a : BitVec 12} {w : Word} (hup : (s.port n.toNat).st = .up)
    (hsent : 2048 ≤ (a.toNat + 4096 - (s.port n.toNat).nextTx.toNat) % 4096) : ∃ u : State,
    Only [.lnk] s u ∧ exec (.ackReceived n a w) s = .next (u.pumpAll n.toNat) ∧
    exec (.nakReceived n a w) s = .next ((u.replayAll n.toNat).pumpAll n.toNat) ∧
    (u.port n.toNat).txq = (s.port n.toNat).txq ∧
    (u.port n.toNat).replay = (s.port n.toNat).replay.drop
      ((s.port n.toNat).replay.length - ((s.port n.toNat).nextTx.toNat + 4095 - a.toNat) % 4096) ∧
    (∀ k, k < 3 → Tab.get 0 (u.port n.toNat).limit k = BitVec.ofNat 10 (fieldOf w (10 * k) 10)) := by
  have htake := State.takeAck_taken (w := w) hup hsent
  refine ⟨s.acknowledged n.toNat a w, State.acknowledged_only, by simp only [exec, execAckReceived, htake],
    by simp only [exec, execNakReceived, htake], ?_⟩
  rw [State.port_acknowledged hup]
  exact ⟨rfl, rfl, fun k => Port.acknowledged_limit _ _ _ _⟩

/-! ## Packets in error -/

section
variable {rx : List Byte} {framing : Bool}

theorem packetError_ignored
    (h : (s.port n.toNat).st ≠ .up ∨ (framing = false ∧ wireShort rx = false ∧ wireCrcBad rx = false)) :
    exec (.packetError n rx framing) s = .next s :=
  if_pos (h.imp_right fun ⟨hframe, hlong, hcrc⟩ => by simp [hframe, hlong, hcrc])

/-- A packet framed wrongly is not counted (R325, R327). -/
theorem packetError_framing (hup : (s.port n.toNat).st = .up) (h : framing = true ∨ wireShort rx = true) :
    exec (.packetError n rx framing) s = .next (if wireAck rx then s else s.sendNak n.toNat) := by
  have hbroken : (framing || wireShort rx) = true := by simpa using h
  simp [exec, execPacketError, hup, hbroken]

/-- A packet whose CRC does not match is counted (R325, R327). -/
theorem packetError_crc {u : State} (hup : (s.port n.toNat).st = .up) (hlong : wireShort rx = false) (hcrc : wireCrcBad rx = true)
    (hu : u = s.updPort n.toNat fun p => { p with crcErrs := satInc p.crcErrs 1 }) :
    exec (.packetError n rx false) s = .next (if wireAck rx then u else u.sendNak n.toNat) := by
  simp [exec, execPacketError, hup, hlong, hcrc, hu]

end

/-! ## Timeouts -/

theorem ackLatencyTimeout_sends (hup : (s.port n.toNat).st = .up) (howed : 0 < (s.port n.toNat).ackOwed)
    (hdue : (s.port n.toNat).ackDue < 10 * (s.now + 1)) : exec (.ackLatencyTimeout n) s = .next (s.sendAck n.toNat) :=
  congrArg Host.Outcome.next (if_pos ⟨hup, howed, hdue⟩)

theorem ackLatencyTimeout_early
    (h : (s.port n.toNat).st ≠ .up ∨ (s.port n.toNat).ackOwed = 0 ∨ 10 * (s.now + 1) ≤ (s.port n.toNat).ackDue) :
    exec (.ackLatencyTimeout n) s = .next s :=
  congrArg Host.Outcome.next <| if_neg fun ⟨hup, howed, hdue⟩ => h.elim (fun hno => hno hup) fun hno => by omega

theorem replayTimeout_early (h : (s.port n.toNat).st ≠ .up ∨ s.now < (s.port n.toNat).replayDue) :
    exec (.replayTimeout n) s = .next s :=
  congrArg Host.Outcome.next <| if_neg fun ⟨hup, hdue⟩ => h.elim (fun hno => hno hup) fun hno => by omega

theorem replayTimeout_replays (hup : (s.port n.toNat).st = .up) (hdue : (s.port n.toNat).replayDue ≤ s.now) :
    exec (.replayTimeout n) s = .next (s.replayAll n.toNat) :=
  congrArg Host.Outcome.next (if_pos ⟨hup, hdue⟩)

end

/-- A replay sends every unacknowledged packet in order; it is counted, and the replay timer starts afresh (R328). -/
theorem replayAll_sends {n : Nat} {s : State} (h : (s.port n).replay ≠ []) (hmax : (s.port n).replays < s.fld .lnkLlc n 16 3)
    (htx : (s.port n).svcTx = 0) (hup : (s.port n).st = .up) : Only [.lnk, .out] s (s.replayAll n) ∧
    (s.replayAll n).out = s.out ++ (s.port n).replay.map (fun x => .replay n (s.port n).sendLanes x (crc32 (packetBody x))) ∧
    ((s.replayAll n).port n).replays = (s.port n).replays + 1 ∧
    ((s.replayAll n).port n).replayDue = s.now + s.fld .lnkLlc n 8 8 := by
  obtain ⟨honly, hout, at_, hport⟩ := State.resendAll_sends (s.port n).replay hup
  have hfound := State.port_updPort (s := s.resendAll n (s.port n).replay) (n := n)
    (f := fun p => p.replayed (s.now + s.replayTo n)) (by rw [hport]; exact hup.trans_ne (by decide))
  rw [State.replayAll_awake h hmax htx, State.replayTo_sent honly, hfound, hport]
  exact ⟨honly.step (by simp [Only]), hout, rfl, rfl⟩

/-- Settles O56, event by event. -/
theorem acknowledgeAndReplay : Obligations.AcknowledgeAndReplay := by
  unfold Obligations.AcknowledgeAndReplay
  intro n s
  exact ⟨fun a w => ackReceived_ignored, fun a w => ackReceived_taken, fun rx framing => packetError_ignored,
    fun hup rx framing => packetError_framing hup, fun hup rx hlong hcrc => ⟨_, rfl, packetError_crc hup hlong hcrc rfl⟩,
    wireCrcBad_crc, rfl, ackLatencyTimeout_sends, ackLatencyTimeout_early, replayTimeout_early, replayTimeout_replays,
    State.replayAll_nothing, State.replayAll_last, replayAll_sends⟩

end Sys2Proof.Proofs
end

section
/-! SUPPORT. A packet that arrives: the number it is judged by, its fate where no crossing loses it, and where it goes (R322, R325, R333 to
R336). -/

namespace Sys2Proof.Machine

section
variable {s t : State} {n : Nat} {pkt : Packet}

/-! ## Its number (R325) -/

/-- How far behind the number that the port expects next the packet's number lies, modulo 4,096. -/
def State.behind (s : State) (n : Nat) (pkt : Packet) : Nat := ((s.port n).nextRcv.toNat + 4096 - pkt.seq) % 4096

/-- The port once it has accepted a packet of this type and cost; the ACK of the oldest one owed is due at `due`. -/
def Port.accepting (q : Port) (typ cost due : Nat) : Port :=
  { q with
    nextRcv := q.nextRcv + 1, ackOwed := q.ackOwed + 1, nakSent := false
    ackDue := if q.ackOwed = 0 then due else q.ackDue
    freed := Tab.upd 0 q.freed (poolOf typ) fun x => x + cost }

theorem State.acceptSeq_next (h : s.behind n pkt = 0) : s.acceptSeq n pkt =
    ((s.updPort n fun q => q.accepting pkt.typ pkt.cost (10 * s.now + s.fld .lnkLlc n 0 8)).judgeAck n, true) := if_pos h

theorem State.acceptSeq_duplicate (h0 : s.behind n pkt ≠ 0) (h : s.behind n pkt ≤ 2048) : s.acceptSeq n pkt = (s.sendAck n, false) :=
  (if_neg h0).trans (if_pos h)

theorem State.acceptSeq_ahead (h : 2048 < s.behind n pkt) : s.acceptSeq n pkt = (s.sendNak n, false) :=
  (if_neg (show s.behind n pkt ≠ 0 by omega)).trans (if_neg (show ¬ s.behind n pkt ≤ 2048 by omega))

/-- The sixteenth packet owed an ACK brings it at once (R328). -/
theorem State.judgeAck_sixteen (h : 16 ≤ (s.port n).ackOwed) : s.judgeAck n = s.sendAck n := if_pos (.inl h)

/-! ## Its arrival -/

/-- What a port that is not UP receives is nothing. -/
theorem State.arrive_notUp (h : (s.port n).st ≠ .up) : s.arrive n pkt = (s, false) := if_pos h

theorem State.arrive_refused (hup : (s.port n).st = .up) (h : s.acceptSeq n pkt = (t, false)) : s.arrive n pkt = (t, false) := by
  simp [State.arrive, hup, h]

/-- At the full rate of CK_FAB no packet is lost in the crossing (R412). -/
theorem State.crossingLoses_full (h : t.fld .clkDiv 0 0 2 = 0) : t.crossingLoses n = (t, false) :=
  if_neg (by simp [h])

theorem State.arrive_malformed (hup : (s.port n).st = .up) (h : s.acceptSeq n pkt = (t, true)) (hfab : t.fld .clkDiv 0 0 2 = 0)
    (hbad : illFormed pkt = true) : s.arrive n pkt = (t.discardMalformed n pkt, false) := by
  simp [State.arrive, hup, h, State.crossingLoses_full hfab, hbad]

/-- A message that neither the port's link layer nor the node knows. -/
def strayMsg (pkt : Packet) : Prop := pkt.typ = 7 ∧ (pkt.dkind ≠ 3 ∨ pkt.w2 ≠ 0x10)

/-- The packet is accepted on a port in UP and crosses whole, it is well formed, and it is neither an MRD nor an MWR. -/
structure Crosses (s : State) (n : Nat) (pkt : Packet) (t : State) : Prop where
  up       : (s.port n).st = .up
  accepted : s.acceptSeq n pkt = (t, true)
  full     : t.fld .clkDiv 0 0 2 = 0
  formed   : illFormed pkt = false
  notMrd   : pkt.typ ≠ 1
  notMwr   : pkt.typ ≠ 2

namespace Crosses
variable {v : State}

/-- It goes where it is routed; the node counts a message that it would consume and does not know. -/
theorem arrive_eq {b : Bool} (h : Crosses s n pkt t) (hr : t.route n pkt = (v, b)) : s.arrive n pkt =
    if b = true ∧ pkt.typ = 7 ∧ (pkt.dkind ≠ 3 ∨ pkt.w2 ≠ 0x10) then (v.countBadMsg, false) else (v, b) := by
  simp [State.arrive, h.up, h.accepted, State.crossingLoses_full h.full, h.formed, h.notMrd, h.notMwr, hr]

theorem arrive_known {b : Bool} (h : Crosses s n pkt t) (hr : t.route n pkt = (v, b)) (hknown : b = true → ¬ strayMsg pkt) :
    s.arrive n pkt = (v, b) :=
  (h.arrive_eq hr).trans (if_neg fun ⟨hb, hstray⟩ => hknown hb hstray)

theorem arrive_stray (h : Crosses s n pkt t) (hr : t.route n pkt = (v, true)) (hstray : strayMsg pkt) :
    s.arrive n pkt = (v.countBadMsg, false) :=
  (h.arrive_eq hr).trans (if_pos ⟨rfl, hstray⟩)

end Crosses

/-! ## Its way (R333 to R336) -/

theorem State.route_partner (h : pkt.dkind = 3) : t.route n pkt = (t, true) := if_pos h

theorem State.route_node (hv : t.lnk.valid = true) (hn : n = t.lnk.upPort.toNat) (hk : pkt.dkind = 0)
    (hd : pkt.dst = t.lnk.id.toNat) : t.route n pkt = (t, true) := by
  simp [State.route, hv, hn, hk, hd]

/-- A packet from upstream for an ID that no range holds is for nobody. -/
theorem State.route_nobody (hv : t.lnk.valid = true) (hn : n = t.lnk.upPort.toNat) (hk : pkt.dkind = 0)
    (hd : pkt.dst ≠ t.lnk.id.toNat) (hnone : ∀ k, k < 4 → t.rangeHolds k pkt.dst = false) :
    t.route n pkt = (t.dropPacket pkt, false) := by
  have hfind : ((List.range 4).find? fun k => t.rangeHolds k pkt.dst) = none := by
    rw [List.find?_eq_none]
    intro k hmem
    simp [hnone k (List.mem_range.mp hmem)]
  simp [State.route, hv, hn, hk, hd, hfind]

/-- A packet from upstream for an ID in a range leaves by that port. -/
theorem State.route_range {k : Nat} (hv : t.lnk.valid = true) (hn : n = t.lnk.upPort.toNat) (hk : pkt.dkind = 0)
    (hd : pkt.dst ≠ t.lnk.id.toNat) (hfind : ((List.range 4).find? fun k => t.rangeHolds k pkt.dst) = some k)
    (htrained : (t.port k).laneTrained = true) : t.route n pkt = (t.enqueue k n pkt, false) := by
  rw [hn]
  simp [State.route, hv, hk, hd, hfind, htrained]

/-- A node without an ID takes only CFG requests by a path (R336). -/
theorem State.route_noId (hv : t.lnk.valid = false) (h : isCfg pkt = false ∨ pkt.dkind ≠ 2) (hk : pkt.dkind ≠ 3) :
    t.route n pkt = (t.countUnroutable, false) := by
  have hother : ¬ (isCfg pkt = true ∧ pkt.dkind = 2) := fun ⟨hc, hp⟩ => h.elim (fun hno => by simp [hno] at hc) fun hno => hno hp
  simp [State.route, hv, hk, hother]

/-- A path that ends at such a node names its upstream port. -/
theorem State.route_pathEnds (hv : t.lnk.valid = false) (hc : isCfg pkt = true) (hk : pkt.dkind = 2) (hlen : pathLen pkt = 0) :
    t.route n pkt = ({ t with lnk := { t.lnk with upPort := BitVec.ofNat 2 n } }, true) := by
  simp [State.route, hv, hc, hk, hlen]

/-- A path that leads on from such a node is answered UR. -/
theorem State.route_pathOn (hv : t.lnk.valid = false) (hc : isCfg pkt = true) (hk : pkt.dkind = 2) (hlen : pathLen pkt ≠ 0) :
    t.route n pkt =
      ({ t with lnk := { t.lnk with upPort := BitVec.ofNat 2 n, unroutable := satInc t.lnk.unroutable 1 } }.answer pkt 1 [], false) := by
  simp [State.route, hv, hc, hk, hlen, State.countUnroutable, cplUr]

theorem State.dropPacket_unanswered (h : isCfg pkt = false) : t.dropPacket pkt = t.countUnroutable := if_neg (by simp [h])

/-! ## Doorbells (R173 to R175) -/

theorem State.ringBell_rings (hgate : t.pwr.gateA = false) (hnone : t.lnk.parked.any Parked.isBell = false) :
    t.ringBell n pkt = t.bell (pkt.payload.headD 0) := if_neg (by simp [hgate, hnone])

/-- A doorbell waits for the ring engine's clock, and behind another that waits. -/
theorem State.ringBell_waits (h : t.pwr.gateA = true ∨ t.lnk.parked.any Parked.isBell = true) :
    t.ringBell n pkt = t.park (.packet n pkt) := if_pos h

end

end Sys2Proof.Machine
end

section
/-! PROOF. Packets are accepted in sequence and reach their place (O57). -/

namespace Sys2Proof.Proofs
open Sys2Proof.Machine Sys2Proof.Safety

section
variable {n : BitVec 2} {pkt : Packet} {s t v : State}

/-! ## What does not cross -/

theorem packets_notUp (h : (s.port n.toNat).st ≠ .up) : s.arrive n.toNat pkt = (s, false) ∧ exec (.duplicatePacket n pkt) s = .next s ∧
    exec (.packetForward n pkt) s = .next s ∧ exec (.malformedPacket n pkt) s = .next s := by
  have harrive := State.arrive_notUp (pkt := pkt) h
  simp [exec, execDuplicatePacket, execPacketForward, execMalformedPacket, harrive]

/-- A duplicate is answered with an ACK (R325). -/
theorem duplicatePacket_acks (hup : (s.port n.toNat).st = .up) (h0 : s.behind n.toNat pkt ≠ 0) (h : s.behind n.toNat pkt ≤ 2048) :
    s.arrive n.toNat pkt = (s.sendAck n.toNat, false) ∧ exec (.duplicatePacket n pkt) s = .next (s.sendAck n.toNat) := by
  have harrive := State.arrive_refused hup (State.acceptSeq_duplicate h0 h)
  refine ⟨harrive, congrArg Host.Outcome.next ((if_pos ⟨Nat.one_le_iff_ne_zero.mpr h0, h⟩).trans ?_)⟩
  rw [harrive]

/-- What is expected next is no duplicate, and neither is what lies ahead of it. -/
theorem duplicatePacket_other (h : s.behind n.toNat pkt = 0 ∨ 2048 < s.behind n.toNat pkt) :
    exec (.duplicatePacket n pkt) s = .next s :=
  congrArg Host.Outcome.next <| if_neg fun hdup : 1 ≤ s.behind n.toNat pkt ∧ s.behind n.toNat pkt ≤ 2048 => by omega

/-- An accepted packet advances the number, frees its units and is owed an ACK (R325, R328, R331). -/
theorem acceptSeq_takes (h : s.behind n.toNat pkt = 0) : ∃ u : State, s.acceptSeq n.toNat pkt = (u.judgeAck n.toNat, true) ∧
    u = (s.updPort n.toNat fun q => { q with
      nextRcv := q.nextRcv + 1, ackOwed := q.ackOwed + 1, nakSent := false,
      ackDue := if q.ackOwed = 0 then 10 * s.now + s.fld .lnkLlc n.toNat 0 8 else q.ackDue,
      freed := Tab.upd 0 q.freed (poolOf pkt.typ) fun x => x + pkt.cost }) ∧
    (16 ≤ (u.port n.toNat).ackOwed → u.judgeAck n.toNat = u.sendAck n.toNat) :=
  ⟨_, State.acceptSeq_next h, rfl, State.judgeAck_sixteen⟩

/-- A NAK as it leaves stands for REPLAY_TO (R327). -/
theorem sendNak_sends {n : Nat} (h : (s.port n).svcTx = 0) (hfree : (s.port n).nakSent = false ∨ (s.port n).nakDue ≤ s.now) :
    (s.sendNak n).out = s.out ++ [.nak n (s.port n).sendLanes ((s.port n).ackWord 9) (s.port n).limitsWord
      (crc32 (ackBody ((s.port n).ackWord 9) (s.port n).limitsWord))] ∧
    ((s.sendNak n).port n).nakDue = s.now + s.fld .lnkLlc n 8 8 := by
  rw [State.sendNak_awake h hfree]
  exact ⟨rfl, congrArg Port.nakDue ((Tab.get_set_of_ne _ _ _ _ _ (Port.nakked_ne_init _ _ _)).trans (if_pos rfl))⟩

/-! ## What crosses -/

theorem malformedPacket_discards (hup : (s.port n.toNat).st = .up) (h : s.acceptSeq n.toNat pkt = (t, true))
    (hfab : t.fld .clkDiv 0 0 2 = 0) (hbad : illFormed pkt = true) :
    s.arrive n.toNat pkt = (t.discardMalformed n.toNat pkt, false) ∧
      exec (.malformedPacket n pkt) s = .next (t.discardMalformed n.toNat pkt) := by
  have harrive := State.arrive_malformed hup h hfab hbad
  exact ⟨harrive, by simp [exec, execMalformedPacket, hbad, harrive]⟩

theorem malformedPacket_ignored (h : Crosses s n.toNat pkt t) : exec (.malformedPacket n pkt) s = .next s := by
  simp [exec, execMalformedPacket, h.formed, h.notMrd, h.notMwr]

theorem packetForward_passes (h : s.arrive n.toNat pkt = (v, false)) : exec (.packetForward n pkt) s = .next v := by
  simp [exec, execPacketForward, h]

section
variable (h : s.arrive n.toNat pkt = (v, true))
include h

theorem doorbells_ring (ht : pkt.typ = 4) : exec (.sqDoorbell n pkt) s = .next (v.ringBell n.toNat pkt) ∧
    exec (.cqDoorbell n pkt) s = .next (v.ringBell n.toNat pkt) := by
  simp [exec, execSqDoorbell, execCqDoorbell, h, ht]

theorem cfgRd_reads (ht : pkt.typ = 5) : exec (.cfgRd n pkt) s = .next (v.takeCfgRd n.toNat pkt) := by
  simp [exec, execCfgRd, h, ht]

theorem cfgWr_writes (ht : pkt.typ = 6) : exec (.cfgWr n pkt) s = .next (v.takeCfgWr n.toNat pkt) := by
  simp [exec, execCfgWr, h, ht]

theorem cplReceived_ends (ht : pkt.typ = 3) : exec (.cplReceived n pkt) s = .next (v.takeCpl pkt) := by
  simp [exec, execCplReceived, h, ht]

theorem turn_taken (ht : pkt.typ = 7) : exec (.turn n pkt) s = .next (v.takeTurn n.toNat pkt.payload) := by
  simp [exec, execTurn, h, ht]

end

/-- A message that nobody knows is counted, and gives no hop delay (R341). -/
theorem turn_stray (h : s.arrive n.toNat pkt = (v.countBadMsg, false)) : exec (.turn n pkt) s = .next v.countBadMsg := by
  simp [exec, execTurn, h]

/-- A packet that crosses whole: each command of what it may be. -/
theorem packets_cross (h : Crosses s n.toNat pkt t) {b : Bool} (hr : t.route n.toNat pkt = (v, b)) :
    (b = false → exec (.packetForward n pkt) s = .next v) ∧
    (b = true → pkt.typ = 4 → v.pwr.gateA = false → v.lnk.parked.any Parked.isBell = false →
      exec (.sqDoorbell n pkt) s = .next (v.bell (pkt.payload.headD 0)) ∧
      exec (.cqDoorbell n pkt) s = .next (v.bell (pkt.payload.headD 0))) ∧
    (b = true → pkt.typ = 4 → (v.pwr.gateA = true ∨ v.lnk.parked.any Parked.isBell = true) →
      exec (.sqDoorbell n pkt) s = .next (v.park (.packet n.toNat pkt)) ∧
      exec (.cqDoorbell n pkt) s = .next (v.park (.packet n.toNat pkt))) ∧
    (b = true → pkt.typ = 5 → exec (.cfgRd n pkt) s = .next (v.takeCfgRd n.toNat pkt)) ∧
    (b = true → pkt.typ = 6 → exec (.cfgWr n pkt) s = .next (v.takeCfgWr n.toNat pkt)) ∧
    (b = true → pkt.typ = 3 → exec (.cplReceived n pkt) s = .next (v.takeCpl pkt)) ∧
    (b = true → pkt.typ = 7 → pkt.dkind = 3 → pkt.w2 = 0x10 → exec (.turn n pkt) s = .next (v.takeTurn n.toNat pkt.payload)) ∧
    (b = true → pkt.typ = 7 → (pkt.dkind ≠ 3 ∨ pkt.w2 ≠ 0x10) → exec (.turn n pkt) s = .next v.countBadMsg) := by
  cases b with
  | false => exact ⟨fun _ => packetForward_passes (h.arrive_known hr nofun), nofun, nofun, nofun, nofun, nofun, nofun, nofun⟩
  | true =>
    have hnoMsg : pkt.typ ≠ 7 → s.arrive n.toNat pkt = (v, true) := fun ht => h.arrive_known hr fun _ hs => ht hs.1
    refine ⟨nofun, fun _ ht hgate hnone => ?_, fun _ ht hwait => ?_, fun _ ht => cfgRd_reads (hnoMsg (by omega)) ht,
      fun _ ht => cfgWr_writes (hnoMsg (by omega)) ht, fun _ ht => cplReceived_ends (hnoMsg (by omega)) ht, fun _ ht hk hw => ?_,
      fun _ ht hstray => turn_stray (h.arrive_stray hr ⟨ht, hstray⟩)⟩
    · rw [← State.ringBell_rings (n := n.toNat) hgate hnone]
      exact doorbells_ring (hnoMsg (by omega)) ht
    · rw [← State.ringBell_waits hwait]
      exact doorbells_ring (hnoMsg (by omega)) ht
    · exact turn_taken (h.arrive_known hr fun _ hs => hs.2.elim (fun hno => hno hk) fun hno => hno hw) ht

end

/-- Settles O57: by the packet's number, then by its form and its way. -/
theorem packetsAreAcceptedAndRouted : Obligations.PacketsAreAcceptedAndRouted := by
  unfold Obligations.PacketsAreAcceptedAndRouted
  refine ⟨fun n pkt s back hback => ?_, fun n pkt s t hup hacc hfab => ?_⟩
  · obtain rfl : back = s.behind n.toNat pkt := hback
    refine ⟨packets_notUp, duplicatePacket_acks, fun hup hahead => ?_, fun hnext => ?_, fun hawake => ?_⟩
    · exact ⟨State.arrive_refused hup (State.acceptSeq_ahead hahead), duplicatePacket_other (.inr hahead)⟩
    · exact ⟨duplicatePacket_other (.inl hnext), acceptSeq_takes hnext⟩
    · rw [State.sendAck_awake hawake]
      exact ⟨State.sent_only _ _, rfl, State.sendNak_only hawake, State.sendNak_standing hawake, sendNak_sends hawake⟩
  · refine ⟨malformedPacket_discards hup hacc hfab, fun hform hmrd hmwr => ?_, State.route_partner, fun hv hn hk => ?_,
      State.route_noId, State.route_pathEnds, State.route_pathOn, State.dropPacket_unanswered⟩
    · have hcross : Crosses s n.toNat pkt t := ⟨hup, hacc, hfab, hform, hmrd, hmwr⟩
      exact ⟨malformedPacket_ignored hcross, fun v b => packets_cross hcross⟩
    · exact ⟨State.route_node hv hn hk, State.route_nobody hv hn hk, fun k => State.route_range hv hn hk⟩

end Sys2Proof.Proofs
end

section
/-! SUPPORT. Register access by CFG requests of one word, the end of the only MRD, and the hop delay (R338 to R340, R344). -/

namespace Sys2Proof.Machine

section
variable {s : State} {n : Nat} {pkt : Packet}

/-! ## One direct register (R543) -/

section
variable {a : Nat} {m : RegName} {i : Nat}

/-- A register but for the window and FLT_STAT is read without effect. -/
theorem State.readDirect_reg {src : Nat} (h : locateDirect a = some (m, i)) (hwin : m ≠ .indWin) (hflt : m ≠ .fltStat) :
    s.readDirect src a = (s, s.readReg src m i) := by
  unfold State.readDirect
  split <;> simp_all

/-- A register but for the window is written by its direct address. -/
theorem State.writeDirect_reg {w : RegWrite} (h : locateDirect a = some (m, i)) (hwin : m ≠ .indWin) :
    s.writeDirect w a = s.writeReg { w with ind := false, addr := a } m i := by
  unfold State.writeDirect
  split <;> simp_all

end

/-! ## CFG requests (R338, R339) -/

theorem State.pathWrites_cfg_reads : s.pathWrites .cfg = s.pathReads .cfg := by simp [State.pathWrites]

theorem State.cfgSleeps_awake (h : s.pwr.state.toNat < 2) : s.cfgSleeps .cfg = false := by
  have hnot : (s.pwr.state == 4) = false := beq_false_of_ne fun e => by simp [e] at h
  simp only [State.cfgSleeps, hnot, Bool.and_false, Bool.false_and]

theorem State.takeCfgRd_awake (h : s.pwr.state.toNat < 2) : s.takeCfgRd n pkt =
    if s.pathReads .cfg = false then s else if cfgFits pkt pkt.len = false then s.answer pkt 2 [] else
      (s.cfgReads pkt.len pkt.w2.toNat []).1.answer pkt 0 (s.cfgReads pkt.len pkt.w2.toNat []).2 := by
  simp [State.takeCfgRd, State.cfgSleeps_awake h, State.cfgWake_awake s h, cplErr, cplOk]

theorem State.takeCfgWr_unserved (h : s.pwr.state.toNat < 2) (hserved : s.pathReads .cfg = false) : s.takeCfgWr n pkt = s := by
  simp [State.takeCfgWr, State.cfgSleeps_awake h, State.cfgWake_awake s h, State.pathWrites_cfg_reads, hserved]

theorem State.takeCfgWr_outside (h : s.pwr.state.toNat < 2) (hserved : s.pathReads .cfg = true)
    (hfits : cfgFits pkt pkt.payload.length = false) : s.takeCfgWr n pkt = s.answer pkt 2 [] := by
  simp [State.takeCfgWr, State.cfgSleeps_awake h, State.cfgWake_awake s h, State.pathWrites_cfg_reads, hserved, hfits, cplErr]

/-- Registers are written one after another, and the request is answered unless one of the writes leaves the die in another mode. -/
theorem State.takeCfgWr_writes {t : State} (h : s.pwr.state.toNat < 2) (hserved : s.pathReads .cfg = true)
    (hfits : cfgFits pkt pkt.payload.length = true) (hbar : s.otpBarred pkt = none)
    (ht : s.cfgWrites n pkt.w2.toNat pkt.payload = t) : s.takeCfgWr n pkt =
      if t.die.mode ≠ s.die.mode then t else t.answer pkt (if t.regs.clampNext = s.regs.clampNext then 0 else 3) [] := by
  simp [State.takeCfgWr, State.cfgSleeps_awake h, State.cfgWake_awake s h, State.pathWrites_cfg_reads, hserved, hfits, hbar, ht, cplOk,
    cplClamped]

theorem locateDirect_otpCmd : locateDirect 0x1300 = some (.otpCmd, 0) := by decide +kernel

/-- The lifecycle bars only a request that names OTP_CMD (R450, R485). -/
theorem State.otpBarred_other {x : Word} {m : RegName} {i : Nat} (hone : pkt.payload = [x]) (hfits : cfgFits pkt 1 = true)
    (hreg : locateDirect pkt.w2.toNat = some (m, i)) (hm : m ≠ .otpCmd) : s.otpBarred pkt = none := by
  have haligned : pkt.w2.toNat % 4 = 0 := by
    rw [cfgFits, Bool.and_eq_true, beq_iff_eq] at hfits
    obtain ⟨haligned, -⟩ := hfits
    exact haligned
  have haddr : pkt.w2.toNat ≠ 0x1300 := fun e => by
    rw [e, locateDirect_otpCmd] at hreg
    simp_all
  refine if_neg fun ⟨hle, hin, _⟩ => haddr ?_
  rw [hone, List.length_singleton] at hin
  omega

/-- The one word of a served request is written to its register; the service level is noted behind it (R45, R338). -/
theorem State.cfgWrites_one {x : Word} {a : Nat} {m : RegName} {i : Nat} (hserved : s.pathReads .cfg = true)
    (hreg : locateDirect a = some (m, i)) (hwin : m ≠ .indWin) :
    s.cfgWrites n a [x] = (s.writeReg ⟨1, false, a, x, n, none⟩ m i).noteLevel := by
  have hregs : s.regsServed = true := by
    rw [State.pathReads, Bool.and_eq_true] at hserved
    obtain ⟨hregs, -⟩ := hserved
    exact hregs
  simp only [State.cfgWrites, hregs, if_true, State.writeDirect_reg hreg hwin, ite_self]

/-! ## Host reads (R340) -/

theorem State.mrdNext_idle (h : s.rng.mrdQ = []) : s.mrdNext = s := by
  simp [State.mrdNext, h]

variable {m : Mrd}

/-- The state once its MRDs have all ended. -/
def State.mrdsEnded (s : State) : State := { s with rng := { s.rng with mrds := [] } }

theorem State.mrdNext_ended (h : s.rng.mrds = [m]) (hq : s.rng.mrdQ = []) :
    ({ s with rng := { s.rng with mrds := s.rng.mrds.filter fun x => x.tag != m.tag } } : State).mrdNext = s.mrdsEnded := by
  have hnone : (s.rng.mrds.filter fun x => x.tag != m.tag) = [] := by simp [h]
  rw [State.mrdNext_idle (by exact hq), hnone]
  rfl

/-- The end of the only MRD, where a block waits for it: the part of the block is there, or has failed. -/
theorem State.endMrd_block {id o part : Nat} (h : s.rng.mrds = [m]) (hq : s.rng.mrdQ = []) (huse : m.use = .block id o part)
    (ws : Option (List Word)) : s.endMrd m ws = s.mrdsEnded.partArrived id o part (ws.map wordsBytes) := by
  simp only [State.endMrd, State.mrdNext_ended h hq, huse]

/-- Its end where a ring has asked for descriptors, and they are there. -/
theorem State.endMrd_descs {q i k : Nat} (h : s.rng.mrds = [m]) (hq : s.rng.mrdQ = []) (huse : m.use = .descs q i k) (l : List Word) :
    s.endMrd m (some l) = s.mrdsEnded.descsArrived q i l := by
  simp only [State.endMrd, State.mrdNext_ended h hq, huse]

/-- Its end where they do not come: the ring that waits for them is in error (R200). -/
theorem State.endMrd_noDescs {q i k : Nat} (h : s.rng.mrds = [m]) (hq : s.rng.mrdQ = []) (huse : m.use = .descs q i k)
    (hwaits : (s.sq q).fetch.any (fun e => e.1 == i) = true) : s.endMrd m none = s.mrdsEnded.sqError q 4 := by
  have hstill : (s.mrdsEnded.sq q).fetch.any (fun e => e.1 == i) = true := hwaits
  simp only [State.endMrd, State.mrdNext_ended h hq, huse, hstill, if_true]

/-- A CPL whose tag no MRD has is late. -/
theorem State.takeCpl_late (h : ∀ m ∈ s.rng.mrds, m.tag.toNat ≠ pkt.tag) :
    s.takeCpl pkt = { s with lnk := { s.lnk with lateCpl := satInc s.lnk.lateCpl 1 } } := by
  have hnone : (s.rng.mrds.find? fun m => m.tag.toNat == pkt.tag) = none := by
    rw [List.find?_eq_none]
    intro m hm
    simpa using h m hm
  unfold State.takeCpl
  rw [hnone]

/-- A CPL that brings what the only MRD asked for ends it. -/
theorem State.takeCpl_whole (h : s.rng.mrds = [m]) (htag : m.tag.toNat = pkt.tag) (hok : pkt.w2 = 0)
    (hlen : pkt.payload.length = m.words) : s.takeCpl pkt = s.endMrd m (some pkt.payload) := by
  simp [State.takeCpl, h, htag, hok, hlen]

/-! ## The hop delay (R344) -/

/-- A TURN that names one of the port's own TS2, in time: a delay that is not negative is taken. -/
theorem State.takeTurn_named {x y : Word} {t1 t4 : Nat} {g : BitVec 16} {d : Int} (hwait : (s.port n).turnWait = true)
    (htime : s.now ≤ (s.port n).phaseAt + 100) (hsent : (s.port n).stamps.find? (fun e => e.1 == x.setWidth 16) = some (x.setWidth 16, t1))
    (hgot : (s.port n).lastTs2 = some (x.setWidth 16, t4, g))
    (hd : d = ((t4 : Int) - t1 - y.toNat) / 2 + (BitVec.ofNat 16 (s.fld .lnkTadj n 0 16)).toInt) : s.takeTurn n [x, y] =
      if 0 ≤ d then (s.updPort n fun p => { p with turnWait := false }).updPort n fun p =>
        { p with delay := BitVec.ofNat 20 d.toNat, dvalid := true }
      else s.updPort n fun p => { p with turnWait := false } := by
  subst hd
  simp only [State.takeTurn, List.getD_cons_zero, List.getD_cons_succ, hsent, hgot]
  refine if_congr ?_ rfl rfl
  exact ⟨fun ⟨_, _, _, hpos⟩ => hpos, fun hpos => ⟨hwait, htime, trivial, hpos⟩⟩

end

end Sys2Proof.Machine
end

section
/-! PROOF. CFG requests access registers; host reads end; the hop delay (O58). -/

namespace Sys2Proof.Proofs
open Sys2Proof.Machine Sys2Proof.Safety

/-! ## CFG requests -/

section
variable {n : Nat} {pkt : Packet} {s : State} (h : s.pwr.state.toNat < 2)
include h

/-- A node whose registers are not served answers nothing. -/
theorem cfg_unserved (hserved : s.pathReads .cfg = false) : s.takeCfgRd n pkt = s ∧ s.takeCfgWr n pkt = s :=
  ⟨(State.takeCfgRd_awake h).trans (if_pos hserved), State.takeCfgWr_unserved h hserved⟩

theorem takeCfgRd_outside (hserved : s.pathReads .cfg = true) (hfits : cfgFits pkt pkt.len = false) :
    s.takeCfgRd n pkt = s.answer pkt 2 [] :=
  (State.takeCfgRd_awake h).trans ((if_neg (by simp [hserved])).trans (if_pos hfits))

theorem takeCfgRd_one {m : RegName} {i : Nat} (hserved : s.pathReads .cfg = true) (hfits : cfgFits pkt 1 = true) (hlen : pkt.len = 1)
    (hreg : locateDirect pkt.w2.toNat = some (m, i)) (hwin : m ≠ .indWin) (hflt : m ≠ .fltStat) :
    s.takeCfgRd n pkt = s.answer pkt 0 [s.readReg 1 m i] := by
  rw [State.takeCfgRd_awake h, hlen, if_neg (by simp [hserved]), if_neg (by simp [hfits])]
  simp only [State.cfgReads, State.readDirect_reg hreg hwin hflt, List.nil_append]

/-- A write of one register is answered by its clamps, unless it leaves the die in another mode. -/
theorem takeCfgWr_one {x : Word} {m : RegName} {i : Nat} (hserved : s.pathReads .cfg = true) (hone : pkt.payload = [x])
    (hfits : cfgFits pkt 1 = true) (hreg : locateDirect pkt.w2.toNat = some (m, i)) (hwin : m ≠ .indWin) (hotp : m ≠ .otpCmd) :
    ∃ t : State, t = (s.writeReg ⟨1, false, pkt.w2.toNat, x, n, none⟩ m i).noteLevel ∧
    (t.die.mode ≠ s.die.mode → s.takeCfgWr n pkt = t) ∧
    (t.die.mode = s.die.mode → t.regs.clampNext = s.regs.clampNext → s.takeCfgWr n pkt = t.answer pkt 0 []) ∧
    (t.die.mode = s.die.mode → t.regs.clampNext ≠ s.regs.clampNext → s.takeCfgWr n pkt = t.answer pkt 3 []) := by
  have hwritten := State.cfgWrites_one (n := n) (x := x) hserved hreg hwin
  rw [← hone] at hwritten
  have htake := State.takeCfgWr_writes h hserved (by rw [hone]; exact hfits) (State.otpBarred_other hone hfits hreg hotp) hwritten
  refine ⟨_, rfl, fun hmode => htake.trans (if_pos hmode), fun hmode hclamp => ?_, fun hmode hclamp => ?_⟩
  · rw [htake, if_neg (not_not.mpr hmode), if_pos hclamp]
  · rw [htake, if_neg (not_not.mpr hmode), if_neg hclamp]

end

/-! ## Host reads -/

section
variable {s : State} {m : Mrd}

/-- A CPL with all the words of the only MRD gives them to the block or the ring that asked. -/
theorem takeCpl_ends {pkt : Packet} (h : s.rng.mrds = [m]) (hq : s.rng.mrdQ = []) (htag : m.tag.toNat = pkt.tag) (hok : pkt.w2 = 0)
    (hlen : pkt.payload.length = m.words) :
    (∀ id o part, m.use = .block id o part → s.takeCpl pkt =
      { s with rng := { s.rng with mrds := [] } }.partArrived id o part (some (wordsBytes pkt.payload))) ∧
    (∀ q i k, m.use = .descs q i k → s.takeCpl pkt = { s with rng := { s.rng with mrds := [] } }.descsArrived q i pkt.payload) := by
  rw [State.takeCpl_whole h htag hok hlen]
  exact ⟨fun id o part huse => State.endMrd_block h hq huse _, fun q i k huse => State.endMrd_descs h hq huse _⟩

variable {tag : BitVec 12}

theorem mrdTimeout_unknown (h : ∀ m ∈ s.rng.mrds, m.tag ≠ tag) : exec (.mrdTimeout tag) s = .next s := by
  have hnone : (s.rng.mrds.find? fun m => m.tag == tag) = none := by
    rw [List.find?_eq_none]
    intro m hm
    simpa using h m hm
  simp only [exec, execMrdTimeout, hnone]

/-- The timeout of the only MRD. -/
theorem mrdTimeout_one (h : s.rng.mrds = [m]) (htag : m.tag = tag) : exec (.mrdTimeout tag) s =
    .next (if m.sent = true ∧ m.at_ + m.limit ≤ s.now then s.endMrd m none else s) := by
  simp [exec, execMrdTimeout, h, htag]

theorem mrdTimeout_early (h : s.rng.mrds = [m]) (htag : m.tag = tag) (hearly : m.sent = false ∨ s.now < m.at_ + m.limit) :
    exec (.mrdTimeout tag) s = .next s := by
  rw [mrdTimeout_one h htag, if_neg]
  exact fun ⟨hsent, hover⟩ => hearly.elim (fun hno => by simp [hno] at hsent) fun hno => by omega

/-- An MRD that has left and whose time has passed fails. -/
theorem mrdTimeout_over (h : s.rng.mrds = [m]) (htag : m.tag = tag) (hsent : m.sent = true) (hover : m.at_ + m.limit ≤ s.now) :
    exec (.mrdTimeout tag) s = .next (s.endMrd m none) := by
  rw [mrdTimeout_one h htag, if_pos ⟨hsent, hover⟩]

theorem mrdTimeout_block {id o part : Nat} (h : s.rng.mrds = [m]) (hq : s.rng.mrdQ = []) (htag : m.tag = tag) (hsent : m.sent = true)
    (hover : m.at_ + m.limit ≤ s.now) (huse : m.use = .block id o part) : exec (.mrdTimeout tag) s =
      .next ({ s with rng := { s.rng with mrds := [] } }.partArrived id o part none) :=
  (mrdTimeout_over h htag hsent hover).trans (congrArg _ (State.endMrd_block h hq huse none))

/-- Descriptors that do not come stop the ring that waits for them (R200). -/
theorem mrdTimeout_descs {q i k : Nat} (h : s.rng.mrds = [m]) (hq : s.rng.mrdQ = []) (htag : m.tag = tag) (hsent : m.sent = true)
    (hover : m.at_ + m.limit ≤ s.now) (huse : m.use = .descs q i k) (hwaits : (s.sq q).fetch.any (fun e => e.1 == i) = true) :
    exec (.mrdTimeout tag) s = .next ({ s with rng := { s.rng with mrds := [] } }.sqError q 4) :=
  (mrdTimeout_over h htag hsent hover).trans (congrArg _ (State.endMrd_noDescs h hq huse hwaits))

end

/-! ## The hop delay -/

/-- Once 100 µs have passed since UP, no TURN is waited for. -/
theorem turnTimeout_over {n : BitVec 2} {s : State} (h : (s.port n.toNat).phaseAt + 100 ≤ s.now) :
    exec (.turnTimeout n) s = .next (s.updPort n.toNat fun p => { p with turnWait := false }) :=
  congrArg Host.Outcome.next (if_pos h)

theorem turnTimeout_early {n : BitVec 2} {s : State} (h : s.now < (s.port n.toNat).phaseAt + 100) :
    exec (.turnTimeout n) s = .next s :=
  congrArg Host.Outcome.next (if_neg (Nat.not_le.mpr h))

/-- The hop delay stands in the port, which waits for no TURN any more. -/
theorem port_delayed {n : Nat} {s : State} (delay : BitVec 20) (hup : (s.port n).st = .up) :
    ((s.updPort n fun p => { p with turnWait := false }).updPort n fun p => { p with delay := delay, dvalid := true }).port n =
      { s.port n with turnWait := false, delay := delay, dvalid := true } := by
  have hdown : (s.port n).st ≠ .down := hup.trans_ne (by decide)
  have hfirst : (s.updPort n fun p => { p with turnWait := false }).port n = { s.port n with turnWait := false } :=
    State.port_updPort hdown
  rw [State.port_updPort (by rw [hfirst]; exact hdown), hfirst]

/-- Settles O58: CFG requests by one word, host reads by the only MRD, and the hop delay. -/
theorem cfgRequestsAndHostReads : Obligations.CfgRequestsAndHostReads := by
  unfold Obligations.CfgRequestsAndHostReads
  refine ⟨fun n pkt s h => ?_, fun pkt s => State.takeCpl_late, fun pkt m s => takeCpl_ends, fun tag s => ?_,
    fun n s => ⟨turnTimeout_over, turnTimeout_early⟩, fun n x y s t1 t4 g d hwait htime hup hsent hgot hd => ?_⟩
  · exact ⟨cfg_unserved h, takeCfgRd_outside h, State.takeCfgWr_outside h, fun m i => takeCfgRd_one h, fun x m i => takeCfgWr_one h,
      fun status ws => rfl⟩
  · exact ⟨mrdTimeout_unknown, fun m => mrdTimeout_early, fun m id o part => mrdTimeout_block, fun m q i k => mrdTimeout_descs⟩
  · rw [State.takeTurn_named hwait htime hsent hgot hd]
    refine ⟨fun hpos => ?_, fun hneg => if_neg (by omega)⟩
    rw [if_pos hpos, port_delayed _ hup]
    exact ⟨by simp [Only], rfl, rfl, rfl⟩

end Sys2Proof.Proofs
end

section
/-! SUPPORT. What stopping the die changes: rings, commands, bursts and tests end and every tier comes to rest, and the die, its
temperatures, its time and its fault lines stay (R353, R367, R379, R417). -/

namespace Sys2Proof.Machine
open Sys2Proof.Safety

/-- The parts that an orderly stop of rings, bursts and tiers may change. -/
def haltParts : List Part := [.regs, .clk, .bud, .qos, .rng, .lnk, .tch, .pcd, .pwr, .bst, .sec, .out]

/-- The second state follows the first by steps of such a stop. -/
def Halts (s t : State) : Prop := Only haltParts s t

namespace Halts
variable {s t u : State}

theorem refl (s : State) : Halts s s := (Only.refl s).mono (by simp)

/-- One more step, within those parts. -/
theorem only {ps : List Part} (h : Halts s t) (g : Only ps t u) (hps : ps ⊆ haltParts := by decide) : Halts s u :=
  Only.step h (g.mono hps)

theorem posts (h : Halts s t) (g : Posts t u) : Halts s u := h.only g

theorem same (h : Halts s t) (p : Part) (hp : p ∉ haltParts := by decide) : Same s t p := Only.same h p hp

/-- One of two such steps. -/
theorem ite {c : Prop} [Decidable c] (h : Halts s t) (g : Halts s u) : Halts s (if c then t else u) := by
  split
  · exact h
  · exact g

/-- A run of such steps. -/
theorem foldl {α : Type} {f : State → α → State} {l : List α} (hf : ∀ t a, Halts s t → Halts s (f t a)) (h : Halts s t) :
    Halts s (l.foldl f t) := by
  induction l generalizing t with
  | nil => exact h
  | cons a l ih => exact ih (hf t a h)

theorem regs {x : Regs} (h : Halts s t) : Halts s { t with regs := x } := h.only (ps := [.regs]) (by simp [Only])
theorem qos {x : Qos} (h : Halts s t) : Halts s { t with qos := x } := h.only (ps := [.qos]) (by simp [Only])
theorem rng {x : Rng} (h : Halts s t) : Halts s { t with rng := x } := h.only (ps := [.rng]) (by simp [Only])
theorem pcd {x : Pcd} (h : Halts s t) : Halts s { t with pcd := x } := h.only (ps := [.pcd]) (by simp [Only])
theorem pwr {x : Pwr} (h : Halts s t) : Halts s { t with pwr := x } := h.only (ps := [.pwr]) (by simp [Only])
theorem bst {x : Bst} (h : Halts s t) : Halts s { t with bst := x } := h.only (ps := [.bst]) (by simp [Only])
theorem sec {x : Sec} (h : Halts s t) : Halts s { t with sec := x } := h.only (ps := [.sec]) (by simp [Only])

theorem rings {x : Qos} {y : Rng} (h : Halts s t) : Halts s { t with qos := x, rng := y } :=
  h.only (ps := [.qos, .rng]) (by simp [Only])

theorem setCfg {n : RegName} {i : Nat} {w : Word} (h : Halts s t) : Halts s (t.setCfg n i w) := h.regs
theorem updSq {q : Nat} {f : SqCtx → SqCtx} (h : Halts s t) : Halts s (t.updSq q f) := h.rng
theorem updCq {q : Nat} {f : CqCtx → CqCtx} (h : Halts s t) : Halts s (t.updCq q f) := h.rng
theorem updCmd {k : Nat} {f : Cmd → Cmd} (h : Halts s t) : Halts s (t.updCmd k f) := h.rng
theorem updChan {i : Nat} {f : Chan → Chan} (h : Halts s t) : Halts s (t.updChan i f) := h.only (State.updChan_only ..)
theorem updChans {l : List Nat} {f : Nat → Chan → Chan} (h : Halts s t) : Halts s (t.updChans l f) := h.only (State.updChans_only ..)
theorem updTier {k : Nat} {f : Tier → Tier} (h : Halts s t) : Halts s (t.updTier k f) := h.only (State.updTier_only ..)

/-! ## Commands -/

theorem streamRelease {q n : Nat} (h : Halts s t) : Halts s (t.streamRelease q n) := ite h h.qos.updSq

theorem writeFinal {c : Cmd} {f : Final} (h : Halts s t) : Halts s (t.writeFinal c f) := by
  unfold State.writeFinal
  extract_lets _ _ _ _ s₁ _ s₂ _ _ s₃
  have h₀ := ite (c := c.op.nmo ∧ c.desc.opnd3 ≠ 0) (h.posts (Posts.mwrAll t c.tc.toNat c.desc.opnd3.toNat (t.recordOf c))) h
  have h₁ : Halts s s₁ := ite h₀ (foldl (fun _ _ h => h.posts (Posts.mwrAll ..)) h₀)
  have h₂ : Halts s s₂ := by
    unfold s₂
    split
    · exact ite h₁ (ite h₁.setCfg h₁.setCfg)
    · split
      · exact ite h₁.sec h₁
      · exact h₁
    · exact h₁
  have h₃ : Halts s s₃ := ite (streamRelease (h₂.posts (Posts.writeHeld ..))) (h₂.posts (Posts.writeHeld ..))
  split
  · exact posts (updSq (rng (ite h₃.updCq h₃))) (Posts.postEvent ..)
  · exact updSq (rng (ite h₃.updCq h₃))

theorem writeEntry {q : Nat} {e : HeldEntry} (h : Halts s t) : Halts s (t.writeEntry q e) := h.posts (Posts.writeEntry ..)

theorem complete {c : Cmd} {f : Final} (h : Halts s t) : Halts s (t.complete c f) :=
  ite h.rng (ite h.updCmd.writeEntry h.writeFinal)

theorem settleN {fuel : Nat} (h : Halts s t) : Halts s (t.settleN fuel) := by
  induction fuel generalizing t with
  | zero => exact h
  | succ fuel ih =>
    unfold State.settleN
    split
    · exact h
    · split
      · exact h
      · exact ih h.complete

theorem finish {id : Nat} {f : Final} (h : Halts s t) : Halts s (t.finish id f) := h.updCmd.settleN

theorem judgeProvisional {id : Nat} (h : Halts s t) : Halts s (t.judgeProvisional id) := by
  unfold State.judgeProvisional
  split
  · exact h
  · exact ite h h.updCmd.writeEntry

theorem tryFinish {id : Nat} (h : Halts s t) : Halts s (t.tryFinish id) := by
  unfold State.tryFinish
  extract_lets
  split
  · exact h.judgeProvisional
  · exact ite h.judgeProvisional.finish h.judgeProvisional

/-! ## Requests -/

theorem mergeRelease {k : Option Nat} (h : Halts s t) : Halts s (t.mergeRelease k) := h.only (State.mergeRelease_only ..)

theorem mergeTo {k : Option Nat} {x : MergeSt} (h : Halts s t) : Halts s (t.mergeTo k x) := by
  unfold State.mergeTo
  split
  · exact h
  · split
    · exact h
    · exact h.pcd

theorem encode {r : Req} (h : Halts s t) : Halts s (t.encode r).1 := by
  unfold State.encode
  split
  · exact h
  · exact ite h.pcd h

theorem enter {i : Nat} {r : Req} (h : Halts s t) : Halts s (t.enter i r) := by
  unfold State.enter
  refine updChan ?_
  split
  · exact h.encode.mergeTo
  · exact h

theorem letIn {i : Nat} (h : Halts s t) : Halts s (t.letIn i) := ite (foldl (fun _ _ h => ite h.enter h) h) h

theorem letInAll (h : Halts s t) : Halts s t.letInAll := foldl (fun _ _ h => h.letIn) h

theorem dropBlock {id o : Nat} (h : Halts s t) : Halts s (t.dropBlock id o) :=
  letInAll (updCmd (updChans (foldl (fun _ _ h => h.mergeRelease) h)))

/-! ## What stops -/

theorem stopCmd {id : Nat} (h : Halts s t) : Halts s (t.stopCmd id) := by
  unfold State.stopCmd
  split
  · exact h
  · exact tryFinish (updCmd (foldl (fun _ _ h => h.dropBlock) h))

theorem stopRings (h : Halts s t) : Halts s t.stopRings :=
  rings (foldl (fun _ _ h => h.stopCmd) h.rng)

theorem bistHalt (h : Halts s t) : Halts s t.bistHalt :=
  ite (h.only (ps := [.bst, .pcd]) (by simp [Only])) (ite h (h.only (ps := [.bst]) (by simp [Only, State.bistResult])))

theorem recodeMark {l : Nat} (h : Halts s t) : Halts s (t.recodeMark l) := by
  unfold State.recodeMark
  split
  · exact h
  · exact ite h (ite h.pcd h.pcd.setCfg)

theorem endBursts (h : Halts s t) : Halts s t.endBursts :=
  updChans (foldl (fun _ _ h => ite (recodeMark (h.only (State.putSlot_only ..))) (h.only (State.putSlot_only ..))) h)

theorem word {i op bank operand : Nat} (h : Halts s t) : Halts s (t.word i op bank operand) := h.only (State.word_only ..)

theorem issueRefs {n i : Nat} (h : Halts s t) : Halts s (State.issueRefs n t i) := by
  induction n generalizing t with
  | zero => exact h
  | succ n ih => exact ih (h.only (State.issueRef_only ..))

theorem sreTier {k mult : Nat} (h : Halts s t) : Halts s (t.sreTier k mult) :=
  updTier (foldl (fun _ _ h => h.word.word) h)

theorem selfRefresh {k mult : Nat} (h : Halts s t) : Halts s (t.selfRefresh k mult) :=
  sreTier (foldl (fun _ _ h => updChan (ite h.word.issueRefs h.word)) h)

theorem restTier {k : Nat} (h : Halts s t) : Halts s (t.restTier k) :=
  ite h.selfRefresh (ite h (sreTier (foldl (fun _ _ h => h.word.word) h)))

theorem restAll (h : Halts s t) : Halts s t.restAll := foldl (fun _ _ h => h.restTier) h

theorem sreAll (h : Halts s t) : Halts s t.sreAll := foldl (fun _ _ h => sreTier (foldl (fun _ _ h => h.word) h)) h

theorem quiesce (h : Halts s t) : Halts s t.quiesce := pcd (sreAll (updChans (foldl (fun _ _ h => h.word) h.endBursts)))

end Halts

end Sys2Proof.Machine
end

section
/-! SUPPORT. The writes of PWR_CTL, and what starts an exit from each power state (R310, R359 to R367, R392). -/

namespace Sys2Proof.Safety
open Sys2Proof.Machine

/-- A run of steps within the parts listed. -/
theorem Only.foldl {ps : List Part} {α : Type} {f : State → α → State} (hf : ∀ t a, Only ps t (f t a)) (l : List α) (s : State) :
    Only ps s (l.foldl f s) := by
  induction l generalizing s with
  | nil => exact (Only.refl s).mono (by simp)
  | cons a l ih => exact (hf s a).step (ih _)

end Sys2Proof.Safety

namespace Sys2Proof.Machine
open Sys2Proof.Safety

section
variable {s : State} {w : RegWrite} {i : Nat}

/-! ## PWR_CTL -/

theorem pwrCtl_acts : (regFields .pwrCtl i).all (fun f => !f.typ.stored) = true := rfl

/-- A code written to PWR_CTL.OFF stands in its field, and WAKE reads 0. -/
theorem fieldOf_offCode (code : Byte) : fieldOf (code.setWidth 32 <<< 8) 8 8 = code.toNat ∧ bitOf (code.setWidth 32 <<< 8) 0 = false := by
  refine ⟨?_, by simp [bitOf]⟩
  have hcode := code.isLt
  simp only [fieldOf, BitVec.toNat_shiftLeft, BitVec.toNat_setWidth, Nat.shiftLeft_eq]
  omega

theorem State.act_pwrWake (h : w.data = 1) : s.act w .pwrCtl i = s.startExit 4 := by
  simp [State.act, State.actPwrCtl, bitOf, fieldOf, h]

theorem State.act_pwrOff {code : Byte} (h : w.data = code.setWidth 32 <<< 8) : s.act w .pwrCtl i =
    if code = 0 then s else if code = 0x5A then s.powerOff else s.ignoredField w 8 8 := by
  obtain ⟨hcode, hwake⟩ := fieldOf_offCode code
  simp only [State.act, State.actPwrCtl, h, hcode, hwake, Bool.false_eq_true, if_false, BitVec.toNat_eq]
  rfl

/-! ## The entry to P5 (R367) -/

theorem State.powerOff_again (h : s.pwr.offStage ≠ 0) : s.powerOff = s := if_pos h

theorem State.powerOff_waits (h : s.pwr.offStage = 0) (hbusy : s.otp.busy.isSome = true) :
    s.powerOff = { s with pwr := { s.pwr with offStage := 1 } } := by
  simp [State.powerOff, h, hbusy]

theorem State.powerOff_begins (h : s.pwr.offStage = 0) (hbusy : s.otp.busy = none) : s.powerOff = s.offBegin := by
  simp [State.powerOff, h, hbusy]

theorem State.offBegin_halts : Halts s s.offBegin := (Halts.refl s).bistHalt.stopRings.quiesce.pwr

/-- The entry's first step queues the closing of every open gate (R394). -/
theorem State.mem_offBegin_closeQ {t : Nat} (ht : t < 32) : t ∈ s.offBegin.pwr.closeQ ↔ (s.offBegin.tier t).open_ = true := by
  unfold State.offBegin
  generalize s.bistHalt.stopRings.quiesce = q
  exact List.mem_filter.trans (and_iff_right (List.mem_range.mpr ht))

theorem State.dropCheck_level (s : State) : s.dropCheck.dbg.level = s.dbg.level := by
  unfold State.dropCheck
  extract_lets
  split <;> rfl

theorem State.twAbort_only (s : State) : Only [.tw, .free] s s.twAbort := by
  unfold State.twAbort
  split <;> simp [Only]

/-- The power state is the one asked for, also where it was so before. -/
theorem State.setPower_reached (s : State) {dest : Nat} (cause : Nat) :
    (s.setPower dest cause).pwr.state = BitVec.ofNat 3 dest := by
  by_cases h : s.pwr.state.toNat = dest
  · rw [State.setPower, if_pos h, ← h, BitVec.ofNat_toNat, BitVec.setWidth_eq]
  · exact State.setPower_state _ _ _ h

theorem State.offEnd_level (s : State) : s.offEnd.dbg.level = 0 := by
  unfold State.offEnd
  extract_lets s₁ _ s₂
  have hquiet : s₁.dbg.level = 0 := by
    rw [show s₁.dbg = _ from (State.twAbort_only _).same .dbg (by decide)]
    exact State.dropCheck_level _
  rw [← hquiet]
  exact congrArg Dbg.level (Only.same (Posts.setPower { s₁ with pwr := { s₁.pwr with offStage := 0 } } 5 4) .dbg (by decide))

theorem State.offEnd_state (s : State) : s.offEnd.pwr.state = 5 := State.setPower_reached _ 4

theorem State.offTick_ends (hmode : s.die.mode = .running) (hstage : s.pwr.offStage = 3) (hisles : s.islesDone = true)
    (hbusy : s.otp.busy = none) : s.offTick = s.offEnd := by
  simp [State.offTick, hmode, hstage, hisles, hbusy]

/-! ## An exit to P0 (R360, R365, R366) -/

theorem State.startExit_stays (cause : Nat) (h : s.pwr.exiting = true ∨ s.pwr.state = 0) : s.startExit cause = s := by
  unfold State.startExit
  obtain hx | h0 := h
  · exact if_pos hx
  · simp [h0]

theorem State.startExit_p1 (cause : Nat) (hx : s.pwr.exiting = false) (h : s.pwr.state = 1) : s.startExit cause = s.setPower 0 11 := by
  simp [State.startExit, hx, h]

theorem State.startExit_light (cause : Nat) (hx : s.pwr.exiting = false) (h : s.pwr.state = 2 ∨ s.pwr.state = 3) :
    s.startExit cause = (s.beginExit cause s.now).ungate := by
  obtain h | h := h <;> simp [State.startExit, hx, h]

theorem State.startExit_p4 (cause : Nat) (hx : s.pwr.exiting = false) (h : s.pwr.state = 4) : s.startExit cause =
    ({ s with pwr := { s.pwr with p4Stay := s.now - s.pwr.p4Since } }.beginExit cause (s.now + 200)).pulseWake.moveIslands := by
  simp [State.startExit, hx, h]

/-- The gated domains wait for the crystal and for the islands. -/
theorem State.ungate_waits (h : s.clk.parked = true ∨ s.islesDone = false) : s.ungate = s := by
  unfold State.ungate
  rw [if_pos]
  exact .inr (h.imp_right fun hi => by simp [hi])

/-- An exit from P2 or P3 that finds both VCOs locked and the islands open has reached P0. -/
theorem State.ungate_ends (hx : s.pwr.exiting = true) (hst : s.pwr.state = 2 ∨ s.pwr.state = 3) (hrun : s.clk.parked = false)
    (hisles : s.islesDone = true) (hA : s.clk.fabA = true) (hB : s.clk.fabB = true) : s.ungate.pwr.state = 0 := by
  have hne : s.pwr.state ≠ 4 := by obtain h | h := hst <;> rw [h] <;> decide
  unfold State.ungate
  rw [if_neg (by simp [hx, hrun, hisles]), if_pos ⟨hx, hne, by simp [hA], by simp [hB]⟩]
  exact State.setPower_reached _ _

theorem State.moveIslands_pwr (s : State) : ∃ g x y, s.moveIslands.pwr = { s.pwr with grants := g, isleTo := x, isleWait := y } := by
  unfold State.moveIslands State.isleTick
  split
  · exact ⟨_, _, _, rfl⟩
  · exact ⟨_, _, _, rfl⟩

/-! ## Wakes from outside (R310, R365, R367, R392) -/

theorem State.onPin_seen (f : State → State) (h : s.die.uvIo = false) : s.onPin f = f s := if_pos (by simp [h])

theorem State.onPin_undefined (f : State → State) (h : s.die.uvIo = true) : s.onPin f =
    if Config.pinSeen s.free then f { s with free := s.free + 1 } else { s with free := s.free + 1 } := if_neg (by simp [h])

theorem State.wake_running (cause : Nat) (h : s.die.mode = .running) : s.wake cause = s.startExit cause := by simp [State.wake, h]

theorem State.wake_off (cause : Nat) (h : s.die.mode = .off) : s.wake cause = s.wakeOff cause := if_pos h

theorem State.raise_only (s : State) (src detail : Nat) : Only [.flt] s (s.raise src detail) := by simp [Only]

theorem State.raiseUntrusted_only (s : State) (was : BitVec 4) : Only [.flt] s (s.raiseUntrusted was) := by
  refine Only.foldl (fun t r => ?_) _ s
  split
  · exact t.raise_only _ _
  · exact (Only.refl t).mono (by simp)

theorem State.fuses_only (s : State) (x : Otp) (n : Nat) : Only [.otp, .free] s { s with otp := x, free := n } := by simp [Only]

/-- Interrupting an OTP command changes the fuses, free values and fault lines; the fuses stand where none runs (R453). -/
theorem State.otpInterrupt_only (s : State) : Only [.otp, .free, .flt] s s.otpInterrupt := by
  unfold State.otpInterrupt
  extract_lets
  split
  · exact (s.fuses_only _ _).mono (by simp)
  · split
    · exact (s.fuses_only _ _).mono (by simp)
    · exact (s.fuses_only _ _).trans (State.raiseUntrusted_only _ _)

theorem State.otpInterrupt_idle (h : s.otp.busy = none) : s.otpInterrupt.otp.normal = s.otp.normal := by
  simp [State.otpInterrupt, h]

/-- A renewed challenge touches the debug unit and the generator alone (R488). -/
theorem State.newChallenge_only (s : State) : Only [.dbg, .free] s s.newChallenge := by simp [Only, State.newChallenge, State.randoms]

/-- The power-on reset that a wake from P5 is: the Clicks and the fuses stay (R367). -/
theorem State.powerOn_p5 (s : State) (mode : DieMode) :
    (s.powerOn causeP5 mode).die.mode = mode ∧ (s.powerOn causeP5 mode).die.cause = 3 ∧ (s.powerOn causeP5 mode).pwr.wakeLow = true ∧
      (s.powerOn causeP5 mode).thm.clicks = s.otpInterrupt.thm.clicks ∧
      (s.powerOn causeP5 mode).otp.normal = s.otpInterrupt.otp.normal := by
  unfold State.powerOn
  extract_lets p5 t z
  have hp5 : p5 = true := rfl
  refine ⟨?_, ?_, ?_, ?_, ?_⟩
  · rw [show _ = _ from (State.newChallenge_only _).same .die (by decide)]
  · rw [show _ = _ from (State.newChallenge_only _).same .die (by decide)]; rfl
  · rw [show _ = _ from (State.newChallenge_only _).same .pwr (by decide)]; simp [hp5]
  · rw [show _ = _ from (State.newChallenge_only _).same .thm (by decide)]; simp [hp5, t]
  · rw [show _ = _ from (State.newChallenge_only _).same .otp (by decide)]

theorem State.wakeOff_restarts (s : State) (cause : Nat) : (s.wakeOff cause).die.mode = .startWatch ∧ (s.wakeOff cause).die.cause = 3 ∧
    (s.wakeOff cause).pwr.wakeLow = true ∧ (s.wakeOff cause).thm.clicks = s.thm.clicks ∧
    (s.otp.busy = none → (s.wakeOff cause).otp.normal = s.otp.normal) := by
  have hpower := Posts.setPower s 0 cause
  have hthm : (s.setPower 0 cause).thm = s.thm := Only.same hpower .thm (by decide)
  have hotp : (s.setPower 0 cause).otp = s.otp := Only.same hpower .otp (by decide)
  have hcut : (s.setPower 0 cause).otpInterrupt.thm = (s.setPower 0 cause).thm := (State.otpInterrupt_only _).same .thm (by decide)
  obtain ⟨hmode, hcause, hlow, hclicks, hfuses⟩ := (s.setPower 0 cause).powerOn_p5 .startWatch
  refine ⟨hmode, hcause, hlow, hclicks.trans (by rw [hcut, hthm]), fun hidle => hfuses.trans ?_⟩
  rw [State.otpInterrupt_idle (hotp ▸ hidle), hotp]

end

end Sys2Proof.Machine
end

section
/-! PROOF. PWR_CTL and the wake causes (O31). -/

namespace Sys2Proof.Proofs
open Sys2Proof.Machine Sys2Proof.Safety

section
variable {p : Path} {s : State}

/-! ## PWR_CTL (R365, R367) -/

/-- A write to PWR_CTL that acts at once is its action alone. -/
theorem pwrCtl_write {d : Word} {v : State} (h : Acts p .pwrCtl 0 s) (hact : s.act (writeOf p .pwrCtl 0 d) .pwrCtl 0 = v) :
    s.namedWrite p .pwrCtl 0 d 0 none = v.actLate.noteLevel := by
  rw [s.namedWrite_action p .pwrCtl 0 d 0 none h pwrCtl_acts rfl]
  exact congrArg (fun t : State => t.actLate.noteLevel) hact

/-- Where it leaves no write waiting, no late write acts after it. -/
theorem pwrCtl_write_late {d : Word} {v : State} (h : Acts p .pwrCtl 0 s) (hact : s.act (writeOf p .pwrCtl 0 d) .pwrCtl 0 = v)
    (hlate : SameLate s v) : s.namedWrite p .pwrCtl 0 d 0 none = v.noteLevel := by
  obtain ⟨-, -, hnone, -, -⟩ := id h
  rw [pwrCtl_write h hact, State.actLate_nil v (hlate.late.trans hnone)]

theorem pwrWake_exits (h : Acts p .pwrCtl 0 s) : exec (.pwrWake p) s = .next (s.startExit 4).noteLevel :=
  congrArg Host.Outcome.next (pwrCtl_write_late h (State.act_pwrWake rfl) (.posts (.refl s) (Posts.startExit s 4)))

theorem act_offKey : s.act (writeOf p .pwrCtl 0 ((0x5A : Byte).setWidth 32 <<< 8)) .pwrCtl 0 = s.powerOff :=
  State.act_pwrOff (code := 0x5A) rfl

theorem pwrOff_begins (h : Acts p .pwrCtl 0 s) (h0 : s.pwr.offStage = 0) (hidle : s.otp.busy = none) : ∃ u : State,
    exec (.pwrOff p 0x5A) s = .next u.actLate.noteLevel ∧ u.pwr.offStage = 2 ∧ u.pwr.openQ = [] ∧ u.pwr.exiting = false ∧
      u.die = s.die ∧ (∀ t, t < 32 → (t ∈ u.pwr.closeQ ↔ (u.tier t).open_ = true)) :=
  ⟨s.offBegin, congrArg Host.Outcome.next (pwrCtl_write h (act_offKey.trans (State.powerOff_begins h0 hidle))), rfl, rfl, rfl,
    State.offBegin_halts.same .die, fun _ => State.mem_offBegin_closeQ⟩

theorem pwrOff_waits (h : Acts p .pwrCtl 0 s) (h0 : s.pwr.offStage = 0) (hbusy : s.otp.busy.isSome = true) :
    exec (.pwrOff p 0x5A) s = .next { s with pwr := { s.pwr with offStage := 1 } }.noteLevel :=
  congrArg Host.Outcome.next (pwrCtl_write_late h (act_offKey.trans (State.powerOff_waits h0 hbusy)) ⟨rfl⟩)

theorem pwrOff_again (h : Acts p .pwrCtl 0 s) (h0 : s.pwr.offStage ≠ 0) : exec (.pwrOff p 0x5A) s = .next s.noteLevel :=
  congrArg Host.Outcome.next (pwrCtl_write_late h (act_offKey.trans (State.powerOff_again h0)) (.refl s))

theorem pwrOff_ignored {code : Byte} (h : Acts p .pwrCtl 0 s) (h0 : code ≠ 0) (hkey : code ≠ 0x5A) :
    exec (.pwrOff p code) s = .next (ignored p .pwrCtl 0 (code.setWidth 32 <<< 8) 8 8 s).noteLevel := by
  refine congrArg Host.Outcome.next (pwrCtl_write_late h ((State.act_pwrOff rfl).trans ?_) (ignored_late ..))
  rw [if_neg h0, if_neg hkey]
  rfl

/-! ## Exits and the end of the entry to P5 (R360, R365 to R367) -/

theorem exit_from_p4 (cause : Nat) (hx : s.pwr.exiting = false) (h : s.pwr.state = 4) : (s.startExit cause).pwr.exiting = true ∧
    (s.startExit cause).pwr.state = 4 ∧ (s.startExit cause).pwr.restartAt = some (s.now + 200) ∧
    (s.startExit cause).pwr.wakeLow = true ∧ (s.startExit cause).pwr.wakeLeft = 1000 := by
  rw [State.startExit_p4 cause hx h]
  obtain ⟨g, x, y, hmoved⟩ := State.moveIslands_pwr
    ({ s with pwr := { s.pwr with p4Stay := s.now - s.pwr.p4Since } }.beginExit cause (s.now + 200)).pulseWake
  rw [hmoved]
  exact ⟨rfl, h, rfl, rfl, rfl⟩

theorem exits (cause : Nat) (s : State) :
    ((s.pwr.exiting = true ∨ s.pwr.state = 0) → s.startExit cause = s) ∧
    (s.pwr.exiting = false → s.pwr.state = 1 → (s.startExit cause).pwr.state = 0) ∧
    (s.pwr.exiting = false → s.pwr.state = 2 → s.clk.parked = false → s.islesDone = true → s.clk.fabA = true → s.clk.fabB = true →
      (s.startExit cause).pwr.state = 0) ∧
    (s.pwr.exiting = false → (s.pwr.state = 2 ∨ s.pwr.state = 3) → (s.clk.parked = true ∨ s.islesDone = false) →
      s.startExit cause = s.beginExit cause s.now) := by
  refine ⟨State.startExit_stays cause, fun hx h1 => ?_, fun hx h2 hrun hisles hA hB => ?_, fun hx hst hwait => ?_⟩
  · rw [State.startExit_p1 cause hx h1]
    exact State.setPower_reached _ _
  · rw [State.startExit_light cause hx (.inl h2)]
    exact State.ungate_ends rfl (.inl h2) hrun hisles hA hB
  · rw [State.startExit_light cause hx hst]
    exact State.ungate_waits hwait

/-! ## Wakes from outside (R310, R365, R367, R392) -/

/-- A fall that is not the die's own pulse. -/
theorem wakeNFall_wakes (hlow : s.pwr.wakeLow = false) : exec .wakeNFall s = .next (s.onPin fun t => t.wake 3) :=
  congrArg Host.Outcome.next (if_neg (by simp [hlow]))

theorem wakeNFall_seen (hlow : s.pwr.wakeLow = false) (hio : s.die.uvIo = false) : exec .wakeNFall s = .next (s.wake 3) := by
  rw [wakeNFall_wakes hlow, State.onPin_seen _ hio]

theorem wakeNFall_undefined {t : State} (hlow : s.pwr.wakeLow = false) (hio : s.die.uvIo = true) (ht : t = { s with free := s.free + 1 }) :
    exec .wakeNFall s = .next (if Config.pinSeen s.free then t.wake 3 else t) := by
  rw [wakeNFall_wakes hlow, State.onPin_undefined _ hio, ht]

theorem l0SignalWake_running (n : BitVec 2) (hrun : s.die.mode = .running) :
    exec (.l0SignalWake n) s = .next (if (s.port n.toNat).svcRx ≠ 0 then s.startExit 2 else s) := by
  simp [exec, execL0SignalWake, hrun, State.wake_running]

end

/-- Settles O31: PWR_CTL, the exits, the last step to P5, and the wake causes. -/
theorem powerControlAndWakeCauses : Obligations.PowerControlAndWakeCauses := by
  unfold Obligations.PowerControlAndWakeCauses
  refine ⟨fun p s h => ?_, fun cause s => ?_, fun s hrun hstage hisles hidle => ?_, fun s hlow => ?_, fun s t => wakeNFall_undefined,
    fun s hlow hio hrun => ?_, fun s hlow hio hoff => ?_, fun n s hrun hrx => ?_, fun n s hrun hrx => ?_, fun s h => ?_, fun s h => ?_⟩
  · exact ⟨pwrWake_exits h, pwrOff_begins h, pwrOff_waits h, pwrOff_again h, fun _ => pwrOff_ignored h⟩
  · obtain ⟨hstays, h1, h2, hwaits⟩ := exits cause s
    exact ⟨hstays, h1, h2, hwaits, exit_from_p4 cause⟩
  · exact ⟨s.offEnd, State.offTick_ends hrun hstage hisles hidle, rfl, rfl, s.offEnd_state, rfl, rfl, s.offEnd_level, rfl, rfl, rfl⟩
  · exact congrArg Host.Outcome.next (if_pos hlow)
  · rw [wakeNFall_seen hlow hio, State.wake_running 3 hrun]
  · exact ⟨s.wakeOff 3, (wakeNFall_seen hlow hio).trans (by rw [State.wake_off 3 hoff]), s.wakeOff_restarts 3⟩
  · rw [l0SignalWake_running n hrun, if_pos hrx]
  · rw [l0SignalWake_running n hrun, if_neg (not_not_intro hrx)]
  · exact congrArg Host.Outcome.next (if_pos h)
  · exact congrArg Host.Outcome.next (if_neg h)

end Sys2Proof.Proofs
end

section
/-! SUPPORT. Samples and what they set off: sensors that are not trusted, the cut, and the shutdown (R372 to R379), and the eyes of
lanes (R311, R312, R385). -/

namespace Sys2Proof.Safety
open Sys2Proof.Machine

/-- One more step, within the parts listed. -/
theorem Only.andThen {ps qs : List Part} {s t u : State} (h : Only ps s t) (g : Only qs t u) (hqs : qs ⊆ ps := by decide) : Only ps s u :=
  h.step (g.mono hqs)

/-- One of two steps within the parts listed. -/
theorem Only.ite {ps : List Part} {c : Prop} [Decidable c] {s t u : State} (h : Only ps s t) (g : Only ps s u) :
    Only ps s (if c then t else u) := by
  split
  · exact h
  · exact g

end Sys2Proof.Safety

namespace Sys2Proof.Machine
open Sys2Proof.Safety

theorem mem_insertSorted {x y : Nat} {l : List Nat} : x ∈ insertSorted y l ↔ x = y ∨ x ∈ l := by
  induction l with
  | nil => simp [insertSorted]
  | cons z l ih =>
    simp only [insertSorted]
    split_ifs with hlt heq
    · simp
    · simp [heq]
    · simp only [List.mem_cons, ih]
      tauto

/-- Writes at distinct keys, one after another: a key that is among them reads as written. -/
theorem Tab.get_foldl_set {α β : Type} [DecidableEq α] {d : α} {f : β → α} {l : List (Nat × β)} {t : Tab α} (h : Tab.wf d t = true)
    (hl : (l.map Prod.fst).Nodup) :
    (∀ k v, (k, v) ∈ l → Tab.get d (l.foldl (fun t e => Tab.set d t e.1 (f e.2)) t) k = f v) ∧
    (∀ k, k ∉ l.map Prod.fst → Tab.get d (l.foldl (fun t e => Tab.set d t e.1 (f e.2)) t) k = Tab.get d t k) := by
  induction l generalizing t with
  | nil => simp
  | cons e l ih =>
    rw [List.map_cons, List.nodup_cons] at hl
    obtain ⟨hnew, hl⟩ := hl
    obtain ⟨hin, hout⟩ := ih (Tab.wf_set d t e.1 (f e.2) h) hl
    refine ⟨fun k v hk => ?_, fun k hk => ?_⟩
    · obtain rfl | hk := List.mem_cons.mp hk
      · exact (hout k hnew).trans (Tab.get_set_self d t k (f v) h)
      · exact hin k v hk
    · rw [List.map_cons, List.mem_cons, not_or] at hk
      exact (hout k hk.2).trans (by rw [Tab.get_set d t e.1 k _ h, if_neg hk.1])

section
variable {s : State}

/-! ## Base-die sensors (R372) -/

/-- The sample of one base-die sensor is taken. -/
def State.baseTaken (s : State) (e : Nat × BitVec 10) : State :=
  { s with thm := { s.thm with base := Tab.set 0 s.thm.base e.1 e.2.toNat }.first (32 + e.1) e.2.toNat }

/-- The samples of several, one after another. -/
def State.basesTaken (s : State) (l : List (Nat × BitVec 10)) : State := l.foldl State.baseTaken s

theorem State.basesTaken_only (s : State) (l : List (Nat × BitVec 10)) : Only [.thm] s (s.basesTaken l) :=
  Only.foldl (fun _ _ => by simp [Only, State.baseTaken]) l s

/-- They change the samples, which sensors have given one, and the highest first sample, which does not fall (R376). -/
theorem State.basesTaken_thm (s : State) (l : List (Nat × BitVec 10)) :
    (s.basesTaken l).thm = { s.thm with
      base := (s.basesTaken l).thm.base, seen := (s.basesTaken l).thm.seen, firstTop := (s.basesTaken l).thm.firstTop } ∧
    s.thm.firstTop ≤ (s.basesTaken l).thm.firstTop ∧
    ∀ k, k ∈ s.thm.seen ∨ k ∈ l.map (fun e => 32 + e.1) → k ∈ (s.basesTaken l).thm.seen := by
  induction l generalizing s with
  | nil => exact ⟨rfl, le_rfl, fun k hk => hk.resolve_right (by simp)⟩
  | cons e l ih =>
    obtain ⟨hthm, htop, hseen⟩ := ih (s.baseTaken e)
    refine ⟨hthm, le_trans ?_ htop, fun k hk => hseen k ?_⟩
    · simp only [State.baseTaken, Thm.first]
      split
      · exact le_rfl
      · exact le_max_left _ _
    · rw [List.map_cons, List.mem_cons] at hk
      simp only [State.baseTaken, Thm.first, mem_insertSorted]
      tauto

theorem State.basesTaken_base (s : State) (l : List (Nat × BitVec 10)) :
    (s.basesTaken l).thm.base = l.foldl (fun t e => Tab.set 0 t e.1 e.2.toNat) s.thm.base := by
  induction l generalizing s with
  | nil => rfl
  | cons e l ih => exact ih (s.baseTaken e)

/-! ## Sensors that are not trusted (R373, R375) -/

theorem State.raise_last (s : State) (src detail : Nat) :
    (s.raise src detail).flt.lines.getLast? = some ⟨BitVec.ofNat 7 src, BitVec.ofNat 64 detail⟩ := by
  simp [State.raise]

/-- A sensor marked suspect for invalid frames. -/
def State.invalidMarked (s : State) (t : Nat) : State :=
  { s with thm := { s.thm with suspect := s.thm.suspect ||| (1 : Word) <<< t, invalid := s.thm.invalid ||| (1 : Word) <<< t } }

/-- It raises the thermal unit's source, and an event is posted. -/
theorem State.suspectTier_invalid {t : Nat} (h : s.thm.suspect.getLsbD t = false) : s.suspectTier t true =
    ((s.invalidMarked t).raise 75 (1 + 256 * t + 8192)).postEvent 0x0009 0 2 (BitVec.ofNat 32 t)
      (((s.invalidMarked t).raise 75 (1 + 256 * t + 8192)).modelCode t) := if_neg (by simp [h])

theorem State.suspectTier_only {t : Nat} (h : s.thm.suspect.getLsbD t = false) :
    Only [.thm, .flt, .clk, .rng, .lnk, .pwr, .out] s (s.suspectTier t true) := by
  have hmarked : Only [.thm] s (s.invalidMarked t) := by simp [Only, State.invalidMarked]
  rw [State.suspectTier_invalid h]
  exact ((hmarked.trans (State.raise_only _ 75 _)).trans (Posts.postEvent ..)).mono (by simp)

theorem State.suspectTier_marks {t : Nat} (h : s.thm.suspect.getLsbD t = false) :
    (s.suspectTier t true).thm = (s.invalidMarked t).thm ∧
    (s.suspectTier t true).flt.lines.getLast? = some ⟨75, BitVec.ofNat 64 (1 + 256 * t + 8192)⟩ := by
  rw [State.suspectTier_invalid h]
  refine ⟨Only.same (Posts.postEvent ..) .thm (by decide), ?_⟩
  rw [show _ = _ from Only.same (Posts.postEvent ..) .flt (by decide)]
  exact State.raise_last _ 75 _

/-! ## The cut (R65, R378) -/

/-- The cut noted, before the ceilings follow it. -/
def State.cutNoted (s : State) (on : Bool) : State :=
  { s with
    thm := { s.thm with enforced := on, graceAt := none }
    bud := { s.bud with throttled := on }
    qos := { s.qos with causes := s.qos.causes ||| 8 } }

theorem State.recutClass_only (s : State) (k : Class) : Only [.tch] s (s.recutClass k) := by
  unfold State.recutClass
  exact State.updChans_only _ _

/-- The ceilings of HOST and NMO follow the cut, and nothing else. -/
theorem State.cut_follows (s : State) (on : Bool) : Only [.tch] (s.cutNoted on) (s.cut on) :=
  ((s.cutNoted on).recutClass_only .host).step (State.recutClass_only _ .nmo)

theorem State.cut_only (s : State) (on : Bool) : Only [.thm, .bud, .qos, .tch] s (s.cut on) := by
  have hnoted : Only [.thm, .bud, .qos] s (s.cutNoted on) := by simp [Only, State.cutNoted]
  exact hnoted.trans (s.cut_follows on)

theorem State.cut_thm (s : State) (on : Bool) : (s.cut on).thm = { s.thm with enforced := on, graceAt := none } :=
  (s.cut_follows on).same .thm (by decide)

theorem State.cut_bud (s : State) (on : Bool) : (s.cut on).bud = { s.bud with throttled := on } :=
  (s.cut_follows on).same .bud (by decide)

/-! ## Ports that go DOWN (R353, R355) -/

/-- The parts that a port may change as it goes DOWN. -/
def downParts : List Part := .die :: .tim :: .flt :: haltParts

theorem State.noteLevel_only (s : State) : Only [.die, .flt, .clk, .rng, .lnk, .pwr, .out] s s.noteLevel := by
  have hnoted (d : Die) (f : Flt) : Only [.die, .flt] s { s with die := d, flt := f } := by simp [Only]
  exact .ite ((Only.refl s).mono (by simp)) (((Only.ite (hnoted _ s.flt) (hnoted _ _)).trans (Posts.postAs ..)).mono (by simp))

theorem State.goOrphan_only (s : State) : Only [.tim, .flt, .clk, .rng, .lnk, .pwr, .out] s s.goOrphan := by
  have htim (x : Tim) : Only [.tim] s { s with tim := x } := by simp [Only]
  exact .ite ((htim _).mono (by simp)) ((((htim _).trans (State.raise_only _ 90 1)).trans (Posts.postEvent ..)).mono (by simp))

theorem State.dropPacket_posts (s : State) (x : Packet) : Posts s (s.dropPacket x) :=
  .ite ((Posts.links s _).trans (.toHost _ ..)) (.links s _)

theorem State.portDown_only (s : State) (n : Nat) : Only downParts s (s.portDown n) := by
  have hrefl (t : State) : Only downParts t t := (Only.refl t).mono (by simp)
  unfold State.portDown
  extract_lets _ _ _ _ s₁ s' s₂
  have hset (x : Port) : Only downParts s (s.setPort n x) := (hrefl s).andThen (Posts.links s _)
  have hdrop (t : State) (x : Packet) : Only downParts t (t.dropPacket x) := (hrefl t).andThen (t.dropPacket_posts x)
  have h₁ : Only downParts s s₁ := .ite (hset _) ((hset _).step (.foldl (fun t (e : Nat × Nat × Packet) => .ite (hrefl t) (hdrop t e.2.2)) _ _))
  have hstop : Only downParts s s' := .ite (h₁.andThen (Halts.refl s₁).stopRings) h₁
  have h₂ : Only downParts s s₂ := .ite (hstop.andThen (State.raise_only _ (64 + n) 3)) hstop
  have hpost := h₂.andThen (Posts.postEvent s₂ 0x0012 0 1 (BitVec.ofNat 32 n) 0)
  exact .ite (hrefl s) (((Only.ite (hpost.andThen (State.goOrphan_only _)) hpost).andThen (State.retarget_only _)).andThen
    (State.noteLevel_only _))

theorem State.portsDown_only (s : State) (idle : Bool) : Only downParts s (s.portsDown idle) := by
  have hrefl (t : State) : Only downParts t t := (Only.refl t).mono (by simp)
  exact .foldl (fun t n => .ite (hrefl t) ((Only.ite ((hrefl t).andThen (Posts.emit t _)) (hrefl t)).step (State.portDown_only _ n))) _ s

/-! ## The shutdown (R379, R417) -/

/-- A shutdown outside the safe state latches the Click hold and counts the Click. -/
theorem State.shutdown_holds (src : Nat) (h : s.die.mode ≠ .safe) :
    (s.shutdown src).thm.hold = true ∧ (s.shutdown src).thm.clicks = satInc s.thm.clicks 1 ∧
    (s.shutdown src).die.mode = .clickHold ∧ (s.shutdown src).die.hiveRun = false := by
  unfold State.shutdown
  extract_lets _ _ _ _ s₁ s₂ s₃ _ _ _ s₄ _ _ s₅
  have h₂ : Only downParts s₁ s₂ := Only.step (Only.mono (Halts.refl s₁).bistHalt.stopRings.endBursts.restAll (by decide))
    (State.portsDown_only _ true)
  have h₃ : Only downParts s₁ s₃ := .ite (h₂.andThen (Posts.power s₂ _)) h₂
  clear_value s₃
  have hpower : Only [.pwr, .clk] s₃ { s₃ with
      pwr := { s₃.pwr with exiting := false, restart := [], restartAt := none, offStage := 0 }, clk := { s₃.clk with back := 0 } } := by
    simp [Only]
  have h₄ : Only (.tw :: .free :: downParts) s₁ s₄ :=
    (((h₃.mono (by simp)).andThen hpower).andThen (Posts.setPower _ 0 8)).andThen (State.twAbort_only _)
  have hthm : s₄.thm = s₁.thm := h₄.same .thm (by decide)
  rw [show s₅ = _ from if_neg h]
  clear_value s₄
  exact ⟨congrArg Thm.hold hthm, congrArg Thm.clicks hthm, rfl, rfl⟩

theorem State.judgeShut_clicks {k : Nat} (hk : k < 32) (hhold : s.thm.hold = false) (hrun : s.die.mode = .running)
    (hhot : s.thmLimit 16 ≤ s.sampleOf k) : s.judgeShut k = (s.shutdown k).raise 93 (1 + 2 ^ 8 * k) := by
  simp [State.judgeShut, State.click, hrun, hhold, Nat.not_le.mpr hk, hhot]

/-! ## Eyes (R311, R312, R385) -/

theorem State.noteEye_only (s : State) (k temp : Nat) : Only [.cal] s (s.noteEye k temp) := by simp [Only]

/-- An eye stands at its lane. -/
def State.eyeKept (s : State) (n k : Nat) (eye : Byte) : State := s.updPort n fun p => p.updLane k fun l => { l with eye := eye }

/-- An eye that is wide enough is kept, and nothing follows (R312). -/
theorem State.laneCheck_wide {n k : Nat} {eye : Byte} (h : s.fld .lnkPhy0 n 16 8 ≤ eye.toNat) :
    s.laneCheck n k eye = s.eyeKept n k eye :=
  if_pos (.inr (.inr h))

/-- The port's state and lanes stay. -/
theorem State.port_eyeKept {n : Nat} (k : Nat) (eye : Byte) (hup : (s.port n).st = .up) :
    ((s.eyeKept n k eye).port n).st = .up ∧ ((s.eyeKept n k eye).port n).lanes = (s.port n).lanes := by
  have hport : (s.eyeKept n k eye).port n = _ := State.port_updPort (hup.trans_ne (by decide))
  rw [hport]
  exact ⟨hup, rfl⟩

/-- The event of an eye that is not wide enough. -/
def State.eyePosted (s : State) (n : Nat) : State := s.postEvent 0x0012 0 1 (BitVec.ofNat 32 n) (s.port n).lanes.toNat

/-- On an active lane in UP with AUTO_DROP at 1, it is posted, and RECOVERY begins. -/
theorem State.laneCheck_narrow {n k : Nat} {eye : Byte} (hup : (s.port n).st = .up) (hlane : (s.port n).lanes.getLsbD k = true)
    (h : eye.toNat < s.fld .lnkPhy0 n 16 8) (hauto : s.flag .lnkPhy0 n 24 = true) : ∃ u : State,
    s.laneCheck n k eye = u.recover n ∧ Only [.lnk, .clk, .rng, .pwr, .out] s u := by
  obtain ⟨hst, hlanes⟩ := s.port_eyeKept k eye hup
  have hpost : Only [.lnk, .clk, .rng, .pwr, .out] s ((s.eyeKept n k eye).eyePosted n) :=
    (Only.trans (Posts.links s _) (Posts.postEvent ..)).mono (by simp)
  have hflag : ((s.eyeKept n k eye).eyePosted n).flag .lnkPhy0 n 24 = true := by
    have hregs : ((s.eyeKept n k eye).eyePosted n).regs = s.regs := hpost.same .regs (by decide)
    rw [State.flag, State.cfgWord] at hauto ⊢
    rwa [hregs]
  have hactive : ((s.eyeKept n k eye).port n).lanes.getLsbD k = true := by rw [hlanes, hlane]
  refine ⟨(s.eyeKept n k eye).eyePosted n, (if_neg ?_).trans (if_pos hflag), hpost⟩
  rintro (hdown | hoff | hwide)
  · exact hdown hst
  · exact Bool.false_ne_true (((Bool.not_eq_true' _).mp hoff).symm.trans hactive)
  · exact absurd hwide (Nat.not_le.mpr h)

end

end Sys2Proof.Machine
end

section
/-! PROOF. Sensor samples, the throttle grace, calibration rounds and eyes (R311, R312, R372 to R384). -/

namespace Sys2Proof.Proofs
open Sys2Proof.Machine Sys2Proof.Safety

section
variable {s : State}

/-! ## Frames of a tier's sensor (R372, R373) -/

/-- A valid frame's code, taken. -/
def tierTaken (s : State) (t code : Nat) : State :=
  { s with thm := { s.thm with sample := Tab.set 0 s.thm.sample t code, badRun := Tab.set 0 s.thm.badRun t 0 }.first t code }

/-- The length of a run of bad frames, noted. -/
def runNoted (s : State) (t k : Nat) : State := { s with thm := { s.thm with badRun := Tab.set 0 s.thm.badRun t k } }

theorem tierTaken_only (t code : Nat) : Only [.thm] s (tierTaken s t code) := by simp [Only, tierTaken]

theorem runNoted_only (t k : Nat) : Only [.thm] s (runNoted s t k) := by simp [Only, runNoted]

theorem frame_unpowered (t : BitVec 5) (frame : BitVec 12) (h : (s.tier t.toNat).powered = false) :
    exec (.tierSensorFrame t frame) s = .next s := if_pos (by simp [h])

theorem frame_raw {t : BitVec 5} {frame : BitVec 12} (h : (s.tier t.toNat).powered = true) (hsam : s.samples = false)
    (hvalid : frame.getLsbD 11 = true) (hodd : oddOnes frame = false) :
    exec (.tierSensorFrame t frame) s = .next (s.judgeRaw t.toNat (frame.toNat % 1024)) := by
  simp [exec, execTierSensorFrame, h, hsam, hvalid, hodd]

theorem frame_valid {t : BitVec 5} {frame : BitVec 12} (h : (s.tier t.toNat).powered = true) (hsam : s.samples = true)
    (hvalid : frame.getLsbD 11 = true) (hodd : oddOnes frame = false) : exec (.tierSensorFrame t frame) s =
      .next (((tierTaken s t.toNat (frame.toNat % 1024)).judgeDistrust t.toNat).newTemp t.toNat) := by
  simp [exec, execTierSensorFrame, h, hsam, hvalid, hodd, tierTaken]

theorem frame_bad {t : BitVec 5} {frame : BitVec 12} {k : Nat} (h : (s.tier t.toNat).powered = true) (hsam : s.samples = true)
    (hbad : frame.getLsbD 11 = false ∨ oddOnes frame = true) (hk : k = Tab.get 0 s.thm.badRun t.toNat + 1) :
    exec (.tierSensorFrame t frame) s =
      .next (if 8 ≤ k then (runNoted s t.toNat (min 8 k)).suspectTier t.toNat true else runNoted s t.toNat (min 8 k)) := by
  have hnot : ¬ (frame.getLsbD 11 = true ∧ (!oddOnes frame) = true) := by
    obtain hbad | hodd := hbad
    · exact fun hvalid => Bool.false_ne_true (hbad.symm.trans hvalid.1)
    · simp [hodd]
  subst hk
  simp only [exec, execTierSensorFrame, h, hsam, if_neg hnot]
  rfl

theorem frame_suspects {t : BitVec 5} {frame : BitVec 12} (h : (s.tier t.toNat).powered = true) (hsam : s.samples = true)
    (hbad : frame.getLsbD 11 = false ∨ oddOnes frame = true) (hk : 8 ≤ Tab.get 0 s.thm.badRun t.toNat + 1)
    (hnew : s.thm.suspect.getLsbD t.toNat = false) : ∃ u : State, exec (.tierSensorFrame t frame) s = .next u ∧
      u.thm.suspect = s.thm.suspect ||| (1 : Word) <<< t.toNat ∧ u.thm.invalid = s.thm.invalid ||| (1 : Word) <<< t.toNat ∧
      u.thm.sample = s.thm.sample ∧ u.flt.lines.getLast? = some ⟨75, BitVec.ofNat 64 (1 + 256 * t.toNat + 8192)⟩ ∧
      Only [.thm, .flt, .clk, .rng, .lnk, .tch, .pwr, .out] s u := by
  obtain ⟨hthm, hline⟩ := State.suspectTier_marks (s := runNoted s t.toNat (min 8 (Tab.get 0 s.thm.badRun t.toNat + 1))) hnew
  exact ⟨_, (frame_bad h hsam hbad rfl).trans (by rw [if_pos hk]), congrArg Thm.suspect hthm, congrArg Thm.invalid hthm,
    (congrArg Thm.sample hthm).trans rfl, hline, ((runNoted_only ..).trans (State.suspectTier_only hnew)).mono (by simp)⟩

/-! ## Base-die sensors (R372) -/

/-- The codes of the base-die sensors, each with its sensor's number. -/
def numbered (base : List (BitVec 10)) : List (Nat × BitVec 10) := (List.range 16).zip base

theorem numbered_fst {base : List (BitVec 10)} (h : base.length = 16) : (numbered base).map Prod.fst = List.range 16 :=
  List.map_fst_zip (by simp [h])

theorem mem_numbered {base : List (BitVec 10)} (h : base.length = 16) {k : Nat} (hk : k < 16) : (k, base.getD k 0) ∈ numbered base := by
  refine List.mem_iff_getElem.mpr ⟨k, by simp [numbered, h, hk], ?_⟩
  simp [numbered, h, hk]

theorem bases_judged {base : List (BitVec 10)} (hsam : s.samples = true) (h : base.length = 16) : exec (.sensorSample base) s =
    .next ((List.range 16).foldl (fun v k => v.newTemp (32 + k)) (s.basesTaken (numbered base))) := by
  rw [← numbered_fst h, List.foldl_map]
  exact if_neg (by simp [hsam])

theorem bases_seen {base : List (BitVec 10)} (h : base.length = 16) {k : Nat} (hk : k < 16) :
    32 + k ∈ (s.basesTaken (numbered base)).thm.seen :=
  (s.basesTaken_thm _).2.2 _ (.inr (List.mem_map_of_mem (f := fun e => 32 + e.1) (mem_numbered h hk)))

theorem bases_read {base : List (BitVec 10)} (h : base.length = 16) (hwf : Tab.wf 0 s.thm.base = true) {k : Nat} (hk : k < 16) :
    (s.basesTaken (numbered base)).baseOf k = (base.getD k 0).toNat := by
  have hnodup : ((numbered base).map Prod.fst).Nodup := numbered_fst h ▸ List.nodup_range
  rw [State.baseOf, State.basesTaken_base]
  exact (Tab.get_foldl_set hwf hnodup).1 k _ (mem_numbered h hk)

/-! ## The grace of the throttle, and the shutdown (R378, R379) -/

theorem grace_goes_on (h : s.thm.graceAt = none ∨ s.thm.throt = [] ∨ ∃ a, s.thm.graceAt = some a ∧ s.now < a + 1000 * s.thm.graceLen) :
    exec .graceTimeout s = .next s := by
  cases ha : s.thm.graceAt with
  | none => simp [exec, execGraceTimeout, ha]
  | some a =>
    have hwait : s.now < a + 1000 * s.thm.graceLen ∨ s.thm.throt = [] := by
      obtain hnone | hempty | ⟨b, hb, hlate⟩ := h
      · simp [ha] at hnone
      · exact .inr hempty
      · obtain rfl : a = b := Option.some.inj (ha.symm.trans hb)
        exact .inl hlate
    simp [exec, execGraceTimeout, ha, hwait]

theorem grace_ends {a : Nat} (ha : s.thm.graceAt = some a) (hheld : s.thm.throt ≠ []) (hend : a + 1000 * s.thm.graceLen ≤ s.now) :
    exec .graceTimeout s = .next ((s.cut true).postEvent 0x0007 0 2 (BitVec.ofNat 32 (s.fld .thmThrot 0 16 7)) 0) := by
  simp [exec, execGraceTimeout, ha, hheld, Nat.not_lt.mpr hend]

theorem hot_source_clicks {k : Nat} (hk : k < 32) (hhold : s.thm.hold = false) (hrun : s.die.mode = .running)
    (hhot : s.thmLimit 16 ≤ s.sampleOf k) :
    (s.judgeShut k).thm.hold = true ∧ (s.judgeShut k).die.mode = .clickHold ∧ (s.judgeShut k).die.hiveRun = false ∧
    (s.judgeShut k).thm.clicks = satInc s.thm.clicks 1 := by
  obtain ⟨hheld, hcount, hmode, hhive⟩ := State.shutdown_holds (s := s) k (by simp [hrun])
  rw [State.judgeShut_clicks hk hhold hrun hhot]
  exact ⟨hheld, hmode, hhive, hcount⟩

/-! ## The end of a calibration round (R383, R384) -/

/-- A round ended, with what it measured. -/
def roundEnded (s : State) (item : CalItem) (res : CalResult) : State :=
  { s with cal := { s.cal with
    running := s.cal.running.erase (CalItem.index item), pend := s.cal.pend ++ [(item, s.measured item res)] } }

/-- A port's item has no probes of channels. -/
theorem dropProbes_port (n : BitVec 2) : s.dropProbes (CalItem.index (.port n)) = s := if_pos (Nat.le_add_right ..)

theorem dropProbes_cal (k : Nat) : ∃ p, s.dropProbes k = { s with cal := { s.cal with probes := p } } := by
  unfold State.dropProbes
  split
  · exact ⟨_, rfl⟩
  · exact ⟨_, rfl⟩

theorem calSettle_cal : ∃ b, s.calSettle = { s with cal := { s.cal with now_ := b } } := by
  unfold State.calSettle
  split
  · exact ⟨_, rfl⟩
  · exact ⟨_, rfl⟩

theorem round_stays (item : CalItem) (res : CalResult)
    (h : s.cal.running.contains (CalItem.index item) = false ∨ s.probesDone (CalItem.index item) = false) :
    exec (.calRoundDone item res) s = .next s := if_pos (by simpa using h)

theorem round_ends {item : CalItem} (res : CalResult) (hrun : s.cal.running.contains (CalItem.index item) = true)
    (hdone : s.probesDone (CalItem.index item) = true) :
    exec (.calRoundDone item res) s = .next (roundEnded (s.dropProbes (CalItem.index item)) item res).calSettle := by
  refine (if_neg (by simp [hdone, List.contains_iff_mem.mp hrun])).trans ?_
  cases item with
  | tier t => rfl
  | port n => rw [dropProbes_port]; rfl

/-- It keeps what the round measured for the next boundary. -/
theorem roundEnded_keeps (item : CalItem) (res : CalResult) : ∃ t : State,
    (roundEnded (s.dropProbes (CalItem.index item)) item res).calSettle = t ∧ Only [.cal] s t ∧
    t.cal.pend = s.cal.pend ++ [(item, s.measured item res)] ∧ t.cal.running = s.cal.running.erase (CalItem.index item) ∧
    t.cal.due = s.cal.due ∧ t.cal.rounds = s.cal.rounds := by
  obtain ⟨p, hdrop⟩ := dropProbes_cal (s := s) (CalItem.index item)
  obtain ⟨b, hsettle⟩ := calSettle_cal (s := roundEnded (s.dropProbes (CalItem.index item)) item res)
  refine ⟨_, hsettle, ?_⟩
  rw [hdrop]
  exact ⟨by simp [Only, roundEnded], rfl, rfl, rfl, rfl⟩

/-! ## Eyes (R311, R312) -/

/-- A lane's result in LANE_TRAIN. -/
def laneJudged (s : State) (n k : Nat) (eye : Byte) : State := s.updPort n fun p => p.updLane k fun l =>
  { l with eye := eye, eyeDone := true, passed := l.locked && decide (s.fld .lnkPhy0 n 16 8 ≤ eye.toNat) }

theorem eye_eq {m : BitVec 7} {eye : Byte} (h : eye.toNat = min 255 (4 * m.toNat)) : BitVec.ofNat 8 (min 255 (4 * m.toNat)) = eye :=
  by rw [← h, BitVec.ofNat_toNat, BitVec.setWidth_eq]

theorem eye_in_training {n : BitVec 2} {k : BitVec 3} {m : BitVec 7} {eye : Byte} (h : eye.toNat = min 255 (4 * m.toNat))
    (hph : (s.port n.toNat).phase = .laneTrain) (hen : ((s.port n.toNat).lane k.toNat).enabled = true) :
    exec (.eyeMeasureDone n k m) s = .next ((laneJudged s n.toNat k.toNat eye).noteEye (8 * n.toNat + k.toNat)
      ((laneJudged s n.toNat k.toNat eye).calTemp (32 + n.toNat))) := by
  rw [← eye_eq h]
  exact if_pos ⟨hph, hen⟩

/-- A port that is UP is not in LANE_TRAIN. -/
theorem phase_of_up {p : Port} (h : p.st = .up) : p.phase ≠ .laneTrain := by simp [Port.phase, h]

theorem eye_in_up {n : BitVec 2} {k : BitVec 3} {m : BitVec 7} {eye : Byte} (h : eye.toNat = min 255 (4 * m.toNat))
    (hup : (s.port n.toNat).st = .up) : exec (.eyeMeasureDone n k m) s =
      .next ((s.noteEye (8 * n.toNat + k.toNat) (s.calTemp (32 + n.toNat))).laneCheck n.toNat k.toNat eye) := by
  rw [← eye_eq h]
  exact (if_neg fun hph => phase_of_up hup hph.1).trans (if_pos hup)

theorem eye_elsewhere {n : BitVec 2} (k : BitVec 3) (m : BitVec 7) (hph : (s.port n.toNat).phase ≠ .laneTrain)
    (hup : (s.port n.toNat).st ≠ .up) : exec (.eyeMeasureDone n k m) s = .next s :=
  (if_neg fun h => hph h.1).trans (if_neg hup)

theorem eye_judged {n : BitVec 2} {k : BitVec 3} {m : BitVec 7} {eye : Byte} (h : eye.toNat = min 255 (4 * m.toNat))
    (hph : (s.port n.toNat).phase = .laneTrain) (hen : ((s.port n.toNat).lane k.toNat).enabled = true) : ∃ t : State,
    exec (.eyeMeasureDone n k m) s = .next t ∧ Only [.lnk, .cal] s t ∧ t.lnk = (laneJudged s n.toNat k.toNat eye).lnk := by
  have hlnk : Only [.lnk] s (laneJudged s n.toNat k.toNat eye) := by simp [Only, laneJudged]
  exact ⟨_, eye_in_training h hph hen, hlnk.trans (State.noteEye_only ..), rfl⟩

theorem eye_wide {n : BitVec 2} {k : BitVec 3} {m : BitVec 7} {eye : Byte} (h : eye.toNat = min 255 (4 * m.toNat))
    (hup : (s.port n.toNat).st = .up) (hwide : s.fld .lnkPhy0 n.toNat 16 8 ≤ eye.toNat) : ∃ t : State,
    exec (.eyeMeasureDone n k m) s = .next t ∧ Only [.lnk, .cal] s t ∧
    t.lnk = (s.updPort n.toNat fun p => p.updLane k.toNat fun l => { l with eye := eye }).lnk := by
  refine ⟨_, (eye_in_up h hup).trans (congrArg _ (State.laneCheck_wide hwide)), ?_, rfl⟩
  simp [Only, State.eyeKept]

theorem eye_narrow {n : BitVec 2} {k : BitVec 3} {m : BitVec 7} {eye : Byte} (h : eye.toNat = min 255 (4 * m.toNat))
    (hup : (s.port n.toNat).st = .up) (hnarrow : eye.toNat < s.fld .lnkPhy0 n.toNat 16 8)
    (hlane : (s.port n.toNat).lanes.getLsbD k.toNat = true) (hauto : s.flag .lnkPhy0 n.toNat 24 = true) : ∃ u : State,
    exec (.eyeMeasureDone n k m) s = .next (u.recover n.toNat) ∧ Only [.lnk, .cal, .clk, .rng, .tch, .pwr, .out] s u := by
  obtain ⟨u, hrecover, hu⟩ := State.laneCheck_narrow (s := s.noteEye (8 * n.toNat + k.toNat) (s.calTemp (32 + n.toNat))) hup hlane
    hnarrow hauto
  exact ⟨u, (eye_in_up h hup).trans (congrArg _ hrecover), ((s.noteEye_only ..).trans hu).mono (by simp)⟩

end

/-- Settles O43: sensor samples, the throttle grace, calibration rounds and eyes. -/
theorem sensorsCalibrationAndEyes : Obligations.SensorsCalibrationAndEyes := by
  unfold Obligations.SensorsCalibrationAndEyes
  refine ⟨⟨fun t frame s => ⟨frame_unpowered t frame, frame_raw, fun h hsam hbad k hk => ⟨fun hfew => ?_, fun hmany => ?_⟩,
    fun h hsam hvalid hodd => ?_⟩, fun base s hsam h => ?_, fun s => ⟨grace_goes_on, fun a ha hheld hend => ?_⟩,
    fun k s => hot_source_clicks⟩, fun item res s => ⟨round_stays item res, fun hrun hdone => ?_⟩, fun n k m s eye h => ?_⟩
  · rw [frame_bad h hsam hbad hk, if_neg (Nat.not_le.mpr hfew), Nat.min_eq_right hfew.le]
    rfl
  · exact frame_suspects h hsam hbad (hk ▸ hmany)
  · exact ⟨_, frame_valid h hsam hvalid hodd, tierTaken_only .., rfl, rfl, rfl, mem_insertSorted.mpr (.inl rfl)⟩
  · obtain ⟨hthm, htop, -⟩ := s.basesTaken_thm (numbered base)
    exact ⟨_, bases_judged hsam h, s.basesTaken_only _, hthm, htop, fun k => bases_seen h, fun hwf k => bases_read h hwf⟩
  · exact ⟨_, grace_ends ha hheld hend, rfl, congrArg Thm.enforced (s.cut_thm true), congrArg Thm.graceAt (s.cut_thm true),
      congrArg Bud.throttled (s.cut_bud true), s.cut_only true⟩
  · rw [round_ends res hrun hdone]
    obtain ⟨t, ht, hkeeps⟩ := roundEnded_keeps (s := s) item res
    exact ⟨t, congrArg _ ht, hkeeps⟩
  · exact ⟨eye_judged h, eye_elsewhere k m, eye_wide h, eye_narrow h⟩

end Sys2Proof.Proofs
end

section
/-! SUPPORT. Tier gates: which openings and closings a write queues, a tier after a write of it, and a tier whose gates have closed (R87,
R117, R394, R395). -/

namespace Sys2Proof.Machine
open Sys2Proof.Safety

/-- A field that is the whole word. -/
theorem withField_whole (o d : Word) : withField o 0 32 (fieldOf d 0 32) = d := by
  refine BitVec.eq_of_toNat_eq (Nat.eq_of_testBit_eq fun j => ?_)
  rw [testBit_withField le_rfl, testBit_fieldOf]
  by_cases hj : j < 32
  · simp [hj]
  · simp [hj, Nat.testBit_lt_two_pow (lt_of_lt_of_le (BitVec.isLt _) (Nat.pow_le_pow_right Nat.two_pos (Nat.not_lt.mp hj)))]

section
variable {s : State} {w : RegWrite} {o x old new : Word} {n t : Nat}

/-! ## PWR_TIER_GATE (R395, R396) -/

theorem plainReg_pwrTierGate : PlainReg .pwrTierGate 0 := ⟨fun _ _ => rfl, rfl, rfl, fun _ _ _ => rfl, fun _ _ => rfl⟩

/-- It takes any word. -/
theorem State.settle_pwrTierGate : ∃ u, Clamped s u ∧
    s.settleFields w .pwrTierGate 0 (regFields .pwrTierGate 0) o = (u, w.data) := by
  obtain ⟨u, hu, hsettle⟩ := State.settleFields_takes (s := s) (w := w) (n := .pwrTierGate) (i := 0)
    (f := ⟨0, 32, .rw, 0xFFFFFFFF, .any⟩) (fs := []) (acc := o) rfl rfl
  exact ⟨u, hu, hsettle.trans (congrArg (u, ·) (withField_whole ..))⟩

theorem State.takeFields_pwrTierGate : s.takeFields w .pwrTierGate 0 o x = if x = o then s else s.gatesWritten o x := rfl

/-- In P0 and P1 the write starts no exit. -/
theorem State.gatesWritten_awake (h : s.pwr.state.toNat < 2) : s.gatesWritten old new = s.gateChange old new := by
  simp [State.gatesWritten, Nat.not_le.mpr h]

/-- What a change of PWR_TIER_GATE queues for one tier. -/
def State.gateMoved (old new : Word) (s : State) (n : Nat) : State :=
  if bitOf old n = bitOf new n then s
  else if bitOf new n then
    { s with pwr := { s.pwr with
      closeQ := if s.pwr.opening = some n then s.pwr.closeQ.erase n else s.pwr.closeQ
      openQ := if (s.tier n).open_ then s.pwr.openQ else insertSorted n s.pwr.openQ } }
  else
    { s with pwr := { s.pwr with
      openQ := s.pwr.openQ.erase n
      closeQ := if (s.tier n).open_ then insertSorted n s.pwr.closeQ else s.pwr.closeQ } }

theorem State.gateChange_eq : s.gateChange old new = allTiers.foldl (State.gateMoved old new) s := rfl

theorem State.gateMoved_only (s : State) (n : Nat) : Only [.pwr] s (s.gateMoved old new n) :=
  .ite ((Only.refl s).mono (by simp)) (.ite (by simp [Only]) (by simp [Only]))

theorem State.tier_gateMoved (s : State) (k n : Nat) : (s.gateMoved old new k).tier n = s.tier n := by
  have htch : (s.gateMoved old new k).tch = s.tch := (s.gateMoved_only k).same .tch (by decide)
  rw [State.tier, htch, State.tier]

theorem State.gateChange_only (s : State) (old new : Word) : Only [.pwr] s (s.gateChange old new) :=
  .foldl (fun t n => t.gateMoved_only n) _ s

/-- An opening is queued where the bit of a closed tier rises, and stays queued while it is 1. -/
theorem State.mem_openQ_gateMoved {k : Nat} (hnew : bitOf new n = true) (hold : bitOf old n = false) (hclosed : (s.tier n).open_ = false)
    (h : n = k ∨ n ∈ s.pwr.openQ) : n ∈ (s.gateMoved old new k).pwr.openQ := by
  by_cases hk : n = k
  · subst hk
    simp [State.gateMoved, hnew, hold, hclosed, mem_insertSorted]
  · have hin := h.resolve_left hk
    unfold State.gateMoved
    split_ifs <;> simp [hin, mem_insertSorted, List.mem_erase_of_ne hk]

/-- A closing is queued where the bit of an open tier falls, and stays queued while it is 0. -/
theorem State.mem_closeQ_gateMoved {k : Nat} (hnew : bitOf new n = false) (hold : bitOf old n = true) (hopen : (s.tier n).open_ = true)
    (h : n = k ∨ n ∈ s.pwr.closeQ) : n ∈ (s.gateMoved old new k).pwr.closeQ := by
  by_cases hk : n = k
  · subst hk
    simp [State.gateMoved, hnew, hold, hopen, mem_insertSorted]
  · have hin := h.resolve_left hk
    unfold State.gateMoved
    split_ifs <;> simp [hin, mem_insertSorted, List.mem_erase_of_ne hk]

/-- What is queued by a step for its own tier, and kept by the steps for others, is queued in the end. -/
theorem State.gateChange_queues {queue : Pwr → List Nat} {open_ : Bool} (hn : n < 32) (htier : (s.tier n).open_ = open_)
    (hstep : ∀ (s : State) (k : Nat), (s.tier n).open_ = open_ → n = k ∨ n ∈ queue s.pwr → n ∈ queue (s.gateMoved old new k).pwr) :
    n ∈ queue (s.gateChange old new).pwr := by
  have hrun (l : List Nat) : ∀ s : State, (s.tier n).open_ = open_ → n ∈ l ∨ n ∈ queue s.pwr →
      n ∈ queue (l.foldl (State.gateMoved old new) s).pwr := by
    induction l with
    | nil => exact fun s _ h => h.resolve_left (by simp)
    | cons k l ih =>
      intro s htier h
      refine ih _ (by rw [State.tier_gateMoved, htier]) ?_
      rw [List.mem_cons, or_assoc, or_left_comm] at h
      exact h.imp_right (hstep s k htier)
  exact hrun allTiers s htier (.inl (List.mem_range.mpr hn))

/-! ## A tier after a write of it -/

theorem State.tier_updTier_self {f : Tier → Tier} (h : f (s.tier t) ≠ .init) : (s.updTier t f).tier t = f (s.tier t) :=
  (Tab.get_set_of_ne _ _ _ _ _ h).trans (if_pos rfl)

theorem State.tier_raise (s : State) (src detail t : Nat) : (s.raise src detail).tier t = s.tier t := rfl

theorem Tier.ne_init_of_trstLow {x : Tier} (h : x.trstLow = true) : x ≠ .init := by
  rintro rfl
  cases h

theorem Tier.ne_init_of_accepted {x : Tier} (h : x.accepted = true) : x ≠ .init := by
  rintro rfl
  cases h

theorem State.resetTier_trstLow (s : State) (t : Nat) : ((s.resetTier t).tier t).trstLow = true := by
  unfold State.resetTier
  extract_lets s₁ _ s₂
  exact congrArg Tier.trstLow (State.tier_updTier_self (s := s₂) (Tier.ne_init_of_trstLow rfl))

theorem State.tier_closeGates (s : State) (t : Nat) :
    (s.closeGates t).tier t = { (s.resetTier t).tier t with open_ := false, good := false } :=
  State.tier_updTier_self (Tier.ne_init_of_trstLow (s.resetTier_trstLow t))

theorem State.closeGates_powered (s : State) (t : Nat) : ((s.closeGates t).tier t).powered = false := by
  rw [State.tier_closeGates]
  rfl

theorem State.resetTier_only (s : State) (t : Nat) : Only [.tch, .pcd] s (s.resetTier t) := by
  unfold State.resetTier
  extract_lets s₁ _ s₂
  have h₁ : Only [.tch, .pcd] s s₁ := by simp [Only, s₁]
  exact (h₁.andThen (State.updChans_only _ _)).andThen (State.updTier_only _ _ _)

theorem State.closeGates_only (s : State) (t : Nat) : Only [.tch, .pcd] s (s.closeGates t) :=
  (s.resetTier_only t).andThen (State.updTier_only _ _ _)

/-- A tier that is reset loses its rows and its readiness (R137). -/
theorem State.resetTier_pcd (s : State) (t : Nat) : (s.resetTier t).pcd = ((s.loseTier t).unready t).pcd := by
  unfold State.resetTier
  extract_lets s₁ _ s₂
  have hchans : s₂.pcd = s₁.pcd := (State.updChans_only _ _).same .pcd (by decide)
  exact (State.updTier_pcd ..).trans hchans

theorem State.closeGates_pcd (s : State) (t : Nat) : (s.closeGates t).pcd = ((s.loseTier t).unready t).pcd :=
  (State.updTier_pcd ..).trans (s.resetTier_pcd t)

/-- What a table whose listed values have a property reads as has it, where the default has it. -/
theorem Tab.get_of_forall {α : Type} {d : α} {p : α → Prop} {t : Tab α} (hd : p d) (ht : ∀ e ∈ t, p e.2) (i : Nat) : p (Tab.get d t i) := by
  induction t with
  | nil => exact hd
  | cons e r ih =>
    obtain ⟨he, hr⟩ := List.forall_mem_cons.mp ht
    simp only [Tab.get]
    split_ifs
    · exact hd
    · exact he
    · exact ih hr

theorem State.ready_unready (s : State) (r : Nat) {t : Nat} (ht : t < 32) : (s.unready t).ready r t = false := by
  refine Tab.get_of_forall (p := fun w : Word => w.getLsbD t = false) (by simp) (fun e he => ?_) r
  obtain ⟨hmem, -⟩ := List.mem_filter.mp he
  obtain ⟨a, -, rfl⟩ := List.mem_map.mp hmem
  simp [ht]

theorem State.closeGates_ready (s : State) (r : Nat) {t : Nat} (ht : t < 32) : (s.closeGates t).ready r t = false := by
  rw [State.ready, State.closeGates_pcd]
  exact (s.loseTier t).ready_unready r ht

theorem State.closeGates_store {k : Nat} {v : Option Slot} (h : (k, v) ∈ (s.closeGates t).pcd.store) : k / 131072 / 32 ≠ t := by
  rw [State.closeGates_pcd] at h
  obtain ⟨-, hkept⟩ := List.mem_filter.mp h
  exact bne_iff_ne.mp hkept

/-! ## Openings and closings (R394, R395) -/

/-- So many ticks have passed since an operation, if there was one. -/
def spacedBy (last : Option Nat) (ticks now : Nat) : Bool :=
  match last with
  | some k => decide (k + ticks ≤ now)
  | none => true

theorem spacedBy_iff {last : Option Nat} {ticks now : Nat} :
    spacedBy last ticks now = true ↔ ∀ k, last = some k → k + ticks ≤ now := by
  cases last <;> simp [spacedBy]

theorem not_spacedBy_iff {last : Option Nat} {ticks now : Nat} :
    spacedBy last ticks now = false ↔ ∃ k, last = some k ∧ now < k + ticks := by
  cases last <;> simp [spacedBy]

theorem State.mayClose_iff : s.mayClose n = true ↔ (s.die.mode = .running ∨ s.die.mode = .restarting) ∧ n ∈ s.pwr.closeQ ∧
    s.pwr.opening ≠ some n ∧ s.tierQuiet n = true ∧ s.decodesDone n = true ∧ s.loadFits gateLoad = true ∧
    spacedBy s.pwr.lastClose 32 s.pwr.us = true ∧ (s.pwr.offStage = 2 ∨ (s.pwr.state.toNat < 2 ∧ s.pwr.exiting = false)) := by
  unfold State.mayClose
  change (_ && spacedBy s.pwr.lastClose 32 s.pwr.us && _) = true ↔ _
  simp [and_assoc]

/-- A tier whose bit is 1 is to open again. -/
theorem State.reopenGate_reopens (hrun : s.die.mode = .running) (hstage : s.pwr.offStage = 0)
    (hbit : bitOf (s.cfgWord .pwrTierGate 0) n = true) : n ∈ (s.reopenGate n).pwr.openQ := by
  rw [State.reopenGate, if_pos ⟨hbit, hrun, hstage⟩]
  exact mem_insertSorted.mpr (.inl rfl)

theorem State.reopenGate_stays (hbit : bitOf (s.cfgWord .pwrTierGate 0) n = false) : s.reopenGate n = s := by
  simp [State.reopenGate, hbit]

/-! ## The identity (R88) -/

/-- The identity of a tier, noted with its judgement. -/
def State.identNoted (s : State) (t : Nat) (id : TierId) (ok : Bool) : State :=
  s.updTier t fun x => { x with ident := id, accepted := ok, awaitId := false }

/-- Where no frequency waits, none is taken. -/
theorem State.heldFreq_none (h : (s.tier t).freqNext = none) : s.heldFreq t = s := by
  simp [State.heldFreq, h]

theorem State.identNoted_accepted (s : State) (t : Nat) (id : TierId) :
    (s.identNoted t id true).tier t = { s.tier t with ident := id, accepted := true, awaitId := false } :=
  State.tier_updTier_self (Tier.ne_init_of_accepted rfl)

end

end Sys2Proof.Machine
end

section
/-! PROOF. Tier gates (O32). -/

namespace Sys2Proof.Proofs
open Sys2Proof.Machine Sys2Proof.Safety

section
variable {s : State} {t : BitVec 5}

/-- Where a bit of PWR_TIER_GATE moves, its tier is queued (R395, R396). -/
theorem tierGate_write {p : Path} {data : Word} (h : Acts p .pwrTierGate 0 s) (hf : Formed s) (hawake : s.pwr.state.toNat < 2)
    (hne : s.cfgWord .pwrTierGate 0 ≠ data) : ∃ u : State, exec (.pwrTierGateWrite p data) s = .next u.noteLevel ∧
    Only [.regs, .pwr] s u ∧ u.cfgWord .pwrTierGate 0 = data ∧ ∀ n, n < 32 →
      ((s.cfgWord .pwrTierGate 0).getLsbD n = false → data.getLsbD n = true → (s.tier n).open_ = false → n ∈ u.pwr.openQ) ∧
      ((s.cfgWord .pwrTierGate 0).getLsbD n = true → data.getLsbD n = false → (s.tier n).open_ = true → n ∈ u.pwr.closeQ) := by
  obtain ⟨u, hu, (hsettle : _ = (u, data))⟩ := State.settle_pwrTierGate (s := s) (w := writeOf p .pwrTierGate 0 data) (o := s.cfgWord .pwrTierGate 0)
  obtain ⟨v, hv, -, hexec⟩ := hu.written plainReg_pwrTierGate h hf hsettle
  have hpwr : v.pwr = s.pwr := hv.only.same .pwr (by decide)
  have htch : v.tch = s.tch := hv.only.same .tch (by decide)
  have htier (n : Nat) : v.tier n = s.tier n := by rw [State.tier, htch, State.tier]
  have hregs : (v.gateChange (s.cfgWord .pwrTierGate 0) data).regs = v.regs := (v.gateChange_only ..).same .regs (by decide)
  have hlate : (v.gateChange (s.cfgWord .pwrTierGate 0) data).regs.late = [] := by rw [hregs, hv.late_nil h]
  rw [State.takeFields_pwrTierGate, if_neg (Ne.symm hne), State.gatesWritten_awake (hpwr ▸ hawake)] at hexec
  refine ⟨_, congrArg Host.Outcome.next (hexec.trans (by rw [State.actLate_nil _ hlate])),
    (hv.only.trans (v.gateChange_only ..)).mono (by simp), ?_, fun n hn => ⟨fun hold hnew hclosed => ?_, fun hold hnew hopen => ?_⟩⟩
  · rw [State.cfgWord, hregs]
    exact hv.word
  · exact State.gateChange_queues (queue := Pwr.openQ) hn ((congrArg Tier.open_ (htier n)).trans hclosed)
      fun _ _ => State.mem_openQ_gateMoved hnew hold
  · exact State.gateChange_queues (queue := Pwr.closeQ) hn ((congrArg Tier.open_ (htier n)).trans hopen)
      fun _ _ => State.mem_closeQ_gateMoved hnew hold

/-! ## Openings (R394, R395, R398) -/

/-- The state in which the gates of a tier are opening. -/
def gateOpening (s : State) (n : Nat) (rest : List Nat) : State :=
  ({ s.grant gateLoad 96 with pwr := { (s.grant gateLoad 96).pwr with
    openQ := rest, opening := some n, lastOpen := some s.pwr.us } }.updTier n fun x => { x with open_ := true, good := false, trstLow := true })

theorem exec_gateOpeningStart {n : Nat} {rest : List Nat} (hq : s.pwr.openQ = n :: rest) : exec .gateOpeningStart s =
    if !s.gatesMove ∨ s.pwr.opening.isSome ∨ !spacedBy s.pwr.lastOpen 128 s.pwr.us ∨ !s.loadFits gateLoad then .next s
    else .next (gateOpening s n rest) := by
  simp only [exec, execGateOpeningStart, hq]
  rfl

theorem opening_waits (h : s.pwr.openQ = [] ∨ s.gatesMove = false ∨ s.pwr.opening.isSome ∨
    (∃ k, s.pwr.lastOpen = some k ∧ s.pwr.us < k + 128) ∨ s.loadFits gateLoad = false) : exec .gateOpeningStart s = .next s := by
  rw [← not_spacedBy_iff] at h
  cases hq : s.pwr.openQ with
  | nil => simp [exec, execGateOpeningStart, hq]
  | cons n rest =>
    rw [exec_gateOpeningStart hq, if_pos]
    simpa [hq] using h

theorem tierGood_ends (h : s.pwr.opening = some t.toNat) : exec (.tierGood t) s =
    .next ((({ s with pwr := { s.pwr with opening := none } }.resetTier t.toNat).updTier t.toNat fun x =>
      { x with good := true, failed := false }).inputChange 32).noteLevel := if_neg (not_not_intro h)

/-- A tier whose opening has failed, closed and marked. -/
def openingFailed (s : State) (n : Nat) : State :=
  ({ s with pwr := { s.pwr with opening := none, closeQ := s.pwr.closeQ.erase n } }.closeGates n).updTier n fun x => { x with failed := true }

theorem openingFailed_tier (n : Nat) : ((openingFailed s n).tier n).failed = true ∧ ((openingFailed s n).tier n).powered = false := by
  have htier : (openingFailed s n).tier n = _ := State.tier_updTier_self fun e => Bool.false_ne_true (congrArg Tier.failed e).symm
  rw [htier, State.tier_closeGates]
  exact ⟨rfl, rfl⟩

theorem openingFailed_only (n : Nat) : Only [.pwr, .tch, .pcd] s (openingFailed s n) := by
  have hpwr (x : Pwr) : Only [.pwr, .tch, .pcd] s { s with pwr := x } := by simp [Only]
  exact ((hpwr _).andThen (State.closeGates_only _ n)).andThen (State.updTier_only _ _ _)

theorem openingFailed_opening (n : Nat) : (openingFailed s n).pwr.opening = none := by
  have hclosed (u : State) : (u.closeGates n).pwr = u.pwr := (u.closeGates_only n).same .pwr (by decide)
  rw [openingFailed, State.updTier_pwr, hclosed]

theorem gateTimeout_fails (h : s.pwr.opening = some t.toNat) (hlate : ∀ k, s.pwr.lastOpen = some k → k + 200 ≤ s.pwr.us) :
    exec (.tierGateTimeout t) s = .next ((openingFailed s t.toNat).raise t.toNat 5) := by
  refine if_neg ?_
  rintro (hother | hearly)
  · exact hother h
  · obtain ⟨k, hk, hsoon⟩ := (Option.any_eq_true _ _).mp hearly
    exact Nat.not_le.mpr (of_decide_eq_true hsoon) (hlate k hk)

theorem gateTimeout_reports (h : s.pwr.opening = some t.toNat) (hlate : ∀ k, s.pwr.lastOpen = some k → k + 200 ≤ s.pwr.us) :
    ∃ u : State, exec (.tierGateTimeout t) s = .next u ∧ (u.tier t.toNat).failed = true ∧ (u.tier t.toNat).powered = false ∧
    u.pwr.opening = none ∧ (∃ l ∈ u.flt.lines, l.src.toNat = t.toNat ∧ l.detail = 5) ∧ Only [.pwr, .tch, .pcd, .flt] s u := by
  obtain ⟨hfailed, hpowered⟩ := openingFailed_tier (s := s) t.toNat
  refine ⟨_, gateTimeout_fails h hlate, by rw [State.tier_raise, hfailed], by rw [State.tier_raise, hpowered], ?_, ⟨⟨BitVec.ofNat 7 t.toNat, 5⟩, ?_, ?_, rfl⟩,
    ((openingFailed_only _).trans (State.raise_only ..)).mono (by simp)⟩
  · rw [State.raise_pwr, openingFailed_opening]
  · exact List.mem_of_getLast? (State.raise_last ..)
  · exact Nat.mod_eq_of_lt (t.isLt.trans (by decide))

theorem opening_of_another (h : s.pwr.opening ≠ some t.toNat) :
    exec (.tierGood t) s = .next s ∧ exec (.tierGateTimeout t) s = .next s := ⟨if_pos h, if_pos (.inl h)⟩

theorem gateTimeout_early {k : Nat} (hk : s.pwr.lastOpen = some k) (h : s.pwr.us < k + 200) : exec (.tierGateTimeout t) s = .next s :=
  if_pos (.inr (by simp [hk, h]))

/-! ## Release and identity (R87, R88, R117) -/

theorem trst_released (hpow : (s.tier t.toNat).powered = true) (hlow : (s.tier t.toNat).trstLow = true) (hopen : t.toNat ∉ s.pwr.closeQ)
    (hawake : s.pwr.state.toNat < 2) (hrun : s.die.mode = .running) (hlock : s.clk.tierLock.getLsbD t.toNat = true)
    (hheld : (s.tier t.toNat).trstAt + 10 ≤ s.now) : exec (.trstRelease t) s =
      .next (((s.updTier t.toNat fun x => { x with trstLow := false }).updChans (chansOfTier t.toNat) fun i c =>
        { c with dueAt := (s.updTier t.toNat fun x => { x with trstLow := false }).firstDue i }).readIdentity t.toNat) :=
  if_pos ⟨hpow, hlow, by simp [hopen], hawake, hrun, hlock, hheld⟩

theorem trst_held (h : s.now < (s.tier t.toNat).trstAt + 10 ∨ t.toNat ∈ s.pwr.closeQ) : exec (.trstRelease t) s = .next s := by
  refine if_neg ?_
  rintro ⟨-, -, hopen, -, -, -, hheld⟩
  obtain hearly | hcloses := h
  · exact absurd hheld (Nat.not_le.mpr hearly)
  · simp [hcloses] at hopen

theorem identity_judged {id : TierId} (hpow : (s.tier t.toNat).powered = true) (hhigh : (s.tier t.toNat).trstLow = false)
    (hself : (s.tier t.toNat).selfRef = false) (hdown : (s.tier t.toNat).pwrDown = false) (hawait : (s.tier t.toNat).awaitId = true) :
    exec (.identityCheck t id) s =
      if !s.identOk id then .next ((s.identNoted t.toNat id (s.identOk id)).raise t.toNat 4)
      else if t.toNat / 8 < s.tch.group ∨ (s.tch.groupRun ∧ t.toNat / 8 = s.tch.group) then
        .next (((s.identNoted t.toNat id (s.identOk id)).trainTier t.toNat).heldFreq t.toNat)
      else .next ((s.identNoted t.toNat id (s.identOk id)).heldFreq t.toNat) :=
  if_neg (by simp [hpow, hhigh, hself, hdown, hawait])

/-! ## Closings (R117, R394, R395, R398) -/

theorem closing_waits (h : t.toNat ∉ s.pwr.closeQ ∨ s.tierQuiet t.toNat = false ∨ s.decodesDone t.toNat = false ∨
    s.loadFits gateLoad = false ∨ (s.pwr.offStage ≠ 2 ∧ 2 ≤ s.pwr.state.toNat) ∨ ∃ k, s.pwr.lastClose = some k ∧ s.pwr.us < k + 32) :
    exec (.gateClosing t) s = .next s := by
  refine if_pos ?_
  rw [Bool.not_eq_true', Bool.eq_false_iff, ne_eq, State.mayClose_iff]
  rintro ⟨-, hin, -, hquiet, hdone, hfits, hspaced, hstate⟩
  rw [← not_spacedBy_iff] at h
  obtain h | h | h | h | ⟨hstage, hdeep⟩ | h := h
  · exact h hin
  · exact Bool.false_ne_true (h.symm.trans hquiet)
  · exact Bool.false_ne_true (h.symm.trans hdone)
  · exact Bool.false_ne_true (h.symm.trans hfits)
  · exact absurd (hstate.resolve_left hstage).1 (Nat.not_lt.mpr hdeep)
  · exact Bool.false_ne_true (h.symm.trans hspaced)

/-- A resting tier closes: what its channels held ends UNAVAILABLE. -/
theorem closing_done (hclose : s.mayClose t.toNat = true) (hrest : (s.tier t.toNat).selfRef = true ∨ (s.tier t.toNat).trstLow = true) :
    exec (.gateClosing t) s = .next (((({ s.grant gateLoad 0 with pwr := { (s.grant gateLoad 0).pwr with
      closeQ := s.pwr.closeQ.erase t.toNat, lastClose := some s.pwr.us } }.closeGates
        t.toNat).failAll ((chansOfTier t.toNat).flatMap fun i => (s.chan i).queue ++ (s.chan i).ringq) 0x10 0x08).reopenGate
          t.toNat).inputChange 32).noteLevel := by
  refine (if_neg (by simp [hclose])).trans ?_
  simp only [if_pos hrest]
  rfl

end

/-- Settles O32: the queues of a write, the openings, the release with the identity, and the closings. -/
theorem tierGates : Obligations.TierGates := by
  unfold Obligations.TierGates
  refine ⟨fun p data s h hf hawake hne => ?_, ⟨fun n rest s hq hmove hidle hspaced hfits => ?_, fun s => opening_waits,
    fun t s h => ⟨_, tierGood_ends h, rfl⟩, fun t s => gateTimeout_reports, fun t s => opening_of_another,
    fun t k s => gateTimeout_early⟩, ⟨fun t s => trst_released, fun t s => trst_held,
    fun t id s hpow hhigh hself hdown hawait => ?_⟩, fun t s => ⟨closing_waits,
    fun hin hopening hquiet hdone hmode hstate hrest hfits hspaced => ?_, State.reopenGate_reopens, State.reopenGate_stays,
    fun _ => s.closeGates_powered t.toNat, fun r _ => s.closeGates_ready r t.isLt, fun k v => State.closeGates_store⟩⟩
  · obtain ⟨u, hexec, honly, hword, hqueued⟩ := tierGate_write h hf hawake hne
    exact ⟨u, hexec, honly, hword, fun n hn => ⟨fun hold hnew hclosed _ => (hqueued n hn).1 hold hnew hclosed, (hqueued n hn).2⟩⟩
  · rw [exec_gateOpeningStart hq, if_neg (by simp [hmove, hidle, spacedBy_iff.mpr hspaced, hfits])]
    rfl
  · rw [identity_judged hpow hhigh hself hdown hawait]
    refine ⟨fun hbad => ⟨_, if_pos (by simp [hbad]), by rw [hbad]; rfl⟩, fun hok hgroup hidle hfreq => ?_, fun hok hgroup => ?_⟩
    · have hkept : ((s.identNoted t.toNat id true).tier t.toNat).freqNext = none := by rw [State.identNoted_accepted, hfreq]
      rw [hok, if_neg (by simp), if_neg (by simp [hidle, hgroup]), State.heldFreq_none hkept]
      rfl
    · rw [hok, if_neg (by simp), if_pos (.inl hgroup)]
      rfl
  · exact closing_done (State.mayClose_iff.mpr ⟨hmode, hin, hopening, hquiet, hdone, hfits, spacedBy_iff.mpr hspaced, hstate⟩) hrest

end Sys2Proof.Proofs
end

section
/-! SUPPORT. What the end of requests and of their commands changes, on the way of which a command's last entry may be written: no readiness,
no self-test, no die, no fault line (R108, R136, R187, R210). -/

namespace Sys2Proof.Machine
open Sys2Proof.Safety

/-- The parts that the end of a request may change. -/
def endParts : List Part := [.regs, .clk, .qos, .rng, .lnk, .tch, .pcd, .pwr, .sec, .out]

/-- The second state follows the first by ends of requests: readiness is as it was. -/
structure Ends (s t : State) : Prop where
  only : Only endParts s t
  rdy : t.pcd.rdy = s.pcd.rdy

namespace Ends
variable {s t u : State}

theorem refl (s : State) : Ends s s := ⟨(Only.refl s).mono (by simp), rfl⟩

/-- One more step, which keeps the readiness bits. -/
theorem step {ps : List Part} (h : Ends s t) (g : Only ps t u) (hr : u.pcd.rdy = t.pcd.rdy) (hps : ps ⊆ endParts := by decide) : Ends s u :=
  ⟨h.only.andThen g hps, hr.trans h.rdy⟩

/-- One more step, outside the page code. -/
theorem outside {ps : List Part} (h : Ends s t) (g : Only ps t u) (hps : ps ⊆ endParts := by decide) (hpcd : .pcd ∉ ps := by decide) :
    Ends s u := h.step g (congrArg Pcd.rdy (g.same .pcd hpcd)) hps

theorem posts (h : Ends s t) (g : Posts t u) : Ends s u := h.outside g

/-- One of two such steps. -/
theorem ite {c : Prop} [Decidable c] (h : Ends s t) (g : Ends s u) : Ends s (if c then t else u) := by
  split
  · exact h
  · exact g

/-- A run of such steps. -/
theorem foldl {α : Type} {f : State → α → State} {l : List α} (hf : ∀ t a, Ends s t → Ends s (f t a)) (h : Ends s t) :
    Ends s (l.foldl f t) := by
  induction l generalizing t with
  | nil => exact h
  | cons a l ih => exact ih (hf t a h)

/-- A run of such steps, each with a result beside the state. -/
theorem foldlFst {α β : Type} {f : State × β → α → State × β} {l : List α} {x : State × β}
    (hf : ∀ y a, Ends s y.1 → Ends s (f y a).1) (h : Ends s x.1) : Ends s (l.foldl f x).1 := by
  induction l generalizing x with
  | nil => exact h
  | cons a l ih => exact ih (hf x a h)

theorem rng {x : Rng} (h : Ends s t) : Ends s { t with rng := x } := h.outside (ps := [.rng]) (by simp [Only])
theorem qos {x : Qos} (h : Ends s t) : Ends s { t with qos := x } := h.outside (ps := [.qos]) (by simp [Only])
theorem sec {x : Sec} (h : Ends s t) : Ends s { t with sec := x } := h.outside (ps := [.sec]) (by simp [Only])
theorem setCfg {n : RegName} {i : Nat} {w : Word} (h : Ends s t) : Ends s (t.setCfg n i w) := h.outside (ps := [.regs]) (by simp [Only])
theorem setChan {i : Nat} {c : Chan} (h : Ends s t) : Ends s (t.setChan i c) := h.outside (ps := [.tch]) (by simp [Only])
theorem updSq {q : Nat} {f : SqCtx → SqCtx} (h : Ends s t) : Ends s (t.updSq q f) := h.rng
theorem updCq {q : Nat} {f : CqCtx → CqCtx} (h : Ends s t) : Ends s (t.updCq q f) := h.rng
theorem updCmd {k : Nat} {f : Cmd → Cmd} (h : Ends s t) : Ends s (t.updCmd k f) := h.rng
theorem updBuf {id o : Nat} {f : BlockBuf → BlockBuf} (h : Ends s t) : Ends s (t.updBuf id o f) := h.updCmd
theorem tally {id : Nat} {f : Tally → Tally} (h : Ends s t) : Ends s (t.tally id f) := h.updCmd
theorem setWindow {k : Nat} {x : Window} (h : Ends s t) : Ends s (t.setWindow k x) := h.step (ps := [.pcd]) (by simp [Only]) rfl

/-! ## Commands -/

theorem streamRelease {q n : Nat} (h : Ends s t) : Ends s (t.streamRelease q n) := ite h h.qos.updSq

theorem writeFinal {c : Cmd} {f : Final} (h : Ends s t) : Ends s (t.writeFinal c f) := by
  unfold State.writeFinal
  extract_lets _ _ _ _ s₁ _ s₂ _ _ s₃
  have h₀ := ite (c := c.op.nmo ∧ c.desc.opnd3 ≠ 0) (h.posts (Posts.mwrAll t c.tc.toNat c.desc.opnd3.toNat (t.recordOf c))) h
  have h₁ : Ends s s₁ := ite h₀ (foldl (fun _ _ h => h.posts (Posts.mwrAll ..)) h₀)
  have h₂ : Ends s s₂ := by
    unfold s₂
    split
    · exact ite h₁ (ite h₁.setCfg h₁.setCfg)
    · split
      · exact ite h₁.sec h₁
      · exact h₁
    · exact h₁
  have h₃ : Ends s s₃ := ite (streamRelease (h₂.posts (Posts.writeHeld ..))) (h₂.posts (Posts.writeHeld ..))
  split
  · exact posts (updSq (rng (ite h₃.updCq h₃))) (Posts.postEvent ..)
  · exact updSq (rng (ite h₃.updCq h₃))

theorem writeEntry {q : Nat} {e : HeldEntry} (h : Ends s t) : Ends s (t.writeEntry q e) := h.posts (Posts.writeEntry ..)

theorem complete {c : Cmd} {f : Final} (h : Ends s t) : Ends s (t.complete c f) :=
  ite h.rng (ite h.updCmd.writeEntry h.writeFinal)

theorem settleN {fuel : Nat} (h : Ends s t) : Ends s (t.settleN fuel) := by
  induction fuel generalizing t with
  | zero => exact h
  | succ fuel ih =>
    unfold State.settleN
    split
    · exact h
    · split
      · exact h
      · exact ih h.complete

theorem settle (h : Ends s t) : Ends s t.settle := h.settleN

theorem judgeProvisional {id : Nat} (h : Ends s t) : Ends s (t.judgeProvisional id) := by
  unfold State.judgeProvisional
  split
  · exact h
  · exact ite h h.updCmd.writeEntry

theorem tryFinish {id : Nat} (h : Ends s t) : Ends s (t.tryFinish id) := by
  unfold State.tryFinish
  extract_lets
  split
  · exact h.judgeProvisional
  · exact ite h.judgeProvisional.updCmd.settle h.judgeProvisional

/-! ## Blocks -/

theorem judgeMiss {c : Cmd} {forced : Bool} (h : Ends s t) : Ends s (t.judgeMiss c forced) := by
  unfold State.judgeMiss
  split
  · exact h
  · exact ite h h.updSq.qos

theorem endBlock {id o : Nat} {done : Bool} {fail : Option (Nat × Nat)} {forced : Bool} (h : Ends s t) :
    Ends s (t.endBlock id o done fail forced) := by
  unfold State.endBlock
  split
  · exact h
  · exact ite h (tryFinish (ite (streamRelease (updCmd (ite h.judgeMiss h))) (updCmd (ite h.judgeMiss h))))

theorem recodeMark {l : Nat} (h : Ends s t) : Ends s (t.recodeMark l) := by
  unfold State.recodeMark
  split
  · exact h
  · exact ite h (ite h.setWindow h.setWindow.setCfg)

theorem cmdIntegrity {c : Cmd} {l : Nat} {x : Slot} {computed : Word} {d : Decode} (h : Ends s t) :
    Ends s (t.cmdIntegrity c l x computed d) := h.rng.updCmd

theorem checkPlain {c : Cmd} {l : Nat} {x : Slot} {d : Decode} {p : List Byte} (h : Ends s t) : Ends s (t.checkPlain c l x d p).1 := by
  unfold State.checkPlain
  extract_lets
  split
  · exact h
  · dsimp only
    exact h.cmdIntegrity.tally

theorem judgeSide {c : Cmd} {l : Nat} {y : Slot × Nat} (h : Ends s t) : Ends s (t.judgeSide c l y).1 := by
  unfold State.judgeSide
  split
  · exact h
  · exact h.checkPlain

theorem judgeCompare {c : Cmd} {o : Nat} (h : Ends s t) : Ends s (t.judgeCompare c o) := by
  unfold State.judgeCompare
  extract_lets _ _ a
  have ha : Ends s a.1 := foldlFst (fun _ _ h => h.judgeSide) h
  refine ite h ?_
  split
  · exact ha.endBlock
  · split
    · exact ha.endBlock
    · exact ha.tally.endBlock

theorem judgeVerify {c : Cmd} {o : Nat} (h : Ends s t) : Ends s (t.judgeVerify c o) := by
  unfold State.judgeVerify
  extract_lets _ _ a
  have ha : Ends s a.1 := by
    unfold a
    split
    · split
      · exact h
      · split
        · exact h
        · exact h.checkPlain
    · exact h
  refine ite h ?_
  split
  · exact ha.endBlock
  · exact ha
  · exact endBlock (ite ha.tally ha)

theorem sideDone {c : Cmd} {r : Req} {y : Option (Slot × Nat)} {f : Option (Nat × Nat)} (h : Ends s t) :
    Ends s (t.sideDone c r y f) := by
  unfold State.sideDone
  extract_lets
  split
  · exact h.updBuf
  · exact ite h.updBuf.judgeVerify h.updBuf.judgeCompare

/-! ## Requests -/

theorem mergeRelease {k : Option Nat} (h : Ends s t) : Ends s (t.mergeRelease k) := by
  refine h.step (State.mergeRelease_only ..) ?_
  cases k <;> rfl

theorem failReq {r : Req} {st sd : Nat} (h : Ends s t) : Ends s (t.failReq r st sd) := by
  unfold State.failReq
  extract_lets
  split
  · exact h.mergeRelease.settle
  · split
    · exact h.mergeRelease.settle
    · exact ite h.mergeRelease.recodeMark.updCmd.endBlock (ite h.mergeRelease.sideDone h.mergeRelease.endBlock)

theorem failAll {rs : List Req} {st sd : Nat} (h : Ends s t) : Ends s (t.failAll rs st sd) := foldl (fun _ _ h => h.failReq) h

theorem dropUnready {k : Nat} (h : Ends s t) : Ends s (t.dropUnready k) := foldl (fun _ _ h => h.setChan.failAll) h

end Ends

end Sys2Proof.Machine
end

section
/-! SUPPORT. A supply that falls: what stays, and which readiness is lost (R137, R392, R418). -/

namespace Sys2Proof.Machine
open Sys2Proof.Safety

section
variable {α : Type} [DecidableEq α]

/-- A rewrite of the listed values reads as a rewrite of the value read, where it keeps the default. -/
theorem Tab.get_mapVals {d : α} {f : Nat → α → α} (hf : ∀ i, f i d = d) {t : Tab α} (h : Tab.wf d t = true) (i : Nat) :
    Tab.get d (Tab.mapVals d f t) i = f i (Tab.get d t i) := by
  suffices hfrom : ∀ n, Tab.wfFrom d n t = true → Tab.get d (Tab.mapVals d f t) i = f i (Tab.get d t i) from hfrom 0 h
  clear h
  induction t with
  | nil => exact fun _ _ => (hf i).symm
  | cons e r ih =>
    intro n h
    obtain ⟨k, v⟩ := e
    simp only [Tab.wfFrom, Bool.and_eq_true, decide_eq_true_eq] at h
    obtain ⟨-, hr⟩ := h
    have hrest := ih (k + 1) hr
    have hbelow (hi : i ≤ k) : Tab.get d (Tab.mapVals d f r) i = d := by
      rw [hrest, Tab.get_below d r (k + 1) i hr (Nat.lt_succ_of_le hi), hf]
    by_cases hv : f k v = d
    · have hgone : Tab.mapVals d f ((k, v) :: r) = Tab.mapVals d f r := List.filter_cons_of_neg (by simp [hv])
      rw [hgone]
      simp only [Tab.get]
      split_ifs with hlt heq
      · rw [hbelow hlt.le, hf]
      · rw [hbelow heq.le, heq, hv]
      · exact hrest
    · have hkept : Tab.mapVals d f ((k, v) :: r) = (k, f k v) :: Tab.mapVals d f r := List.filter_cons_of_pos (by simp [hv])
      rw [hkept]
      simp only [Tab.get]
      split_ifs with hlt heq
      · exact (hf i).symm
      · rw [heq]
      · exact hrest

end

/-- The parts that the fall of a tier supply may change. -/
def supplyParts : List Part := .die :: endParts

/-- The second state follows the first by steps of such a fall: the rails are noted as they were, and readiness is only lost. -/
structure Loses (s t : State) : Prop where
  only : Only supplyParts s t
  rails : t.die.uvT = s.die.uvT ∧ t.die.uvPp = s.die.uvPp
  wf : Tab.wf 0 s.pcd.rdy = true → Tab.wf 0 t.pcd.rdy = true
  ready : Tab.wf 0 s.pcd.rdy = true → ∀ q k, t.ready q k = true → s.ready q k = true

namespace Loses
variable {s t u : State}

theorem refl (s : State) : Loses s s := ⟨(Only.refl s).mono (by simp), ⟨rfl, rfl⟩, id, fun _ _ _ => id⟩

theorem trans (h : Loses s t) (g : Loses t u) : Loses s u :=
  ⟨h.only.andThen g.only, ⟨g.rails.1.trans h.rails.1, g.rails.2.trans h.rails.2⟩, fun hwf => g.wf (h.wf hwf),
    fun hwf q k hq => h.ready hwf q k (g.ready (h.wf hwf) q k hq)⟩

/-- Steps that leave readiness as it is. -/
theorem same (honly : Only supplyParts s t) (hdie : t.die.uvT = s.die.uvT ∧ t.die.uvPp = s.die.uvPp) (h : t.pcd.rdy = s.pcd.rdy) :
    Loses s t := by
  refine ⟨honly, hdie, fun hwf => h ▸ hwf, fun _ q k hq => ?_⟩
  rwa [State.ready, h] at hq

theorem ends (h : Ends s t) : Loses s t :=
  same (h.only.mono (by decide)) (by rw [show t.die = s.die from h.only.same .die (by decide)]; exact ⟨rfl, rfl⟩) h.rdy

/-- Only some of the bits of each region's readiness stay. -/
theorem masked {m : Word} (honly : Only supplyParts s t) (hdie : t.die.uvT = s.die.uvT ∧ t.die.uvPp = s.die.uvPp)
    (h : t.pcd.rdy = Tab.mapVals (0 : Word) (fun _ w => w &&& m) s.pcd.rdy) : Loses s t := by
  refine ⟨honly, hdie, fun hwf => h ▸ Tab.wf_mapVals _ _ _ _ hwf, fun hwf q k hq => ?_⟩
  rw [State.ready, h, Tab.get_mapVals (fun _ => by simp) hwf, BitVec.getLsbD_and, Bool.and_eq_true] at hq
  exact hq.1

/-- No region is ready. -/
theorem cleared (honly : Only supplyParts s t) (hdie : t.die.uvT = s.die.uvT ∧ t.die.uvPp = s.die.uvPp) (h : t.pcd.rdy = []) :
    Loses s t := by
  refine ⟨honly, hdie, fun _ => h ▸ rfl, fun _ q k hq => ?_⟩
  rw [State.ready, h] at hq
  simp [Tab.get] at hq

theorem unready (s : State) (t : Nat) : Loses s (s.unready t) := masked (by simp [Only, supplyParts, endParts]) ⟨rfl, rfl⟩ rfl

/-- What is not ready stays so. -/
theorem unready_stays (h : Loses s t) (hwf : Tab.wf 0 s.pcd.rdy = true) {q k : Nat} (hq : s.ready q k = false) : t.ready q k = false :=
  Bool.eq_false_iff.mpr fun hready => Bool.false_ne_true (hq.symm.trans (h.ready hwf q k hready))

/-- A run of such steps. -/
theorem foldl {α : Type} {f : State → α → State} (hf : ∀ t a, Loses t (f t a)) (l : List α) (s : State) : Loses s (l.foldl f s) := by
  induction l generalizing s with
  | nil => exact refl s
  | cons a l ih => exact (hf s a).trans (ih _)

end Loses

section
variable {s : State} {t : Nat}

/-! ## Retention (R418) -/

/-- The strength map at its reset values. -/
def State.mapReset (s : State) : State := (List.range 256).foldl (fun s r => s.setCfg .pcdSmap r (regReset .pcdSmap r)) s

theorem State.mapReset_only (s : State) : Only [.regs] s s.mapReset := .foldl (fun _ _ => by simp [Only]) _ s

/-- Every tier good at the cause was retained. -/
def State.allRetained (s : State) : Bool := (s.die.goodAtCause &&& ~~~ s.die.retain) == 0

/-- The judgement of retention, noted. -/
def State.retentionNoted (s : State) : State := { s with die := { s.die with tierRetained := s.allRetained } }

theorem State.judgeRetention_all (h : s.allRetained = true) : s.judgeRetention = { s.retentionNoted with
    pcd := { s.pcd with rdy := Tab.mapVals (0 : Word) (fun _ w => w &&& s.die.retain) s.pcd.rdy } } := if_pos h

theorem State.judgeRetention_lost (h : s.allRetained = false) : s.judgeRetention =
    { s.retentionNoted.mapReset with pcd := { s.retentionNoted.mapReset.pcd with rdy := [], windows := [] } } :=
  if_neg (Bool.eq_false_iff.mp h)

theorem State.judgeRetention_only (s : State) : Only [.die, .regs, .pcd] s s.judgeRetention := by
  have hnoted : Only [.die] s s.retentionNoted := by simp [Only, State.retentionNoted]
  cases h : s.allRetained
  · rw [State.judgeRetention_lost h]
    exact ((hnoted.trans s.retentionNoted.mapReset_only).mono (by simp)).andThen (qs := [.pcd]) (by simp [Only])
  · rw [State.judgeRetention_all h]
    exact (hnoted.mono (by simp)).andThen (qs := [.pcd]) (by simp [Only, State.retentionNoted])

/-- It changes nothing of the die but the judgement itself. -/
theorem State.judgeRetention_die (s : State) : s.judgeRetention.die = { s.die with tierRetained := s.allRetained } := by
  cases h : s.allRetained
  · rw [State.judgeRetention_lost h]
    have hkept : s.retentionNoted.mapReset.die = s.retentionNoted.die := s.retentionNoted.mapReset_only.same .die (by decide)
    generalize s.retentionNoted.mapReset = u at hkept
    exact hkept.trans (by rw [State.retentionNoted, h])
  · rw [State.judgeRetention_all h, State.retentionNoted, h]

theorem Loses.judgeRetention (s : State) : Loses s s.judgeRetention := by
  have honly : Only supplyParts s s.judgeRetention := s.judgeRetention_only.mono (by decide)
  have hdie : s.judgeRetention.die.uvT = s.die.uvT ∧ s.judgeRetention.die.uvPp = s.die.uvPp := by
    rw [State.judgeRetention_die]
    exact ⟨rfl, rfl⟩
  cases h : s.allRetained
  · exact .cleared honly hdie (by rw [State.judgeRetention_lost h])
  · exact .masked honly hdie (by rw [State.judgeRetention_all h])

theorem Loses.unretain (s : State) (t : Nat) : Loses s (s.unretain t) := by
  have hdropped : Only supplyParts s { s with die := { s.die with retain := s.die.retain &&& ~~~ ((1 : Word) <<< t) } } := by
    simp [Only, supplyParts]
  exact (Loses.same hdropped ⟨rfl, rfl⟩ rfl).trans (Loses.judgeRetention _)

theorem Loses.resetTier (s : State) (t : Nat) : Loses s (s.resetTier t) := by
  have hdie : (s.resetTier t).die = s.die := (s.resetTier_only t).same .die (by decide)
  exact .masked ((s.resetTier_only t).mono (by decide)) (by rw [hdie]; exact ⟨rfl, rfl⟩) (congrArg Pcd.rdy (s.resetTier_pcd t))

/-! ## The fall (R137, R392) -/

/-- A powered tier whose supply has fallen is ready nowhere, and what waits for its slots touches it no more. -/
def State.tierFell (s : State) (t : Nat) : State := ((s.unready t).formatAgain t).dropUnready t

/-- A tier that is no longer retained waits for its SRX no more. -/
def State.unwaited (s : State) (t : Nat) : State :=
  { s.unretain t with pwr := { (s.unretain t).pwr with restart := (s.unretain t).pwr.restart.erase t } }

/-- A tier that waits for its SRX is no longer retained; but in the reset hold it is reset at once. -/
def State.waiterFell (s : State) (t : Nat) : State :=
  if (s.unwaited t).die.mode = .resetHold then s.unwaited t else (s.unwaited t).resetTier t

/-- The tiers that wait for their SRX. -/
def State.waiters (s : State) (ts : List Nat) : List Nat := ts.filter fun t => bitOf s.die.retain t &&
  (s.die.mode == DieMode.resetHold || s.die.mode == DieMode.restarting || s.pwr.restart.contains t) && !s.die.dataService

theorem State.supplyFell_eq : s.supplyFell = ((s.poweredTiers.foldl State.tierFell s).waiters s.poweredTiers).foldl State.waiterFell
    (s.poweredTiers.foldl State.tierFell s) := rfl

theorem Ends.tierFell (s : State) (t : Nat) : Ends (s.unready t) (s.tierFell t) :=
  .dropUnready ((Ends.refl _).outside (State.updChans_only _ _))

theorem Loses.tierFell (s : State) (t : Nat) : Loses s (s.tierFell t) := (Loses.unready s t).trans (.ends (Ends.tierFell s t))

theorem State.tierFell_unready (s : State) (q : Nat) (ht : t < 32) : (s.tierFell t).ready q t = false := by
  rw [State.ready, (Ends.tierFell s t).rdy]
  exact s.ready_unready q ht

theorem Loses.unwaited (s : State) (t : Nat) : Loses s (s.unwaited t) :=
  (Loses.unretain s t).trans (.same (by simp [Only, supplyParts, endParts, State.unwaited]) ⟨rfl, rfl⟩ rfl)

theorem Loses.waiterFell (s : State) (t : Nat) : Loses s (s.waiterFell t) := by
  have hgone := Loses.unwaited s t
  unfold State.waiterFell
  split
  · exact hgone
  · exact hgone.trans (.resetTier _ t)

theorem Loses.supplyFell (s : State) : Loses s s.supplyFell := (foldl tierFell _ s).trans (foldl waiterFell _ _)

/-- Tiers of a list that have fallen are ready nowhere. -/
theorem State.tiersFell_unready {l : List Nat} (hl : ∀ k ∈ l, k < 32) (ht : t ∈ l) (q : Nat) (hwf : Tab.wf 0 s.pcd.rdy = true) :
    (l.foldl State.tierFell s).ready q t = false := by
  induction l generalizing s with
  | nil => cases ht
  | cons k l ih =>
    obtain ⟨hk, hl⟩ := List.forall_mem_cons.mp hl
    rw [List.foldl_cons]
    obtain rfl | ht := List.mem_cons.mp ht
    · exact (Loses.foldl Loses.tierFell l (s.tierFell t)).unready_stays ((Loses.tierFell s t).wf hwf) (s.tierFell_unready q hk)
    · exact ih hl ht ((Loses.tierFell s k).wf hwf)

theorem State.supplyFell_unready (ht : t ∈ s.poweredTiers) (q : Nat) (hwf : Tab.wf 0 s.pcd.rdy = true) : s.supplyFell.ready q t = false := by
  have hbound : ∀ k ∈ s.poweredTiers, k < 32 := fun k hk => List.mem_range.mp (List.mem_of_mem_filter hk)
  rw [State.supplyFell_eq]
  exact (Loses.foldl Loses.waiterFell _ _).unready_stays ((Loses.foldl Loses.tierFell s.poweredTiers s).wf hwf)
    (State.tiersFell_unready hbound ht q hwf)

end

end Sys2Proof.Machine
end

section
/-! SUPPORT. The restart from a Click: the warm restart keeps the cause, the kind and the end of the hold that its first steps set (R380, R381,
R426, R427). -/

namespace Sys2Proof.Machine
open Sys2Proof.Safety

/-! ## Fuse commands that are asked for (R451, R452) -/

/-- The parts that taking up a fuse command may change. -/
def pumpParts : List Part := .otp :: .tw :: .scb :: .flt :: endParts

section
variable (s : State)

theorem State.vqpsNext_only : Only pumpParts s s.vqpsNext := by
  have hrefl : Only pumpParts s s := (Only.refl s).mono (by simp)
  unfold State.vqpsNext
  split
  · exact hrefl
  · exact .ite hrefl (by simp [Only, pumpParts, endParts])

theorem State.otpGo_only (c : OtpCmd) : Only pumpParts s (s.otpGo c) := by
  have hset (t : State) (x : Otp) (y : Tw) : Only pumpParts t { t with otp := x, tw := y } := by simp [Only, pumpParts]
  exact .ite (((hset s _ s.tw).step (hset _ _ _)).step (State.vqpsNext_only _)) (hset s _ s.tw)

theorem State.appendEnd_only (c : OtpCmd) (ok : Bool) : Only pumpParts s (s.appendEnd c ok) := by
  have hrefl : Only pumpParts s s := (Only.refl s).mono (by simp)
  have hends (t : State) {u : State} (h : Ends t u) : Only pumpParts t u := h.only.mono (by decide)
  have hdropped (i b row : Nat) : Only pumpParts s (s.dropCandidates i b row) := by simp [Only, pumpParts, State.dropCandidates]
  have hloaded (t : State) (i b row spare : Nat) : Only pumpParts t (t.loadSub i b row spare) := by
    unfold State.loadSub
    split
    · simp [Only, pumpParts, endParts]
    · exact (Only.refl t).mono (by simp)
  unfold State.appendEnd
  split
  · split
    · exact hrefl
    · extract_lets
      split
      · exact ((hdropped _ _ _).step (hloaded _ _ _ _ _)).step (hends _ (Ends.refl _).endBlock)
      · exact hends s (Ends.refl s).endBlock
  · exact .ite ((s.raise_only _ _).mono (by decide)) hrefl

theorem State.otpBegin_only (c : OtpCmd) : Only pumpParts s (s.otpBegin c) := by
  have hrefused (x : Otp) (y : Sec) : Only pumpParts s { s with otp := x, sec := y } := by simp [Only, pumpParts, endParts]
  unfold State.otpBegin
  split
  · split
    · exact s.appendEnd_only _ _
    · exact s.otpGo_only _
  · split
    · split
      · exact hrefused _ s.sec
      · exact s.otpGo_only _
    · exact .ite (hrefused _ _) (s.otpGo_only _)

theorem State.otpPump_only (fuel : Nat) : Only pumpParts s (s.otpPump fuel) := by
  have hrefl (t : State) : Only pumpParts t t := (Only.refl t).mono (by simp)
  induction fuel generalizing s with
  | zero => exact hrefl s
  | succ fuel ih =>
    unfold State.otpPump
    split
    · exact .ite (hrefl s) (((show Only pumpParts s { s with otp := _ } by simp [Only, pumpParts]).step (State.otpBegin_only _ _)).step (ih _))
    · exact hrefl s

theorem State.otpAsk_only (c : OtpCmd) : Only pumpParts s (s.otpAsk c) := by
  have hasked (x : Otp) : Only pumpParts s { s with otp := x } := by simp [Only, pumpParts]
  exact (hasked _).step (State.otpPump_only _ _)

end

/-! ## The warm restart -/

/-- The second state tells the same reset cause, and holds the die in the Click hold or not as the first. -/
structure SameCause (s t : State) : Prop where
  cause : t.die.cause = s.die.cause
  kind : t.die.kind = s.die.kind
  hold : t.thm.hold = s.thm.hold

namespace SameCause
variable {s t u : State}

theorem refl (s : State) : SameCause s s := ⟨rfl, rfl, rfl⟩

/-- One more step, outside the die and the thermal unit. -/
theorem only {ps : List Part} (h : SameCause s t) (g : Only ps t u) (hdie : .die ∉ ps := by decide) (hthm : .thm ∉ ps := by decide) :
    SameCause s u := by
  have hd : u.die = t.die := g.same .die hdie
  have ht : u.thm = t.thm := g.same .thm hthm
  exact ⟨hd ▸ h.cause, hd ▸ h.kind, ht ▸ h.hold⟩

/-- One of two such steps. -/
theorem ite {c : Prop} [Decidable c] (h : SameCause s t) (g : SameCause s u) : SameCause s (if c then t else u) := by
  split
  · exact h
  · exact g

/-- A run of such steps. -/
theorem foldl {α : Type} {f : State → α → State} {l : List α} (hf : ∀ t a, SameCause s t → SameCause s (f t a)) (h : SameCause s t) :
    SameCause s (l.foldl f t) := by
  induction l generalizing t with
  | nil => exact h
  | cons a l ih => exact ih (hf t a h)

theorem noteLevel (h : SameCause s t) : SameCause s t.noteLevel := by
  have hnoted (f : Flt) : SameCause s { t with die := { t.die with lastLevel := t.serviceLevel }, flt := f } := ⟨h.cause, h.kind, h.hold⟩
  exact ite h ((ite (hnoted t.flt) (hnoted _)).only (Posts.postAs ..))

theorem judgeRetention (h : SameCause s t) : SameCause s t.judgeRetention := by
  have hdie := t.judgeRetention_die
  have hthm : t.judgeRetention.thm = t.thm := t.judgeRetention_only.same .thm (by decide)
  exact ⟨hdie ▸ h.cause, hdie ▸ h.kind, hthm ▸ h.hold⟩

theorem raise {src detail : Nat} (h : SameCause s t) : SameCause s (t.raise src detail) := h.only (State.raise_only ..)

theorem pulseTiers (h : SameCause s t) : SameCause s t.pulseTiers :=
  foldl (fun u k h => ite (h.only (u.resetTier_only k)) h) h

theorem loadRepairs (h : SameCause s t) : SameCause s t.loadRepairs := by
  refine foldl (fun u e h => ite ?_ (h.only (State.updChan_only ..))) (h.only (ps := [.tch]) (by simp [Only]))
  unfold State.loadSub
  split
  · exact h.only (ps := [.tch]) (by simp [Only])
  · exact h

theorem standAgain (h : SameCause s t) : SameCause s t.standAgain := by
  unfold State.standAgain
  extract_lets s₁ s₂ s₃ s₄
  have h₁ : SameCause s s₁ := ite h.raise h
  have h₂ : SameCause s s₂ := ite h₁.raise h₁
  have h₃ : SameCause s s₃ := ite h₂.raise h₂
  have h₄ : SameCause s s₄ := ite h₃.raise h₃
  exact ite h₄.raise h₄

theorem setCfg {n : RegName} {i : Nat} {w : Word} (h : SameCause s t) : SameCause s (t.setCfg n i w) := ⟨h.cause, h.kind, h.hold⟩

theorem loadOtpRegs (h : SameCause s t) : SameCause s t.loadOtpRegs := by
  unfold State.loadOtpRegs
  extract_lets s₁ s₂ s₃ s₄ s₅
  have h₄ : SameCause s s₄ := foldl (fun _ _ h => h.setCfg) h.setCfg.setCfg.setCfg
  have h₅ : SameCause s s₅ := foldl (fun _ _ h => ⟨h.cause, h.kind, h.hold⟩) ⟨h₄.cause, h₄.kind, h₄.hold⟩
  exact h₅.setCfg

theorem queueOpenings (h : SameCause s t) : SameCause s t.queueOpenings := h.only (ps := [.pwr]) (by simp [Only, State.queueOpenings])

theorem irregular (h : SameCause s t) : SameCause s t.irregular := h.only (ps := [.tim]) (by simp [Only, State.irregular])

theorem release (h : SameCause s t) : SameCause s t.release := by
  unfold State.release
  extract_lets s₁ _ s₂ _ s₃
  have h₁ : SameCause s s₁ := h.standAgain
  have h₂ : SameCause s s₂ := ⟨h₁.cause, h₁.kind, h₁.hold⟩
  have h₃ : SameCause s s₃ := ⟨h₂.cause, h₂.kind, h₂.hold⟩
  exact noteLevel (only h₃.loadOtpRegs.queueOpenings (State.retarget_only _))

theorem seedGen (h : SameCause s t) : SameCause s t.seedGen := ite ⟨h.cause, h.kind, h.hold⟩ ⟨h.cause, h.kind, h.hold⟩

theorem startFirmware (h : SameCause s t) : SameCause s t.startFirmware := by
  have h₁ : SameCause s t.seedGen := h.seedGen
  exact noteLevel (foldl (fun u _ h => h.only (u.otpAsk_only _)) ⟨h₁.cause, h₁.kind, h₁.hold⟩)

theorem readImage (h : SameCause s t) : SameCause s t.readImage := ⟨h.cause, h.kind, h.hold⟩

theorem moveIslands (h : SameCause s t) : SameCause s t.moveIslands := (h.only (Posts.power t _)).only (Posts.isleTick _)

end SameCause

section
variable {s : State}

theorem State.warmReset_clickHold (cause : Nat) (h : s.die.mode = .clickHold) : s.warmReset cause = s.warmRestart cause := by
  simp [State.warmReset, h]

/-- The fields that a warm restart begins with (R427). -/
def State.restartFields (s : State) (cause : Nat) : State := (s.resetBegin .warm cause).resetFields true

/-- Once its fields stand, a warm restart keeps what it is known by. -/
theorem State.warmRestart_cause (s : State) (cause : Nat) : SameCause (s.restartFields cause) (s.warmRestart cause) := by
  have hfields : SameCause (s.restartFields cause) (s.restartFields cause).judgeRetention := (SameCause.refl _).judgeRetention
  unfold State.warmRestart
  rw [← State.restartFields]
  generalize s.restartFields cause = b at hfields ⊢
  extract_lets _ _ s₁ s₂ s₃ _ _ _ s₄ _ s₅ _ s₆
  have h₂ : SameCause b s₂ := .ite (hfields.only (State.goOrphan_only _)) (.ite hfields.irregular hfields)
  have h₃ : SameCause b s₃ := .loadRepairs (.only h₂.pulseTiers (State.newChallenge_only _))
  have h₄ : SameCause b s₄ := .moveIslands (h₃.only (Posts.power _ _))
  clear_value s₄
  have h₅ : SameCause b s₅ := h₄.release
  have h₆ : SameCause b s₆ := ⟨h₅.cause, h₅.kind, h₅.hold⟩
  exact .ite ⟨h₄.cause, h₄.kind, h₄.hold⟩ (.ite h₆ (.ite h₆.startFirmware h₆.readImage))

theorem State.restartFields_cause (s : State) (cause : Nat) : (s.restartFields cause).die.cause = BitVec.ofNat 4 cause ∧
    (s.restartFields cause).die.kind = .warm ∧ (s.restartFields cause).thm.hold = false :=
  ⟨rfl, rfl, rfl⟩

end

end Sys2Proof.Machine
end

section
/-! PROOF. Rails and the Click (O41). -/

namespace Sys2Proof.Proofs
open Sys2Proof.Machine Sys2Proof.Safety

section
variable {s : State}

/-! ## Rails (R392, R418) -/

/-- A tier supply that has fallen, noted. -/
def supplyNoted (s : State) (r : Rail) : State :=
  { s with die := { s.die with uvT := s.die.uvT || r = .vddT, uvPp := s.die.uvPp || r = .vppT } }

theorem undervoltage_supply {r : Rail} {d : BitVec 64} (h : (r = .vddT ∧ d = 1) ∨ (r = .vppT ∧ d = 2)) :
    exec (.railUndervoltage r) s = .next ((supplyNoted s r).supplyFell.raise 89 d.toNat) := by
  obtain ⟨rfl, rfl⟩ | ⟨rfl, rfl⟩ := h <;> simp [exec, execRailUndervoltage, supplyNoted]

theorem supply_falls {r : Rail} {d : BitVec 64} (h : (r = .vddT ∧ d = 1) ∨ (r = .vppT ∧ d = 2)) : ∃ u : State,
    exec (.railUndervoltage r) s = .next u ∧ u.tim = s.tim ∧ u.otp = s.otp ∧ u.cal = s.cal ∧ u.thm = s.thm ∧ u.dbg = s.dbg ∧
    u.tw = s.tw ∧ u.bst = s.bst ∧ u.flt.lines.getLast? = some ⟨89, d⟩ ∧
    (∀ t ∈ s.poweredTiers, ∀ q, q < 256 → Tab.wf 0 s.pcd.rdy = true → u.ready q t = false) ∧
    u.die.uvT = (s.die.uvT || r = .vddT) ∧ u.die.uvPp = (s.die.uvPp || r = .vppT) := by
  have hnoted : Only [.die] s (supplyNoted s r) := by simp [Only, supplyNoted]
  have hlost := Loses.supplyFell (supplyNoted s r)
  have honly : Only (.flt :: supplyParts) s ((supplyNoted s r).supplyFell.raise 89 d.toNat) :=
    ((hnoted.mono (by decide)).andThen hlost.only).andThen (State.raise_only ..)
  refine ⟨_, undervoltage_supply h, honly.same .tim (by decide), honly.same .otp (by decide), honly.same .cal (by decide),
    honly.same .thm (by decide), honly.same .dbg (by decide), honly.same .tw (by decide), honly.same .bst (by decide), ?_,
    fun t ht q _ hwf => (supplyNoted s r).supplyFell_unready ht q hwf, hlost.rails.1, hlost.rails.2⟩
  rw [State.raise_last, BitVec.ofNat_toNat, BitVec.setWidth_eq]
  rfl

theorem link_rail_falls : ∃ u : State,
    exec (.railUndervoltage .lnk) s = .next (u.portsDown false |>.raise 87 1) ∧ Only [.die] s u ∧ u.die.uvLnk = true :=
  ⟨{ s with die := { s.die with uvLnk := true } }, rfl, by simp [Only], rfl⟩

/-! ## The restart (R380, R381) -/

theorem click_holds (h : s.die.mode ≠ .clickHold ∨ s.thm.hold = false ∨ s.thm.noRestart = true ∨ s.now < s.thm.latchAt + 10000000 ∨
    ∃ k ∈ s.sources, s.thmLimit 24 ≤ s.sourceTemp k) : exec .clickRestart s = .next s := by
  refine if_pos ?_
  obtain h | h | h | h | ⟨k, hk, hhot⟩ := h
  · exact .inl h
  · exact .inr (.inl (by simp [h]))
  · exact .inr (.inr (.inl h))
  · exact .inr (.inr (.inr (.inr h)))
  · exact .inr (.inr (.inr (.inl (by simpa using ⟨k, hk, hhot⟩))))

theorem click_restarts (hmode : s.die.mode = .clickHold) (hhold : s.thm.hold = true) (hmore : s.thm.noRestart = false)
    (hlate : s.thm.latchAt + 10000000 ≤ s.now) (hcool : ∀ k ∈ s.sources, s.sourceTemp k < s.thmLimit 24) :
    exec .clickRestart s =
      .next ((s.warmReset causeClick).postEvent 0x0008 0 3 (BitVec.ofNat 32 s.thm.hotSrc) s.thm.clickTime.toNat) := by
  refine if_neg ?_
  simpa [hmode, hhold, hmore, hlate] using hcool

/-- The restarted die tells the Click for its cause (R433). -/
theorem click_restarted (hmode : s.die.mode = .clickHold) (code sqid sev : Nat) (res0 : Word) (res1 : Nat) :
    ((s.warmReset causeClick).postEvent code sqid sev res0 res1).die.cause = 9 ∧
    ((s.warmReset causeClick).postEvent code sqid sev res0 res1).die.kind = .warm ∧
    ((s.warmReset causeClick).postEvent code sqid sev res0 res1).thm.hold = false := by
  obtain ⟨hcause, hkind, hhold⟩ := s.restartFields_cause causeClick
  have hsame := (s.warmRestart_cause causeClick).only (Posts.postEvent _ code sqid sev res0 res1)
  rw [State.warmReset_clickHold _ hmode]
  exact ⟨hsame.cause.trans hcause, hsame.kind.trans hkind, hsame.hold.trans hhold⟩

/-! ## A tier too late in self-refresh (R417, R418) -/

theorem overrun_none {t : BitVec 5} (h : s.die.goodAtCause.getLsbD t.toNat = false ∨ s.die.retain.getLsbD t.toNat = false ∨
    s.die.dataService = true) : exec (.quiesceOverrun t) s = .next s := by
  refine if_pos ?_
  simpa [bitOf] using h

/-- A tier that is good and no longer retained leaves the judgement of R418 false. -/
theorem allRetained_dropped {t : Nat} {r : Word} (ht : t < 32) (hgood : s.die.goodAtCause.getLsbD t = true)
    (hr : s.die.retain = r &&& ~~~ ((1 : Word) <<< t)) : s.allRetained = false := by
  refine Bool.eq_false_iff.mpr fun hall => ?_
  have hbit := congrArg (fun w : Word => w.getLsbD t) (eq_of_beq hall)
  rw [hr] at hbit
  simp [ht] at hbit
  simp [← BitVec.getLsbD_eq_getElem, hgood] at hbit

/-- What the loss of one good tier leaves, while the die waits for it. -/
theorem unwaited_lost {t : Nat} (ht : t < 32) (hgood : s.die.goodAtCause.getLsbD t = true) :
    Only [.die, .regs, .pcd, .pwr] s (s.unwaited t) ∧ (s.unwaited t).die.retain = s.die.retain &&& ~~~ ((1 : Word) <<< t) ∧
    (s.unwaited t).die.tierRetained = false ∧ (s.unwaited t).pcd.rdy = [] ∧ (s.unwaited t).pcd.windows = [] ∧
    (s.unwaited t).pwr.restart = s.pwr.restart.erase t := by
  obtain ⟨u, hu⟩ : ∃ u : State, u = { s with die := { s.die with retain := s.die.retain &&& ~~~ ((1 : Word) <<< t) } } := ⟨_, rfl⟩
  have hall : u.allRetained = false := allRetained_dropped (r := s.die.retain) ht (hu ▸ hgood) (hu ▸ rfl)
  have hdie : (s.unretain t).die = { u.die with tierRetained := false } := by
    rw [State.unretain, ← hu, State.judgeRetention_die, hall]
  have hpcd : (s.unretain t).pcd.rdy = [] ∧ (s.unretain t).pcd.windows = [] := by
    rw [State.unretain, ← hu, State.judgeRetention_lost hall]
    exact ⟨rfl, rfl⟩
  have honly : Only [.die, .regs, .pcd] s (s.unretain t) := by
    rw [State.unretain, ← hu]
    exact (show Only [.die, .regs, .pcd] s u by simp [Only, hu]).andThen u.judgeRetention_only
  have hpwr : (s.unretain t).pwr = s.pwr := honly.same .pwr (by decide)
  have hgone : Only [.pwr] (s.unretain t) (s.unwaited t) := by simp [Only, State.unwaited]
  refine ⟨(honly.mono (by decide)).andThen hgone, ?_, ?_, hpcd.1, hpcd.2, ?_⟩
  · exact (congrArg Die.retain hdie).trans (by rw [hu])
  · exact congrArg Die.tierRetained hdie
  · exact congrArg (fun p : Pwr => p.restart.erase t) hpwr

/-- And outside the reset hold, where the tier is reset too. -/
theorem waiterFell_lost {t : Nat} (ht : t < 32) (hgood : s.die.goodAtCause.getLsbD t = true) :
    Only [.die, .regs, .tch, .pcd, .pwr] s (s.waiterFell t) ∧ (s.waiterFell t).die.retain = s.die.retain &&& ~~~ ((1 : Word) <<< t) ∧
    (s.waiterFell t).die.tierRetained = false ∧ (s.waiterFell t).pcd.rdy = [] ∧ (s.waiterFell t).pcd.windows = [] ∧
    (s.waiterFell t).pwr.restart = s.pwr.restart.erase t := by
  obtain ⟨honly, hretain, hlost, hrdy, hwindows, hrestart⟩ := unwaited_lost ht hgood
  unfold State.waiterFell
  generalize s.unwaited t = u at *
  split
  · exact ⟨honly.mono (by decide), hretain, hlost, hrdy, hwindows, hrestart⟩
  · have hreset := u.resetTier_only t
    have hdie : (u.resetTier t).die = u.die := hreset.same .die (by decide)
    have hpwr : (u.resetTier t).pwr = u.pwr := hreset.same .pwr (by decide)
    have hpcd := u.resetTier_pcd t
    refine ⟨(honly.mono (by decide)).andThen hreset, (congrArg Die.retain hdie).trans hretain, (congrArg Die.tierRetained hdie).trans hlost,
      ?_, ?_, (congrArg Pwr.restart hpwr).trans hrestart⟩
    · rw [hpcd]
      simp [State.unready, State.loseTier, hrdy, Tab.mapVals]
    · rw [hpcd]
      exact hwindows

theorem overrun_lost {t : BitVec 5} (hgood : s.die.goodAtCause.getLsbD t.toNat = true) (hretain : s.die.retain.getLsbD t.toNat = true)
    (hservice : s.die.dataService = false) : ∃ u : State,
    exec (.quiesceOverrun t) s = .next u ∧ Only [.die, .regs, .tch, .pcd, .pwr, .flt] s u ∧
    u.die.retain = s.die.retain &&& ~~~ ((1 : Word) <<< t.toNat) ∧ u.die.tierRetained = false ∧ u.pcd.rdy = [] ∧ u.pcd.windows = [] ∧
    u.flt.lines.getLast? = some ⟨94, BitVec.ofNat 64 (1 + 256 * t.toNat)⟩ ∧ u.pwr.restart = s.pwr.restart.erase t.toNat := by
  have hexec : exec (.quiesceOverrun t) s = .next ((s.raise 94 (1 + 2 ^ 8 * t.toNat)).waiterFell t.toNat) :=
    if_neg (by simp [bitOf, hgood, hretain, hservice])
  have hraised : Only [.flt] s (s.raise 94 (1 + 2 ^ 8 * t.toNat)) := s.raise_only _ _
  have hlast := s.raise_last 94 (1 + 2 ^ 8 * t.toNat)
  generalize s.raise 94 (1 + 2 ^ 8 * t.toNat) = r at hexec hraised hlast
  have hdie : r.die = s.die := hraised.same .die (by decide)
  have hpwr : r.pwr = s.pwr := hraised.same .pwr (by decide)
  obtain ⟨honly, hret, hlost, hrdy, hwindows, hrestart⟩ := waiterFell_lost (s := r) t.isLt (hdie ▸ hgood)
  have hflt : (r.waiterFell t.toNat).flt = r.flt := honly.same .flt (by decide)
  exact ⟨_, hexec, (hraised.mono (by decide)).andThen honly, hdie ▸ hret, hlost, hrdy, hwindows, hflt ▸ hlast, hpwr ▸ hrestart⟩

end

/-- Settles O41: the rails, the restart from a Click, and the tiers that a reset found too late. -/
theorem railsAndTheClick : Obligations.RailsAndTheClick := by
  unfold Obligations.RailsAndTheClick
  refine ⟨fun s => ⟨rfl, link_rail_falls, fun r d => supply_falls, rfl, rfl, rfl, rfl, rfl, rfl⟩, fun s => ⟨click_holds,
    fun hmode hhold hmore hlate hcool => ?_⟩, fun t s => ⟨overrun_none, overrun_lost⟩⟩
  obtain ⟨hcause, hkind, hended⟩ := click_restarted hmode 0x0008 0 3 (BitVec.ofNat 32 s.thm.hotSrc) s.thm.clickTime.toNat
  exact ⟨_, click_restarts hmode hhold hmore hlate hcool, rfl, hcause, hkind, hended⟩

end Sys2Proof.Proofs
end

section
/-! SUPPORT. A failing crystal, and the trip of a PLL's monitor (R404, R405, R407, R410). -/

namespace Sys2Proof.Machine
open Sys2Proof.Safety

section
variable {s : State}

/-! ## A self-test that a failing clock halts -/

theorem State.bistHalt_only (s : State) : Only [.bst, .pcd] s s.bistHalt := by
  unfold State.bistHalt State.bistResult
  split_ifs <;> simp [Only]

theorem State.bistHalt_idle (hrun : s.bst.state ≠ 1) (hend : s.bst.state ≠ 2) : s.bistHalt = s :=
  (if_neg hend).trans (if_pos hrun)

theorem State.bistHalt_running (h : s.bst.state = 1) : s.bistHalt.bst.state = 0 ∧ s.bistHalt.bst.inSegment = false := by
  simp [State.bistHalt, h]

/-! ## The crystal (R404, R408, R410) -/

/-- The clocks of a die whose crystal has failed. -/
def Clk.xtalLost (c : Clk) : Clk :=
  { c with
    xtalGood := false, onRc := true, hiveOnRc := true, fabA := false, fabB := false, laneLock := 0, tierLock := 0, tripped := [],
    forced := c.forced ||| 1, xtalFails := satInc c.xtalFails 1 }

/-- Both multiplexers on CK_RC, no PLL locked, and the self-test halted. -/
def State.xtalLost (s : State) : State := (({ s with clk := s.clk.xtalLost } : State).raise 79 1).bistHalt

theorem State.xtalLost_only (s : State) : Only [.clk, .flt, .bst, .pcd] s s.xtalLost := by
  have hclk : Only [.clk] s { s with clk := s.clk.xtalLost } := by simp [Only]
  exact ((hclk.mono (by decide)).andThen (State.raise_only _ 79 1)).andThen (State.bistHalt_only _)

theorem State.xtalLost_clk (s : State) : s.xtalLost.clk = s.clk.xtalLost :=
  (State.bistHalt_only (({ s with clk := s.clk.xtalLost } : State).raise 79 1)).same .clk (by decide)

theorem State.xtalLost_flt (s : State) : s.xtalLost.flt.lines.getLast? = some ⟨79, 1⟩ := by
  have hflt : s.xtalLost.flt = (({ s with clk := s.clk.xtalLost } : State).raise 79 1).flt := (State.bistHalt_only _).same .flt (by decide)
  rw [hflt, State.raise_last]
  rfl

theorem State.xtalLost_idle (hrun : s.bst.state ≠ 1) (hend : s.bst.state ≠ 2) : s.xtalLost.bst = s.bst ∧ s.xtalLost.pcd = s.pcd := by
  unfold State.xtalLost
  rw [State.bistHalt_idle (by exact hrun) (by exact hend)]
  exact ⟨rfl, rfl⟩

theorem State.xtalLost_running (h : s.bst.state = 1) : s.xtalLost.bst.state = 0 ∧ s.xtalLost.bst.inSegment = false :=
  State.bistHalt_running (by exact h)

/-- A die in P0, woken where it was in P4. -/
def State.wokenToP0 (s : State) : State := (if s.pwr.state = 4 ∧ !s.pwr.exiting then s.pulseWake else s).setPower 0 5

theorem State.wokenToP0_state (s : State) : s.wokenToP0.pwr.state = 0 := by
  unfold State.wokenToP0
  rw [State.setPower_reached]
  rfl

/-- A running die whose work has ended, in P0. -/
def State.xtalStopped (s : State) : State := ((s.portsDown false).goOrphan.stopRings.ballastOn).endBursts.restAll.wokenToP0

/-- Its management floor, where it waits for the crystal. -/
def State.xtalParked (s : State) : State :=
  { s with
    clk := { s.clk with parked := true, back := 0 }
    pwr := { s.moveIslands.pwr with exiting := false, restart := [], restartAt := none, gateA := true, gateB := true }
    rng := { s.rng with cmds := [] }
    pcd := { s.pcd with merge := [] } }

theorem State.xtalParked_state (s : State) : s.xtalParked.pwr.state = s.pwr.state := by
  obtain ⟨g, x, y, hpwr⟩ := s.moveIslands_pwr
  exact (congrArg Pwr.state hpwr).trans rfl

theorem State.xtalParked_floor (s : State) : s.xtalParked.clk.parked = true ∧ s.xtalParked.rng.cmds = [] ∧ s.xtalParked.pwr.restart = [] ∧
    s.xtalParked.pwr.exiting = false ∧ s.xtalParked.pwr.gateA = true ∧ s.xtalParked.pwr.gateB = true ∧ s.xtalParked.pcd.merge = [] :=
  ⟨rfl, rfl, rfl, rfl, rfl, rfl, rfl⟩

theorem State.xtalStopped_state (s : State) : s.xtalStopped.pwr.state = 0 := by
  unfold State.xtalStopped
  rw [State.wokenToP0_state]

theorem State.xtalLost_die (s : State) : s.xtalLost.die = s.die := s.xtalLost_only.same .die (by decide)

theorem State.xtalFailed_elsewhere (h : s.die.mode ≠ .running) : s.xtalFailed = (s.xtalLost.portsDown false).goOrphan :=
  if_pos (show s.xtalLost.die.mode ≠ .running from s.xtalLost_die ▸ h)

theorem State.xtalFailed_running (h : s.die.mode = .running) : s.xtalFailed = s.xtalLost.xtalStopped.xtalParked.noteLevel := by
  have hmode : ¬ s.xtalLost.die.mode ≠ .running := by simpa [s.xtalLost_die] using h
  unfold State.xtalFailed
  extract_lets _ _ _ s₃ s₄ s₅
  have hrest : s₄ = (s.xtalLost.portsDown false).goOrphan.stopRings.ballastOn.endBursts.restAll := rfl
  clear_value s₄
  have hwoken : s₅ = s₄.wokenToP0 := rfl
  clear_value s₅
  have hstopped : s₅ = s.xtalLost.xtalStopped := by rw [hwoken, hrest, State.xtalStopped]
  refine (if_neg hmode).trans ?_
  rw [← hstopped]
  rfl

/-! ## CK_RC (R409) -/

/-- The die in the hold of a CK_RC that fails, every port down. -/
theorem State.rcTripped_only (s : State) : Only [.die, .bud, .lnk, .flt, .otp, .free] s s.rcTripped := by
  have hballast : Only [.die, .bud] s s.ballastOn := by simp [Only, State.ballastOn]
  have hheld (t : State) (x : Die) (y : Lnk) : Only [.die, .lnk] t { t with die := x, lnk := y } := by simp [Only]
  exact ((hballast.mono (by decide)).andThen (State.otpInterrupt_only _)).andThen (hheld _ _ _)

theorem State.rcTripped_die (s : State) : s.rcTripped.die.mode = .rcHold ∧ s.rcTripped.die.faultHold = true ∧ s.rcTripped.die.mgmt = false :=
  ⟨rfl, rfl, rfl⟩

theorem State.faultN_held (h : s.die.faultHold = true) : s.faultN = true := by simp [State.faultN, h]

/-! ## Locks (R405, R407) -/

theorem State.pllLock_stays {k : Nat} (h : s.clk.xtalGood = false ∨ (k < 34 ∧ 3 ≤ s.pwr.state.toNat ∧ s.pwr.exiting = false) ∨ 38 ≤ k ∨
    s.die.mode = .off) : s.pllLock k = s := if_pos (by simpa using h)

/-- A PLL that locks is no longer noted as tripped. -/
def State.untripped (s : State) (k : Nat) : State := { s with clk := { s.clk with tripped := s.clk.tripped.erase k } }

/-- A tier's PLL that has locked. -/
def State.tierLocked (s : State) (t : Nat) : State := { s with clk := { s.clk with tierLock := s.clk.tierLock ||| ((1 : Word) <<< t) } }

theorem State.tierLocked_locked (s : State) {t : Nat} (ht : t < 32) : (s.tierLocked t).clk.tierLock.getLsbD t = true := by
  simp [State.tierLocked, ht]

theorem State.pllLock_locks {k : Nat} (hgood : s.clk.xtalGood = true) (hon : s.die.mode ≠ .off) (hk : k < 38)
    (hrun : 34 ≤ k ∨ s.pwr.state.toNat < 3 ∨ s.pwr.exiting = true) : s.pllLock k =
    if k = 0 then State.restartsDone
      (State.ungate { s.untripped k with clk := { (s.untripped k).clk with fabA := true, hiveOnRc := false } })
    else if k = 1 then State.restartsDone (State.ungate { s.untripped k with clk := { (s.untripped k).clk with fabB := true } })
    else if k < 34 then ((s.untripped k).tierLocked (k - 2)).judgeLocked (k - 2)
    else { s.untripped k with clk := { (s.untripped k).clk with
      laneLock := (s.untripped k).clk.laneLock ||| ((1 : BitVec 4) <<< (k - 34)) } } := by
  refine if_neg ?_
  have hgone : ¬ 38 ≤ k := Nat.not_le.mpr hk
  have hruns : ¬ (k < 34 ∧ 3 ≤ s.pwr.state.toNat ∧ s.pwr.exiting = false) := by
    rintro ⟨hlow, hdeep, hstays⟩
    obtain h | h | h := hrun
    · exact absurd hlow (Nat.not_lt.mpr h)
    · exact absurd hdeep (Nat.not_le.mpr h)
    · exact absurd (h.symm.trans hstays) (by decide)
  simpa [hgood, hon, hgone] using hruns

theorem State.judgeLocked_waits {t : Nat} (h : (s.tier t).changing = false ∨ (s.tier t).selfRef = false ∨ s.loadFits tierLoad = false ∨
    s.srxSpaced = false) : s.judgeLocked t = s := by
  refine if_neg ?_
  obtain h | h | h | h := h <;> simp [h]

theorem State.judgeLocked_ends {t : Nat} (hlock : s.clk.tierLock.getLsbD t = true) (hchange : (s.tier t).changing = true)
    (hrest : (s.tier t).selfRef = true) (hfits : s.loadFits tierLoad = true) (hspaced : s.srxSpaced = true) :
    s.judgeLocked t = s.endFreq t := if_pos ⟨hchange, hrest, hlock, hfits, hspaced⟩

/-! ## The monitors -/

/-- A PLL that has lost its lock. -/
def State.pllUnlocked (s : State) (k : Nat) : State :=
  if k = 0 then { s with clk := { s.clk with fabA := false } }
  else if k = 1 then { s with clk := { s.clk with fabB := false } }
  else if k < 34 then { s with clk := { s.clk with tierLock := s.clk.tierLock &&& ~~~ ((1 : Word) <<< (k - 2)) } }
  else { s with clk := { s.clk with laneLock := s.clk.laneLock &&& ~~~ ((1 : BitVec 4) <<< (k - 34)) } }

theorem State.pllUnlocked_only (s : State) (k : Nat) : Only [.clk] s (s.pllUnlocked k) := by
  unfold State.pllUnlocked
  split_ifs <;> simp [Only]

theorem State.pllUnlocked_tripped (s : State) (k : Nat) : (s.pllUnlocked k).clk.tripped = s.clk.tripped := by
  unfold State.pllUnlocked
  split_ifs <;> rfl

/-- A lock bit that is taken away. -/
theorem getLsbD_clear {w : Nat} (x : BitVec w) {a b : Nat} (hb : b < w) :
    (x &&& ~~~ ((1 : BitVec w) <<< a)).getLsbD b = (x.getLsbD b && decide (b ≠ a)) := by
  have hbit : ((1 : BitVec w) <<< a).getLsbD b = decide (b = a) := by
    have hone : (1 : BitVec w).getLsbD (b - a) = decide (b - a = 0) := by
      simp [BitVec.getLsbD_one, Nat.zero_lt_of_lt hb]
    rw [BitVec.getLsbD_shiftLeft, hone, decide_eq_true hb]
    rcases Nat.lt_trichotomy b a with h | h | h
    · simp [h, h.ne]
    · simp [h]
    · simp [h.le, h.ne']
      omega
  rw [BitVec.getLsbD_and, BitVec.getLsbD_not, hbit, decide_eq_true hb]
  simp

/-- The other PLLs keep their locks. -/
theorem State.pllUnlocked_locked {k j : Nat} (hk : k < 38) (hj : j < 38) :
    (s.pllUnlocked k).pllLocked j = (s.pllLocked j && decide (j ≠ k)) := by
  unfold State.pllUnlocked
  split_ifs with h0 h1 h34
  · subst h0
    by_cases hj0 : j = 0 <;> simp [State.pllLocked, hj0]
  · subst h1
    by_cases hj1 : j = 1 <;> simp [State.pllLocked, hj1]
  · by_cases hin : 2 ≤ j ∧ j < 34
    · obtain ⟨h2, hlt⟩ := hin
      have hbit := getLsbD_clear s.clk.tierLock (a := k - 2) (b := j - 2) (by omega)
      simp only [State.pllLocked, bitOf, hlt, show j ≠ 0 by omega, show j ≠ 1 by omega, if_true, if_false, hbit]
      congr 2
      exact propext (by omega)
    · rw [decide_eq_true (show j ≠ k by omega), Bool.and_true]
      unfold State.pllLocked
      split_ifs
      · rfl
      · rfl
      · omega
      · rfl
  · by_cases hin : 34 ≤ j
    · have hbit := getLsbD_clear s.clk.laneLock (a := k - 34) (b := j - 34) (by omega)
      simp only [State.pllLocked, show j ≠ 0 by omega, show j ≠ 1 by omega, show ¬ j < 34 by omega, if_false, hbit]
      congr 2
      exact propext (by omega)
    · rw [decide_eq_true (show j ≠ k by omega), Bool.and_true]
      unfold State.pllLocked
      split_ifs
      · rfl
      · rfl
      · rfl
      · omega

theorem State.lt_of_pllLocked {k : Nat} (h : s.pllLocked k = true) : k < 38 := by
  by_contra hk
  have hlane : s.clk.laneLock.getLsbD (k - 34) = false := BitVec.getLsbD_of_ge _ _ (by omega)
  simp [State.pllLocked, show k ≠ 0 by omega, show k ≠ 1 by omega, show ¬ k < 34 by omega, hlane] at h

/-- A PLL noted as tripped. -/
def State.notedTripped (s : State) (k : Nat) : State := { s with clk := { s.clk with tripped := insertSorted k s.clk.tripped } }

/-- A PLL whose monitor has tripped: on drift it keeps its lock. -/
def State.pllTripped (s : State) (k : Nat) (drift : Bool) : State :=
  if drift then s.notedTripped k else (s.notedTripped k).pllUnlocked k

theorem State.pllTripped_only (s : State) (k : Nat) (drift : Bool) : Only [.clk] s (s.pllTripped k drift) := by
  have hnoted : Only [.clk] s (s.notedTripped k) := by simp [Only, State.notedTripped]
  cases drift
  · exact hnoted.andThen (State.pllUnlocked_only _ k)
  · exact hnoted

theorem State.pllTripped_tripped (s : State) (k : Nat) (drift : Bool) :
    (s.pllTripped k drift).clk.tripped = insertSorted k s.clk.tripped := by
  cases drift
  · exact State.pllUnlocked_tripped (s.notedTripped k) k
  · rfl

theorem State.pllTripped_locked {k j : Nat} (drift : Bool) (hk : k < 38) (hj : j < 38) :
    (s.pllTripped k drift).pllLocked j = (s.pllLocked j && (drift || decide (j ≠ k))) := by
  cases drift
  · exact State.pllUnlocked_locked (s := s.notedTripped k) hk hj
  · exact (Bool.and_true _).symm

end

end Sys2Proof.Machine
end

section
/-! PROOF. The crystal, CK_RC and the PLLs (O42). -/

namespace Sys2Proof.Proofs
open Sys2Proof.Machine Sys2Proof.Safety

section
variable {s : State}

/-! ## The crystal (R404, R408, R410) -/

theorem crystal_good_none (h : s.clocksRun = false ∨ s.clk.xtalGood = true) : exec .xtalGood s = .next s := if_pos (by simpa using h)

theorem crystal_good (hrun : s.clocksRun = true) (hbad : s.clk.xtalGood = false) : exec .xtalGood s = .next { s with clk := { s.clk with
    xtalGood := true, xtalEver := true, onRc := false, parked := false, back := if s.clk.parked then 1 else s.clk.back } } :=
  if_neg (by simp [hrun, hbad])

theorem crystal_relocks (hback : s.clk.back = 1) (h : s.clk.fabA = false ∨ s.clk.fabB = false) : s.xtalBack = s := by
  obtain h | h := h <;> simp [State.xtalBack, hback, h]

theorem crystal_relocked (hback : s.clk.back = 1) (hA : s.clk.fabA = true) (hB : s.clk.fabB = true) :
    s.xtalBack = { s with clk := { s.clk with back := 2 } }.moveIslands := by simp [State.xtalBack, hback, hA, hB]

theorem crystal_reopened (hback : s.clk.back = 2) (hisles : s.islesDone = true) : s.xtalBack = { s with
    clk := { s.clk with back := 3 }, pwr := { s.pwr with restart := s.parkedTiers, restartAt := some s.now } } := by
  simp [State.xtalBack, hback, hisles]

theorem crystal_restarted (hback : s.clk.back = 3) (hdone : s.pwr.restart = []) : s.xtalBack = { s with
    clk := { s.clk with back := 0 }, cal := { s.cal with due := List.range 36 } } := by
  simp [State.xtalBack, hback, hdone, State.allDue, show calItems = List.range 36 from rfl]

theorem crystal_late (hrun : s.clocksRun = true) (hbad : s.clk.xtalGood = false) (hnever : s.clk.xtalEver = false) :
    exec .xtalTimeout s = .next (s.raise 77 1) := congrArg _ (if_pos (by simp [hrun, hbad, hnever]))

theorem crystal_late_none (h : s.clocksRun = false ∨ s.clk.xtalGood = true ∨ s.clk.xtalEver = true) : exec .xtalTimeout s = .next s := by
  refine congrArg _ (if_neg ?_)
  obtain h | h | h := h <;> simp [h]

theorem crystal_fails_none (h : s.clocksRun = false ∨ s.clk.xtalGood = false) : exec .xtalFail s = .next s :=
  congrArg _ (if_pos (by simpa using h))

theorem crystal_fails (hrun : s.clocksRun = true) (hgood : s.clk.xtalGood = true) : exec .xtalFail s = .next (s.xtalFailed.raise 77 2) :=
  congrArg _ (if_neg (by simp [hrun, hgood]))

theorem crystal_failed (hrun : s.clocksRun = true) (hgood : s.clk.xtalGood = true) : ∃ u v : State, Only [.clk, .flt, .bst, .pcd] s u ∧
    u.clk = { s.clk with
      xtalGood := false, onRc := true, hiveOnRc := true, fabA := false, fabB := false, laneLock := 0, tierLock := 0, tripped := [],
      forced := s.clk.forced ||| 1, xtalFails := satInc s.clk.xtalFails 1 } ∧
    (∃ l ∈ u.flt.lines, l.src = 79 ∧ l.detail = 1) ∧
    (s.bst.state ≠ 1 → s.bst.state ≠ 2 → u.bst = s.bst ∧ u.pcd = s.pcd) ∧ (s.bst.state = 1 → u.bst.state = 0 ∧ u.bst.inSegment = false) ∧
    (s.die.mode ≠ .running → exec .xtalFail s = .next ((u.portsDown false).goOrphan.raise 77 2)) ∧
    (s.die.mode = .running → exec .xtalFail s = .next (v.noteLevel.raise 77 2) ∧ v.clk.parked = true ∧ v.rng.cmds = [] ∧
      v.pwr.restart = [] ∧ v.pwr.state = 0 ∧ v.pwr.exiting = false ∧ v.pwr.gateA = true ∧ v.pwr.gateB = true ∧ v.pcd.merge = []) := by
  obtain ⟨hparked, hcmds, hrestart, hexit, hA, hB, hmerge⟩ := s.xtalLost.xtalStopped.xtalParked_floor
  have hstate := s.xtalLost.xtalStopped.xtalParked_state.trans s.xtalLost.xtalStopped_state
  refine ⟨s.xtalLost, s.xtalLost.xtalStopped.xtalParked, s.xtalLost_only, s.xtalLost_clk,
    ⟨_, List.mem_of_getLast? s.xtalLost_flt, rfl, rfl⟩, State.xtalLost_idle, State.xtalLost_running, fun hmode => ?_, fun hmode =>
    ⟨?_, hparked, hcmds, hrestart, hstate, hexit, hA, hB, hmerge⟩⟩
  · rw [crystal_fails hrun hgood, State.xtalFailed_elsewhere hmode]
  · rw [crystal_fails hrun hgood, State.xtalFailed_running hmode]

/-! ## CK_RC (R409) -/

theorem ckRc_none (hrun : s.clocksRun = false) (h : s.die.mode ≠ .off ∨ s.die.rcReady = false) : exec .rcWatchTrip s = .next s := by
  refine congrArg _ (if_pos ?_)
  obtain h | h := h <;> simp [hrun, h]

theorem ckRc_fails (h : s.clocksRun = true ∨ (s.die.mode = .off ∧ s.die.rcReady = true)) : ∃ t : State,
    exec .rcWatchTrip s = .next t ∧ t.die.mode = .rcHold ∧ t.faultN = true ∧ t.die.mgmt = false ∧
    t.flt.lines.getLast? = some ⟨80, 1⟩ ∧ Only [.die, .bud, .lnk, .flt, .otp, .free] s t := by
  obtain ⟨hmode, hhold, hmgmt⟩ := s.rcTripped_die
  have hexec : exec .rcWatchTrip s = .next (s.rcTripped.raise 80 1) := by
    refine congrArg _ (if_neg ?_)
    obtain h | ⟨hoff, hready⟩ := h
    · simp [h]
    · simp [hoff, hready]
  exact ⟨_, hexec, hmode, State.faultN_held hhold, hmgmt, State.raise_last .., s.rcTripped_only.andThen (State.raise_only ..)⟩

/-! ## Locks (R405, R407) -/

theorem lock_stays {k : BitVec 6} (h : s.clk.xtalGood = false ∨ (k.toNat < 34 ∧ 3 ≤ s.pwr.state.toNat ∧ s.pwr.exiting = false) ∨
    38 ≤ k.toNat ∨ s.die.mode = .off) : exec (.pllLock k) s = .next s.resume := by
  have hexec : exec (.pllLock k) s = .next (s.pllLock k.toNat).resume := rfl
  rw [hexec, State.pllLock_stays h]

section
variable (hgood : s.clk.xtalGood = true) (hon : s.die.mode ≠ .off)
include hgood hon

theorem lock_fabric (hrun : s.pwr.state.toNat < 3 ∨ s.pwr.exiting = true) :
    exec (.pllLock 0) s = .next { s with clk := { s.clk with
      fabA := true, hiveOnRc := false, tripped := s.clk.tripped.erase 0 } }.ungate.restartsDone.resume ∧
    exec (.pllLock 1) s = .next
      { s with clk := { s.clk with fabB := true, tripped := s.clk.tripped.erase 1 } }.ungate.restartsDone.resume :=
  ⟨congrArg (fun t : State => Host.Outcome.next t.resume) (State.pllLock_locks (k := 0) hgood hon (by decide) (.inr hrun)),
    congrArg (fun t : State => Host.Outcome.next t.resume) (State.pllLock_locks (k := 1) hgood hon (by decide) (.inr hrun))⟩

theorem lock_tier {k : BitVec 6} {t : Nat} (hk : k.toNat = t + 2) (ht : t < 32) (hrun : s.pwr.state.toNat < 3 ∨ s.pwr.exiting = true) :
    exec (.pllLock k) s = .next (((s.untripped k.toNat).tierLocked t).judgeLocked t).resume := by
  have hlocks := State.pllLock_locks (k := k.toNat) hgood hon (by omega) (.inr hrun)
  rw [if_neg (by omega), if_neg (by omega), if_pos (by omega), show k.toNat - 2 = t by omega] at hlocks
  exact congrArg (fun t : State => Host.Outcome.next t.resume) hlocks

theorem lock_lane {k : BitVec 6} {n : Nat} (hk : k.toNat = n + 34) (hn : n < 4) : exec (.pllLock k) s = .next { s with clk := { s.clk with
    tripped := s.clk.tripped.erase k.toNat, laneLock := s.clk.laneLock ||| (1 : BitVec 4) <<< n } }.resume := by
  have hlocks := State.pllLock_locks (k := k.toNat) hgood hon (by omega) (.inl (by omega))
  rw [if_neg (by omega), if_neg (by omega), if_neg (by omega), show k.toNat - 34 = n by omega] at hlocks
  exact congrArg (fun t : State => Host.Outcome.next t.resume) hlocks

end

/-! ## Monitors and multiplexers -/

theorem monitor_none {k : BitVec 6} {drift : Bool} (h : s.pllLocked k.toNat = false ∨ s.clocksRun = false) :
    exec (.pllMonitorTrip k drift) s = .next s := if_pos (by simpa using h)

theorem monitor_trips {k : BitVec 6} {drift : Bool} (hlock : s.pllLocked k.toNat = true) (hrun : s.clocksRun = true) :
    exec (.pllMonitorTrip k drift) s = .next ((s.pllTripped k.toNat drift).raise 78 ((if drift then 2 else 1) + 2 ^ 8 * k.toNat)) :=
  if_neg (by simp [hlock, hrun])

theorem monitor_tripped {k : BitVec 6} {drift : Bool} (hlock : s.pllLocked k.toNat = true) (hrun : s.clocksRun = true) : ∃ t : State,
    exec (.pllMonitorTrip k drift) s = .next t ∧ Only [.clk, .flt] s t ∧ t.clk.tripped = insertSorted k.toNat s.clk.tripped ∧
    t.flt.lines.getLast? = some ⟨78, BitVec.ofNat 64 ((if drift then 2 else 1) + 256 * k.toNat)⟩ ∧
    (k.toNat < 38 → t.pllLocked k.toNat = drift) ∧ (∀ j, j < 38 → j ≠ k.toNat → t.pllLocked j = s.pllLocked j) := by
  have hk := State.lt_of_pllLocked hlock
  refine ⟨_, monitor_trips hlock hrun, ((s.pllTripped_only _ _).mono (by decide)).andThen (State.raise_only ..), s.pllTripped_tripped _ _,
    State.raise_last .., fun _ => ?_, fun j hj hne => ?_⟩
  · exact (State.pllTripped_locked drift hk hk).trans (by simp [hlock])
  · exact (State.pllTripped_locked drift hk hj).trans (by simp [hne])

theorem mux_none {h : Bool} (hrun : s.clocksRun = false) : exec (.muxForce h) s = .next s := if_pos (by simp [hrun])

theorem mux_forced {h : Bool} (hrun : s.clocksRun = true) : exec (.muxForce h) s = .next ({ s with clk := { s.clk with
    forced := s.clk.forced ||| (if h then 2 else 1) } }.raise 79 (if h then 2 else 1)) := if_neg (by simp [hrun])

end

/-- Settles O42: the crystal, CK_RC, the PLLs' locks and their monitors, and the multiplexers. -/
theorem crystalAndPlls : Obligations.CrystalAndPlls := by
  unfold Obligations.CrystalAndPlls
  refine ⟨fun s => ⟨crystal_good_none, crystal_good, crystal_relocks, crystal_relocked, crystal_reopened, crystal_restarted, crystal_late,
    crystal_late_none, crystal_fails_none, crystal_failed, ckRc_none, ckRc_fails⟩, fun s hgood hon => ⟨fun hrun => ?_, ?_, ?_⟩, ?_,
    fun k drift s => ⟨monitor_none, monitor_tripped⟩, fun h s => ⟨mux_none, mux_forced⟩⟩
  · obtain ⟨hA, hB⟩ := lock_fabric hgood hon hrun
    refine ⟨hA, hB, fun k t hk ht hwait => ?_, fun k t hk ht hchange hrest hfits hspaced => ?_⟩
    · exact (lock_tier hgood hon hk ht hrun).trans (congrArg (fun u : State => Host.Outcome.next u.resume)
        (State.judgeLocked_waits (s := (s.untripped k.toNat).tierLocked t) hwait))
    · exact (lock_tier hgood hon hk ht hrun).trans (congrArg (fun u : State => Host.Outcome.next u.resume)
        (State.judgeLocked_ends (State.tierLocked_locked _ ht) hchange hrest hfits hspaced))
  · exact fun k n hk hn => lock_lane hgood hon hk hn
  · exact fun k hk hdeep hstays => lock_stays (.inr (.inl ⟨hk, hdeep, hstays⟩))
  · rintro k s (hbad | hnone | hoff)
    · exact lock_stays (.inl hbad)
    · exact lock_stays (.inr (.inr (.inl hnone)))
    · exact lock_stays (.inr (.inr (.inr hoff)))

end Sys2Proof.Proofs
end

section
/-! PROOF. The queue of commands: a step runs the front one, and every command completes (O1, O2). -/

namespace Sys2Proof.Proofs
set_option Elab.async false
open Sys2Proof.Machine Sys2Proof.Safety

theorem step_front {c : Instr} {rest : List Instr} {s : State} (h : s.pending = c :: rest) : step s = exec c { s with pending := rest } := by
  simp only [step, h]

theorem step_idle {s : State} (h : s.pending = []) : step s = .next s := by
  simp only [step, h]

/-- Settles O1: the definition of a step, case by case of the queue. -/
theorem stepRunsTheFrontCommand : Obligations.StepRunsTheFrontCommand := by
  unfold Obligations.StepRunsTheFrontCommand
  exact ⟨fun c s => rfl, fun c rest s h => step_front h, fun s h => step_idle h⟩

theorem exec_completes (c : Instr) (s : State) : ∃ t : State, exec c s = .next t ∧ t.pending = s.pending := by
  obtain ⟨t, ht, hkeeps⟩ := Keeps.exec (c := c) (Keeps.refl s)
  exact ⟨t, ht, hkeeps.pending⟩

theorem step_completes (s : State) : ∃ t : State, step s = .next t ∧ t.pending = s.pending.drop 1 := by
  cases h : s.pending with
  | nil => exact ⟨s, step_idle h, h⟩
  | cons c rest =>
    rw [step_front h]
    exact exec_completes c { s with pending := rest }

/-- Settles O2: every operation a command is made of answers a next state and keeps the waiting commands. -/
theorem everyCommandCompletes : Obligations.EveryCommandCompletes := by
  unfold Obligations.EveryCommandCompletes
  refine ⟨exec_completes, fun s => ?_, fun s t hstep => ?_⟩
  · obtain ⟨t, ht, -⟩ := step_completes s
    exact ⟨t, ht⟩
  · obtain ⟨u, hu, hpending⟩ := step_completes s
    cases hstep.symm.trans hu
    exact hpending

end Sys2Proof.Proofs
end

section
/-! SUPPORT. The two maps of the register space (R545, R549): the places of two registers have no address in common. -/

namespace Sys2Proof.Machine
set_option Elab.async false

/-- An address of a place. -/
def Place.Covers (p : Place) (a : Nat) : Prop := ∃ i, i < p.count ∧ p.base + p.stride * i = a

/-- Two places are seen to lie apart: one ends before the other begins, or they interleave with one stride. -/
def Place.apart (p q : Place) : Bool :=
  decide (p.base + p.stride * p.count < q.base + p.stride) || decide (q.base + q.stride * q.count < p.base + q.stride) ||
    (p.stride == q.stride && p.base % p.stride != q.base % q.stride)

theorem Place.not_covers_of_apart {p q : Place} {a : Nat} (h : p.apart q = true) (hc : p.Covers a) :
    ¬ q.Covers a := by
  obtain ⟨i, hi, rfl⟩ := hc
  rintro ⟨j, hj, he⟩
  have hpi : p.stride * i + p.stride ≤ p.stride * p.count := Nat.mul_le_mul_left p.stride (show i + 1 ≤ p.count from hi)
  have hqj : q.stride * j + q.stride ≤ q.stride * q.count := Nat.mul_le_mul_left q.stride (show j + 1 ≤ q.count from hj)
  simp only [Place.apart, Bool.or_eq_true, Bool.and_eq_true, decide_eq_true_eq, beq_iff_eq, bne_iff_ne] at h
  obtain (h | h) | ⟨hs, hne⟩ := h
  · omega
  · omega
  · apply hne
    have := congrArg (· % p.stride) he
    simpa [hs, Nat.add_mul_mod_self_left] using this.symm

theorem Place.instanceAt_eq_some {p : Place} {a i : Nat} (hp : 0 < p.stride) :
    p.instanceAt a = some i ↔ i < p.count ∧ p.base + p.stride * i = a := by
  unfold Place.instanceAt
  constructor
  · intro h
    split at h
    case isTrue hlies =>
      obtain ⟨hbase, hmod, hcount⟩ := hlies
      cases h
      exact ⟨hcount, by rw [Nat.mul_div_cancel' (Nat.dvd_of_mod_eq_zero hmod)]; omega⟩
    case isFalse => cases h
  · rintro ⟨hi, rfl⟩
    rw [Nat.add_sub_cancel_left, Nat.mul_div_cancel_left _ hp, if_pos ⟨Nat.le_add_right _ _, Nat.mul_mod_right _ _, hi⟩]

/-- Every register has a stride. -/
theorem regPlace_stride (n : RegName) : 0 < (regPlace n).stride := by cases n <;> decide

/-- The register that a space gives for an address has that address. -/
theorem locateIn_sound {a : Nat} {l : List RegName} {n : RegName} {i : Nat} (h : locateIn a l = some (n, i)) :
    n ∈ l ∧ i < (regPlace n).count ∧ regAddr n i = a := by
  induction l with
  | nil => cases h
  | cons m l ih =>
    rw [locateIn] at h
    split at h
    case h_1 j hj =>
      cases h
      exact ⟨List.mem_cons_self .., (Place.instanceAt_eq_some (regPlace_stride _)).mp hj⟩
    case h_2 =>
      obtain ⟨hm, hn⟩ := ih h
      exact ⟨List.mem_cons_of_mem _ hm, hn⟩

/-- In a space whose places lie apart, an address of a register finds it. -/
theorem locateIn_regAddr {l : List RegName} (hl : l.Pairwise fun n m => (regPlace n).apart (regPlace m) = true) {n : RegName} {i : Nat}
    (hn : n ∈ l) (hi : i < (regPlace n).count) : locateIn (regAddr n i) l = some (n, i) := by
  have hself := (Place.instanceAt_eq_some (regPlace_stride n)).mpr ⟨hi, rfl⟩
  induction l with
  | nil => cases hn
  | cons m l ih =>
    obtain ⟨hm, hl⟩ := List.pairwise_cons.mp hl
    rw [locateIn]
    obtain rfl | hn := List.mem_cons.mp hn
    · rw [regAddr, hself]
    · have hnone : (regPlace m).instanceAt (regAddr n i) = none := by
        refine Option.eq_none_iff_forall_ne_some.mpr fun j hj => ?_
        exact Place.not_covers_of_apart (hm n hn)
          ⟨j, (Place.instanceAt_eq_some (regPlace_stride m)).mp hj⟩ ⟨i, hi, rfl⟩
      rw [hnone]
      exact ih hl hn

theorem directRegs_apart : directRegs.Pairwise fun n m => (regPlace n).apart (regPlace m) = true := by decide +kernel
theorem indirectRegs_apart : indirectRegs.Pairwise fun n m => (regPlace n).apart (regPlace m) = true := by decide +kernel

theorem mem_directRegs {n : RegName} : n ∈ directRegs ↔ (regPlace n).ind = false := by cases n <;> decide
theorem mem_indirectRegs {n : RegName} : n ∈ indirectRegs ↔ (regPlace n).ind = true := by cases n <;> decide

/-- A direct register begins at a multiple of 4, and so do its instances. -/
theorem regPlace_aligned {n : RegName} (h : (regPlace n).ind = false) : (regPlace n).base % 4 = 0 ∧ (regPlace n).stride % 4 = 0 ∧
    (regPlace n).base + (regPlace n).stride * (regPlace n).count ≤ 0x10000 := by
  revert h
  cases n <;> decide

theorem regAddr_aligned {n : RegName} {i : Nat} (h : (regPlace n).ind = false) : regAddr n i % 4 = 0 := by
  obtain ⟨hbase, hstride, -⟩ := regPlace_aligned h
  rw [regAddr, Nat.add_mod, Nat.mul_mod, hbase, hstride]
  simp

theorem regAddr_direct_lt {n : RegName} {i : Nat} (h : (regPlace n).ind = false) (hi : i < (regPlace n).count) : regAddr n i < 0x10000 := by
  obtain ⟨-, -, htop⟩ := regPlace_aligned h
  have := Nat.mul_lt_mul_of_pos_left hi (regPlace_stride n)
  unfold regAddr
  omega

theorem locateDirect_regAddr {n : RegName} {i b : Nat} (h : (regPlace n).ind = false) (hi : i < (regPlace n).count) (hb : b < 4) :
    locateDirect (regAddr n i + b) = some (n, i) := by
  have ha := regAddr_aligned (i := i) h
  rw [locateDirect, show (regAddr n i + b) / 4 * 4 = regAddr n i by omega]
  exact locateIn_regAddr directRegs_apart (mem_directRegs.mpr h) hi

theorem locateIndirect_regAddr {n : RegName} {i : Nat} (h : (regPlace n).ind = true) (hi : i < (regPlace n).count) :
    locateIndirect (regAddr n i) = some (n, i) := locateIn_regAddr indirectRegs_apart (mem_indirectRegs.mpr h) hi

theorem locateDirect_sound {a : Nat} {n : RegName} {i : Nat} (h : locateDirect a = some (n, i)) :
    (regPlace n).ind = false ∧ i < (regPlace n).count ∧ regAddr n i = a / 4 * 4 := by
  obtain ⟨hn, hi, ha⟩ := locateIn_sound h
  exact ⟨mem_directRegs.mp hn, hi, ha⟩

theorem locateIndirect_sound {a : Nat} {n : RegName} {i : Nat} (h : locateIndirect a = some (n, i)) :
    (regPlace n).ind = true ∧ i < (regPlace n).count ∧ regAddr n i = a := by
  obtain ⟨hn, hi, ha⟩ := locateIn_sound h
  exact ⟨mem_indirectRegs.mp hn, hi, ha⟩

/-- Two instances with one key are one: a key says the space and the address, and the address finds the register. -/
theorem regKey_injective {n m : RegName} {i j : Nat} (hi : i < (regPlace n).count) (hj : j < (regPlace m).count)
    (h : regKey n i = regKey m j) : n = m ∧ i = j := by
  have hpair : (n, i) = (m, j) := by
    unfold regKey at h
    cases hn : (regPlace n).ind <;> cases hm : (regPlace m).ind <;> simp only [hn, hm, if_true, Bool.false_eq_true, if_false] at h
    case false.false =>
      exact Option.some.inj ((locateDirect_regAddr (b := 0) hn hi (by decide)).symm.trans (h ▸ locateDirect_regAddr (b := 0) hm hj (by decide)))
    case false.true => exact absurd (regAddr_direct_lt hn hi) (by omega)
    case true.false => exact absurd (regAddr_direct_lt hm hj) (by omega)
    case true.true =>
      have haddr : regAddr n i = regAddr m j := by omega
      exact Option.some.inj ((locateIndirect_regAddr hn hi).symm.trans (haddr ▸ locateIndirect_regAddr hm hj))
  exact Prod.mk.inj hpair

end Sys2Proof.Machine

namespace Sys2Proof.Proofs
set_option Elab.async false
open Sys2Proof.Machine

/-- Settles O5: the places of each map lie apart two by two, which is checked on the maps; the rest is arithmetic. -/
theorem registerMapsAgree : Obligations.RegisterMapsAgree := by
  unfold Obligations.RegisterMapsAgree
  refine ⟨fun n i hi => ⟨fun hd b hb => locateDirect_regAddr hd hi hb, fun hind => locateIndirect_regAddr hind hi⟩,
    fun a n i => ⟨locateDirect_sound, locateIndirect_sound⟩, fun n m i j hi hj hne hkey => ?_⟩
  obtain ⟨rfl, rfl⟩ := regKey_injective hi hj hkey
  obtain h | h := hne <;> exact h rfl

end Sys2Proof.Proofs
end

section
/-! SUPPORT. The write of a register whose fields are all actions: the state that its action leaves (R543, R554), and how the verdict of
an action is reported (R544). -/

namespace Sys2Proof.Machine
set_option Elab.async false
open Sys2Proof.Safety

section
variable {p : Path} {n : RegName} {i : Nat} {d : Word} {s v : State}

/-- A path that acts finds no write waiting. -/
theorem acts_late (h : Acts p n i s) : s.regs.late = [] := by
  obtain ⟨-, -, hlate, -, -⟩ := h
  exact hlate

theorem acts_running (h : Acts p n i s) : s.die.mode = .running := by
  obtain ⟨-, hmode, -, -, -⟩ := h
  exact hmode

/-- The action, late writes, and the service level. -/
theorem State.namedWrite_act (h : Acts p n i s) (ha : (regFields n i).all (fun f => !f.typ.stored) = true) (hf : fieldsFirst n = false)
    (hact : s.act (writeOf p n i d) n i = v) : s.namedWrite p n i d 0 none = v.actLate.noteLevel := by
  rw [s.namedWrite_action p n i d 0 none h ha hf]
  exact congrArg (fun t : State => t.actLate.noteLevel) hact

/-- The same, where the action leaves no write waiting. -/
theorem State.namedWrite_act_done (h : Acts p n i s) (ha : (regFields n i).all (fun f => !f.typ.stored) = true) (hf : fieldsFirst n = false)
    (hact : s.act (writeOf p n i d) n i = v) (hlate : SameLate s v) : s.namedWrite p n i d 0 none = v.noteLevel := by
  rw [State.namedWrite_act h ha hf hact, State.actLate_nil v (hlate.late.trans (acts_late h))]

theorem turnedAway_late : SameLate s (turnedAway p n i d s) := ⟨State.ignoredWhole_late ..⟩

end

/-! ## Verdicts (R544) -/

section
variable {r : State × Verdict} {w : RegWrite} {s t : State}

theorem State.reported_taken (h : r = (t, .taken)) : State.reported r w = t := by rw [h]; rfl
theorem State.reported_refused (h : r = (t, .refused)) : State.reported r w = t.ignoredWhole w 0 := by rw [h]; rfl
theorem State.reported_refusedBy {lo wd : Nat} (h : r = (t, .refusedBy lo wd)) : State.reported r w = t.ignoredField w lo wd := by rw [h]; rfl

end

end Sys2Proof.Machine
end

section
/-! PROOF. The state after reset (O4). -/

namespace Sys2Proof.Proofs
set_option Elab.async false
open Sys2Proof.Machine Sys2Proof.Safety

theorem reset_formed : Formed State.reset :=
  ⟨by decide, by decide, (fun _ h => nomatch h), rfl, rfl, rfl, rfl, rfl, List.Pairwise.nil⟩

/-- Settles O4: every part of the reset state is its initial value, and its tables are empty, so that each entry reads as the default. -/
theorem resetState : Obligations.ResetState := by
  unfold Obligations.ResetState
  exact ⟨rfl, rfl, rfl, rfl, fun _ => ⟨rfl, rfl⟩, fun _ => rfl, rfl, rfl, rfl, rfl, rfl, rfl, rfl, rfl, rfl, fun _ _ => rfl, reset_formed, rfl⟩

end Sys2Proof.Proofs
end

section
/-! PROOF. FLT_ACK (O9): the mask of acknowledged bits is summed bit by bit. -/

namespace Sys2Proof.Machine
set_option Elab.async false
open Sys2Proof.Safety

/-- A sum of distinct powers of two has exactly their bits. -/
theorem testBit_foldl_two_pow (p : Nat → Bool) (n j : Nat) :
    ((List.range n).foldl (fun a k => if p k then a + 2 ^ k else a) 0).testBit j = (decide (j < n) && p j) := by
  induction n generalizing j with
  | zero => simp
  | succ n ih =>
    rw [List.range_succ, List.foldl_append, List.foldl_cons, List.foldl_nil]
    generalize (List.range n).foldl (fun a k => if p k then a + 2 ^ k else a) 0 = a at ih ⊢
    have ha : a < 2 ^ n := Nat.lt_pow_two_of_testBit a fun i hi => by rw [ih]; simp [Nat.not_lt.mpr hi]
    have hbelow (hj : j ≠ n) : decide (j < n + 1) = decide (j < n) := by simp; omega
    split
    case isTrue hp =>
      rw [Nat.add_comm, ← Nat.mul_one (2 ^ n), Nat.two_pow_add_eq_or_of_lt ha, Nat.mul_one, Nat.testBit_or, ih, Nat.testBit_two_pow]
      by_cases hj : j = n
      · simp [hj, hp]
      · rw [hbelow hj]; simp [Ne.symm hj]
    case isFalse hp =>
      rw [ih]
      by_cases hj : j = n
      · simp [hj, hp]
      · rw [hbelow hj]

/-- The status bits that an acknowledgement leaves. -/
theorem State.fltAck_some {s : State} {x : BitVec 16} (h : s.flt.carried x.toNat = true) : ∃ st : BitVec 96,
    s.fltAck x = some { s with flt := { s.flt with status := st } } ∧
    ∀ k, k < 96 → st.getLsbD k = (s.flt.status.getLsbD k && !(atOrBefore (Tab.get (0, 0) s.flt.last k).2 x s.flt.next)) := by
  refine ⟨_, if_neg (by simp [h]), fun k hk => ?_⟩
  rw [BitVec.getLsbD_and, BitVec.getLsbD_not, BitVec.getLsbD_ofNat, testBit_foldl_two_pow]
  simp [hk]

theorem State.fltAck_none {s : State} {x : BitVec 16} (h : s.flt.carried x.toNat = false) : s.fltAck x = none := if_pos (by simp [h])

end Sys2Proof.Machine

namespace Sys2Proof.Proofs
set_option Elab.async false
open Sys2Proof.Machine Sys2Proof.Safety

section
variable {p : Path} {data : Word} {s : State}

theorem fltAck_acts : (regFields .fltAck 0).all (fun f => !f.typ.stored) = true := by decide

theorem fltAck_carried (h : Acts p .fltAck 0 s) (hc : s.flt.carried (data.toNat % 65536) = true) : ∃ st : BitVec 96,
    exec (.fltAck p data) s = .next { s with flt := { s.flt with status := st } }.noteLevel ∧
    ∀ k, k < 96 → st.getLsbD k =
      (s.flt.status.getLsbD k && !(atOrBefore (Tab.get (0, 0) s.flt.last k).2 (BitVec.ofNat 16 data.toNat) s.flt.next)) := by
  obtain ⟨st, hack, hbits⟩ := State.fltAck_some (s := s) (x := data.setWidth 16) (by simpa using hc)
  have hact : s.act (writeOf p .fltAck 0 data) .fltAck 0 = { s with flt := { s.flt with status := st } } := by
    simp only [State.act, writeOf, hack]
  exact ⟨st, congrArg Host.Outcome.next (State.namedWrite_act_done h fltAck_acts rfl hact ⟨rfl⟩), hbits⟩

theorem fltAck_not_carried (h : Acts p .fltAck 0 s) (hc : s.flt.carried (data.toNat % 65536) = false) :
    exec (.fltAck p data) s = .next (ignored p .fltAck 0 data 0 16 s).noteLevel := by
  have hack : s.fltAck (data.setWidth 16) = none := State.fltAck_none (by simpa using hc)
  have hact : s.act (writeOf p .fltAck 0 data) .fltAck 0 = ignored p .fltAck 0 data 0 16 s := by
    simp only [State.act, writeOf, hack, ignored]
  exact congrArg Host.Outcome.next (State.namedWrite_act_done h fltAck_acts rfl hact (ignored_late ..))

end

/-- Settles O9: a bit is cleared exactly where its source's last event came at or before the number. -/
theorem fltAckClearsAcknowledgedBits : Obligations.FltAckClearsAcknowledgedBits := by
  unfold Obligations.FltAckClearsAcknowledgedBits
  exact fun p data s h => ⟨fltAck_carried h, fltAck_not_carried h⟩

end Sys2Proof.Proofs
end

section
/-! PROOF. The TAP and the debug level (O20). -/

namespace Sys2Proof.Proofs
set_option Elab.async false
open Sys2Proof.Machine Sys2Proof.Safety

section
variable {s : State} {x : TapInstr}

theorem tapInstruction_held (h : s.die.mode = .porstLow) : exec (.tapInstruction x) s = .next s :=
  congrArg Host.Outcome.next (if_pos h)

/-- An instruction that is granted is in force and does its work. -/
theorem tapInstruction_granted (h : s.die.mode ≠ .porstLow) (hg : s.tapGrants x = true) :
    exec (.tapInstruction x) s = .next ({ s with dbg := { s.dbg with ir := x } }.tapDoes x) := by
  change Host.Outcome.next (if s.die.mode = .porstLow then s else
    { s with dbg := { s.dbg with ir := if s.tapGrants x then x else .bypass } }.tapDoes (if s.tapGrants x then x else .bypass)) = _
  rw [if_neg h, if_pos hg]

theorem tapInstruction_bypass (h : s.die.mode ≠ .porstLow) (hg : s.tapGrants x = false) :
    exec (.tapInstruction x) s = .next { s with dbg := { s.dbg with ir := .bypass } } := by
  change Host.Outcome.next (if s.die.mode = .porstLow then s else
    { s with dbg := { s.dbg with ir := if s.tapGrants x then x else .bypass } }.tapDoes (if s.tapGrants x then x else .bypass)) = _
  rw [if_neg h, hg]
  rfl

/-- A path that reads registers has a die out of PORST_N. -/
theorem pathReads_mode {p : Path} (h : s.pathReads p = true) : s.die.mode ≠ .porstLow := by
  rw [State.pathReads.eq_def, Bool.and_eq_true] at h
  obtain ⟨hserved, -⟩ := h
  intro hlow
  simp [State.regsServed, hlow] at hserved

theorem tapInstruction_regRead {a : BitVec 16} (hr : s.pathReads .jtag = true) (hnone : locateDirect a.toNat = none) :
    exec (.tapInstruction (.regRead a false)) s = .next ({ s with dbg := { s.dbg with ir := .regRead a false } }.emit (.tdo 0)) := by
  have hgrants : s.tapGrants (.regRead a false) = true := by
    rw [State.pathReads, Bool.and_eq_true] at hr
    obtain ⟨-, hlevel⟩ := hr
    exact hlevel
  have hreads : ({ s with dbg := { s.dbg with ir := .regRead a false } } : State).pathReads .jtag = true := hr
  have hread : ({ s with dbg := { s.dbg with ir := .regRead a false } } : State).readDirect 3 a.toNat =
      ({ s with dbg := { s.dbg with ir := .regRead a false } }, 0) := by
    rw [State.readDirect, hnone]
  rw [tapInstruction_granted (pathReads_mode hr) hgrants, State.tapDoes, hreads, hread]
  rfl

theorem tapInstruction_hiveHalt (hmode : s.die.mode ≠ .porstLow) (hfull : s.dbg.level = 2) (hawake : s.pwr.state.toNat < 4)
    (hrun : s.die.hiveRun = true) : exec (.tapInstruction .hiveHalt) s =
      .next { s with die := { s.die with hiveHalted := true }, dbg := { s.dbg with ir := .hiveHalt } } := by
  have hgrants : s.tapGrants .hiveHalt = true := by simp [State.tapGrants, State.awake, hfull, hawake]
  rw [tapInstruction_granted hmode hgrants]
  exact congrArg Host.Outcome.next (if_pos hrun)

end

/-- Settles O20: an instruction is in force and does its work where it is granted, and is BYPASS where it is not. -/
theorem tapObeysTheDebugLevel : Obligations.TapObeysTheDebugLevel := by
  unfold Obligations.TapObeysTheDebugLevel
  refine ⟨fun _ => rfl, fun _ _ => tapInstruction_held, fun _ _ => tapInstruction_bypass,
    fun _ hmode => tapInstruction_granted hmode rfl, fun _ _ => tapInstruction_regRead, fun _ => tapInstruction_hiveHalt, fun s hclosed => ?_⟩
  simp [State.tapGrants, hclosed]

end Sys2Proof.Proofs
end

section
/-! PROOF. The indirect window (O8). -/

namespace Sys2Proof.Machine
set_option Elab.async false

section
variable {s : State} {src k a : Nat}

theorem State.windowWord_reads {n : RegName} {i : Nat} (h : locateIndirect a = some (n, i)) : s.readInd src a = s.readReg src n i := by
  simp only [State.readInd, h]

theorem State.windowWord_reads_none (h : locateIndirect a = none) : s.readInd src a = 0 := by
  simp only [State.readInd, h]

theorem State.windowWord_writes {w : RegWrite} {n : RegName} {i : Nat} (h : locateIndirect a = some (n, i)) :
    s.writeInd w a = s.writeReg { w with ind := true, addr := a } n i := by
  simp only [State.writeInd, h]

theorem State.windowWord_writes_none {w : RegWrite} (h : locateIndirect a = none) :
    s.writeInd w a = s.clampNote { w with ind := true, addr := a } 4 0 31 w.data.toNat 0 := by
  simp only [State.writeInd, h]

theorem IndPtr.after_inc (q : IndPtr) : (q.after k).inc = q.inc := by
  unfold IndPtr.after
  split
  · rfl
  · split <;> rfl

theorem IndPtr.after_addr (q : IndPtr) :
    (q.after k).addr = q.addr + (if q.inc = 1 ∧ k = 0 then 1 else if q.inc = 2 ∧ k = 31 then 32 else 0) := by
  unfold IndPtr.after
  split
  · rfl
  · split
    · rfl
    · exact (BitVec.add_zero _).symm

/-- The direct address of IND_WINk finds it. -/
theorem locateDirect_indWin (hk : k < 32) : locateDirect (0x180 + 4 * k) = some (.indWin, k) :=
  locateDirect_regAddr (n := .indWin) (i := k) (b := 0) rfl hk (by decide)

end

end Sys2Proof.Machine

namespace Sys2Proof.Proofs
set_option Elab.async false
open Sys2Proof.Machine Sys2Proof.Safety

section
variable {p : Path} {k : BitVec 5} {s : State} {a : Nat}

theorem indWinAccess_read (hr : s.pathReads p = true) (hawake : p = .cfg → s.pwr.state.toNat < 2) :
    exec (.indWinAccess p k none) s = .next ((s.advance (pathSource p) k.toNat).emit
      (.regData p (s.readInd (pathSource p) (s.windowWord (pathSource p) k.toNat)))) := by
  change Host.Outcome.next (s.pathRead p (0x180 + 4 * k.toNat)) = _
  rw [State.pathRead, hr, State.onPath_served _ _ _ _ hawake, State.readDirect, locateDirect_indWin k.isLt]

theorem indWinAccess_write {x : Word} (hw : s.pathWrites p = true) (hawake : p = .cfg → s.pwr.state.toNat < 2) :
    exec (.indWinAccess p k (some x)) s =
      .next ((s.writeInd ⟨pathSource p, false, 0x180 + 4 * k.toNat, x, 0, none⟩ (s.windowWord (pathSource p) k.toNat)).advance
        (pathSource p) k.toNat).noteLevel := by
  change Host.Outcome.next (s.pathWrite p (0x180 + 4 * k.toNat) x 0 none) = _
  rw [State.pathWrite, hw, State.onPath_served _ _ _ _ hawake, State.writeDirect, locateDirect_indWin k.isLt]
  rfl

end

/-- Settles O8: an access to IND_WINk is one to the word its pointer names, and the pointer moves on. -/
theorem indirectWindowAccess : Obligations.IndirectWindowAccess := by
  unfold Obligations.IndirectWindowAccess
  intro p k s a ha hawake
  have hword : s.windowWord (pathSource p) k.toNat = a := ha.symm
  refine ⟨(s.regs.ptr (pathSource p)).after k.toNat, ⟨IndPtr.after_inc _, ?_⟩, fun hr hnone => ?_, fun hr n i hsome => ?_,
    fun x hw => ⟨fun n i hsome => ?_, fun hnone => ?_⟩⟩
  · rw [IndPtr.after_inc, IndPtr.after_addr]
    simp [← BitVec.toNat_inj]
  · rw [indWinAccess_read hr hawake, hword, State.windowWord_reads_none hnone]
    rfl
  · rw [indWinAccess_read hr hawake, hword, State.windowWord_reads hsome]
    rfl
  · rw [indWinAccess_write hw hawake, hword, State.windowWord_writes hsome]
  · rw [indWinAccess_write hw hawake, hword, State.windowWord_writes_none hnone]

end Sys2Proof.Proofs
end

section
/-! PROOF. CLAMP_ACK, THM_RETRUST and CAL_CTL.NOW (O13). -/

namespace Sys2Proof.Machine
set_option Elab.async false
open Sys2Proof.Safety

/-- A step that leaves the registers alone leaves no write waiting. -/
theorem SameLate.of_only {s t : State} {l : List Part} (h : Only l s t) (hl : .regs ∉ l) : SameLate s t :=
  ⟨congrArg Regs.late (h.same .regs hl)⟩

theorem State.calSettle_only (s : State) : Only [.cal] s s.calSettle :=
  Only.ite (by simp [Only]) (by simp [Only])

theorem State.startRound_only (s : State) (k : Nat) : Only [.cal] s (s.startRound k) := by simp [Only, State.startRound]

theorem State.judgeCal_only (s : State) : Only [.cal] s s.judgeCal := by
  unfold State.judgeCal
  refine Only.ite (by simp [Only]) ?_
  have hstarts (l : List Nat) (t : State) : Only [.cal] t (l.foldl State.startRound t).calSettle :=
    (Only.foldl (fun t k => t.startRound_only k) l t).step (State.calSettle_only _)
  exact Only.step (by simp [Only]) (Only.ite ((Only.refl _).mono (by simp)) (hstarts _ _))

/-- An action bit that is written 1, where the action is taken. -/
theorem State.bitAction_taken {s t : State} {w : RegWrite} {lo : Nat} {go : State → Option State} (hbit : bitOf w.data lo = true)
    (hgo : go s = some t) : s.bitAction w lo go = t := by
  simp [State.bitAction, hbit, hgo]

end Sys2Proof.Machine

namespace Sys2Proof.Proofs
set_option Elab.async false
open Sys2Proof.Machine Sys2Proof.Safety

section
variable {p : Path} {data : Word} {s : State}

theorem clampAck_acts : (regFields .clampAck 0).all (fun f => !f.typ.stored) = true := by decide

theorem actClampAck_clears (s : State) (w : RegWrite) : s.actClampAck w = { s with regs := { s.regs with clampNew :=
    s.regs.clampNew && !(atOrBefore (s.regs.clampNext - 1) (w.data.setWidth 16) s.regs.clampNext) } } := by
  unfold State.actClampAck
  split
  case isTrue hclears =>
    obtain ⟨-, hpast⟩ := hclears
    rw [hpast, Bool.not_true, Bool.and_false]
  case isFalse hstays =>
    have hnew : (s.regs.clampNew && !(atOrBefore (s.regs.clampNext - 1) (w.data.setWidth 16) s.regs.clampNext)) = s.regs.clampNew := by
      cases hold : s.regs.clampNew <;> simp_all
    rw [hnew]

theorem clampAck_clears (h : Acts p .clampAck 0 s) : exec (.clampAck p data) s = .next
    { s with regs := { s.regs with clampNew :=
      s.regs.clampNew && !(atOrBefore (s.regs.clampNext - 1) (BitVec.ofNat 16 data.toNat) s.regs.clampNext) } }.noteLevel :=
  congrArg Host.Outcome.next (State.namedWrite_act_done h clampAck_acts rfl (actClampAck_clears s (writeOf p .clampAck 0 data)) ⟨rfl⟩)

theorem thmRetrust_acts : (regFields .thmRetrust 0).all (fun f => !f.typ.stored) = true := by decide

theorem thmRetrust_trusts (h : Acts p .thmRetrust 0 s) : exec (.thmRetrust p data) s = .next (s.actRetrust (writeOf p .thmRetrust 0 data)).noteLevel :=
  congrArg Host.Outcome.next (State.namedWrite_act_done h thmRetrust_acts rfl rfl ⟨rfl⟩)

theorem calNow_judges (h : Acts p .calCtl 0 s) :
    exec (.calNow p) s = .next { s with cal := { s.cal with due := List.range 36, now_ := true } }.judgeCal.noteLevel := by
  have hact : s.act (writeOf p .calCtl 0 1) .calCtl 0 = { s with cal := { s.cal with due := List.range 36, now_ := true } }.judgeCal :=
    State.bitAction_taken (go := fun s => some s.calNow) (w := writeOf p .calCtl 0 1) (lo := 0) (by simp [writeOf, bitOf]) rfl
  have honly : Only [.cal] s { s with cal := { s.cal with due := List.range 36, now_ := true } } := by simp [Only]
  exact congrArg Host.Outcome.next (State.namedWrite_act_done h calCtl_acts rfl hact
    (SameLate.of_only (honly.trans (State.judgeCal_only _)) (by decide)))

end

/-- Settles O13: each is the write of a register whose one field is an action. -/
theorem ackRetrustAndCalibrateNow : Obligations.AckRetrustAndCalibrateNow := by
  unfold Obligations.AckRetrustAndCalibrateNow
  exact ⟨fun p data s => clampAck_clears, fun p data s => thmRetrust_trusts, fun p s => calNow_judges⟩

end Sys2Proof.Proofs
end

section
/-! PROOF. The snapshot that a read of FLT_STAT0 takes (R502): a counterexample (O10). -/

namespace Sys2Proof.Proofs
set_option Elab.async false
open Sys2Proof.Machine Sys2Proof.Safety

/-- A running node with no fault, and a word stored where FLT_STAT0 lies. -/
def fltStatStored : State := { State.reset with
  die := { Die.init with mode := .running, mgmt := true }
  regs := { Regs.init with cfg := [(regKey .fltStat 0, 1)] } }

theorem fltStatStored_serves : fltStatStored.pathReads .tw = true ∧ fltStatStored.flt.status.setWidth 32 = (0 : Word) := by decide +kernel

/-- The read answers the stored word with the snapshot. -/
theorem fltStatStored_reads : (fltStatStored.pathRead .tw 0x1200).out = [.regData .tw 1] := by decide +kernel

/-- Refutes O10: the answer is the first word of the snapshot over what the register file stores at FLT_STAT0, and the statement asks for a
state where nothing is stored there (R502). -/
theorem not_faultSnapshotAndInjection : ¬ Obligations.FaultSnapshotAndInjection := by
  unfold Obligations.FaultSnapshotAndInjection
  rintro ⟨hread, -⟩
  obtain ⟨hserves, hnone⟩ := fltStatStored_serves
  obtain ⟨hsnap, -⟩ := hread .tw fltStatStored
  have hout := congrArg State.out (Host.Outcome.next.inj (hsnap hserves nofun))
  rw [hnone] at hout
  have hone : [Out.regData .tw 1] = [.regData .tw 0] := fltStatStored_reads.symm.trans hout
  exact absurd hone (by decide)

end Sys2Proof.Proofs
end

section
/-! PROOF. A configuration write of LNK_NODE reaches the register from the upstream port (R335, R338): a counterexample (O7). -/

namespace Sys2Proof.Proofs
set_option Elab.async false
open Sys2Proof.Machine Sys2Proof.Safety

/-- A running node without an ID whose port 1 is upstream and trained. -/
def upstreamPort1 : State := { State.reset with
  die := { Die.init with mode := .running, mgmt := true }
  lnk := { Lnk.init with upPort := 1, ports := [(1, { Port.init with st := .up, lanes := 0xFF })] } }

/-- A node ID that is valid. -/
def validNodeId : Word := 0x45

theorem upstreamPort1_acts : Acts .cfg .lnkNode 0 upstreamPort1 ∧ locateDirect 0x2004 = some (.lnkNode, 0) := by
  unfold Acts
  decide +kernel

/-- Written through the register file's own path the node keeps its upstream port; written from port 0 the upstream port is 0. -/
theorem upstreamPort1_writes :
    (upstreamPort1.pathWrite .cfg 0x2004 validNodeId upstreamPort1.lnk.upPort.toNat none).lnk.upPort = 1 ∧
    (upstreamPort1.writeReg ⟨1, false, 0x2004, validNodeId, 0, none⟩ .lnkNode 0).noteLevel.lnk.upPort = 0 := by decide +kernel

/-- Refutes O7: a CFG write has come on the upstream port, and a valid LNK_NODE makes the port it came on the upstream one; the statement
has every write come on port 0 (R335, R338). -/
theorem not_registerWriteClampsOrReports : ¬ Obligations.RegisterWriteClampsOrReports := by
  unfold Obligations.RegisterWriteClampsOrReports
  intro h
  obtain ⟨hacts, hplace⟩ := upstreamPort1_acts
  have hserved : upstreamPort1.pathWrites .cfg = true := by
    obtain ⟨hw, -⟩ := hacts
    exact hw
  obtain ⟨-, -, hreaches, -⟩ := h .cfg 0x2004 validNodeId upstreamPort1 hserved (fun _ => by decide)
  obtain ⟨u, hu, hexec⟩ := hreaches .lnkNode 0 hplace (by decide) hacts
  obtain ⟨hkept, hmoved⟩ := upstreamPort1_writes
  have hport := congrArg (fun t : State => t.lnk.upPort) (Host.Outcome.next.inj hexec)
  subst hu
  exact absurd (hkept.symm.trans (hport.trans hmoved)) (by decide)

end Sys2Proof.Proofs
end

section
/-! PROOF. The power-on reset (O36). -/

namespace Sys2Proof.Machine
set_option Elab.async false
open Sys2Proof.Safety

section
variable {s : State}

theorem State.otpInterrupt_idle_strict (h : s.otp.busy = none) : s.otpInterrupt.otp.strict = s.otp.strict := by
  simp [State.otpInterrupt, h]

/-- But for the exit from P5, a power-on reset leaves the reset state, but for the fuses and what stands outside the die. -/
theorem State.powerOn_resets (s : State) {cause : Nat} (mode : DieMode) (hc : cause ≠ causeP5) :
    Only [.die, .otp, .dbg, .tw, .out, .free, .pending] State.reset (s.powerOn cause mode) := by
  have hp5 : decide (cause = causeP5) = false := decide_eq_false hc
  unfold State.powerOn
  simp only [hp5]
  exact Only.andThen (by simp [Only]) (State.newChallenge_only _)

/-- Its die, its fuses, and what waits. -/
theorem State.powerOn_keeps (s : State) (cause : Nat) (mode : DieMode) :
    (s.powerOn cause mode).die.mode = mode ∧ (s.powerOn cause mode).die.cause = BitVec.ofNat 4 cause ∧
    (s.powerOn cause mode).otp = { State.reset.otp with normal := s.otpInterrupt.otp.normal, strict := s.otpInterrupt.otp.strict } ∧
    (s.powerOn cause mode).pending = s.pending ∧ (s.powerOn cause mode).out = s.out :=
  ⟨rfl, rfl, rfl, s.otpInterrupt_only.same .pending (by decide), s.otpInterrupt_only.same .out (by decide)⟩

end

end Sys2Proof.Machine

namespace Sys2Proof.Proofs
set_option Elab.async false
open Sys2Proof.Machine Sys2Proof.Safety

/-- The two causes that a supply's collapse gives. -/
theorem collapse_is_powerOn {s : State} {c : Instr} (hmode : s.die.mode ≠ .porstLow)
    (hc : (c = .powerOnReset .aonUv ∨ c = .railUndervoltage .aon) ∨ c = .powerOnReset .coreUv ∨ c = .railUndervoltage .core) :
    ∃ cause : Nat, (cause = causeAon ∨ cause = causeCore) ∧ exec c s = .next (s.powerOn cause .startWatch) := by
  have hwatch : (if s.die.mode = .porstLow then DieMode.porstLow else .startWatch) = .startWatch := if_neg hmode
  rcases hc with (rfl | rfl) | (rfl | rfl)
  · exact ⟨causeAon, .inl rfl, congrArg (fun m => Host.Outcome.next (s.powerOn causeAon m)) hwatch⟩
  · exact ⟨causeAon, .inl rfl, congrArg (fun m => Host.Outcome.next (s.powerOn causeAon m)) hwatch⟩
  · exact ⟨causeCore, .inr rfl, congrArg (fun m => Host.Outcome.next (s.powerOn causeCore m)) hwatch⟩
  · exact ⟨causeCore, .inr rfl, congrArg (fun m => Host.Outcome.next (s.powerOn causeCore m)) hwatch⟩

theorem collapse_starts {s : State} {c : Instr} (hmode : s.die.mode ≠ .porstLow)
    (hc : (c = .powerOnReset .aonUv ∨ c = .railUndervoltage .aon) ∨ c = .powerOnReset .coreUv ∨ c = .railUndervoltage .core) :
    ∃ t : State, exec c s = .next t ∧ t.die.mode = .startWatch ∧ (t.die.cause = 1 ∨ t.die.cause = 2) ∧
      t.otp = { State.reset.otp with normal := s.otpInterrupt.otp.normal, strict := s.otpInterrupt.otp.strict } ∧
      t.regs = State.reset.regs ∧ t.tch = State.reset.tch ∧ t.pcd = State.reset.pcd ∧ t.rng = State.reset.rng := by
  obtain ⟨cause, hcause, hexec⟩ := collapse_is_powerOn hmode hc
  have hp5 : cause ≠ causeP5 := by rcases hcause with rfl | rfl <;> decide
  have honly := s.powerOn_resets .startWatch hp5
  obtain ⟨hm, hwhy, hotp, -, -⟩ := s.powerOn_keeps cause .startWatch
  refine ⟨_, hexec, hm, ?_, hotp, honly.same .regs (by decide), honly.same .tch (by decide), honly.same .pcd (by decide),
    honly.same .rng (by decide)⟩
  rw [hwhy]
  rcases hcause with rfl | rfl
  · exact .inl rfl
  · exact .inr rfl

/-- Settles O36: every power-on reset is the reset state, but for the fuses and what stands outside the die. -/
theorem powerOnResetLosesAllButTheFuses : Obligations.PowerOnResetLosesAllButTheFuses := by
  unfold Obligations.PowerOnResetLosesAllButTheFuses
  intro s
  obtain ⟨hmode, hcause, hotp, hpending, hout⟩ := s.powerOn_keeps causePorst .porstLow
  exact ⟨⟨_, rfl, hmode, hcause, hotp, s.powerOn_resets _ (by decide), hpending, hout⟩,
    fun hidle => ⟨State.otpInterrupt_idle hidle, State.otpInterrupt_idle_strict hidle⟩, fun hup c => collapse_starts hup⟩

end Sys2Proof.Proofs
end

section
/-! PROOF. The end of the reset hold and the first steps of start-up (O35). -/

namespace Sys2Proof.Machine
set_option Elab.async false
open Sys2Proof.Safety

section
variable {s : State}

theorem State.pulseTiers_only (s : State) : Only [.tch, .pcd] s s.pulseTiers :=
  Only.foldl (fun t k => Only.ite (t.resetTier_only k) ((Only.refl t).mono (by simp))) _ _

/-- The restart at the end of the hold: the die, and the count, which goes on (R47, R425). -/
theorem State.endHold_parts (s : State) : s.endHold.die = { s.die with mode := .restarting, markUs := 0 } ∧
    s.endHold.tim = { s.tim with held := false } ∧ Only [.die, .tim, .tch, .pcd] s s.endHold := by
  unfold State.endHold
  extract_lets _ _ t
  have hpulse := t.pulseTiers_only
  exact ⟨hpulse.same .die (by decide), hpulse.same .tim (by decide), Only.andThen (by simp [Only, t]) hpulse⟩

end

end Sys2Proof.Machine

namespace Sys2Proof.Proofs
set_option Elab.async false
open Sys2Proof.Machine Sys2Proof.Safety

section
variable {s : State}

/-! ## The hold ends (R419, R425) -/

theorem resetHoldEnd_ends (hmode : s.die.mode = .resetHold) (hhigh : s.die.resetLow = false) (hdue : s.die.kind ≠ .hard ∨ 20 ≤ s.die.markUs) :
    ∃ t : State, exec .resetHoldEnd s = .next t ∧ t.die.mode = .restarting ∧ t.tim.held = false ∧ t.tim.count = s.tim.count ∧
      Only [.die, .tim, .tch, .pcd] s t := by
  obtain ⟨hdie, htim, honly⟩ := s.endHold_parts
  exact ⟨s.endHold, congrArg Host.Outcome.next (if_pos ⟨hmode, by simp [hhigh], hdue⟩), by rw [hdie], by rw [htim], by rw [htim], honly⟩

theorem resetHoldEnd_stays (h : ¬ (s.die.mode = .resetHold ∧ (!s.die.resetLow) = true ∧ (s.die.kind ≠ .hard ∨ 20 ≤ s.die.markUs))) :
    exec .resetHoldEnd s = .next s := congrArg Host.Outcome.next (if_neg h)

theorem resetNRise_ends (hmode : s.die.mode = .resetHold) (hcause : s.die.cause = 4) (hio : s.die.uvIo = false) :
    ∃ t : State, exec .resetNRise s = .next t ∧ t.die.mode = .restarting ∧ t.die.resetLow = false ∧ t.tim.held = false := by
  obtain ⟨hdie, htim, -⟩ := State.endHold_parts { s with die := { s.die with resetLow := false } }
  refine ⟨_, congrArg Host.Outcome.next ((State.onPin_seen _ hio).trans (if_pos ⟨hmode, .inr (.inl hcause)⟩)), ?_, ?_, ?_⟩
  · rw [hdie]
  · rw [hdie]
  · rw [htim]

theorem resetNRise_seen (hmode : s.die.mode ≠ .resetHold) (hio : s.die.uvIo = false) :
    exec .resetNRise s = .next { s with die := { s.die with resetLow := false } } :=
  congrArg Host.Outcome.next ((State.onPin_seen _ hio).trans (if_neg fun hends => hmode hends.left))

theorem resetNRise_low {t : State} (hmode : s.die.mode ≠ .resetHold) (hio : s.die.uvIo = true) (ht : t = { s with free := s.free + 1 }) :
    exec .resetNRise s = .next (if Config.pinSeen s.free then { t with die := { t.die with resetLow := false } } else t) := by
  subst ht
  refine congrArg Host.Outcome.next ((State.onPin_undefined _ hio).trans ?_)
  exact congrArg (fun u : State => if Config.pinSeen s.free then u else _) (if_neg fun hends => hmode hends.left)

/-! ## Start-up (R403, R421) -/

theorem rcReady_starts (hmode : s.die.mode = .startWatch) (hhigh : s.die.resetLow = false) : exec .rcReady s = .next { s with
    die := { s.die with mode := .restarting, rcReady := true }, tim := { s.tim with held := false } } := by
  refine (if_neg ?_).trans (if_pos hmode)
  simp [hhigh]

theorem rcReady_holds (hmode : s.die.mode = .startWatch) (hlow : s.die.resetLow = true) : exec .rcReady s = .next { s with
    die := { s.die with mode := .resetHold, rcReady := true } } := if_pos ⟨hmode, hlow⟩

/-- Past the watch, only the safe state notes it. -/
theorem rcReady_past (hmode : s.die.mode ≠ .startWatch) :
    exec .rcReady s = if s.die.mode = .safe then .next { s with die := { s.die with rcReady := true } } else .next s :=
  (if_neg fun hstart => hmode hstart.left).trans (if_neg hmode)

theorem startupWatchdogExpiry_holds (h : s.die.mode = .startWatch ∨ (s.die.mode = .safe ∧ s.die.rcReady = false)) : ∃ t : State,
    exec .startupWatchdogExpiry s = .next t ∧ t.die.mode = .rcHold ∧ t.faultN = true ∧ (∃ l ∈ t.flt.lines, l.src = 80 ∧ l.detail = 2) ∧
      Only [.die, .flt] s t := by
  refine ⟨_, if_pos (by simpa using h), rfl, State.faultN_held rfl, ⟨_, List.mem_append_right _ (List.mem_singleton_self _), rfl, rfl⟩, ?_⟩
  exact Only.andThen (by simp [Only]) (State.raise_only _ 80 2)

theorem startupWatchdogExpiry_past (hmode : s.die.mode ≠ .startWatch) (hready : s.die.mode ≠ .safe ∨ s.die.rcReady = true) :
    exec .startupWatchdogExpiry s = .next s := by
  refine if_neg ?_
  rintro (hstart | ⟨hsafe, hnot⟩)
  · exact hmode hstart
  · rcases hready with hother | hrc
    · exact hother hsafe
    · simp [hrc] at hnot

end

/-- Settles O35: the hold ends by itself or as RESET_N rises, and the die restarts as its clock is ready. -/
theorem resetHoldAndStartUp : Obligations.ResetHoldAndStartUp := by
  unfold Obligations.ResetHoldAndStartUp
  refine ⟨fun s => ⟨resetHoldEnd_ends, fun hkind hmark => resetHoldEnd_stays ?_, fun _ hlow => resetHoldEnd_stays ?_, resetNRise_ends,
    resetNRise_seen, fun hmode hio t ht => resetNRise_low hmode hio ht, fun hmode => resetHoldEnd_stays fun hends => hmode hends.left⟩,
    fun s => ⟨fun strap hlow => if_pos hlow, rcReady_starts, rcReady_holds, fun hsafe => ?_, startupWatchdogExpiry_holds,
      fun hmode hsafe => ?_, startupWatchdogExpiry_past⟩⟩
  · rintro ⟨-, -, hother | hdue⟩
    · exact hother hkind
    · omega
  · rintro ⟨-, hhigh, -⟩
    simp [hlow] at hhigh
  · rw [rcReady_past (by simp [hsafe]), if_pos hsafe]
  · rw [rcReady_past hmode, if_neg hsafe]

end Sys2Proof.Proofs
end

section
/-! SUPPORT. Writes that wait, and the clamp log's numbers, stay as they are while commands and requests end and fuse commands are taken up
(R233, R452, R554, R557). -/

namespace Sys2Proof.Machine
set_option Elab.async false
open Sys2Proof.Safety

/-- Two states have the same writes waiting, and no entry of the clamp log was made between them. -/
structure SameBooks (s t : State) : Prop extends SameLate s t where
  clampNext : t.regs.clampNext = s.regs.clampNext

namespace SameBooks
variable {s t u : State}

theorem refl (s : State) : SameBooks s s := ⟨.refl s, rfl⟩

/-- One more step, outside the registers. -/
theorem only {ps : List Part} (h : SameBooks s t) (g : Only ps t u) (hps : .regs ∉ ps := by decide) : SameBooks s u :=
  have hregs : u.regs = t.regs := g.same .regs hps
  ⟨⟨(congrArg Regs.late hregs).trans h.late⟩, (congrArg Regs.clampNext hregs).trans h.clampNext⟩

/-- One more step, that leaves both as they are by its definition. -/
theorem step (h : SameBooks s t) (hlate : u.regs.late = t.regs.late := by rfl) (hnext : u.regs.clampNext = t.regs.clampNext := by rfl) :
    SameBooks s u := ⟨⟨hlate.trans h.late⟩, hnext.trans h.clampNext⟩

theorem posts (h : SameBooks s t) (g : Posts t u) : SameBooks s u := h.only g

theorem ite {c : Prop} [Decidable c] (h : SameBooks s t) (g : SameBooks s u) : SameBooks s (if c then t else u) := by
  split
  · exact h
  · exact g

theorem foldl {α : Type} {f : State → α → State} {l : List α} (hf : ∀ t a, SameBooks s t → SameBooks s (f t a)) (h : SameBooks s t) :
    SameBooks s (l.foldl f t) := by
  induction l generalizing t with
  | nil => exact h
  | cons a l ih => exact ih (hf t a h)

theorem mwrAll {tc addr : Nat} {bytes : List Byte} (h : SameBooks s t) : SameBooks s (t.mwrAll tc addr bytes) := h.posts (Posts.mwrAll ..)
theorem writeHeld {q : Nat} {e : HeldEntry} (h : SameBooks s t) : SameBooks s (t.writeHeld q e) := h.posts (Posts.writeHeld ..)
theorem streamRelease {q n : Nat} (h : SameBooks s t) : SameBooks s (t.streamRelease q n) := ite h h.step

theorem rng {x : Rng} (h : SameBooks s t) : SameBooks s { t with rng := x } := h.step
theorem updSq {q : Nat} {f : SqCtx → SqCtx} (h : SameBooks s t) : SameBooks s (t.updSq q f) := h.step
theorem updCq {q : Nat} {f : CqCtx → CqCtx} (h : SameBooks s t) : SameBooks s (t.updCq q f) := h.step
theorem updCmd {k : Nat} {f : Cmd → Cmd} (h : SameBooks s t) : SameBooks s (t.updCmd k f) := h.step

/-! ## Commands -/

theorem writeFinal {c : Cmd} {f : Final} (h : SameBooks s t) : SameBooks s (t.writeFinal c f) := by
  unfold State.writeFinal
  extract_lets _ _ _ _ s₁ _ s₂ _ _ s₃
  have h₁ : SameBooks s s₁ := ite (ite h.mwrAll h) (foldl (fun _ _ h => h.mwrAll) (ite h.mwrAll h))
  have h₂ : SameBooks s s₂ := by
    unfold s₂
    split
    · exact ite h₁ (ite h₁.step h₁.step)
    · split
      · exact ite h₁.step h₁
      · exact h₁
    · exact h₁
  have h₃ : SameBooks s s₃ := ite h₂.writeHeld.streamRelease h₂.writeHeld
  split
  · exact (updSq (rng (ite h₃.updCq h₃))).posts (Posts.postEvent ..)
  · exact updSq (rng (ite h₃.updCq h₃))

theorem settleN {fuel : Nat} (h : SameBooks s t) : SameBooks s (t.settleN fuel) := by
  induction fuel generalizing t with
  | zero => exact h
  | succ fuel ih =>
    unfold State.settleN
    split
    · exact h
    · split
      · exact h
      · exact ih (ite h.step (ite (h.updCmd.posts (Posts.writeEntry ..)) h.writeFinal))

theorem judgeProvisional {id : Nat} (h : SameBooks s t) : SameBooks s (t.judgeProvisional id) := by
  unfold State.judgeProvisional
  split
  · exact h
  · exact ite h (h.updCmd.posts (Posts.writeEntry ..))

theorem tryFinish {id : Nat} (h : SameBooks s t) : SameBooks s (t.tryFinish id) := by
  unfold State.tryFinish
  extract_lets
  split
  · exact h.judgeProvisional
  · exact ite h.judgeProvisional.updCmd.settleN h.judgeProvisional

/-! ## Blocks -/

theorem judgeMiss {c : Cmd} {forced : Bool} (h : SameBooks s t) : SameBooks s (t.judgeMiss c forced) := by
  unfold State.judgeMiss
  split
  · exact h
  · exact ite h h.step

theorem endBlock {id o : Nat} {done : Bool} {fail : Option (Nat × Nat)} {forced : Bool} (h : SameBooks s t) :
    SameBooks s (t.endBlock id o done fail forced) := by
  unfold State.endBlock
  split
  · exact h
  · exact ite h (tryFinish (ite (streamRelease (updCmd (ite h.judgeMiss h))) (updCmd (ite h.judgeMiss h))))

/-! ## Fuse commands (R451, R452) -/

theorem loadSub {i b row spare : Nat} (h : SameBooks s t) : SameBooks s (t.loadSub i b row spare) := by
  unfold State.loadSub
  split
  · exact h.step
  · exact h

theorem appendEnd {c : OtpCmd} {ok : Bool} (h : SameBooks s t) : SameBooks s (t.appendEnd c ok) := by
  have hdropped (i b row : Nat) : SameBooks s (t.dropCandidates i b row) := h.step
  unfold State.appendEnd
  split
  · split
    · exact h
    · exact ite (hdropped _ _ _).loadSub.endBlock h.endBlock
  · exact ite (h.only (State.raise_only ..)) h

theorem vqpsNext (h : SameBooks s t) : SameBooks s t.vqpsNext := by
  unfold State.vqpsNext
  split
  · exact h
  · exact ite h h.step

theorem otpGo {c : OtpCmd} (h : SameBooks s t) : SameBooks s (t.otpGo c) := ite h.step.vqpsNext h.step

theorem otpBegin {c : OtpCmd} (h : SameBooks s t) : SameBooks s (t.otpBegin c) := by
  unfold State.otpBegin
  split
  · split
    · exact h.appendEnd
    · exact h.otpGo
  · split
    · split
      · exact h.step
      · exact h.otpGo
    · exact ite h.step h.otpGo

theorem otpPump {fuel : Nat} (h : SameBooks s t) : SameBooks s (t.otpPump fuel) := by
  induction fuel generalizing t with
  | zero => exact h
  | succ fuel ih =>
    unfold State.otpPump
    split
    · exact ite h (ih h.step.otpBegin)
    · exact h

end SameBooks

namespace SameLate
variable {s t u : State}

/-- One more step, outside the registers. -/
theorem only {ps : List Part} (h : SameLate s t) (g : Only ps t u) (hps : .regs ∉ ps := by decide) : SameLate s u :=
  ⟨(of_only g hps).late.trans h.late⟩

/-- One more step, that makes no entry of the clamp log either. -/
theorem booked (h : SameLate s t) (g : SameBooks t u) : SameLate s u := ⟨g.late.trans h.late⟩

theorem otpGo {c : OtpCmd} (h : SameLate s t) : SameLate s (t.otpGo c) := h.booked (SameBooks.refl t).otpGo
theorem otpPump {fuel : Nat} (h : SameLate s t) : SameLate s (t.otpPump fuel) := h.booked (SameBooks.refl t).otpPump
theorem otpAsk {c : OtpCmd} (h : SameLate s t) : SameLate s (t.otpAsk c) := otpPump ⟨h.late⟩

theorem mapReset (h : SameLate s t) : SameLate s t.mapReset := foldl (fun _ _ h => h.setCfg) h

theorem judgeRetention (h : SameLate s t) : SameLate s t.judgeRetention := by
  have hnoted : SameLate s t.retentionNoted := ⟨h.late⟩
  cases hall : t.allRetained
  · rw [State.judgeRetention_lost hall]
    exact ⟨hnoted.mapReset.late⟩
  · rw [State.judgeRetention_all hall]
    exact ⟨hnoted.late⟩

end SameLate

end Sys2Proof.Machine
end

section
/-! SUPPORT. What the start of a reset leaves, and what a warm restart keeps of the state its first steps set (R414, R416 to R418, R426, R427,
R433). -/

namespace Sys2Proof.Machine
set_option Elab.async false
open Sys2Proof.Safety

/-- The second state has the counts of resets, the thermal unit, the two-wire target, the fault status and the sensing of the first. -/
structure Outlives (s t : State) : Prop where
  hardCount : t.die.hardCount = s.die.hardCount
  warmCount : t.die.warmCount = s.die.warmCount
  thm : t.thm = s.thm
  tw : t.tw = s.tw
  status : t.flt.status = s.flt.status
  sensed : t.otp.sensed = s.otp.sensed

namespace Outlives
variable {s t u : State}

theorem refl (s : State) : Outlives s s := ⟨rfl, rfl, rfl, rfl, rfl, rfl⟩

theorem trans (h : Outlives s t) (g : Outlives t u) : Outlives s u :=
  ⟨g.hardCount.trans h.hardCount, g.warmCount.trans h.warmCount, g.thm.trans h.thm, g.tw.trans h.tw, g.status.trans h.status,
    g.sensed.trans h.sensed⟩

/-- One more step, outside these parts. -/
theorem only {ps : List Part} (h : Outlives s t) (g : Only ps t u) (hps : ∀ p ∈ [Part.die, .thm, .tw, .flt, .otp], p ∉ ps := by decide) :
    Outlives s u := by
  have hdie : u.die = t.die := g.same .die (hps _ (by simp))
  have hflt : u.flt = t.flt := g.same .flt (hps _ (by simp))
  have hotp : u.otp = t.otp := g.same .otp (hps _ (by simp))
  exact h.trans ⟨by rw [hdie], by rw [hdie], g.same .thm (hps _ (by simp)), g.same .tw (hps _ (by simp)), by rw [hflt], by rw [hotp]⟩

/-- One of two such steps. -/
theorem ite {c : Prop} [Decidable c] (h : Outlives s t) (g : Outlives s u) : Outlives s (if c then t else u) := by
  split
  · exact h
  · exact g

/-- A run of such steps. -/
theorem foldl {α : Type} {f : State → α → State} {l : List α} (hf : ∀ t a, Outlives s t → Outlives s (f t a)) (h : Outlives s t) :
    Outlives s (l.foldl f t) := by
  induction l generalizing t with
  | nil => exact h
  | cons a l ih => exact ih (hf t a h)

theorem raise {src detail : Nat} (h : Outlives s t) : Outlives s (t.raise src detail) :=
  h.trans ⟨rfl, rfl, rfl, rfl, rfl, rfl⟩

theorem raiseUntrusted {was : BitVec 4} (h : Outlives s t) : Outlives s (t.raiseUntrusted was) :=
  foldl (fun _ _ h => ite h.raise h) h

theorem otpInterrupt (h : Outlives s t) : Outlives s t.otpInterrupt := by
  refine h.trans ?_
  unfold State.otpInterrupt
  split
  · exact ⟨rfl, rfl, rfl, rfl, rfl, rfl⟩
  · exact ite ⟨rfl, rfl, rfl, rfl, rfl, rfl⟩ (raiseUntrusted ⟨rfl, rfl, rfl, rfl, rfl, rfl⟩)

theorem sendHotReset {n : Nat} (h : Outlives s t) : Outlives s (t.sendHotReset n) :=
  foldl (fun u _ h => h.only (Posts.emit u _)) (h.only (Posts.wakeL0 t n))

end Outlives

/-- The node at rest, its self-test and its fuse command stopped, before a reset sets its fields (R351, R400, R416, R417, R453). -/
def State.broughtToRest (s : State) : State :=
  ((List.range 4).foldl (fun t n => if n ≠ t.lnk.upPort.toNat ∧ (t.port n).st = .up then t.sendHotReset n else t)
    s).bistHalt.ballastOn.quiesce.otpInterrupt

/-- The tier whose gates were opening waits to be closed (R416). -/
def State.openingDropped (s : State) : State :=
  match s.pwr.opening with
  | some t => { s with pwr := { s.pwr with opening := none, closeQ := insertSorted t s.pwr.closeQ } }.raise 94 (2 + 2 ^ 8 * t)
  | none => s

/-- The tiers that wait to be closed are reset (R416). -/
def State.closingReset (s : State) : State := s.pwr.closeQ.foldl State.resetTier s

/-- The node in P0, as a reset finds it (R359). -/
def State.broughtToP0 (s : State) : State := (if s.pwr.state = 4 ∧ !s.pwr.exiting then s.pulseWake else s).setPower 0 9

/-- What a reset begins with, before it sets the die's fields. -/
def State.resetPrepared (s : State) : State := s.broughtToRest.openingDropped.closingReset.broughtToP0

theorem State.broughtToRest_outlives (s : State) : Outlives s s.broughtToRest := by
  have hsent (u : State) (l : List Nat) : Outlives u
      (l.foldl (fun t n => if n ≠ t.lnk.upPort.toNat ∧ (t.port n).st = .up then t.sendHotReset n else t) u) :=
    Outlives.foldl (fun _ _ h => .ite h.sendHotReset h) (Outlives.refl u)
  have hballast (u : State) : Outlives u u.ballastOn := ⟨rfl, rfl, rfl, rfl, rfl, rfl⟩
  exact (((((hsent s _).only (Halts.refl _).bistHalt).trans (hballast _)).only (Halts.refl _).quiesce)).otpInterrupt

theorem State.openingDropped_outlives (s : State) : Outlives s s.openingDropped := by
  unfold State.openingDropped
  split
  · exact ((Outlives.refl s).only (Posts.power s _)).raise
  · exact Outlives.refl s

theorem State.closingReset_outlives (s : State) : Outlives s s.closingReset :=
  Outlives.foldl (fun t k h => h.only (t.resetTier_only k)) (Outlives.refl s)

theorem State.broughtToP0_outlives (s : State) : Outlives s s.broughtToP0 :=
  (Outlives.ite ((Outlives.refl s).only (Posts.power s _)) (Outlives.refl s)).only (Posts.setPower ..)

theorem State.resetPrepared_outlives (s : State) : Outlives s s.resetPrepared :=
  ((s.broughtToRest_outlives.trans (State.openingDropped_outlives _)).trans (State.closingReset_outlives _)).trans
    (State.broughtToP0_outlives _)

/-- The state in which a reset has begun: counted, with its cause, out of service, and with what outlives it (R416 to R418, R433). -/
structure Begun (s : State) (k : ResetKind) (c : Nat) (t : State) : Prop where
  kind : t.die.kind = k
  cause : t.die.cause = BitVec.ofNat 4 c
  mgmt : t.die.mgmt = false
  lastLevel : t.die.lastLevel = 0
  warmCount : t.die.warmCount = (if k = .warm then satInc s.die.warmCount 1 else 0)
  hardCount : t.die.hardCount = (if k = .warm then s.die.hardCount else satInc s.die.hardCount 1)
  thm : t.thm = s.thm
  tw : t.tw = s.tw
  status : t.flt.status = s.flt.status
  sensed : t.otp.sensed = s.otp.sensed

theorem State.resetBegin_begun (s : State) (kind : ResetKind) (cause : Nat) : Begun s kind cause (s.resetBegin kind cause) := by
  have h := s.resetPrepared_outlives
  unfold State.resetBegin
  extract_lets _ _ _ _ _ s₂ _ s₃ s₄ s₅ _ _ _
  have h₂ : s₂ = s.broughtToRest := rfl
  clear_value s₂
  have h₃ : s₃ = s₂.openingDropped := rfl
  clear_value s₃
  have h₄ : s₄ = s₃.closingReset := rfl
  clear_value s₄
  have h₅ : s₅ = s₄.broughtToP0 := rfl
  have hprepared : s.resetPrepared = s₅ := by rw [h₅, h₄, h₃, h₂, State.resetPrepared]
  clear_value s₅
  rw [hprepared] at h
  exact ⟨rfl, rfl, rfl, rfl, congrArg (fun c => if kind = .warm then satInc c 1 else 0) h.warmCount,
    congrArg (fun c => if kind = .warm then c else satInc c 1) h.hardCount, h.thm, h.tw, h.status, h.sensed⟩

end Sys2Proof.Machine
end

section
/-! SUPPORT. A hard reset to its hold, and the parts of a warm restart that its first steps set for good (R414, R426, R427). -/

namespace Sys2Proof.Machine
set_option Elab.async false
open Sys2Proof.Safety

section
variable {s : State}

/-- What two register files share where stored values alone have changed. -/
structure SameButStored (r q : Regs) : Prop where
  late : q.late = r.late
  clampLog : q.clampLog = r.clampLog

theorem State.mapReset_regs (s : State) : SameButStored s.regs s.mapReset.regs := by
  have hmap (l : List Nat) (u : State) : SameButStored u.regs (l.foldl (fun s r => s.setCfg .pcdSmap r (regReset .pcdSmap r)) u).regs := by
    induction l generalizing u with
    | nil => exact ⟨rfl, rfl⟩
    | cons r l ih =>
      have h := ih (u.setCfg .pcdSmap r (regReset .pcdSmap r))
      exact ⟨h.late, h.clampLog⟩
  exact hmap _ s

/-- The judgement of retention changes stored values alone of the register file. -/
theorem State.judgeRetention_regs (s : State) : SameButStored s.regs s.judgeRetention.regs := by
  cases hall : s.allRetained
  · have h := s.retentionNoted.mapReset_regs
    rw [State.judgeRetention_lost hall]
    exact ⟨h.late, h.clampLog⟩
  · rw [State.judgeRetention_all hall]
    exact ⟨rfl, rfl⟩

/-- The fields of a hard reset, once retention is judged, before the hold (R414, R427). -/
def State.hardFields (s : State) (cause : Nat) : State := ((s.resetBegin .hard cause).resetFields false).judgeRetention

/-- The hold itself (R419). -/
def State.hardHeld (s : State) : State :=
  { s with die := { s.die with mode := .resetHold, image := [], imageOk := false, hiveMem := [] } }.newChallenge

/-- A die that is not yet released, off or held is taken to the reset hold (R414, R419). -/
theorem State.hardReset_holds (cause : Nat)
    (h : s.die.mode = .running ∨ s.die.mode = .restarting ∨ s.die.mode = .safe ∨ s.die.mode = .clickHold) :
    s.hardReset cause = (s.hardFields cause).hardHeld := by
  unfold State.hardReset
  obtain h | h | h | h := h <;> rw [h] <;> rfl

theorem State.hardHeld_parts (s : State) : Only [.die, .dbg, .free] s s.hardHeld ∧
    s.hardHeld.die = { s.die with mode := .resetHold, image := [], imageOk := false, hiveMem := [] } ∧
    ∃ c : Tab Word, s.hardHeld.dbg = { s.dbg with chal := c } :=
  ⟨Only.andThen (by simp [Only]) (State.newChallenge_only _), rfl, _, rfl⟩

/-- The parts that a hard reset does not take to their reset values (R427). -/
def hardKept : List Part := [.die, .regs, .clk, .tch, .pcd, .pwr, .thm, .otp, .dbg, .flt, .tw, .out, .free, .pending]

/-- The fields of a hard reset, part by part (R427). -/
theorem State.resetFields_hard (b : State) : Only hardKept State.reset (b.resetFields false) ∧
    (b.resetFields false).die = b.die ∧ (b.resetFields false).regs.late = [] ∧ (b.resetFields false).regs.clampLog = [] ∧
    (b.resetFields false).thm.clicks = b.thm.clicks ∧ (b.resetFields false).tw.strap = b.tw.strap ∧
    (b.resetFields false).flt.status = b.flt.status ∧ (b.resetFields false).flt.counts = [] ∧
    (b.resetFields false).dbg.level = 0 ∧ (b.resetFields false).dbg.lockout = false ∧ (b.resetFields false).dbg.checking = none := by
  refine ⟨?_, rfl, rfl, rfl, rfl, rfl, rfl, rfl, rfl, rfl, rfl⟩
  have hsec : (b.resetFields false).sec = State.reset.sec := rfl
  simp only [Only, hardKept, hsec]
  simp [State.resetFields]

/-- The state a hard reset leaves a die in that was up. -/
structure HeldHard (s : State) (c : Nat) (t : State) : Prop where
  mode : t.die.mode = .resetHold
  kind : t.die.kind = .hard
  cause : t.die.cause = BitVec.ofNat 4 c
  mgmt : t.die.mgmt = false
  lastLevel : t.die.lastLevel = 0
  hardCount : t.die.hardCount = satInc s.die.hardCount 1
  image : t.die.image = []
  only : Only hardKept State.reset t
  late : t.regs.late = []
  clampLog : t.regs.clampLog = []
  clicks : t.thm.clicks = s.thm.clicks
  strap : t.tw.strap = s.tw.strap
  status : t.flt.status = s.flt.status
  counts : t.flt.counts = []
  level : t.dbg.level = 0
  lockout : t.dbg.lockout = false
  checking : t.dbg.checking = none

theorem State.hardReset_held (cause : Nat)
    (h : s.die.mode = .running ∨ s.die.mode = .restarting ∨ s.die.mode = .safe ∨ s.die.mode = .clickHold) :
    HeldHard s cause (s.hardReset cause) := by
  have hbegun := s.resetBegin_begun .hard cause
  rw [State.hardReset_holds cause h, State.hardFields]
  generalize s.resetBegin .hard cause = b at hbegun
  obtain ⟨hreset, hdie, hlate, hlog, hclicks, hstrap, hstatus, hcounts, hlevel, hlockout, hchecking⟩ := b.resetFields_hard
  generalize b.resetFields false = f at *
  have honly := f.judgeRetention_only
  have hjdie := f.judgeRetention_die
  have hregs := f.judgeRetention_regs
  generalize f.judgeRetention = j at *
  obtain ⟨hheld, hhdie, c, hdbg⟩ := j.hardHeld_parts
  generalize j.hardHeld = t at *
  have hthm : t.thm = f.thm := (honly.trans hheld).same .thm (by decide)
  have htw : t.tw = f.tw := (honly.trans hheld).same .tw (by decide)
  have hflt : t.flt = f.flt := (honly.trans hheld).same .flt (by decide)
  have hjdbg : j.dbg = f.dbg := honly.same .dbg (by decide)
  have hdieOf : t.die = { b.die with tierRetained := f.allRetained, mode := .resetHold, image := [], imageOk := false, hiveMem := [] } := by
    rw [hhdie, hjdie, hdie]
  have hregsOf : t.regs = j.regs := hheld.same .regs (by decide)
  exact {
    mode := by rw [hdieOf]
    kind := by rw [hdieOf]; exact hbegun.kind
    cause := by rw [hdieOf]; exact hbegun.cause
    mgmt := by rw [hdieOf]; exact hbegun.mgmt
    lastLevel := by rw [hdieOf]; exact hbegun.lastLevel
    hardCount := by rw [hdieOf]; exact hbegun.hardCount
    image := by rw [hdieOf]
    only := (hreset.andThen honly).andThen hheld
    late := by rw [hregsOf, hregs.late, hlate]
    clampLog := by rw [hregsOf, hregs.clampLog, hlog]
    clicks := by rw [hthm, hclicks, hbegun.thm]
    strap := by rw [htw, hstrap, hbegun.tw]
    status := by rw [hflt, hstatus, hbegun.status]
    counts := by rw [hflt, hcounts]
    level := by rw [hdbg, hjdbg]; exact hlevel
    lockout := by rw [hdbg, hjdbg]; exact hlockout
    checking := by rw [hdbg, hjdbg]; exact hchecking }

end

end Sys2Proof.Machine
end

section
/-! SUPPORT. What a warm restart keeps of the state its first steps set (R426, R427, R433). -/

namespace Sys2Proof.Machine
set_option Elab.async false
open Sys2Proof.Safety

/-- The second state has the mode, the reset counts, the debug level and lockout, and the waiting writes of the first. -/
structure SameRun (s t : State) : Prop where
  mode : t.die.mode = s.die.mode
  warmCount : t.die.warmCount = s.die.warmCount
  hardCount : t.die.hardCount = s.die.hardCount
  level : t.dbg.level = s.dbg.level
  lockout : t.dbg.lockout = s.dbg.lockout
  late : t.regs.late = s.regs.late

namespace SameRun
variable {s t u : State}

theorem refl (s : State) : SameRun s s := ⟨rfl, rfl, rfl, rfl, rfl, rfl⟩

theorem trans (h : SameRun s t) (g : SameRun t u) : SameRun s u :=
  ⟨g.mode.trans h.mode, g.warmCount.trans h.warmCount, g.hardCount.trans h.hardCount, g.level.trans h.level,
    g.lockout.trans h.lockout, g.late.trans h.late⟩

/-- One more step, outside the die and the debug unit, that leaves no write waiting. -/
theorem step {ps : List Part} (h : SameRun s t) (g : Only ps t u) (hlate : SameLate t u) (hdie : .die ∉ ps := by decide)
    (hdbg : .dbg ∉ ps := by decide) : SameRun s u := by
  have hd : u.die = t.die := g.same .die hdie
  have hb : u.dbg = t.dbg := g.same .dbg hdbg
  exact h.trans ⟨by rw [hd], by rw [hd], by rw [hd], by rw [hb], by rw [hb], hlate.late⟩

/-- The same, outside the register file too. -/
theorem only {ps : List Part} (h : SameRun s t) (g : Only ps t u) (hdie : .die ∉ ps := by decide) (hdbg : .dbg ∉ ps := by decide)
    (hregs : .regs ∉ ps := by decide) : SameRun s u := h.step g (.of_only g hregs) hdie hdbg

/-- One of two such steps. -/
theorem ite {c : Prop} [Decidable c] (h : SameRun s t) (g : SameRun s u) : SameRun s (if c then t else u) := by
  split
  · exact h
  · exact g

/-- A run of such steps. -/
theorem foldl {α : Type} {f : State → α → State} {l : List α} (hf : ∀ t a, SameRun s t → SameRun s (f t a)) (h : SameRun s t) :
    SameRun s (l.foldl f t) := by
  induction l generalizing t with
  | nil => exact h
  | cons a l ih => exact ih (hf t a h)

theorem noteLevel (h : SameRun s t) : SameRun s t.noteLevel := by
  have hnoted (f : Flt) : SameRun t { t with die := { t.die with lastLevel := t.serviceLevel }, flt := f } := ⟨rfl, rfl, rfl, rfl, rfl, rfl⟩
  exact h.trans (ite (refl t) ((ite (hnoted t.flt) (hnoted _)).only (Posts.postAs ..)))

theorem judgeRetention (h : SameRun s t) : SameRun s t.judgeRetention := by
  have hdie := t.judgeRetention_die
  have hdbg : t.judgeRetention.dbg = t.dbg := t.judgeRetention_only.same .dbg (by decide)
  exact h.trans ⟨by rw [hdie], by rw [hdie], by rw [hdie], by rw [hdbg], by rw [hdbg], (SameLate.refl t).judgeRetention.late⟩

theorem raise {src detail : Nat} (h : SameRun s t) : SameRun s (t.raise src detail) := h.only (State.raise_only ..)

theorem newChallenge (h : SameRun s t) : SameRun s t.newChallenge := h.trans ⟨rfl, rfl, rfl, rfl, rfl, rfl⟩

theorem standAgain (h : SameRun s t) : SameRun s t.standAgain := by
  unfold State.standAgain
  extract_lets s₁ s₂ s₃ s₄
  have h₁ : SameRun s s₁ := ite h.raise h
  have h₂ : SameRun s s₂ := ite h₁.raise h₁
  have h₃ : SameRun s s₃ := ite h₂.raise h₂
  have h₄ : SameRun s s₄ := ite h₃.raise h₃
  exact ite h₄.raise h₄

theorem setCfg {n : RegName} {i : Nat} {w : Word} (h : SameRun s t) : SameRun s (t.setCfg n i w) := h.trans ⟨rfl, rfl, rfl, rfl, rfl, rfl⟩

theorem loadOtpRegs (h : SameRun s t) : SameRun s t.loadOtpRegs := by
  unfold State.loadOtpRegs
  extract_lets s₁ s₂ s₃ s₄ s₅
  have h₄ : SameRun s s₄ := foldl (fun _ _ h => h.setCfg) h.setCfg.setCfg.setCfg
  have h₅ : SameRun s s₅ := foldl (fun _ _ h => h.trans ⟨rfl, rfl, rfl, rfl, rfl, rfl⟩) (h₄.trans ⟨rfl, rfl, rfl, rfl, rfl, rfl⟩)
  exact h₅.setCfg

theorem startFirmware (h : SameRun s t) : SameRun s t.startFirmware := by
  have h₁ : SameRun s t.seedGen := ite (h.trans ⟨rfl, rfl, rfl, rfl, rfl, rfl⟩) (h.trans ⟨rfl, rfl, rfl, rfl, rfl, rfl⟩)
  exact noteLevel (foldl (fun u _ h => h.step (u.otpAsk_only _) (SameLate.refl u).otpAsk) (h₁.trans ⟨rfl, rfl, rfl, rfl, rfl, rfl⟩))

theorem readImage (h : SameRun s t) : SameRun s t.readImage := h.trans ⟨rfl, rfl, rfl, rfl, rfl, rfl⟩

end SameRun

section
variable {s : State}

theorem State.loadRepairs_only (s : State) : Only [.tch] s s.loadRepairs := by
  have hloaded (t : State) (i b row spare : Nat) : Only [.tch] t (t.loadSub i b row spare) := by
    unfold State.loadSub
    split
    · simp [Only]
    · exact (Only.refl t).mono (by simp)
  exact Only.step (by simp [Only]) (Only.foldl (fun t e => Only.ite (hloaded t _ _ _ _) (State.updChan_only ..)) _ _)

theorem State.irregular_only (s : State) : Only [.tim] s s.irregular := by simp [Only, State.irregular]

/-- The state in another mode of the die. -/
def State.inMode (s : State) (m : DieMode) : State := { s with die := { s.die with mode := m } }

theorem SameRun.inMode {s t : State} (h : SameRun s t) (m : DieMode) : SameRun (s.inMode m) (t.inMode m) :=
  ⟨rfl, h.warmCount, h.hardCount, h.level, h.lockout, h.late⟩

/-- The released die runs (R421 step 4). -/
theorem State.release_run (s : State) : SameRun (s.inMode .running) s.release := by
  unfold State.release
  extract_lets s₁ _ s₂ _ s₃
  have h₁ : SameRun s s₁ := (SameRun.refl s).standAgain
  have h₂ : SameRun (s.inMode .running) s₃ := ⟨rfl, h₁.warmCount, h₁.hardCount, h₁.level, h₁.lockout, h₁.late⟩
  exact .noteLevel (.only (.only h₂.loadOtpRegs (ps := [.pwr]) (by simp [Only, State.queueOpenings])) (State.retarget_only _))

/-- The mode a warm restart ends in: it runs at once where the fuses have been sensed (R426). -/
def State.restartMode (s : State) : DieMode := if s.otp.sensed then .running else .restarting

/-- The parts that change in a warm restart before the die is released. -/
def restartParts : List Part := [.die, .regs, .pcd, .tim, .flt, .clk, .rng, .lnk, .pwr, .out, .tch, .dbg, .free]

/-- A warm restart ends in that mode, and keeps what its first steps have set. -/
theorem State.warmRestart_run (s : State) (cause : Nat) :
    SameRun ((s.restartFields cause).inMode (s.restartFields cause).restartMode) (s.warmRestart cause) := by
  have hfields : SameRun (s.restartFields cause) (s.restartFields cause).judgeRetention := (SameRun.refl _).judgeRetention
  have hjudged : Only restartParts (s.restartFields cause) _ := (s.restartFields cause).judgeRetention_only.mono (by decide)
  unfold State.warmRestart
  rw [← State.restartFields]
  generalize s.restartFields cause = b at hfields hjudged ⊢
  extract_lets _ _ s₁ s₂ s₃ _ _ _ s₄ _ s₅ _ s₆
  have h₂ : SameRun b s₂ := .ite (hfields.only (State.goOrphan_only _)) (.ite (hfields.only (State.irregular_only _)) hfields)
  have ho₂ : Only restartParts b s₂ :=
    .ite (hjudged.andThen (State.goOrphan_only _)) (.ite (hjudged.andThen (State.irregular_only _)) hjudged)
  clear_value s₂
  have h₃ : SameRun b s₃ := .only (SameRun.newChallenge (h₂.only (State.pulseTiers_only _))) (State.loadRepairs_only _)
  have ho₃ : Only restartParts b s₃ :=
    ((ho₂.andThen (State.pulseTiers_only _)).andThen (State.newChallenge_only _)).andThen (State.loadRepairs_only _)
  clear_value s₃
  have hmoved : Posts s₃ s₄ := ((Posts.power _ _).trans (Posts.power _ _)).trans (Posts.isleTick _)
  have h₄ : SameRun b s₄ := h₃.only hmoved
  have hsensed : s₄.otp = b.otp := (ho₃.andThen hmoved).same .otp (by decide)
  clear_value s₄
  have h₅ : SameRun (s₄.inMode .running) s₅ := s₄.release_run
  clear_value s₅
  have h₆ : SameRun (s₄.inMode .running) s₆ := h₅.trans ⟨rfl, rfl, rfl, rfl, rfl, rfl⟩
  clear_value s₆
  have hmode : b.restartMode = if s₄.otp.sensed then .running else .restarting := by rw [State.restartMode, hsensed]
  rw [hmode]
  split
  case isTrue hin =>
    rw [if_neg (by simp [hin])]
    exact (h₄.inMode .running).trans (.ite h₆ (.ite h₆.startFirmware h₆.readImage))
  case isFalse hnot =>
    rw [if_pos (by simpa using hnot)]
    exact h₄.inMode .restarting

/-- The first steps of a warm restart (R427, R433). -/
theorem State.restartFields_begun (s : State) (cause : Nat) :
    (s.restartFields cause).restartMode = s.restartMode ∧
    (s.restartFields cause).die.warmCount = satInc s.die.warmCount 1 ∧ (s.restartFields cause).die.hardCount = s.die.hardCount ∧
    (s.restartFields cause).dbg.level = 0 ∧ (s.restartFields cause).dbg.lockout = false ∧ (s.restartFields cause).regs.late = [] := by
  have hbegun := s.resetBegin_begun .warm cause
  unfold State.restartFields
  generalize s.resetBegin .warm cause = b at hbegun ⊢
  refine ⟨?_, hbegun.warmCount, hbegun.hardCount, rfl, rfl, rfl⟩
  exact congrArg (fun sensed => if sensed = true then DieMode.running else .restarting) hbegun.sensed

end

end Sys2Proof.Machine
end

section
/-! PROOF. Hard and warm resets (O34). -/

namespace Sys2Proof.Machine
set_option Elab.async false
open Sys2Proof.Safety

/-- A die whose register file is not released, and which was not in service, notes no change of service. -/
theorem State.noteLevel_unserved {s : State} (hmgmt : s.die.mgmt = false) (hlevel : s.die.lastLevel = 0) : s.noteLevel = s := by
  have hnone : s.serviceLevel = 0 := by simp [State.serviceLevel, State.mgmtFloor, State.regsServed, hmgmt]
  exact if_pos (hnone.trans hlevel.symm)

theorem State.act_rstHard {s : State} {w : RegWrite} (hkey : fieldOf w.data 0 8 = 0xC3) (hhard : bitOf w.data 8 = true) :
    s.act w .rstCtl 0 = s.hardReset causeCtlHard := by
  simp [State.act, State.actRstCtl, hkey, hhard, State.ctlHard]

theorem State.act_rstWarm {s : State} {w : RegWrite} (hkey : fieldOf w.data 0 8 = 0xC3) (hhard : bitOf w.data 8 = false)
    (hwarm : bitOf w.data 9 = true) : s.act w .rstCtl 0 = s.warmReset causeCtlWarm := by
  simp [State.act, State.actRstCtl, hkey, hhard, hwarm]

theorem State.act_rstKey {s : State} {w : RegWrite} (hkey : fieldOf w.data 0 8 ≠ 0xC3) : s.act w .rstCtl 0 = s.ignoredField w 0 8 := by
  simp [State.act, State.actRstCtl, hkey]

/-- The low eight bits of a key beside an action bit. -/
theorem fieldOf_key (key : Byte) {bit : Word} (h : bit.toNat % 2 ^ 8 = 0) : fieldOf (key.setWidth 32 ||| bit) 0 8 = key.toNat := by
  have hkey := key.isLt
  have hwide : (key.setWidth 32).toNat = key.toNat := by simp; omega
  rw [fieldOf, BitVec.toNat_or, hwide, pow_zero, Nat.div_one, Nat.or_mod_two_pow, h, Nat.or_zero, Nat.mod_eq_of_lt hkey]

end Sys2Proof.Machine

namespace Sys2Proof.Proofs
set_option Elab.async false
open Sys2Proof.Machine Sys2Proof.Safety

section
variable {p : Path} {s : State}

theorem rstCtl_acts : (regFields .rstCtl 0).all (fun f => !f.typ.stored) = true := by decide

/-! ## Hard resets (R414, R415, R432) -/

theorem rstCtlHard_holds (h : Acts p .rstCtl 0 s) : exec (.rstCtlHard p 0xC3) s = .next (s.hardReset causeCtlHard) := by
  have hheld := s.hardReset_held causeCtlHard (.inl (acts_running h))
  have hact : s.act (writeOf p .rstCtl 0 (0xC3 ||| 0x100)) .rstCtl 0 = s.hardReset causeCtlHard :=
    State.act_rstHard (by simp only [writeOf]; decide) (by simp only [writeOf]; decide)
  refine congrArg Host.Outcome.next ((State.namedWrite_act h rstCtl_acts rfl hact).trans ?_)
  rw [State.actLate_nil _ hheld.late, State.noteLevel_unserved hheld.mgmt hheld.lastLevel]

/-- RESET_N is low: the die holds it. -/
def resetPinLow (s : State) : State := { s with die := { s.die with resetLow := true } }

theorem resetNLow_long {ns : Nat} (hns : 1000 ≤ ns) : exec (.resetNLow ns) s =
    .next (s.onPin fun t => (resetPinLow t).hardReset causeResetN) := by
  refine (if_neg (by omega)).trans ?_
  rw [decide_eq_true hns]
  rfl

theorem resetNLow_medium {ns : Nat} (hlow : 100 ≤ ns) (hns : ns < 1000) : exec (.resetNLow ns) s = .next (s.onPin fun t =>
    if Config.takesPulse t.free then (resetPinLow { t with free := t.free + 1 }).hardReset causeResetN
    else { t with free := t.free + 1 }) := by
  refine (if_neg (by omega)).trans ?_
  rw [decide_eq_false (by omega)]
  refine congrArg (fun f => Host.Outcome.next (s.onPin f)) (funext fun t => ?_)
  cases htakes : Config.takesPulse t.free <;> rfl

/-- What a pulse that is taken does while the pin is good. -/
theorem resetNLow_holds {ns : Nat} (hns : 1000 ≤ ns) (hio : s.die.uvIo = false) :
    exec (.resetNLow ns) s = .next ((resetPinLow s).hardReset causeResetN) := by
  rw [resetNLow_long hns, State.onPin_seen _ hio]

theorem resetNLow_free {ns : Nat} (hlow : 100 ≤ ns) (hns : ns < 1000) (hio : s.die.uvIo = false) : exec (.resetNLow ns) s =
    if Config.takesPulse s.free then exec (.resetNLow 1000) { s with free := s.free + 1 } else .next { s with free := s.free + 1 } := by
  rw [resetNLow_medium hlow hns, State.onPin_seen _ hio, resetNLow_holds (le_refl _) (show ({ s with free := s.free + 1 } : State).die.uvIo = false from hio)]
  split <;> rfl

/-- A hard reset of a running die, by its register or by its pin, as the statement tells it. -/
theorem hardReset_starts {c : Instr} {cause : BitVec 4}
    (h : (∃ p : Path, c = .rstCtlHard p 0xC3 ∧ Acts p .rstCtl 0 s ∧ cause = 5) ∨
      (∃ ns : Nat, c = .resetNLow ns ∧ 1000 ≤ ns ∧ cause = 4 ∧ s.die.uvIo = false ∧
        (s.die.mode = .running ∨ s.die.mode = .restarting ∨ s.die.mode = .safe ∨ s.die.mode = .clickHold))) :
    ∃ (t : State) (k : Nat), exec c s = .next t ∧ HeldHard s k t ∧ cause = BitVec.ofNat 4 k := by
  obtain ⟨p, rfl, hacts, rfl⟩ | ⟨ns, rfl, hns, rfl, hio, hmode⟩ := h
  · exact ⟨_, _, rstCtlHard_holds hacts, s.hardReset_held _ (.inl (acts_running hacts)), rfl⟩
  · have hheld := (resetPinLow s).hardReset_held causeResetN hmode
    exact ⟨_, causeResetN, resetNLow_holds hns hio, { hheld with }, rfl⟩

/-! ## Warm resets (R426, R427, R432) -/

theorem rstCtlWarm_restarts (h : Acts p .rstCtl 0 s) : ∃ t : State, exec (.rstCtlWarm p 0xC3) s = .next t ∧
    t.die.mode = (if s.otp.sensed then .running else .restarting) ∧ t.die.kind = .warm ∧ t.die.cause = 8 ∧
    t.die.warmCount = satInc s.die.warmCount 1 ∧ t.die.hardCount = s.die.hardCount ∧ t.dbg.level = 0 ∧ t.dbg.lockout = false := by
  obtain ⟨hmode, hwarms, hhards, hlevel, hlockout, hlate⟩ := s.restartFields_begun causeCtlWarm
  obtain ⟨hcause, hkind, -⟩ := s.restartFields_cause causeCtlWarm
  have hrun := s.warmRestart_run causeCtlWarm
  have hsame := s.warmRestart_cause causeCtlWarm
  have hrestart : s.warmReset causeCtlWarm = s.warmRestart causeCtlWarm := by simp [State.warmReset, acts_running h]
  have hact : s.act (writeOf p .rstCtl 0 (0xC3 ||| 0x200)) .rstCtl 0 = s.warmRestart causeCtlWarm :=
    (State.act_rstWarm (by simp only [writeOf]; decide) (by simp only [writeOf]; decide) (by simp only [writeOf]; decide)).trans hrestart
  have hexec : exec (.rstCtlWarm p 0xC3) s = .next (s.warmRestart causeCtlWarm).noteLevel :=
    congrArg Host.Outcome.next ((State.namedWrite_act h rstCtl_acts rfl hact).trans
      (congrArg State.noteLevel (State.actLate_nil _ (hrun.late.trans hlate))))
  generalize s.warmRestart causeCtlWarm = v at hrun hsame hexec
  generalize s.restartFields causeCtlWarm = b at *
  have hnoted := hrun.noteLevel
  have hcauses := hsame.noteLevel
  exact ⟨_, hexec, hnoted.mode.trans hmode, hcauses.kind.trans hkind, hcauses.cause.trans hcause, hnoted.warmCount.trans hwarms,
    hnoted.hardCount.trans hhards, hnoted.level.trans hlevel, hnoted.lockout.trans hlockout⟩

/-- A wrong key, whichever reset it asks for. -/
theorem rstCtl_refused (h : Acts p .rstCtl 0 s) {d : Word} (hkey : fieldOf d 0 8 ≠ 0xC3) :
    s.namedWrite p .rstCtl 0 d 0 none = (ignored p .rstCtl 0 d 0 8 s).noteLevel :=
  State.namedWrite_act_done h rstCtl_acts rfl (State.act_rstKey hkey) (ignored_late ..)

theorem rstCtl_wrongKey (h : Acts p .rstCtl 0 s) {key : Byte} (hkey : key ≠ 0xC3) :
    exec (.rstCtlHard p key) s = .next (ignored p .rstCtl 0 (key.setWidth 32 ||| 0x100) 0 8 s).noteLevel ∧
    exec (.rstCtlWarm p key) s = .next (ignored p .rstCtl 0 (key.setWidth 32 ||| 0x200) 0 8 s).noteLevel := by
  have hwrong {bit : Word} (hbit : bit.toNat % 2 ^ 8 = 0) : fieldOf (key.setWidth 32 ||| bit) 0 8 ≠ 0xC3 := by
    rw [fieldOf_key key hbit]
    exact fun e => hkey (BitVec.eq_of_toNat_eq e)
  exact ⟨congrArg Host.Outcome.next (rstCtl_refused h (hwrong (by decide))), congrArg Host.Outcome.next (rstCtl_refused h (hwrong (by decide)))⟩

end

/-- Settles O34: by what a hard reset leaves, what a pulse of RESET_N is taken for, and what a warm restart keeps of its first steps. -/
theorem hardAndWarmResets : Obligations.HardAndWarmResets := by
  unfold Obligations.HardAndWarmResets
  refine ⟨fun c cause s h => ?_, fun ns s => ⟨fun hshort => if_pos hshort, fun hns hio t ht => ?_, fun hlow hns hio t u ht hu => ?_, resetNLow_free⟩,
    fun p s h => ⟨rstCtlWarm_restarts h, fun key => rstCtl_wrongKey h⟩⟩
  · obtain ⟨t, k, hexec, hheld, rfl⟩ := hardReset_starts h
    obtain ⟨hrng, hbud, hlnk, htim, hcal, hbst, hsec, hscb, hqos⟩ :
        t.rng = State.reset.rng ∧ t.bud = State.reset.bud ∧ t.lnk = State.reset.lnk ∧ t.tim = State.reset.tim ∧ t.cal = State.reset.cal ∧
        t.bst = State.reset.bst ∧ t.sec = State.reset.sec ∧ t.scb = State.reset.scb ∧ t.qos = State.reset.qos :=
      ⟨hheld.only.same .rng (by decide), hheld.only.same .bud (by decide), hheld.only.same .lnk (by decide), hheld.only.same .tim (by decide),
        hheld.only.same .cal (by decide), hheld.only.same .bst (by decide), hheld.only.same .sec (by decide),
        hheld.only.same .scb (by decide), hheld.only.same .qos (by decide)⟩
    exact ⟨t, hexec, hheld.mode, hheld.kind, hheld.cause, hheld.mgmt, hheld.hardCount, hheld.image, hrng, hbud, hlnk, htim, hcal, hbst, hsec,
      hscb, hqos, hheld.level, hheld.lockout, hheld.checking, hheld.clampLog, hheld.late, hheld.status, hheld.counts, hheld.clicks, hheld.strap⟩
  · rw [resetNLow_long hns, State.onPin_undefined _ hio, ht]
    rfl
  · rw [resetNLow_medium hlow hns, State.onPin_undefined _ hio, ht, hu]
    rfl

end Sys2Proof.Proofs
end

section
/-! PROOF. The bytes of a transfer to the two-wire target (O21). -/

namespace Sys2Proof.Proofs
set_option Elab.async false
open Sys2Proof.Machine Sys2Proof.Safety

section
variable {byte : Byte} {acked : Bool} {s : State}

/-! ## The address (R523, R392) -/

theorem getLsbD_zero (b : Byte) : b.getLsbD 0 = decide (b.toNat % 2 = 1) := Nat.testBit_zero _

theorem twDecode_own (ha : s.twAnswers = true) (hown : byte.toNat / 2 = 0x38 + s.tw.strap.toNat) :
    s.twDecode byte = { s with tw := { s.tw with
      busBusy := true, pending := [], refused := 0, phase := if byte.getLsbD 0 then .readFirst else .ptrHi } }.emit (.twAck true) := by
  have hself : (s.twAnswers && byte.toNat / 2 == 0x38 + s.tw.strap.toNat) = true := by simp [ha, hown]
  rw [State.twDecode, hself, getLsbD_zero]
  simp

theorem twDecode_other (h : s.twAnswers = false ∨ byte.toNat / 2 ≠ 0x38 + s.tw.strap.toNat) :
    s.twDecode byte = { s with tw := { s.tw with busBusy := true, pending := [], refused := 0, phase := .idle } } := by
  have hself : (s.twAnswers && byte.toNat / 2 == 0x38 + s.tw.strap.toNat) = false := by
    obtain h | h := h
    · rw [h, Bool.false_and]
    · rw [beq_false_of_ne h, Bool.and_false]
  rw [State.twDecode, hself]
  rfl

theorem twAddress_seen (hidle : s.tw.phase = .idle) (hio : s.die.uvIo = false) : exec (.twAddress byte) s = .next (s.twDecode byte) :=
  (if_pos hidle).trans (congrArg Host.Outcome.next (State.onPin_seen _ hio))

theorem twAddress_low {t : State} (hidle : s.tw.phase = .idle) (hio : s.die.uvIo = true) (ht : t = { s with free := s.free + 1 }) :
    exec (.twAddress byte) s = .next (if Config.pinSeen s.free then t.twDecode byte else t) :=
  ht ▸ (if_pos hidle).trans (congrArg Host.Outcome.next (State.onPin_undefined _ hio))

/-! ## The bytes of a write (R525, R526) -/

theorem twWriteByte_seen (hio : s.die.uvIo = false) : exec (.twWriteByte byte) s = .next (s.twTake byte) :=
  congrArg Host.Outcome.next (State.onPin_seen _ hio)

theorem twWriteByte_low {t : State} (hio : s.die.uvIo = true) (ht : t = { s with free := s.free + 1 }) :
    exec (.twWriteByte byte) s = .next (if Config.pinSeen s.free then t.twTake byte else t) :=
  ht ▸ congrArg Host.Outcome.next (State.onPin_undefined _ hio)

theorem twTake_high (hphase : s.tw.phase = .ptrHi) : s.twTake byte = { s with tw := { s.tw with
    phase := .ptrLo, loaded := BitVec.ofNat 16 (256 * byte.toNat + s.tw.loaded.toNat % 256) } }.emit (.twAck true) := by
  have hloaded : byte ++ s.tw.loaded.setWidth 8 = BitVec.ofNat 16 (256 * byte.toNat + s.tw.loaded.toNat % 256) := by
    have hbyte := byte.isLt
    apply BitVec.eq_of_toNat_eq
    rw [BitVec.toNat_append, BitVec.toNat_setWidth, Nat.shiftLeft_eq, Nat.mul_comm, BitVec.toNat_ofNat,
      ← Nat.two_pow_add_eq_or_of_lt (Nat.mod_lt _ (by decide))]
    omega
  simp only [State.twTake, hphase, hloaded]

theorem twTake_low (hphase : s.tw.phase = .ptrLo) : ∃ a : BitVec 16, a.toNat = s.tw.loaded.toNat / 256 * 256 + byte.toNat ∧
    s.twTake byte = { s with tw := { s.tw with phase := .data, loaded := a, pointer := a } }.emit (.twAck true) := by
  refine ⟨s.tw.loaded.extractLsb' 8 8 ++ byte, ?_, by simp only [State.twTake, hphase]⟩
  have hloaded := s.tw.loaded.isLt
  rw [BitVec.toNat_append, BitVec.extractLsb'_toNat, Nat.shiftRight_eq_div_pow, Nat.shiftLeft_eq, Nat.mul_comm,
    ← Nat.two_pow_add_eq_or_of_lt byte.isLt]
  omega

theorem twTake_data (hphase : s.tw.phase = .data) (haligned : s.tw.loaded.toNat % 4 = 0) (hnone : s.tw.refused = 0)
    (hpage : s.tw.pointer.toNat / 32 = s.tw.loaded.toNat / 32) : s.twTake byte = { s with tw := { s.tw with
      pending := s.tw.pending ++ [byte], pointer := s.tw.pointer + 1 } }.emit (.twAck true) := by
  have htakes : s.tw.takes = true := by simp [Tw.takes, haligned, hnone, hpage]
  simp only [State.twTake, hphase, htakes, if_true]

theorem twTake_refused (hphase : s.tw.phase = .data)
    (h : s.tw.loaded.toNat % 4 ≠ 0 ∨ s.tw.refused ≠ 0 ∨ s.tw.pointer.toNat / 32 ≠ s.tw.loaded.toNat / 32) :
    s.twTake byte = { s with tw := { s.tw with
      refused := s.tw.refused + 1, pointer := s.tw.pointer + 1,
      firstBad := if s.tw.refused = 0 then s.tw.pointer else s.tw.firstBad } }.emit (.twAck false) := by
  have htakes : s.tw.takes = false := by
    obtain h | h | h := h
    · rw [Tw.takes, beq_false_of_ne h, Bool.false_and, Bool.false_and]
    · rw [Tw.takes, beq_false_of_ne h, Bool.and_false, Bool.false_and]
    · rw [Tw.takes, beq_false_of_ne h, Bool.and_false]
  simp only [State.twTake, hphase, htakes, Bool.false_eq_true, if_false]

/-! ## The bytes of a read (R525) -/

/-- A read byte that the die sees. -/
theorem twReadByte_seen (hphase : s.tw.phase = .readFirst ∨ s.tw.phase = .reading) (hio : s.die.uvIo = false) :
    exec (.twReadByte acked) s = .next (s.twSend (decide (s.tw.phase = .readFirst)) acked) := by
  change execTwReadByte acked s = _
  obtain hphase | hphase := hphase <;> rw [execTwReadByte, hphase] <;> exact congrArg Host.Outcome.next (State.onPin_seen _ hio)

theorem twReadByte_low {t : State} (hphase : s.tw.phase = .readFirst ∨ s.tw.phase = .reading) (hio : s.die.uvIo = true)
    (ht : t = { s with free := s.free + 1 }) : exec (.twReadByte acked) s =
      .next (if Config.pinSeen s.free then t.twSend (decide (s.tw.phase = .readFirst)) acked else t) := by
  change execTwReadByte acked s = _
  subst ht
  obtain hphase | hphase := hphase <;> rw [execTwReadByte, hphase] <;> exact congrArg Host.Outcome.next (State.onPin_undefined _ hio)

/-- Within a register the bytes are those of its first one. -/
theorem twSend_goesOn (hin : s.tw.pointer.toNat % 4 ≠ 0) : s.twSend false acked = { s with tw := { s.tw with
    pointer := s.tw.pointer + 1, phase := if acked then .reading else .ignore } }.emit
      (.twByte (BitVec.ofNat 8 (fieldOf s.tw.latched (8 * (s.tw.pointer.toNat % 4)) 8))) := by
  simp only [State.twSend, Bool.false_eq_true, false_or, if_neg hin]

/-- At the first byte of the transfer or of a register, the register is read whole. -/
theorem twSend_reads {first : Bool} {n : RegName} {i : Nat} (hstart : first = true ∨ s.tw.pointer.toNat % 4 = 0)
    (hreg : locateDirect s.tw.pointer.toNat = some (n, i)) (hwin : n ≠ .indWin) (hflt : n ≠ .fltStat) :
    s.twSend first acked = { s with tw := { s.tw with
      latched := s.readReg 2 n i, pointer := s.tw.pointer + 1, phase := if acked then .reading else .ignore } }.emit
        (.twByte (BitVec.ofNat 8 (fieldOf (s.readReg 2 n i) (8 * (s.tw.pointer.toNat % 4)) 8))) := by
  simp only [State.twSend, if_pos hstart, State.readDirect_reg hreg hwin hflt]

end

/-- Settles O21: the address, the bytes written and the bytes read, by the phase of the transfer. -/
theorem twTargetBytes : Obligations.TwTargetBytes := by
  unfold Obligations.TwTargetBytes
  refine ⟨fun byte s => ⟨fun hidle hio ha hown => ?_, fun hidle hio hother => ?_, fun hbusy => if_neg hbusy,
    fun hidle hio t => twAddress_low hidle hio, fun hio t => twWriteByte_low hio, fun hio hphase acked t => twReadByte_low hphase hio⟩,
    fun byte s hio => ⟨fun hphase => ?_, fun hphase => ?_, fun hphase haligned hnone hpage => ?_, fun hphase hrefused => ?_⟩,
    fun acked s hio => ⟨fun hphase hin => ?_, fun hstart n i hreg hwin hflt => ?_⟩⟩
  · rw [twAddress_seen hidle hio, twDecode_own ha hown]
  · rw [twAddress_seen hidle hio, twDecode_other hother]
  · rw [twWriteByte_seen hio, twTake_high hphase]
  · obtain ⟨a, ha, htake⟩ := twTake_low (byte := byte) hphase
    exact ⟨a, ha, by rw [twWriteByte_seen hio, htake]⟩
  · rw [twWriteByte_seen hio, twTake_data hphase haligned hnone hpage]
  · rw [twWriteByte_seen hio, twTake_refused hphase hrefused]
  · rw [twReadByte_seen (.inr hphase) hio, hphase]
    exact congrArg Host.Outcome.next (twSend_goesOn hin)
  · obtain hfirst | ⟨hreading, hzero⟩ := hstart
    · rw [twReadByte_seen (.inl hfirst) hio, twSend_reads (.inl (decide_eq_true hfirst)) hreg hwin hflt]
    · rw [twReadByte_seen (.inr hreading) hio, twSend_reads (.inr hzero) hreg hwin hflt]

end Sys2Proof.Proofs
end

section
/-! PROOF. The ends of a transfer to the two-wire target (O22). -/

namespace Sys2Proof.Machine
set_option Elab.async false

theorem length_wordsBytes (ws : List Word) : (wordsBytes ws).length = 4 * ws.length := by
  induction ws with
  | nil => rfl
  | cons w ws ih =>
    rw [wordsBytes, List.length_append, ih, length_leBytes, List.length_cons]
    omega

theorem bytesWords_wordsBytes (ws : List Word) : bytesWords (wordsBytes ws) = ws := by
  induction ws with
  | nil => rfl
  | cons w ws ih =>
    have hword : BitVec.ofNat 32 (leVal (leBytes 4 w.toNat)) = w := by
      rw [leVal_leBytes, Nat.mod_eq_of_lt (show w.toNat < 256 ^ 4 from w.isLt), BitVec.ofNat_toNat, BitVec.setWidth_eq]
    exact congrArg₂ List.cons hword ih

/-- The newest entry of the clamp log after a report (R557). -/
theorem State.clampNote_entry (s : State) (w : RegWrite) (kind lo hi written applied : Nat) : ∃ e,
    (s.clampNote w kind lo hi written applied).regs.clampLog.getLast? = some e ∧
    e.whr = packed [(w.addr, 0, 24), (oneIf w.ind, 24, 1), (w.src, 25, 3), (kind, 28, 4)] ∧
    e.field = BitVec.ofNat 8 lo ∧ e.fieldHi = BitVec.ofNat 8 hi ∧ e.written = BitVec.ofNat 32 written := by
  have hlast : ∀ (l : List ClampEntry) (e : ClampEntry), ((l ++ [e]).drop ((l ++ [e]).length - 32)).getLast? = some e := by
    intro l e
    rw [List.getLast?_drop, if_neg (by simp), List.getLast?_concat]
  exact ⟨_, hlast _ _, rfl, rfl, rfl, rfl⟩

theorem packed_four (a la wa b lb wb c lc wc d ld wd : Nat) : packed [(a, la, wa), (b, lb, wb), (c, lc, wc), (d, ld, wd)] =
    BitVec.ofNat 32 (a % 2 ^ wa * 2 ^ la + b % 2 ^ wb * 2 ^ lb + c % 2 ^ wc * 2 ^ lc + d % 2 ^ wd * 2 ^ ld) := by
  simp only [packed, placed, List.foldl_cons, List.foldl_nil, Nat.zero_add]

/-- The topmost of the fields of a word. -/
theorem fieldOf_topmost {a b c d : Nat} (ha : a < 2 ^ 24) (hb : b < 2 ^ 1) (hc : c < 2 ^ 3) (hd : d < 2 ^ 4) :
    fieldOf (BitVec.ofNat 32 (a * 2 ^ 0 + b * 2 ^ 24 + c * 2 ^ 25 + d * 2 ^ 28)) 28 4 = d := by
  rw [fieldOf, BitVec.toNat_ofNat]
  omega

/-- The kind of an entry, in its word WHR (R557). -/
theorem fieldOf_kind (addr ind src : Nat) {kind : Nat} (h : kind < 16) :
    fieldOf (packed [(addr, 0, 24), (ind, 24, 1), (src, 25, 3), (kind, 28, 4)]) 28 4 = kind := by
  rw [packed_four, fieldOf_topmost (Nat.mod_lt _ (by decide)) (Nat.mod_lt _ (by decide)) (Nat.mod_lt _ (by decide))
    (Nat.mod_lt _ (by decide))]
  exact Nat.mod_eq_of_lt h

section
variable {s : State} {a : Nat} {w : Word}

theorem State.twPartial_zero : s.twPartial a 0 = s := if_pos rfl

/-- The report of bytes that were not written leaves the interface as it is, and does not look at it. -/
theorem State.twPartial_tw (n : Nat) (t : Tw) : ({ s with tw := t } : State).twPartial a n = { s.twPartial a n with tw := t } ∧
    (s.twPartial a n).tw = s.tw := by
  unfold State.twPartial
  split <;> exact ⟨rfl, rfl⟩

/-- One register of a page write. -/
theorem State.twCommit_one : s.twCommit a [w] = s.pathWrite .tw a w 0 none := ite_self _

end

end Sys2Proof.Machine

namespace Sys2Proof.Proofs
set_option Elab.async false
open Sys2Proof.Machine Sys2Proof.Safety

section
variable {rep : Bool} {s e : State}

/-- What a STOP does with the bytes it finds: the whole registers, and what is left over. -/
theorem twStop_commits (he : e = { s with tw := { s.tw with phase := .idle, pending := [], refused := 0, busBusy := rep } }) {n : Nat}
    (hn : n = s.tw.pending.length / 4) : exec (.twStop rep) s =
      .next (((e.twCommit s.tw.loaded.toNat (bytesWords (s.tw.pending.take (4 * n)))).twPartial (s.tw.loaded.toNat + 4 * n)
        (s.tw.pending.length - 4 * n)).twPartial s.tw.firstBad.toNat s.tw.refused) := by
  subst he hn
  rfl

theorem twStop_whole (he : e = { s with tw := { s.tw with phase := .idle, pending := [], refused := 0, busBusy := rep } }) {ws : List Word}
    (hws : s.tw.pending = wordsBytes ws) :
    exec (.twStop rep) s = .next ((e.twCommit s.tw.loaded.toNat ws).twPartial s.tw.firstBad.toNat s.tw.refused) := by
  have hlen : s.tw.pending.length = 4 * ws.length := by rw [hws, length_wordsBytes]
  rw [twStop_commits he (n := ws.length) (by omega), ← hlen, List.take_length, hws, bytesWords_wordsBytes, Nat.sub_self, State.twPartial_zero]

theorem twStop_word (he : e = { s with tw := { s.tw with phase := .idle, pending := [], refused := 0, busBusy := rep } }) {a b c d : Byte}
    (hfour : s.tw.pending = [a, b, c, d]) (hnone : s.tw.refused = 0) : exec (.twStop rep) s = .next (e.pathWrite .tw s.tw.loaded.toNat
      (BitVec.ofNat 32 (a.toNat + 256 * b.toNat + 65536 * c.toNat + 16777216 * d.toNat)) 0 none) := by
  have hword : bytesWords [a, b, c, d] = [BitVec.ofNat 32 (a.toNat + 256 * b.toNat + 65536 * c.toNat + 16777216 * d.toNat)] := by
    refine congrArg (fun v => [BitVec.ofNat 32 v]) ?_
    simp only [leVal]
    omega
  have htake : [a, b, c, d].take (4 * 1) = [a, b, c, d] := rfl
  rw [twStop_commits he (n := 1)
    (by rw [hfour, List.length_cons, List.length_cons, List.length_cons, List.length_singleton]), hfour, htake, hword, State.twCommit_one, hnone, State.twPartial_zero]
  exact congrArg Host.Outcome.next State.twPartial_zero

theorem twStop_part (he : e = { s with tw := { s.tw with phase := .idle, pending := [], refused := 0, busBusy := rep } })
    (hshort : s.tw.pending.length < 4) (hsome : s.tw.pending ≠ []) (hnone : s.tw.refused = 0) : ∃ r : Regs,
      exec (.twStop rep) s = .next { e with regs := r } ∧ r.cfg = s.regs.cfg ∧ r.clampNew = true ∧
      r.clampNext = s.regs.clampNext + 1 ∧
      (∃ x, r.clampLog.getLast? = some x ∧ fieldOf x.whr 28 4 = 5 ∧ x.written.toNat = s.tw.pending.length) := by
  have hlen : s.tw.pending.length ≠ 0 := by simpa using hsome
  have hexec : exec (.twStop rep) s = .next (e.twPartial s.tw.loaded.toNat s.tw.pending.length) := by
    rw [twStop_commits he (n := 0) (by omega), hnone, State.twPartial_zero]
    rfl
  have hsays : e.twPartial s.tw.loaded.toNat s.tw.pending.length = _ := if_neg hlen
  obtain ⟨x, hlast, hwhr, -, -, hwritten⟩ := e.clampNote_entry ⟨2, false, s.tw.loaded.toNat / 4 * 4, 0, 0, none⟩ 5 0
    (s.tw.loaded.toNat % 4) s.tw.pending.length 0
  rw [hsays] at hexec
  subst he
  refine ⟨_, hexec, rfl, rfl, rfl, x, hlast, by rw [hwhr]; exact fieldOf_kind _ _ _ (by decide), ?_⟩
  rw [hwritten, BitVec.toNat_ofNat]
  omega

/-- A START or STOP out of place (R528, R529). -/
theorem twMisplacedCondition_drops (hphase : s.tw.phase ≠ .idle) (isStop slot : Bool) :
    exec (.twMisplacedCondition isStop slot) s = .next ({ s with tw := { s.tw with
      phase := .idle, refused := 0, pending := [], busBusy := !isStop,
      discards := if s.tw.pending.isEmpty then s.tw.discards else satInc s.tw.discards 1 } }.twPartial s.tw.firstBad.toNat s.tw.refused) := by
  have hdrop : (slot || s.tw.phase != .idle) = true := by simp [hphase]
  have hdrops : (if (slot || s.tw.phase != .idle) = true then s.twDrop.twPartial s.tw.firstBad.toNat s.tw.refused else s) =
      s.twDrop.twPartial s.tw.firstBad.toNat s.tw.refused := if_pos hdrop
  obtain ⟨hcommutes, htw⟩ := s.twDrop.twPartial_tw (a := s.tw.firstBad.toNat) s.tw.refused { s.twDrop.tw with busBusy := !isStop }
  refine (congrArg (fun t : State => Host.Outcome.next { t with tw := { t.tw with busBusy := !isStop } }) hdrops).trans ?_
  simp only [htw]
  exact congrArg Host.Outcome.next hcommutes.symm

/-- A low SDA for too long (R538). -/
theorem twSdaTimeout_drops (hphase : s.tw.phase ≠ .idle) (hon : s.tw.phase ≠ .ignore) : ∃ f : Flt,
    exec .twSdaTimeout s = .next ({ s with
      flt := f,
      tw := { s.tw with
        phase := .idle, refused := 0, pending := [], sdaTo := satInc s.tw.sdaTo 1,
        discards := if s.tw.pending.isEmpty then s.tw.discards else satInc s.tw.discards 1 } }.twPartial
          s.tw.firstBad.toNat s.tw.refused) ∧
      f.lines.getLast? = some ⟨85, 2⟩ ∧ f.status = s.flt.status := by
  have hdrops : ¬ (s.tw.phase = .idle ∨ s.tw.phase = .ignore) := not_or.mpr ⟨hphase, hon⟩
  obtain ⟨-, htw⟩ := s.twDrop.twPartial_tw (a := s.tw.firstBad.toNat) s.tw.refused
    { s.twDrop.tw with sdaTo := satInc s.tw.sdaTo 1 }
  refine ⟨(s.raise 85 2).flt, (if_neg hdrops).trans (congrArg Host.Outcome.next ?_), State.raise_last s 85 2, rfl⟩
  simp only [htw]
  unfold State.twPartial
  split <;> rfl

end

/-- Settles O22: a STOP commits what it finds, and a broken transfer drops it. -/
theorem twTargetEndsTransfers : Obligations.TwTargetEndsTransfers := by
  unfold Obligations.TwTargetEndsTransfers
  exact ⟨fun rep s e he => ⟨fun ws => twStop_whole he, fun a b c d => twStop_word he, twStop_part he⟩,
    fun s hphase => ⟨twMisplacedCondition_drops hphase, twSdaTimeout_drops hphase⟩⟩

end Sys2Proof.Proofs
end

section
/-! SUPPORT. A field that is written with a value it may take, and the words of TW_CCMD (R532, R533, R555). -/

namespace Sys2Proof.Machine
set_option Elab.async false
open Sys2Proof.Safety

section
variable {s : State} {w : RegWrite} {n : RegName} {i : Nat} {f : Field} {fs : List Field} {acc : Word}

/-- A field takes a value that it may hold, and nothing is reported. -/
theorem State.settleFields_asWritten (ht : f.typ = .rw) (hj : s.judgeField n i f acc w.data = some (fieldOf w.data f.lo f.wd)) :
    s.settleFields w n i (f :: fs) acc = s.settleFields w n i fs (withField acc f.lo f.wd (fieldOf w.data f.lo f.wd)) := by
  rw [State.settleFields, ht, hj]
  simp [FTyp.stored]

/-- An action is no stored field. -/
theorem State.settleFields_skips (ht : f.typ.stored = false) : s.settleFields w n i (f :: fs) acc = s.settleFields w n i fs acc := by
  rw [State.settleFields, ht]
  rfl

/-- An action bit that is written 1, where the action is refused (R544). -/
theorem State.bitAction_refused {lo : Nat} {go : State → Option State} (hbit : bitOf w.data lo = true) (hgo : go s = none) :
    s.bitAction w lo go = s.ignoredField w lo 1 := by
  simp [State.bitAction, hbit, hgo]

theorem bounded_within {lo hi v : Nat} (hlo : lo ≤ v) (hhi : v ≤ hi) : bounded lo hi v = v := by unfold bounded; omega

end

section
variable {s v : State} {w : RegWrite} {o : Word}

/-- The word of TW_CCMD: target and lengths as written. -/
def twCcmdWord (o d : Word) : Word :=
  withField (withField (withField o 0 7 (fieldOf d 0 7)) 8 6 (fieldOf d 8 6)) 16 6 (fieldOf d 16 6)

/-- The fields of a transaction that TW_CCMD may hold (R533). -/
structure TwFits (d : Word) : Prop where
  low : 0x08 ≤ fieldOf d 0 7
  high : fieldOf d 0 7 ≤ 0x77
  writes : fieldOf d 8 6 ≤ 32
  reads : fieldOf d 16 6 ≤ 32

theorem State.settle_twCcmd (h : TwFits w.data) : s.settleFields w .twCcmd 0 (regFields .twCcmd 0) o = (s, twCcmdWord o w.data) := by
  have hj {lo wd a b acc} (hin : a ≤ fieldOf w.data lo wd) (hto : fieldOf w.data lo wd ≤ b) :
      s.judgeField .twCcmd 0 ⟨lo, wd, .rw, a, .range a b⟩ acc w.data = some (fieldOf w.data lo wd) :=
    congrArg some (bounded_within hin hto)
  have hfields : regFields .twCcmd 0 = [⟨0, 7, .rw, 0x08, .range 0x08 0x77⟩, ⟨8, 6, .rw, 0, .range 0 32⟩, ⟨16, 6, .rw, 0, .range 0 32⟩,
    ⟨24, 1, .w1s, 0, .any⟩] := rfl
  rw [hfields, State.settleFields_asWritten rfl (hj h.low h.high), State.settleFields_asWritten rfl (hj (Nat.zero_le _) h.writes),
    State.settleFields_asWritten rfl (hj (Nat.zero_le _) h.reads), State.settleFields_skips rfl]
  rfl

theorem fieldOf_twCcmdWord (o d : Word) : fieldOf (twCcmdWord o d) 0 7 = fieldOf d 0 7 ∧
    fieldOf (twCcmdWord o d) 8 6 = fieldOf d 8 6 ∧ fieldOf (twCcmdWord o d) 16 6 = fieldOf d 16 6 := by
  unfold twCcmdWord
  refine ⟨?_, ?_, ?_⟩
  · rw [fieldOf_withField_of_disjoint (by omega) (by omega), fieldOf_withField_of_disjoint (by omega) (by omega),
      fieldOf_withField_of_lt (by omega) fieldOf_lt]
  · rw [fieldOf_withField_of_disjoint (by omega) (by omega), fieldOf_withField_of_lt (by omega) fieldOf_lt]
  · exact fieldOf_withField_of_lt (by omega) fieldOf_lt

/-- The word is stored before GO is looked at (R532, R554). -/
theorem State.namedWrite_twCcmd {p : Path} {d : Word} (h : Acts p .twCcmd 0 s) (hf : Formed s) (hfits : TwFits d) :
    ∃ v, Stored .twCcmd 0 (twCcmdWord (s.cfgWord .twCcmd 0) d) s v ∧ v.regs.clampLog = s.regs.clampLog ∧
      s.namedWrite p .twCcmd 0 d 0 none = (v.act (writeOf p .twCcmd 0 d) .twCcmd 0).actLate.noteLevel := by
  obtain ⟨hpath, hmode, hlate, hstall, hawake⟩ := h
  obtain ⟨-, -, -, -, -, -, -, -, hsorted⟩ := hf
  have hstored := (Clamped.refl s).stored (n := .twCcmd) (i := 0) hsorted (pathSource p) (twCcmdWord (s.cfgWord .twCcmd 0) d)
  refine ⟨_, hstored, rfl, ?_⟩
  generalize hv : (s.setCfg .twCcmd 0 (twCcmdWord (s.cfgWord .twCcmd 0) d)).setPar (pathSource p) .twCcmd 0 false = v
  have hcommit : s.commitFields (writeOf p .twCcmd 0 d) .twCcmd 0 = (v, s.cfgWord .twCcmd 0, twCcmdWord (s.cfgWord .twCcmd 0) d) := by
    have hsettle : s.settleFields (writeOf p .twCcmd 0 d) .twCcmd 0 (regFields .twCcmd 0) (s.cfgWord .twCcmd 0) = _ :=
      State.settle_twCcmd (w := writeOf p .twCcmd 0 d) hfits
    rw [← hv, State.commitFields, show s.present _ .twCcmd 0 = s.cfgWord .twCcmd 0 from rfl, hsettle]
    rfl
  have htakes (x : Word) : v.takeFields (writeOf p .twCcmd 0 d) .twCcmd 0 (s.cfgWord .twCcmd 0) x = v := ite_self _
  have hwrite : s.writeReg (writeOf p .twCcmd 0 d) .twCcmd 0 = (v.act (writeOf p .twCcmd 0 d) .twCcmd 0).actLate := by
    simp [State.writeReg, hmode, State.actLate_nil _ hlate, hstall, fieldsFirst, hcommit, htakes]
  rw [← hwrite, State.namedWrite, hpath, State.onPath_served _ _ _ _ hawake]
  rfl

end

end Sys2Proof.Machine
end

section
/-! PROOF. The transactions of the two-wire controller (O23). -/

namespace Sys2Proof.Proofs
set_option Elab.async false
open Sys2Proof.Machine Sys2Proof.Safety

section
variable {s : State} {p : Path} {d : Word}

/-! ## GO (R532, R533) -/

/-- GO lies above the fields of the transaction. -/
theorem fieldOf_go {lo wd : Nat} (h : lo + wd ≤ 24) : fieldOf (d ||| 0x1000000) lo wd = fieldOf d lo wd := by
  refine Nat.eq_of_testBit_eq fun j => ?_
  have hgo : (0x1000000 : Word).toNat = 2 ^ 24 := by decide
  rw [testBit_fieldOf, testBit_fieldOf, BitVec.toNat_or, Nat.testBit_or, hgo, Nat.testBit_two_pow]
  by_cases hj : j < wd
  · simp [show ¬ 24 = lo + j by omega]
  · simp [hj]

theorem bitOf_go : bitOf (d ||| 0x1000000) 24 = true := by simp [bitOf]

/-- The word that GO is written with fits as its fields do, and stands there. -/
theorem twFits_go (h : TwFits d) : TwFits (d ||| 0x1000000) :=
  ⟨by rw [fieldOf_go (by decide)]; exact h.low, by rw [fieldOf_go (by decide)]; exact h.high,
    by rw [fieldOf_go (by decide)]; exact h.writes, by rw [fieldOf_go (by decide)]; exact h.reads⟩

/-- The state in which a transaction of the register's user has started. -/
def twStarted (v : State) (d : Word) : State :=
  { v with tw := { v.tw with
    busy := true, bootRead := false, vqps := none, result := 0, doneN := 0, asked := (fieldOf d 8 6, fieldOf d 16 6), losses := 0
    } }.emit (.twStart (BitVec.ofNat 8 (fieldOf d 0 7)))

/-- The stored word is what GO reads. -/
theorem twAsks_stored {o : Word} {v : State} (hv : Stored .twCcmd 0 (twCcmdWord o (d ||| 0x1000000)) s v) :
    v.fld .twCcmd 0 0 7 = fieldOf d 0 7 ∧ v.fld .twCcmd 0 8 6 = fieldOf d 8 6 ∧ v.twAsks = (fieldOf d 8 6, fieldOf d 16 6) := by
  obtain ⟨htarget, hwrites, hreads⟩ := fieldOf_twCcmdWord o (d ||| 0x1000000)
  rw [fieldOf_go (by decide)] at htarget hwrites hreads
  rw [State.twAsks, hv.fld, hv.fld, hv.fld, htarget, hwrites, hreads]
  exact ⟨rfl, rfl, rfl⟩

theorem twGo_starts (h : Acts p .twCcmd 0 s) (hf : Formed s) (hfits : TwFits d) (hidle : s.tw.busy = false)
    (hasks : fieldOf d 8 6 ≠ 0 ∨ fieldOf d 16 6 ≠ 0) : ∃ u : State,
      exec (.twGo p d) s = .next u.noteLevel ∧ Only [.regs, .tw, .out] s u ∧
      u.tw = { s.tw with
        busy := true, bootRead := false, result := 0, doneN := 0, asked := (fieldOf d 8 6, fieldOf d 16 6), losses := 0, vqps := none } ∧
      u.out = s.out ++ [.twStart (BitVec.ofNat 8 (fieldOf d 0 7))] ∧
      u.fld .twCcmd 0 8 6 = fieldOf d 8 6 ∧ u.regs.clampLog = s.regs.clampLog := by
  obtain ⟨v, hv, hlog, hexec⟩ := State.namedWrite_twCcmd h hf (twFits_go hfits)
  obtain ⟨htarget, hwrites, htwAsks⟩ := twAsks_stored hv
  have htw : v.tw = s.tw := hv.only.same .tw (by decide)
  have hsome : ¬ (v.tw.busy = true ∨ v.twAsks = (0, 0)) := by
    rw [htw, hidle, htwAsks, Prod.mk.injEq]
    rintro (hbusy | ⟨hnoWrite, hnoRead⟩)
    · exact Bool.false_ne_true hbusy
    · exact hasks.elim (fun hsome => hsome hnoWrite) fun hsome => hsome hnoRead
  have hgo : v.twGo = some (twStarted v d) := by
    unfold State.twGo
    rw [if_neg hsome, htwAsks]
    exact congrArg (fun k => some (State.emit _ (.twStart (BitVec.ofNat 8 k)))) htarget
  have hact : v.act (writeOf p .twCcmd 0 (d ||| 0x1000000)) .twCcmd 0 = twStarted v d :=
    State.bitAction_taken (go := fun s => s.twGo) bitOf_go hgo
  have hlate : (twStarted v d).regs.late = [] := hv.late.trans (acts_late h)
  rw [hact, State.actLate_nil _ hlate] at hexec
  have honly : Only [.regs, .tw, .out] s (twStarted v d) :=
    (hv.only.mono (by simp)).andThen (qs := [.tw, .out]) (by simp [Only, twStarted, State.emit])
  refine ⟨_, congrArg Host.Outcome.next hexec, honly, ?_, ?_, hwrites, hlog⟩
  · rw [← htw]
    rfl
  · exact congrArg (· ++ _) (hv.only.same .out (by decide))

theorem twGo_refused (h : Acts p .twCcmd 0 s) (hf : Formed s) (hfits : TwFits d) (hbusy : s.tw.busy = true) : ∃ u : State,
      exec (.twGo p d) s = .next u.noteLevel ∧ Only [.regs] s u ∧
      (∃ e, u.regs.clampLog.getLast? = some e ∧ fieldOf e.whr 28 4 = 2 ∧ e.field = 24 ∧ e.fieldHi = 24) := by
  obtain ⟨v, hv, -, hexec⟩ := State.namedWrite_twCcmd h hf (twFits_go hfits)
  have htw : v.tw = s.tw := hv.only.same .tw (by decide)
  have hgo : v.twGo = none := if_pos (.inl (by rw [htw, hbusy]))
  have hact : v.act (writeOf p .twCcmd 0 (d ||| 0x1000000)) .twCcmd 0 = v.ignoredField (writeOf p .twCcmd 0 (d ||| 0x1000000)) 24 1 :=
    State.bitAction_refused (go := fun s => s.twGo) bitOf_go hgo
  have hnoted : Clamped v (v.ignoredField (writeOf p .twCcmd 0 (d ||| 0x1000000)) 24 1) := v.clampNote_clamped ..
  rw [hact, State.actLate_nil _ (hnoted.late.trans (hv.late.trans (acts_late h)))] at hexec
  obtain ⟨e, hlast, hwhr, hlo, hhi, -⟩ := v.clampNote_entry (writeOf p .twCcmd 0 (d ||| 0x1000000)) 2 24 24
    (fieldOf (d ||| 0x1000000) 24 1) 0
  exact ⟨_, congrArg Host.Outcome.next hexec, hv.only.andThen hnoted.only, e, hlast, by rw [hwhr]; exact fieldOf_kind _ _ _ (by decide), hlo, hhi⟩

/-! ## The ends of a transaction (R532, R534, R541) -/

/-- The buffer is stored values alone. -/
theorem State.twFill_regs (k : Nat) (bytes : List Byte) : ∃ r : Regs, s.twFill k bytes = { s with regs := r } := by
  induction bytes generalizing s k with
  | nil => exact ⟨s.regs, rfl⟩
  | cons b t ih =>
    obtain ⟨r, hr⟩ := ih (s := s.setCfg .twCbuf (k / 4) (withField (s.cfgWord .twCbuf (k / 4)) (8 * (k % 4)) 8 b.toNat)) (k := k + 1)
    exact ⟨r, hr⟩

/-- With no switching of VQPS under way or waiting, the end of a transaction ends none (R535). -/
theorem State.vqpsEnded_none {ok : Bool} (hnone : s.tw.vqps = none) (hq : s.tw.vqpsQ = []) : s.vqpsEnded ok = s := by
  have hsame : ({ s with tw := { s.tw with vqps := none } } : State) = s := by rw [← hnone]
  unfold State.vqpsEnded
  rw [hnone]
  simp only [hsame]
  unfold State.vqpsNext
  rw [hq]

/-- The interface once a transaction has ended other than well (R532, R542). -/
def twFailed (t : Tw) (r : TwResult) (done : Nat) : Tw := { t with
  busy := false, bootRead := false, result := BitVec.ofNat 3 (twCode r), doneN := min 64 done
  busErrs := if r = .busError then satInc t.busErrs 1 else t.busErrs
  timeouts := if r = .timeout then satInc t.timeouts 1 else t.timeouts
  recover := t.recover || r == .timeout }

/-- A transaction of the register's user that fails is reported, and nothing else follows (R532). -/
theorem State.twFail_user {r : TwResult} {done : Nat} (hr : r ≠ .aborted) (hnone : s.tw.vqps = none) (hq : s.tw.vqpsQ = [])
    (hboot : s.tw.bootRead = false) :
    s.twFail r done = { s with tw := twFailed s.tw r done, flt := (s.raise 85 (1 + 2 ^ 8 * twCode r)).flt } := by
  have hended : (({ s with tw := twFailed s.tw r done } : State).raise 85 (1 + 2 ^ 8 * twCode r)).vqpsEnded false =
      ({ s with tw := twFailed s.tw r done } : State).raise 85 (1 + 2 ^ 8 * twCode r) := State.vqpsEnded_none hnone hq
  unfold State.twFail
  simp only [hboot, if_neg hr, Bool.false_eq_true, if_false]
  exact hended

/-- The end of such a transaction, by its result. -/
theorem transactionEnd_user {res : TwResult} {done : Nat} {bytes : List Byte} (hres : res ≠ .arbLost) (hbusy : s.tw.busy = true)
    (hboot : s.tw.bootRead = false) (hlen : bytes.length ≤ s.tw.asked.2) (hdone : done ≤ s.tw.asked.1 + s.tw.asked.2) :
    exec (.twTransactionEnd res done bytes) s = .next (if res = .ok then { s.twFill 0 bytes with
        tw := { (s.twFill 0 bytes).tw with busy := false, result := 0, doneN := min 64 done } }.vqpsEnded true
      else (s.twFill 0 bytes).twFail res done) := by
  have hgoes : ¬ ((!s.tw.busy) = true ∨ res = .arbLost) := by simp [hbusy, hres]
  have hfits : ¬ (s.tw.asked.2 < bytes.length ∨ s.tw.asked.1 + s.tw.asked.2 < done) := by omega
  refine (if_neg hgoes).trans ((if_neg (by simp [hboot])).trans ((if_neg hfits).trans ?_))
  cases res <;> rfl

theorem transactionEnd_ok {done : Nat} {bytes : List Byte} (hbusy : s.tw.busy = true) (hnone : s.tw.vqps = none) (hq : s.tw.vqpsQ = [])
    (hboot : s.tw.bootRead = false) (hlen : bytes.length ≤ s.tw.asked.2) (hdone : done ≤ s.tw.asked.1 + s.tw.asked.2) :
    exec (.twTransactionEnd .ok done bytes) s = .next { s with
      regs := (s.twFill 0 bytes).regs, tw := { s.tw with busy := false, result := 0, doneN := min 64 done } } := by
  rw [transactionEnd_user (by decide) hbusy hboot hlen hdone, if_pos rfl]
  obtain ⟨r, hr⟩ := State.twFill_regs (s := s) 0 bytes
  rw [hr]
  exact congrArg Host.Outcome.next (State.vqpsEnded_none hnone hq)

theorem transactionEnd_fails {done : Nat} {res : TwResult} (hok : res ≠ .ok) (harb : res ≠ .arbLost) (habort : res ≠ .aborted)
    (hbusy : s.tw.busy = true) (hnone : s.tw.vqps = none) (hq : s.tw.vqpsQ = []) (hboot : s.tw.bootRead = false)
    (hdone : done ≤ s.tw.asked.1 + s.tw.asked.2) : exec (.twTransactionEnd res done []) s =
      .next { s with tw := twFailed s.tw res done, flt := (s.raise 85 (1 + 2 ^ 8 * twCode res)).flt } := by
  rw [transactionEnd_user harb hbusy hboot (Nat.zero_le _) hdone, if_neg hok]
  exact congrArg Host.Outcome.next (State.twFail_user habort hnone hq hboot)

theorem transactionEnd_nack {done : Nat} {res : TwResult} (hres : res = .addrNack ∨ res = .dataNack) (hbusy : s.tw.busy = true)
    (hnone : s.tw.vqps = none) (hq : s.tw.vqpsQ = []) (hboot : s.tw.bootRead = false) (hdone : done ≤ s.tw.asked.1 + s.tw.asked.2) :
    ∃ f : Flt, exec (.twTransactionEnd res done []) s = .next { s with
        flt := f, tw := { s.tw with
          busy := false, bootRead := false, doneN := min 64 done, result := if res = .addrNack then 1 else 2 } } ∧
      f.lines.getLast? = some ⟨85, if res = .addrNack then 0x101 else 0x201⟩ := by
  obtain rfl | rfl := hres
  · rw [transactionEnd_fails (by decide) (by decide) (by decide) hbusy hnone hq hboot hdone]
    refine ⟨_, congrArg Host.Outcome.next ?_, State.raise_last s 85 _⟩
    simp [twFailed, twCode]
  · rw [transactionEnd_fails (by decide) (by decide) (by decide) hbusy hnone hq hboot hdone]
    refine ⟨_, congrArg Host.Outcome.next ?_, State.raise_last s 85 _⟩
    simp [twFailed, twCode]

/-- The boot code's read (R534). -/
theorem transactionEnd_boot {done : Nat} {bytes : List Byte} (hbusy : s.tw.busy = true) (hboot : s.tw.bootRead = true) :
    exec (.twTransactionEnd .ok done bytes) s = .next (s.imageArrive bytes done) :=
  (if_neg (by simp [hbusy])).trans (if_pos hboot)

theorem imageArrive_chunk {done : Nat} {bytes : List Byte} (hlen : bytes.length = imageChunk s.die.image) :
    s.imageArrive bytes done = { s with
      die := { s.die with image := s.die.image ++ bytes }
      tw := { s.tw with losses := 0, doneN := min 64 done }
      out := if imageChunk (s.die.image ++ bytes) = 0 then s.out else s.out ++ [.twStart (s.eeDevice (s.die.image ++ bytes).length)] } := by
  refine (if_neg (not_not.mpr hlen)).trans ?_
  by_cases hlast : imageChunk (s.die.image ++ bytes) = 0
  · rw [if_pos hlast, if_pos hlast]
  · rw [if_neg hlast, if_neg hlast]
    rfl

/-! ## Arbitration, timeout and recovery (R531, R536, R537) -/

/-- The interface that has lost arbitration once more. -/
def arbLostOnce (s : State) : State :=
  { s with tw := { s.tw with losses := s.tw.losses + 1, busBusy := true, arbLost := satInc s.tw.arbLost 1 } }

theorem twArrive_none (hboot : s.tw.bootRead = false) : s.twArrive [] = s := by
  unfold State.twArrive
  rw [hboot, List.take_nil]
  rfl

theorem arbLost_counts {done : Nat} (hboot : s.tw.bootRead = false) (hbusy : s.tw.busy = true) (hidle : s.tw.phase = .idle) :
    exec (.twArbLost none done []) s = .next (if s.fld .twCfg 0 2 3 < s.tw.losses + 1 then (arbLostOnce s).twFail .arbLost done
      else arbLostOnce s) := by
  have hgoes : ¬ ((!s.tw.busy) = true ∨ s.tw.phase ≠ .idle) := by simp [hbusy, hidle]
  change execTwArbLost none done [] s = _
  unfold execTwArbLost
  rw [if_neg hgoes, twArrive_none hboot]
  rfl

theorem arbLost_ends {done : Nat} (hboot : s.tw.bootRead = false) (hnone : s.tw.vqps = none) (hq : s.tw.vqpsQ = [])
    (hbusy : s.tw.busy = true) (hidle : s.tw.phase = .idle) (hretry : s.fld .twCfg 0 2 3 < s.tw.losses + 1) : ∃ f : Flt,
      exec (.twArbLost none done []) s = .next { s with
        flt := f, tw := { s.tw with
          losses := s.tw.losses + 1, busBusy := true, arbLost := satInc s.tw.arbLost 1, busy := false, result := 3,
          doneN := min 64 done } } ∧ f.lines.getLast? = some ⟨85, 0x301⟩ := by
  rw [arbLost_counts hboot hbusy hidle, if_pos hretry,
    State.twFail_user (s := arbLostOnce s) (r := .arbLost) nofun hnone hq hboot]
  refine ⟨_, congrArg Host.Outcome.next ?_, State.raise_last s 85 _⟩
  simp [twFailed, twCode, arbLostOnce, hboot]
  rfl

theorem stretchTimeout_ends {done : Nat} (hboot : s.tw.bootRead = false) (hnone : s.tw.vqps = none) (hq : s.tw.vqpsQ = [])
    (hbusy : s.tw.busy = true) : ∃ f : Flt, exec (.twStretchTimeout done []) s = .next { s with
      flt := f, tw := { s.tw with
        busy := false, result := 5, doneN := min 64 done, timeouts := satInc s.tw.timeouts 1, recover := true } } ∧
      f.lines.getLast? = some ⟨85, 0x501⟩ := by
  have hexec : exec (.twStretchTimeout done []) s = .next ((s.twArrive []).twFail .timeout done) := if_pos hbusy
  rw [hexec, twArrive_none hboot, State.twFail_user (r := .timeout) nofun hnone hq hboot]
  refine ⟨_, congrArg Host.Outcome.next ?_, State.raise_last s 85 _⟩
  simp [twFailed, twCode, hboot]

theorem busRecovery_frees (hbusy : s.tw.busy = false) (hrecover : s.tw.recover = true) (freed : Bool) :
    exec (.twBusRecovery freed) s = .next { s with tw := { s.tw with
      recover := false, recovers := satInc s.tw.recovers 1, busBusy := s.tw.busBusy && !freed } } := by
  refine (if_neg (by simp [hrecover])).trans (if_neg ?_)
  simp [hbusy]

/-- The interface after a recovery that has not freed the bus (R537). -/
def recoveryFailed (s : State) : State :=
  { s with tw := { s.tw with recover := false, recovers := satInc s.tw.recovers 1, busBusy := s.tw.busBusy && !false } }

theorem busRecovery_fails (hboot : s.tw.bootRead = false) (hnone : s.tw.vqps = none) (hq : s.tw.vqpsQ = []) (hbusy : s.tw.busy = true) :
    ∃ f : Flt, exec (.twBusRecovery false) s = .next { s with
      flt := f, tw := { s.tw with
        busy := false, result := 4, doneN := 0, recover := false, recovers := satInc s.tw.recovers 1,
        busErrs := satInc s.tw.busErrs 1 } } ∧ f.lines.getLast? = some ⟨85, 0x401⟩ := by
  have hexec : exec (.twBusRecovery false) s = .next ((recoveryFailed s).twFail .busError 0) :=
    (if_neg (by simp [hbusy])).trans (if_pos ⟨hbusy, rfl⟩)
  rw [hexec, State.twFail_user (s := recoveryFailed s) (r := .busError) nofun hnone hq hboot]
  refine ⟨_, congrArg Host.Outcome.next ?_, State.raise_last s 85 _⟩
  simp [twFailed, twCode, recoveryFailed, hboot]
  rfl

end

/-- Settles O23: GO over the stored word, the ends of a transaction by their result, and the counted losses of the bus. -/
theorem twControllerTransactions : Obligations.TwControllerTransactions := by
  unfold Obligations.TwControllerTransactions
  refine ⟨fun p data s h hf hlow hhigh hwrites hreads => ?_, fun done bytes s hbusy hnone hq => ⟨?_, ?_, ?_, ?_, ?_⟩,
    fun s hboot hnone hq => ⟨fun done hbusy hidle hretry => ?_, fun done => arbLost_ends hboot hnone hq,
      fun done => stretchTimeout_ends hboot hnone hq, busRecovery_frees, busRecovery_fails hboot hnone hq⟩⟩
  · have hfits : TwFits data := ⟨hlow, hhigh, hwrites, hreads⟩
    exact ⟨twGo_starts h hf hfits, twGo_refused h hf hfits⟩
  · rintro hboot rfl hdone
    exact transactionEnd_ok hbusy hnone hq hboot (Nat.zero_le _) hdone
  · exact fun hboot hlen hdone => ⟨_, transactionEnd_ok hbusy hnone hq hboot hlen hdone⟩
  · exact fun hboot hlen => (transactionEnd_boot hbusy hboot).trans (congrArg Host.Outcome.next (imageArrive_chunk hlen))
  · exact fun hboot hlen => (transactionEnd_boot hbusy hboot).trans (congrArg Host.Outcome.next (if_pos hlen))
  · rintro res hres hboot rfl hdone
    exact transactionEnd_nack hres hbusy hnone hq hboot hdone
  · rw [arbLost_counts hboot hbusy hidle, if_neg (by omega)]
    rfl

end Sys2Proof.Proofs
end

section
/-! SUPPORT. Fields of a word that is put together, and the writes of OTP_CMD (R444, R450). -/

namespace Sys2Proof.Machine
set_option Elab.async false
open Sys2Proof.Safety

theorem fieldOf_or (a b : Word) (lo wd : Nat) : fieldOf (a ||| b) lo wd = fieldOf a lo wd ||| fieldOf b lo wd := by
  refine Nat.eq_of_testBit_eq fun j => ?_
  rw [Nat.testBit_or, testBit_fieldOf, testBit_fieldOf, testBit_fieldOf, BitVec.toNat_or, Nat.testBit_or, Bool.and_or_distrib_left]

section
variable {s : State} {w : RegWrite} {i : Nat}

theorem State.act_otpProgram (hkey : fieldOf w.data 8 8 = 0xA5) (hop : fieldOf w.data 0 4 = 1) :
    s.act w .otpCmd i = State.reported (s.otpProgram w.src) w := by
  simp [State.act, State.actOtpCmd, hkey, hop]

theorem State.act_otpLock (hkey : fieldOf w.data 8 8 = 0xA5) (hop : fieldOf w.data 0 4 = 2) :
    s.act w .otpCmd i = State.reported (s.otpLock w.src (fieldOf w.data 4 2)) w := by
  simp [State.act, State.actOtpCmd, hkey, hop]

theorem State.act_otpKey (hkey : fieldOf w.data 8 8 ≠ 0xA5) : s.act w .otpCmd i = s.ignoredField w 8 8 := by
  simp [State.act, State.actOtpCmd, hkey]

end

/-! ## PROGRAM, check by check (R450) -/

section
variable {s : State} {src : Nat}

theorem State.otpProgram_busy (h : s.otp.busy.isSome = true) : s.otpProgram src = (s, .refused) := if_pos h

theorem State.otpProgram_locked (h : s.otp.busy = none) (hlock : (regionAt (s.fld .otpAddr 0 0 12)).any s.otp.isLocked = true) :
    s.otpProgram src = (s.otpRefuse 1, .taken) := (if_neg (by simp [h])).trans (if_pos hlock)

theorem State.otpProgram_denied (h : s.otp.busy = none) (hlock : (regionAt (s.fld .otpAddr 0 0 12)).any s.otp.isLocked = false)
    (hdenied : otpDenied src s.lifecycle (s.fld .otpAddr 0 0 12) = true) : s.otpProgram src = (s.otpRefuse 4, .taken) :=
  (if_neg (by simp [h])).trans ((if_neg (by simp [hlock])).trans (if_pos hdenied))

theorem State.otpProgram_free (h : s.otp.busy = none) (hlock : (regionAt (s.fld .otpAddr 0 0 12)).any s.otp.isLocked = false)
    (hdenied : otpDenied src s.lifecycle (s.fld .otpAddr 0 0 12) = false) : s.otpProgram src =
      if s.otp.isUsed (s.fld .otpAddr 0 0 12) then (s.otpRefuse 2, .taken)
      else (s.otpGo ⟨false, 0, BitVec.ofNat 12 (s.fld .otpAddr 0 0 12), s.cfgWord .otpWdata 0, [], 0, src⟩, .taken) :=
  (if_neg (by simp [h])).trans ((if_neg (by simp [hlock])).trans (if_neg (by simp [hdenied])))

end

/-! ## LOCK, check by check (R444) -/

/-- The words of a LOCK are programmed one after another, the lock word last. -/
def State.lockWith (s : State) (src r : Nat) (x : BitVec 12 × Word) (l : List (BitVec 12 × Word)) : State :=
  s.otpGo { otpCmd 0 src x.2 with lock := true, region := BitVec.ofNat 2 r, addr := x.1, rest := l }

/-- The lock word of a region. -/
def lockWord (r : Nat) : BitVec 12 × Word := (BitVec.ofNat 12 (0xFC0 + r), 1)

/-- The digest words of a region, each with its address. -/
def State.digestWords (s : State) (r : Nat) : List (BitVec 12 × Word) :=
  ((List.range 8).zip (bytesWords (s.otp.digest r))).map fun e => (BitVec.ofNat 12 (0xFC8 + 8 * r + e.1), e.2)

section
variable {s : State} {src r : Nat}

theorem State.otpLock_busy (h : s.otp.busy.isSome = true) : s.otpLock src r = (s, .refused) := if_pos h

theorem State.otpLock_denied (h : s.otp.busy = none) (hsrc : src ≠ 0) (hlife : 2 ≤ s.lifecycle) :
    s.otpLock src r = (s.otpRefuse 4, .taken) := (if_neg (by simp [h])).trans (if_pos ⟨hsrc, hlife⟩)

/-- The checks after the path's (R444). -/
theorem State.otpLock_allowed (h : s.otp.busy = none) (hmay : ¬ (src ≠ 0 ∧ 2 ≤ s.lifecycle)) : s.otpLock src r =
    if s.otp.spoilt r then (s.otpRefuse 5, .taken)
    else if (List.range 8).all fun k => !s.otp.isUsed (0xFC8 + 8 * r + k) then
      (match s.digestWords r ++ [lockWord r] with
        | [] => s
        | x :: t => s.lockWith src r x t, .taken)
    else if bytesWords (s.otp.digest r) ≠ Tab.getList 0 s.otp.shadow (0xFC8 + 8 * r) 8 then (s.otpRefuse 6, .taken)
    else if s.otp.isLocked r then (s.otpRefuse 2, .taken)
    else (s.lockWith src r (lockWord r) [], .taken) := by
  unfold State.otpLock State.digestWords lockWord State.lockWith
  generalize bytesWords (s.otp.digest r) = digest
  exact (if_neg (by simp [h])).trans (if_neg hmay)

end

end Sys2Proof.Machine
end

section
/-! PROOF. OTP_CMD: PROGRAM and LOCK (O16). -/

namespace Sys2Proof.Proofs
set_option Elab.async false
open Sys2Proof.Machine Sys2Proof.Safety

section
variable {p : Path} {s v : State} {d : Word}

theorem otpCmd_acts : (regFields .otpCmd 0).all (fun f => !f.typ.stored) = true := by decide

/-- A command of OTP_CMD that is taken. -/
theorem otpCmd_taken (h : Acts p .otpCmd 0 s) (hact : s.act (writeOf p .otpCmd 0 d) .otpCmd 0 = v) (hlate : SameLate s v) :
    s.namedWrite p .otpCmd 0 d 0 none = v.noteLevel := State.namedWrite_act_done h otpCmd_acts rfl hact hlate

theorem fieldOf_keyAt8 (key : Byte) {low : Word} (hlow : fieldOf low 8 8 = 0) : fieldOf (key.setWidth 32 <<< 8 ||| low) 8 8 = key.toNat := by
  obtain ⟨hkey, -⟩ := fieldOf_offCode key
  rw [fieldOf_or, hkey, hlow, Nat.or_zero]

/-- A wrong key, whatever is asked for (R450). -/
theorem otpCmd_wrongKey (h : Acts p .otpCmd 0 s) (hkey : fieldOf d 8 8 ≠ 0xA5) :
    s.namedWrite p .otpCmd 0 d 0 none = (ignored p .otpCmd 0 d 8 8 s).noteLevel :=
  otpCmd_taken h (State.act_otpKey (w := writeOf p .otpCmd 0 d) hkey) (ignored_late ..)

/-! ## PROGRAM (R450) -/

/-- The word that PROGRAM is written with. -/
theorem otpProgram_act {r : State × Verdict} (hr : s.otpProgram (pathSource p) = r) :
    s.act (writeOf p .otpCmd 0 0xA501) .otpCmd 0 = State.reported r (writeOf p .otpCmd 0 0xA501) := by
  rw [← hr]
  exact State.act_otpProgram (w := writeOf p .otpCmd 0 0xA501) (by simp only [writeOf]; decide) (by simp only [writeOf]; decide)

theorem otpProgram_does (h : Acts p .otpCmd 0 s) (hr : s.otpProgram (pathSource p) = (v, .taken)) (hlate : SameLate s v) :
    exec (.otpProgram p 0xA5) s = .next v.noteLevel :=
  congrArg Host.Outcome.next (otpCmd_taken h (otpProgram_act hr) hlate)

theorem otpProgram_busy (h : Acts p .otpCmd 0 s) (hbusy : s.otp.busy.isSome = true) :
    exec (.otpProgram p 0xA5) s = .next (turnedAway p .otpCmd 0 0xA501 s).noteLevel :=
  congrArg Host.Outcome.next (otpCmd_taken h (otpProgram_act (State.otpProgram_busy hbusy)) turnedAway_late)

theorem otpRefuse_late (err : Nat) : SameLate s (s.otpRefuse err) := ⟨rfl⟩

/-! ## LOCK (R444) -/

/-- The word that LOCK of a region is written with. -/
def lockData (r : BitVec 2) : Word := 0xA502 ||| (r.setWidth 32 <<< 4)

theorem lockData_written (r : BitVec 2) : ((0xA5 : Byte).setWidth 32 <<< 8) ||| (r.setWidth 32 <<< 4) ||| 2 = lockData r := by
  revert r; decide

theorem lockData_fields (r : BitVec 2) : fieldOf (lockData r) 8 8 = 0xA5 ∧ fieldOf (lockData r) 0 4 = 2 ∧ fieldOf (lockData r) 4 2 = r.toNat := by
  revert r; decide

theorem otpLock_act {r : BitVec 2} {x : State × Verdict} (hx : s.otpLock (pathSource p) r.toNat = x) :
    s.act (writeOf p .otpCmd 0 (lockData r)) .otpCmd 0 = State.reported x (writeOf p .otpCmd 0 (lockData r)) := by
  obtain ⟨hkey, hop, hregion⟩ := lockData_fields r
  have hact := State.act_otpLock (s := s) (w := writeOf p .otpCmd 0 (lockData r)) (i := 0) hkey hop
  rw [hact, ← hx, ← hregion]
  rfl

theorem otpLock_exec (r : BitVec 2) : exec (.otpLock p 0xA5 r) s = .next (s.namedWrite p .otpCmd 0 (lockData r) 0 none) :=
  congrArg (fun d => Host.Outcome.next (s.namedWrite p .otpCmd 0 d 0 none)) (lockData_written r)

theorem otpLock_does {r : BitVec 2} (h : Acts p .otpCmd 0 s) (hx : s.otpLock (pathSource p) r.toNat = (v, .taken)) (hlate : SameLate s v) :
    exec (.otpLock p 0xA5 r) s = .next v.noteLevel :=
  (otpLock_exec r).trans (congrArg Host.Outcome.next (otpCmd_taken h (otpLock_act hx) hlate))

theorem otpLock_busy {r : BitVec 2} (h : Acts p .otpCmd 0 s) (hbusy : s.otp.busy.isSome = true) :
    exec (.otpLock p 0xA5 r) s = .next (turnedAway p .otpCmd 0 (0xA502 ||| (r.setWidth 32 <<< 4)) s).noteLevel :=
  (otpLock_exec r).trans (congrArg Host.Outcome.next (otpCmd_taken h (otpLock_act (State.otpLock_busy hbusy)) turnedAway_late))

theorem pathSource_outside (h : p ≠ .hive) : pathSource p ≠ 0 := by
  cases p
  case hive => exact absurd rfl h
  all_goals decide

theorem mayLock (h : p = .hive ∨ s.lifecycle < 2) : ¬ (pathSource p ≠ 0 ∧ 2 ≤ s.lifecycle) := by
  rintro ⟨hsrc, hlife⟩
  obtain rfl | hlow := h
  · exact hsrc rfl
  · omega

theorem otpLock_blank {r : BitVec 2} (h : Acts p .otpCmd 0 s) (hbusy : s.otp.busy = none) (hmay : p = .hive ∨ s.lifecycle < 2)
    (hfit : s.otp.spoilt r.toNat = false) (hblank : ∀ k, k < 8 → s.otp.isUsed (0xFC8 + 8 * r.toNat + k) = false) : ∃ c : OtpCmd,
      exec (.otpLock p 0xA5 r) s = .next (s.otpGo c).noteLevel ∧ c.why = 0 ∧ c.who = pathSource p ∧
      (c.addr, c.data) :: c.rest = s.digestWords r.toNat ++ [lockWord r.toNat] := by
  have hall : ((List.range 8).all fun k => !s.otp.isUsed (0xFC8 + 8 * r.toNat + k)) = true := by
    simpa [List.all_eq_true] using hblank
  have hlock := State.otpLock_allowed (s := s) (r := r.toNat) hbusy (mayLock hmay)
  rw [if_neg (by simp [hfit]), if_pos hall] at hlock
  cases hwords : s.digestWords r.toNat ++ [lockWord r.toNat] with
  | nil => simp at hwords
  | cons x l =>
    rw [hwords] at hlock
    exact ⟨_, otpLock_does h hlock (SameLate.refl s).otpGo, rfl, rfl, rfl⟩

/-- The checks behind a digest that is not blank. -/
theorem otpLock_digest {r : BitVec 2} (hbusy : s.otp.busy = none) (hmay : p = .hive ∨ s.lifecycle < 2)
    (hfit : s.otp.spoilt r.toNat = false) (hused : ∃ k, k < 8 ∧ s.otp.isUsed (0xFC8 + 8 * r.toNat + k) = true) :
    s.otpLock (pathSource p) r.toNat =
      if bytesWords (s.otp.digest r.toNat) ≠ Tab.getList 0 s.otp.shadow (0xFC8 + 8 * r.toNat) 8 then (s.otpRefuse 6, .taken)
      else if s.otp.isLocked r.toNat then (s.otpRefuse 2, .taken)
      else (s.lockWith (pathSource p) r.toNat (lockWord r.toNat) [], .taken) := by
  have hnot : ¬ ((List.range 8).all fun k => !s.otp.isUsed (0xFC8 + 8 * r.toNat + k)) = true := by
    obtain ⟨k, hk, hkused⟩ := hused
    intro hall
    have hkblank := List.all_eq_true.mp hall k (List.mem_range.mpr hk)
    simp [hkused] at hkblank
  rw [State.otpLock_allowed hbusy (mayLock hmay), if_neg (by simp [hfit]), if_neg hnot]

end

/-- Settles O16: by the checks of each command in their order. -/
theorem otpProgramAndLock : Obligations.OtpProgramAndLock := by
  unfold Obligations.OtpProgramAndLock
  refine ⟨fun p s a h ha => ?_, fun p r s h => ⟨fun key hkey => ?_, otpLock_busy h, fun hbusy hpath hlife => ?_⟩,
    fun p r s h hbusy hmay => ⟨fun hspoilt => ?_, otpLock_blank h hbusy hmay, fun hfit hused hdigest => ?_, fun hfit hused hdigest hlocked => ?_,
      fun hfit hused hdigest hopen => ?_⟩⟩
  · subst ha
    refine ⟨fun key hkey => ?_, otpProgram_busy h, fun hbusy hlocked => ?_, fun hbusy hlocked hdenied => ?_,
      fun hbusy hlocked hdenied hused => ?_, fun hbusy hlocked hdenied hblank => ?_⟩
    · have hwrong : fieldOf ((key.setWidth 32 <<< 8) ||| 1) 8 8 ≠ 0xA5 := by
        rw [fieldOf_keyAt8 key (by decide)]
        exact fun e => hkey (BitVec.eq_of_toNat_eq e)
      exact congrArg Host.Outcome.next (otpCmd_wrongKey h hwrong)
    · exact otpProgram_does h (State.otpProgram_locked hbusy hlocked) (otpRefuse_late 1)
    · exact otpProgram_does h (State.otpProgram_denied hbusy hlocked hdenied) (otpRefuse_late 4)
    · exact otpProgram_does h ((State.otpProgram_free hbusy hlocked hdenied).trans (if_pos hused)) (otpRefuse_late 2)
    · exact otpProgram_does h ((State.otpProgram_free hbusy hlocked hdenied).trans (if_neg (by simp [hblank]))) (SameLate.refl s).otpGo
  · have hwrong : fieldOf ((key.setWidth 32 <<< 8) ||| (r.setWidth 32 <<< 4) ||| 2) 8 8 ≠ 0xA5 := by
      rw [BitVec.or_assoc, fieldOf_keyAt8 key (by revert r; decide)]
      exact fun e => hkey (BitVec.eq_of_toNat_eq e)
    exact congrArg Host.Outcome.next (otpCmd_wrongKey h hwrong)
  · exact otpLock_does h (State.otpLock_denied hbusy (pathSource_outside hpath) hlife) (otpRefuse_late 4)
  · exact otpLock_does h ((State.otpLock_allowed hbusy (mayLock hmay)).trans (if_pos hspoilt)) (otpRefuse_late 5)
  · exact otpLock_does h ((otpLock_digest hbusy hmay hfit hused).trans (if_pos hdigest)) (otpRefuse_late 6)
  · exact otpLock_does h ((otpLock_digest hbusy hmay hfit hused).trans ((if_neg (not_not.mpr hdigest)).trans (if_pos hlocked)))
      (otpRefuse_late 2)
  · exact ⟨_, otpLock_does h ((otpLock_digest hbusy hmay hfit hused).trans ((if_neg (not_not.mpr hdigest)).trans (if_neg (by simp [hopen]))))
      (SameLate.refl s).otpGo, rfl, rfl, rfl, rfl, rfl⟩

end Sys2Proof.Proofs
end

section
/-! SUPPORT. The logic self-test: its results, the start and the halt of a run, and the end of a segment (R457 to R468). -/

namespace Sys2Proof.Machine
set_option Elab.async false
open Sys2Proof.Safety

/-- A value other than the default is read back, whatever the table. -/
theorem Tab.get_set_ne_default {α : Type} [DecidableEq α] {d x : α} (t : Tab α) (i : Nat) (hx : x ≠ d) : Tab.get d (Tab.set d t i x) i = x := by
  induction t with
  | nil => simp [Tab.set, Tab.get, hx]
  | cons e t ih =>
    obtain ⟨k, v⟩ := e
    simp only [Tab.set, if_neg hx]
    split_ifs with hlt heq
    · simp [Tab.get]
    · simp [Tab.get]
    · simp only [Tab.get, if_neg hlt, if_neg heq, ih]

/-- A register's bit that is not written acts on nothing. -/
theorem State.bitAction_clear {s : State} {w : RegWrite} {lo : Nat} {go : State → Option State} (hbit : bitOf w.data lo = false) :
    s.bitAction w lo go = s := by
  simp [State.bitAction, hbit]

section
variable {s : State} {res k : Nat} {l : List Nat} {misr : Word}

/-! ## Results (R467) -/

theorem State.bistResult_part (hres : res % 256 ≠ 0) :
    (Tab.get .none (s.bistResult res).bst.results s.bst.part).result = BitVec.ofNat 8 res ∧
    (Tab.get .none (s.bistResult res).bst.results s.bst.part).sign = s.bst.misr := by
  have hne : BitVec.ofNat 8 res ≠ 0 := fun h => hres (by simpa using congrArg BitVec.toNat h)
  unfold State.bistResult
  dsimp only
  rw [Tab.get_set_ne_default _ _ (fun h => hne (congrArg BstResult.result h))]
  exact ⟨rfl, rfl⟩

/-! ## A run goes on, ends, or is halted (R461, R462) -/

theorem State.bistNext_end (h : s.bst.todo = []) :
    s.bistNext = { s with bst := { s.bst with state := 0, part := 0, stopReq := false } } := by
  simp [State.bistNext, h]

theorem State.bistNext_next (h : s.bst.todo = k :: l) : s.bistNext = { s with bst := { s.bst with
    part := k, todo := l, applied := 0, startAt := s.now, lastEnd := s.now, misr := 0, lfsr := Config.lfsrSeed k } } := by
  simp [State.bistNext, h]

/-- What going on with the next partition leaves as it is. -/
theorem State.bistNext_keeps (s : State) : ∃ b : Bst, s.bistNext = { s with bst := b } ∧ b.results = s.bst.results ∧
    b.patterns = s.bst.patterns ∧ b.due = s.bst.due ∧ b.lastStart = s.bst.lastStart ∧ b.logicFail = s.bst.logicFail ∧
    b.inSegment = s.bst.inSegment := by
  cases h : s.bst.todo with
  | nil => exact ⟨_, State.bistNext_end h, rfl, rfl, rfl, rfl, rfl, rfl⟩
  | cons k l => exact ⟨_, State.bistNext_next h, rfl, rfl, rfl, rfl, rfl, rfl⟩

theorem State.bistHalt_run (h : s.bst.state = 1) : s.bistHalt = { s with bst := { s.bst with
    state := 0, part := 0, todo := [], inSegment := false, stopReq := false, results := (s.bistResult 3).bst.results } } := by
  unfold State.bistHalt
  rw [if_neg (by simp [h]), if_neg (by simp [h])]
  rfl

/-! ## The end of a segment (R457, R459, R463) -/

/-- A segment has ended: its 14 patterns count. -/
def State.segmentCounted (s : State) (misr : Word) : State := { s with bst := { s.bst with
  inSegment := false, lastEnd := s.now, misr := misr, lfsr := Config.lfsrAfter s.bst.lfsr,
  applied := min s.bst.patterns (s.bst.applied + segmentPatterns) } }

/-- The partition's MISR is judged. -/
def State.partitionJudged (s : State) (p : Nat) (ok : Bool) : State :=
  let t := s.bistResult (if ok then 1 else 2)
  let u : State := { t with bst := { t.bst with
    logicFail := if ok then t.bst.logicFail &&& ~~~ BitVec.ofNat 8 (2 ^ p) else t.bst.logicFail ||| BitVec.ofNat 8 (2 ^ p) } }
  if ok then u else u.raise 83 (1 + 2 ^ 8 * p)

/-- The run goes on behind a partition, or ends where a STOP has come. -/
def State.partitionLeft (s : State) : State :=
  if s.bst.stopReq then { s with bst := { s.bst with todo := [] } }.bistNext else s.bistNext

/-- What a segment leaves before the channels go on: the run goes on, is judged behind its last pattern, or is stopped. -/
def State.segmentLeft (s : State) (misr : Word) : State :=
  if (s.segmentCounted misr).bst.patterns ≤ (s.segmentCounted misr).bst.applied then
    ((s.segmentCounted misr).partitionJudged s.bst.part
      (s.otp.trusted.getLsbD 3 && misr == s.bistExpect s.bst.part s.bst.patterns)).partitionLeft
  else if s.bst.stopReq then (s.segmentCounted misr).bistHalt else s.segmentCounted misr

theorem State.segmentEnd_idle (h : s.bst.inSegment = false ∨ s.partQuiet s.bst.part = false) : s.segmentEnd misr = s :=
  if_pos (by simpa using h)

theorem State.segmentEnd_runs (hseg : s.bst.inSegment = true) (hquiet : s.partQuiet s.bst.part = true) :
    s.segmentEnd misr = (s.segmentLeft misr).afterSegment s.bst.part (s.partChans s.bst.part) :=
  if_neg (by simp [hseg, hquiet])

/-- The partition's run is not at its end. -/
theorem State.segmentLeft_within (h : s.bst.applied + 14 < s.bst.patterns) :
    s.segmentLeft misr = if s.bst.stopReq then (s.segmentCounted misr).bistHalt else s.segmentCounted misr :=
  if_neg (by simp only [State.segmentCounted, segmentPatterns]; omega)

theorem State.segmentLeft_last (h : s.bst.patterns ≤ s.bst.applied + 14) : s.segmentLeft misr =
    ((s.segmentCounted misr).partitionJudged s.bst.part
      (s.otp.trusted.getLsbD 3 && misr == s.bistExpect s.bst.part s.bst.patterns)).partitionLeft :=
  if_pos (by simp only [State.segmentCounted, segmentPatterns]; omega)

theorem State.partitionLeft_keeps (s : State) : ∃ b : Bst, s.partitionLeft = { s with bst := b } ∧ b.results = s.bst.results ∧
    b.logicFail = s.bst.logicFail ∧ b.inSegment = s.bst.inSegment := by
  unfold State.partitionLeft
  split
  · obtain ⟨b, hb, hresults, -, -, -, hfail, hseg⟩ := State.bistNext_keeps { s with bst := { s.bst with todo := [] } }
    exact ⟨b, hb, hresults, hfail, hseg⟩
  · obtain ⟨b, hb, hresults, -, -, -, hfail, hseg⟩ := s.bistNext_keeps
    exact ⟨b, hb, hresults, hfail, hseg⟩

theorem State.partitionLeft_ends (h : s.bst.todo = [] ∨ s.bst.stopReq = true) : s.partitionLeft.bst.state = 0 := by
  unfold State.partitionLeft
  split
  case isTrue => rw [State.bistNext_end rfl]
  case isFalse hgo => rw [State.bistNext_end (h.resolve_right hgo)]

theorem State.partitionLeft_next (h : s.bst.todo = k :: l) (hgo : s.bst.stopReq = false) :
    s.partitionLeft.bst.part = k ∧ s.partitionLeft.bst.todo = l ∧ s.partitionLeft.bst.applied = 0 := by
  unfold State.partitionLeft
  rw [if_neg (by simp [hgo]), State.bistNext_next h]
  exact ⟨rfl, rfl, rfl⟩

theorem State.partitionJudged_passed (s : State) (p : Nat) : s.partitionJudged p true = { s with bst := { s.bst with
    results := (s.bistResult 1).bst.results, logicFail := s.bst.logicFail &&& ~~~ BitVec.ofNat 8 (2 ^ p) } } := rfl

theorem State.partitionJudged_failed (s : State) (p : Nat) : s.partitionJudged p false = ({ s with bst := { s.bst with
    results := (s.bistResult 2).bst.results, logicFail := s.bst.logicFail ||| BitVec.ofNat 8 (2 ^ p) } } : State).raise 83 (1 + 2 ^ 8 * p) := rfl

theorem State.partitionJudged_only (s : State) (p : Nat) (ok : Bool) : Only [.bst, .flt] s (s.partitionJudged p ok) := by
  cases ok
  case true => rw [s.partitionJudged_passed p]; simp [Only]
  case false => rw [s.partitionJudged_failed p]; simp [Only]

theorem State.partitionJudged_inSegment (s : State) (p : Nat) (ok : Bool) : (s.partitionJudged p ok).bst.inSegment = s.bst.inSegment := by
  cases ok <;> rfl

/-- A segment's end works on the self-test and the fault lines alone. -/
theorem State.segmentLeft_only (hrun : s.bst.state = 1) : Only [.bst, .flt] s (s.segmentLeft misr) ∧ (s.segmentLeft misr).bst.inSegment = false := by
  have hcount : Only [.bst, .flt] s (s.segmentCounted misr) := by simp [Only, State.segmentCounted]
  by_cases hlast : s.bst.patterns ≤ s.bst.applied + 14
  · rw [State.segmentLeft_last hlast]
    generalize (s.otp.trusted.getLsbD 3 && misr == s.bistExpect s.bst.part s.bst.patterns) = ok
    have hjudged := (s.segmentCounted misr).partitionJudged_only s.bst.part ok
    have hseg := (s.segmentCounted misr).partitionJudged_inSegment s.bst.part ok
    obtain ⟨b, hb, -, -, hkeeps⟩ := ((s.segmentCounted misr).partitionJudged s.bst.part ok).partitionLeft_keeps
    have hleft : Only [.bst] ((s.segmentCounted misr).partitionJudged s.bst.part ok) ((s.segmentCounted misr).partitionJudged s.bst.part ok).partitionLeft := by
      rw [hb]; simp [Only]
    refine ⟨(hcount.andThen hjudged).andThen hleft, ?_⟩
    rw [hb]
    exact hkeeps.trans hseg
  · rw [State.segmentLeft_within (Nat.lt_of_not_le hlast)]
    split
    · have hhalt := State.bistHalt_run (show (s.segmentCounted misr).bst.state = 1 from hrun)
      have honly : Only [.bst] (s.segmentCounted misr) (s.segmentCounted misr).bistHalt := by rw [hhalt]; simp [Only]
      exact ⟨hcount.andThen honly, by rw [hhalt]⟩
    · exact ⟨hcount, rfl⟩

theorem State.segmentLeft_stopped (hrun : s.bst.state = 1) (h : s.bst.applied + 14 < s.bst.patterns) (hstop : s.bst.stopReq = true) :
    (s.segmentLeft misr).bst.state = 0 ∧ (Tab.get .none (s.segmentLeft misr).bst.results s.bst.part).result = 3 ∧
    (s.segmentLeft misr).flt = s.flt := by
  obtain ⟨hresult, -⟩ := State.bistResult_part (s := s.segmentCounted misr) (res := 3) (by decide)
  rw [State.segmentLeft_within h, if_pos hstop, State.bistHalt_run (show (s.segmentCounted misr).bst.state = 1 from hrun)]
  exact ⟨rfl, hresult, rfl⟩

theorem State.segmentLeft_goesOn (h : s.bst.applied + 14 < s.bst.patterns) (hgo : s.bst.stopReq = false) :
    s.segmentLeft misr = { s with bst := { s.bst with
      inSegment := false, lastEnd := s.now, misr := misr, lfsr := Config.lfsrAfter s.bst.lfsr, applied := s.bst.applied + 14 } } := by
  rw [State.segmentLeft_within h, if_neg (by simp [hgo]), State.segmentCounted, Nat.min_eq_right (by simp only [segmentPatterns]; omega)]
  rfl

theorem State.segmentLeft_passed (h : s.bst.patterns ≤ s.bst.applied + 14) (htrust : s.otp.trusted.getLsbD 3 = true)
    (hmisr : s.bistExpect s.bst.part s.bst.patterns = misr) :
    (Tab.get .none (s.segmentLeft misr).bst.results s.bst.part).result = 1 ∧
    (Tab.get .none (s.segmentLeft misr).bst.results s.bst.part).sign = misr ∧
    (s.segmentLeft misr).bst.logicFail = s.bst.logicFail &&& ~~~ BitVec.ofNat 8 (2 ^ s.bst.part) ∧ (s.segmentLeft misr).flt = s.flt ∧
    ((s.bst.todo = [] ∨ s.bst.stopReq = true) → (s.segmentLeft misr).bst.state = 0) ∧
    (∀ k l, s.bst.todo = k :: l → s.bst.stopReq = false →
      (s.segmentLeft misr).bst.part = k ∧ (s.segmentLeft misr).bst.todo = l ∧ (s.segmentLeft misr).bst.applied = 0) := by
  have hok : (s.otp.trusted.getLsbD 3 && misr == s.bistExpect s.bst.part s.bst.patterns) = true := by simp only [htrust, hmisr, beq_self_eq_true, Bool.and_self]
  obtain ⟨hresult, hsign⟩ := State.bistResult_part (s := s.segmentCounted misr) (res := 1) (by decide)
  rw [State.segmentLeft_last h, hok, State.partitionJudged_passed]
  generalize hu : ({ s.segmentCounted misr with bst := { (s.segmentCounted misr).bst with
    results := ((s.segmentCounted misr).bistResult 1).bst.results
    logicFail := (s.segmentCounted misr).bst.logicFail &&& ~~~ BitVec.ofNat 8 (2 ^ s.bst.part) } } : State) = u
  obtain ⟨b, hb, hresults, hfail, -⟩ := u.partitionLeft_keeps
  refine ⟨?_, ?_, ?_, ?_, fun hend => State.partitionLeft_ends ?_, fun k l hkl hgo => State.partitionLeft_next ?_ ?_⟩
  · rw [hb, hresults, ← hu]; exact hresult
  · rw [hb, hresults, ← hu]; exact hsign
  · rw [hb, hfail, ← hu]; rfl
  · rw [hb, ← hu]; rfl
  · rw [← hu]; exact hend
  · rw [← hu]; exact hkl
  · rw [← hu]; exact hgo

theorem State.segmentLeft_failed (h : s.bst.patterns ≤ s.bst.applied + 14)
    (hbad : s.otp.trusted.getLsbD 3 = false ∨ s.bistExpect s.bst.part s.bst.patterns ≠ misr) :
    (Tab.get .none (s.segmentLeft misr).bst.results s.bst.part).result = 2 ∧
    (s.segmentLeft misr).bst.logicFail = s.bst.logicFail ||| BitVec.ofNat 8 (2 ^ s.bst.part) ∧
    (s.segmentLeft misr).flt.lines.getLast? = some ⟨83, BitVec.ofNat 64 (1 + 256 * s.bst.part)⟩ := by
  have hok : (s.otp.trusted.getLsbD 3 && misr == s.bistExpect s.bst.part s.bst.patterns) = false := by
    obtain htrust | hmisr := hbad
    · simp only [htrust, Bool.false_and]
    · simp [Ne.symm hmisr]
  obtain ⟨hresult, -⟩ := State.bistResult_part (s := s.segmentCounted misr) (res := 2) (by decide)
  rw [State.segmentLeft_last h, hok, State.partitionJudged_failed]
  generalize hu : ({ s.segmentCounted misr with bst := { (s.segmentCounted misr).bst with
    results := ((s.segmentCounted misr).bistResult 2).bst.results
    logicFail := (s.segmentCounted misr).bst.logicFail ||| BitVec.ofNat 8 (2 ^ s.bst.part) } } : State) = u
  obtain ⟨b, hb, hresults, hfail, -⟩ := (u.raise 83 (1 + 2 ^ 8 * s.bst.part)).partitionLeft_keeps
  refine ⟨?_, ?_, ?_⟩
  · rw [hb, hresults, ← hu]; exact hresult
  · rw [hb, hfail, ← hu]; rfl
  · rw [hb]; exact List.getLast?_concat

end

end Sys2Proof.Machine
end

section
/-! PROOF. The logic self-test: RUN, STOP, the end of a segment, and the period (O14). -/

namespace Sys2Proof.Proofs
set_option Elab.async false
open Sys2Proof.Machine Sys2Proof.Safety

section
variable {p : Path} {s v : State} {d misr : Word}

theorem bstCtl_acts : (regFields .bstCtl 0).all (fun f => !f.typ.stored) = true := by decide

theorem bstCtl_written (h : Acts p .bstCtl 0 s) (hact : s.act (writeOf p .bstCtl 0 d) .bstCtl 0 = v) (hlate : SameLate s v) :
    s.namedWrite p .bstCtl 0 d 0 none = v.noteLevel := State.namedWrite_act_done h bstCtl_acts rfl hact hlate

/-- RUN alone (R462). -/
theorem bistRun_act (w : RegWrite) (h : w.data = 1) (i : Nat) : s.act w .bstCtl i = s.bitAction w 0 fun s => s.bistRun := by
  simp only [State.act]
  rw [State.bitAction_clear (lo := 2) (by rw [h]; decide), State.bitAction_clear (lo := 1) (by rw [h]; decide)]

/-- STOP alone (R468). -/
theorem bistStop_act (w : RegWrite) (h : w.data = 2) (i : Nat) : s.act w .bstCtl i = s.bistStop := by
  simp only [State.act]
  rw [State.bitAction_clear (lo := 2) (by rw [h]; decide), State.bitAction_clear (lo := 0) (by rw [h]; decide)]
  exact State.bitAction_taken (by rw [h]; decide) rfl

theorem bistRun_ignored (h : Acts p .bstCtl 0 s) (hno : s.bst.state ≠ 0 ∨ s.bst.memFail.getLsbD 15 = true) :
    exec (.bistRun p) s = .next (ignored p .bstCtl 0 1 0 1 s).noteLevel := by
  have hact : s.act (writeOf p .bstCtl 0 1) .bstCtl 0 = ignored p .bstCtl 0 1 0 1 s :=
    (bistRun_act _ rfl 0).trans (State.bitAction_refused (go := fun s => s.bistRun) (by simp only [writeOf]; decide) (if_pos hno))
  exact congrArg Host.Outcome.next (bstCtl_written h hact (ignored_late ..))

theorem bistRun_starts (h : Acts p .bstCtl 0 s) (hidle : s.bst.state = 0) (hmem : s.bst.memFail.getLsbD 15 = false) : ∃ b : Bst,
    exec (.bistRun p) s = .next { s with bst := b }.noteLevel ∧ b.patterns = 4096 * 2 ^ s.fld .bstCfg 0 16 2 ∧
    b.results = s.bst.results ∧ b.due = s.bst.due ∧ b.lastStart = s.bst.lastStart ∧
    (∀ k l, (List.range 6).filter (fun q => s.fld .bstCfg 0 8 8 / 2 ^ q % 2 == 1) = k :: l →
      b.state = 1 ∧ b.part = k ∧ b.todo = l ∧ b.applied = 0) := by
  have hact : s.act (writeOf p .bstCtl 0 1) .bstCtl 0 = s.bistStart false :=
    (bistRun_act _ rfl 0).trans (State.bitAction_taken (by simp only [writeOf]; decide)
      (if_neg (by simp only [hidle, hmem, ne_eq, not_true_eq_false, Bool.false_eq_true, or_self, not_false_eq_true])))
  generalize hu : ({ s with bst := { s.bst with
    state := 1, todo := (List.range 6).filter fun p => s.fld .bstCfg 0 8 8 / 2 ^ p % 2 == 1
    patterns := 4096 * 2 ^ s.fld .bstCfg 0 16 2, stopReq := false, due := s.bst.due && !false, lastStart := s.bst.lastStart } } : State) = u
  have hstart : s.bistStart false = u.bistNext := by rw [← hu]; rfl
  obtain ⟨b, hb, hresults, hpatterns, hdue, hlast, -, -⟩ := u.bistNext_keeps
  have hsb : ({ u with bst := b } : State) = { s with bst := b } := by rw [← hu]
  have hwritten : exec (.bistRun p) s = .next ({ s with bst := b } : State).noteLevel :=
    congrArg Host.Outcome.next (bstCtl_written h (hact.trans (hstart.trans (hb.trans hsb))) ⟨rfl⟩)
  refine ⟨b, hwritten, hpatterns.trans (by rw [← hu]), hresults.trans (by rw [← hu]),
    hdue.trans (by rw [← hu]; simp), hlast.trans (by rw [← hu]), ?_⟩
  intro k l hkl
  have hnext : u.bst.todo = k :: l := by rw [← hu]; exact hkl
  have hbst : b = u.bistNext.bst := by rw [hb]
  rw [hbst, State.bistNext_next hnext, ← hu]
  exact ⟨rfl, rfl, rfl, rfl⟩

theorem bistStop_does (h : Acts p .bstCtl 0 s) (hstop : s.bistStop = v) (hlate : SameLate s v) : exec (.bistStop p) s = .next v.noteLevel :=
  congrArg Host.Outcome.next (bstCtl_written h ((bistStop_act _ rfl 0).trans hstop) hlate)

theorem bistStop_between (h : Acts p .bstCtl 0 s) (hrun : s.bst.state = 1) (hseg : s.bst.inSegment = false) : ∃ r : Tab BstResult,
    exec (.bistStop p) s = .next { s with bst := { s.bst with
      state := 0, part := 0, todo := [], inSegment := false, stopReq := false, results := r } }.noteLevel ∧
    (Tab.get .none r s.bst.part).result = 3 := by
  obtain ⟨hresult, -⟩ := State.bistResult_part (s := s) (res := 3) (by decide)
  have hstop : s.bistStop = s.bistHalt := (if_neg (by simp [hrun])).trans (if_neg (by simp [hseg]))
  exact ⟨_, bistStop_does h (hstop.trans (State.bistHalt_run hrun)) ⟨rfl⟩, hresult⟩

/-- No block reset waits: none starts. -/
theorem drainBlocks_none (h : s.die.blockPend = []) : s.drainBlocks = s := by
  unfold State.drainBlocks
  simp only [h, List.filter_nil, List.foldl_nil, ite_self]
  rw [← h]

theorem segmentEnd_none (h : s.bst.inSegment = false ∨ s.partQuiet s.bst.part = false) (hpend : s.die.blockPend = [])
    (hlate : s.regs.late = []) : exec (.bistSegmentEnd misr) s = .next s := by
  change Host.Outcome.next (s.segmentEnd misr).drainBlocks.actLate = _
  rw [State.segmentEnd_idle h, drainBlocks_none hpend, State.actLate_nil s hlate]

theorem segmentEnd_does (hseg : s.bst.inSegment = true) (hquiet : s.partQuiet s.bst.part = true) : exec (.bistSegmentEnd misr) s =
    .next ((s.segmentLeft misr).afterSegment s.bst.part (s.partChans s.bst.part)).drainBlocks.actLate :=
  congrArg (fun t : State => Host.Outcome.next t.drainBlocks.actLate) (State.segmentEnd_runs hseg hquiet)

theorem bistPeriodicDue_notes (hen : s.flag .bstCfg 0 0 = true) (hmem : s.bst.memFail.getLsbD 15 = false) (hmode : s.die.mode = .running)
    (htime : s.bst.lastStart + 3600000000 * s.fld .bstCfg 0 24 8 ≤ s.now) :
    exec .bistPeriodicDue s = .next { s with bst := { s.bst with due := true } } := by
  refine if_neg ?_
  simp only [hen, hmem, hmode, Bool.not_true, Bool.false_eq_true, ne_eq, not_true_eq_false, or_false, false_or]
  omega

theorem bistPeriodicDue_none (h : s.flag .bstCfg 0 0 = false ∨ s.bst.memFail.getLsbD 15 = true ∨ s.die.mode ≠ .running ∨
    s.now < s.bst.lastStart + 3600000000 * s.fld .bstCfg 0 24 8) : exec .bistPeriodicDue s = .next s := by
  refine if_pos ?_
  obtain h | h | h | h := h
  · exact Or.inl (by simp [h])
  · exact Or.inr (Or.inl h)
  · exact Or.inr (Or.inr (Or.inr h))
  · exact Or.inr (Or.inr (Or.inl h))

end

/-- Settles O14: by what RUN and STOP find, and by whether a segment that ends was its partition's last. -/
theorem logicSelfTestRuns : Obligations.LogicSelfTestRuns := by
  unfold Obligations.LogicSelfTestRuns
  refine ⟨fun p s h => ⟨bistRun_ignored h, bistRun_starts h, fun hrun hseg => ?_, bistStop_between h, fun hno => ?_⟩,
    fun misr s hpend hlate => ⟨fun h => segmentEnd_none h hpend hlate, fun hseg hquiet hrun => ?_⟩,
    fun s => ⟨bistPeriodicDue_notes, bistPeriodicDue_none⟩⟩
  · exact bistStop_does h ((if_neg (by simp [hrun])).trans (if_pos hseg)) ⟨rfl⟩
  · exact bistStop_does h (if_pos hno) (SameLate.refl s)
  · obtain ⟨honly, hend⟩ := State.segmentLeft_only (misr := misr) hrun
    exact ⟨_, segmentEnd_does hseg hquiet, honly, hend, State.segmentLeft_goesOn, State.segmentLeft_stopped hrun,
      State.segmentLeft_passed, State.segmentLeft_failed⟩

end Sys2Proof.Proofs
end

section
/-! SUPPORT. Block resets: what RST_BLOCK is answered, what a block's reset starts with, and how it ends (R429, R461). -/

namespace Sys2Proof.Machine
set_option Elab.async false
open Sys2Proof.Safety

theorem SameLate.noteLevel {s t : State} (h : SameLate s t) : SameLate s t.noteLevel := h.only t.noteLevel_only

/-! ## What the security engine's reset ends (R44) -/

theorem Halts.failErasure {s t : State} {e : Nat × Nat} (h : Halts s t) : Halts s (t.failErasure e) := h.sec.finish

theorem Halts.failBlock {s t : State} {id o st sd : Nat} (h : Halts s t) : Halts s (t.failBlock id o st sd) :=
  h.dropBlock.updCmd.only ((Ends.refl _).endBlock.only)

theorem Halts.failSecured {s t : State} (h : Halts s t) : Halts s t.failSecured :=
  Halts.foldl (fun _ _ h => Halts.foldl (fun _ _ h => h.failBlock) h)
    (Halts.foldl (fun _ _ h => h.failErasure) (Halts.foldl (fun _ _ h => h.finish) h))

section
variable {s : State} {b : Byte} {w : RegWrite} {i : Nat}

/-! ## RST_BLOCK, check by check (R429) -/

theorem State.act_rstBlock_key (h : fieldOf w.data 8 8 ≠ 0x3C) : s.act w .rstBlock i = s.ignoredField w 8 8 := if_pos h

theorem State.act_rstBlock_none (h : fieldOf w.data 8 8 = 0x3C) (hno : s.blockReset (w.data.setWidth 8) false = none) :
    s.act w .rstBlock i = s.ignoredField w 0 8 := by
  simp [State.act, State.actRstBlock, h, hno]

theorem State.act_rstBlock_some {t : State} (h : fieldOf w.data 8 8 = 0x3C) (hgo : s.blockReset (w.data.setWidth 8) false = some t) :
    s.act w .rstBlock i = t := by
  simp [State.act, State.actRstBlock, h, hgo]

theorem State.blocksReset_running (h : s.die.mode = .running) : s.blocksReset = true := by simp [State.blocksReset, h]

theorem State.blockReset_refused {reaction : Bool} (h : isBlock b = false ∨ s.die.resetting b = true) : s.blockReset b reaction = none := by
  obtain h | h := h
  · exact if_pos (.inl (by simp [h]))
  · exact if_pos (.inr (.inl h))

theorem State.blockReset_taken {reaction : Bool} (hmode : s.die.mode = .running) (hblock : isBlock b = true) (hfree : s.die.resetting b = false) :
    s.blockReset b reaction = if (blockPart b).any s.testing then some { s with die := { s.die with blockPend := s.die.blockPend ++ [(b, reaction)] } }
      else some (s.blockBegin b reaction) :=
  if_neg (by simp [hblock, hfree, State.blocksReset_running hmode])

/-! ## The end (R429) -/

theorem State.blockResetEnd_none (h : s.die.blockBusy.contains b = false) : s.blockResetEnd b = s := if_pos (by simp only [h, Bool.not_false])

theorem State.blockResetEnd_ends (h : s.die.blockBusy.contains b = true) :
    s.blockResetEnd b = (({ s with die := { s.die with blockBusy := s.die.blockBusy.erase b } } : State).blockEnd b).noteLevel :=
  if_neg (by simp only [h, Bool.not_true, Bool.false_eq_true, not_false_eq_true])

/-- The end of a block's reset starts nothing, but for a tier and for the Hive core. -/
theorem State.blockEnd_plain (hlow : b.toNat < 32) (hhive : b ≠ 10) : s.blockEnd b = s := by
  have hne : b.toNat ≠ 10 := fun h => hhive (BitVec.eq_of_toNat_eq h)
  unfold State.blockEnd
  rw [if_neg (by omega), if_neg (by simp [hne])]

/-- The Hive core runs the image it holds, where nothing has been written over it. -/
theorem State.blockEnd_hive (hmode : s.die.mode = .running) (hdone : s.bst.memDone.getLsbD 0 = true) (hfail : s.bst.memFail.getLsbD 0 = false)
    (himage : s.die.imageOk = true) (hmem : s.die.hiveMem = []) (hqueue : s.otp.queue = []) :
    s.blockEnd 10 = { s with die := { s.die with hiveRun := true } } := by
  have hheld : s.die.held = s.die.image := by rw [Die.held, hmem]; rfl
  have hruns : (10 : Byte).toNat = 10 ∧ s.die.mode = .running ∧ s.bst.memDone.getLsbD 0 ∧ !s.bst.memFail.getLsbD 0 :=
    ⟨rfl, hmode, hdone, by simp only [hfail, Bool.not_false]⟩
  unfold State.blockEnd
  rw [if_neg (by decide), if_pos hruns, if_pos ⟨himage, .inl hheld⟩]
  simp only [hqueue]
  rfl

end

end Sys2Proof.Machine
end

section
/-! PROOF. Block resets (O38). -/

namespace Sys2Proof.Proofs
set_option Elab.async false
open Sys2Proof.Machine Sys2Proof.Safety

section
variable {p : Path} {s t u : State} {data : Word} {b : Byte}

theorem rstBlock_acts : (regFields .rstBlock 0).all (fun f => !f.typ.stored) = true := by decide

theorem rstBlock_written (h : Acts p .rstBlock 0 s) (hact : s.act (writeOf p .rstBlock 0 data) .rstBlock 0 = t) (hlate : SameLate s t) :
    exec (.rstBlock p data) s = .next t.noteLevel :=
  congrArg Host.Outcome.next (State.namedWrite_act_done h rstBlock_acts rfl hact hlate)

theorem rstBlock_waits (h : Acts p .rstBlock 0 s) (hkey : fieldOf data 8 8 = 0x3C) (hblock : isBlock (data.setWidth 8) = true)
    (hfree : s.die.resetting (data.setWidth 8) = false) (htest : (blockPart (data.setWidth 8)).any s.testing = true) :
    exec (.rstBlock p data) s = .next
      { s with die := { s.die with blockPend := s.die.blockPend ++ [(data.setWidth 8, false)] } }.noteLevel :=
  rstBlock_written h (State.act_rstBlock_some hkey ((State.blockReset_taken (acts_running h) hblock hfree).trans (if_pos htest))) ⟨rfl⟩

/-- A key and a code in one word. -/
theorem keyAndCode {b : Byte} (h : fieldOf data 0 16 = 0x3C00 + b.toNat) : fieldOf data 8 8 = 0x3C ∧ data.setWidth 8 = b := by
  have hb := b.isLt
  simp only [fieldOf] at h ⊢
  refine ⟨by omega, BitVec.eq_of_toNat_eq ?_⟩
  rw [BitVec.toNat_setWidth]
  omega

/-- A block whose reset may start, in a state that no segment tests. -/
theorem rstBlock_begins (h : Acts p .rstBlock 0 s) (hdata : fieldOf data 0 16 = 0x3C00 + b.toNat) (hblock : isBlock b = true)
    (hfree : s.die.resetting b = false) (htest : (blockPart b).any s.testing = false) :
    s.act (writeOf p .rstBlock 0 data) .rstBlock 0 =
      (({ s with die := { s.die with blockBusy := s.die.blockBusy ++ [b] } } : State).blockStart b).noteLevel := by
  obtain ⟨hkey, hcode⟩ := keyAndCode hdata
  have htaken := (State.blockReset_taken (reaction := false) (acts_running h) hblock hfree).trans
    (if_neg (by simp only [htest, Bool.false_eq_true, not_false_eq_true]))
  exact State.act_rstBlock_some hkey (hcode ▸ htaken)

/-- The security engine's reset: its slots and its keys go, and a busy fuse controller keeps a key generation. -/
theorem securityReset (s : State) : ∃ u : State, s.blockStart 6 = u ∧ u.sec.slots = [] ∧ u.sec.kwk = none ∧ u.sec.err = 0 ∧
    (s.otp.busy = none → u.sec.busy = 0) ∧ u.die = s.die := by
  have hhalts := (Halts.refl s).failSecured
  have hotp : s.failSecured.otp = s.otp := hhalts.same .otp
  have hdie : s.failSecured.die = s.die := hhalts.same .die
  refine ⟨_, rfl, rfl, rfl, rfl, fun hbusy => ?_, hdie⟩
  have hidle : s.failSecured.otp.busy.any (fun c => c.why == 1) = false := by rw [hotp, hbusy]; rfl
  exact if_neg (by simp only [hidle, Bool.false_eq_true, not_false_eq_true])

theorem rstBlock_security (h : Acts p .rstBlock 0 s) (hdata : fieldOf data 0 16 = 0x3C06) (hfree : s.die.resetting 6 = false)
    (htest : s.testing 5 = false) : ∃ u : State,
      exec (.rstBlock p data) s = .next u.noteLevel.actLate.noteLevel ∧ u.sec.slots = [] ∧ u.sec.kwk = none ∧ u.sec.err = 0 ∧
      (s.otp.busy = none → u.sec.busy = 0) ∧ u.die = { s.die with blockBusy := s.die.blockBusy ++ [6] } := by
  have hact := rstBlock_begins (b := 6) h hdata (by decide) hfree htest
  obtain ⟨u, hu, hslots, hkwk, herr, hbusy, hdie⟩ := securityReset { s with die := { s.die with blockBusy := s.die.blockBusy ++ [6] } }
  rw [hu] at hact
  exact ⟨u, congrArg Host.Outcome.next (State.namedWrite_act h rstBlock_acts rfl hact), hslots, hkwk, herr, hbusy, hdie⟩

/-- A block's end of reset, where no write waits. -/
theorem blockResetEnd_does (hend : s.blockResetEnd b = t.noteLevel) (hlate : SameLate s t) (hnone : s.regs.late = []) :
    exec (.blockResetEnd b) s = .next t.noteLevel := by
  have hlate' : t.noteLevel.regs.late = [] := hlate.noteLevel.late.trans hnone
  exact congrArg Host.Outcome.next ((congrArg State.actLate hend).trans (State.actLate_nil _ hlate'))

theorem blockResetEnd_plain (hnone : s.regs.late = []) (hlow : b.toNat < 32) (hhive : b ≠ 10) (hbusy : s.die.blockBusy.contains b = true) :
    exec (.blockResetEnd b) s = .next { s with die := { s.die with blockBusy := s.die.blockBusy.erase b } }.noteLevel :=
  blockResetEnd_does ((State.blockResetEnd_ends hbusy).trans (congrArg State.noteLevel (State.blockEnd_plain hlow hhive))) ⟨rfl⟩ hnone

theorem blockResetEnd_hive (hnone : s.regs.late = []) (hbusy : s.die.blockBusy.contains 10 = true) (hmode : s.die.mode = .running)
    (hdone : s.bst.memDone.getLsbD 0 = true) (hfail : s.bst.memFail.getLsbD 0 = false) (himage : s.die.imageOk = true)
    (hmem : s.die.hiveMem = []) (hqueue : s.otp.queue = []) :
    exec (.blockResetEnd 10) s = .next { s with die := { s.die with blockBusy := s.die.blockBusy.erase 10, hiveRun := true } }.noteLevel :=
  blockResetEnd_does ((State.blockResetEnd_ends hbusy).trans
    (congrArg State.noteLevel (State.blockEnd_hive hmode hdone hfail himage hmem hqueue))) ⟨rfl⟩ hnone

end

/-- Settles O38: by what RST_BLOCK finds, by the block that is reset, and by the block whose reset ends. -/
theorem blockResetsStartAndEnd : Obligations.BlockResetsStartAndEnd := by
  unfold Obligations.BlockResetsStartAndEnd
  refine ⟨fun p data s h => ⟨fun hkey => ?_, fun hkey hno => ?_, rstBlock_waits h, fun hdata hfree htest => ?_, fun hdata hfree => ?_,
    rstBlock_security h⟩, fun b s hnone => ⟨fun hidle => ?_, blockResetEnd_plain hnone, blockResetEnd_hive hnone⟩⟩
  · exact rstBlock_written h (State.act_rstBlock_key (w := writeOf p .rstBlock 0 data) hkey) (ignored_late ..)
  · exact rstBlock_written h (State.act_rstBlock_none (w := writeOf p .rstBlock 0 data) hkey (State.blockReset_refused hno)) (ignored_late ..)
  · have hact := rstBlock_begins (b := 8) h hdata (by decide) hfree htest
    exact rstBlock_written h hact (SameLate.noteLevel ⟨rfl⟩)
  · have hact := rstBlock_begins (b := 9) h hdata (by decide) hfree rfl
    exact rstBlock_written h hact (SameLate.noteLevel ⟨rfl⟩)
  · exact congrArg Host.Outcome.next ((congrArg State.actLate (State.blockResetEnd_none hidle)).trans (State.actLate_nil s hnone))

end Sys2Proof.Proofs
end

section
/-! SUPPORT. Fuse commands: what VQPS is switched by, how the programming of a word ends, and what the end of a command brings (R441 to
R451, R535). -/

namespace Sys2Proof.Machine
set_option Elab.async false
open Sys2Proof.Safety

/-- Another key's entry in a table whose keys rise, whatever the default. -/
theorem Tab.get_set_other {α : Type} [DecidableEq α] (d d' : α) {t : Tab α} {i j : Nat} (x : α) (hij : i ≠ j)
    (h : (t.map Prod.fst).Pairwise (· < ·)) : Tab.get d (Tab.set d' t j x) i = Tab.get d t i := by
  induction t with
  | nil => grind [Tab.get, Tab.set]
  | cons e r ih =>
    rw [List.map_cons, List.pairwise_cons] at h
    obtain ⟨hlow, hr⟩ := h
    have habove : ∀ f ∈ r, e.1 < f.1 := fun f hf => hlow f.1 (List.mem_map_of_mem hf)
    have hrest := ih hr
    have hgone : ∀ j, j ≤ e.1 → Tab.get d r j = d := fun j hj => Tab.get_eq_default d r j fun f hf => by have := habove f hf; omega
    grind [Tab.get, Tab.set]

/-- A step that touches only the fault collector. -/
theorem Only.flt_eq {s t : State} (h : Only [.flt] s t) : t = { s with flt := t.flt } := by
  cases t; simp_all [Only]

section
variable {s : State} {c : OtpCmd} {on ok : Bool} {normal strict : BitVec 39} {was : BitVec 4}

/-! ## VQPS (R451, R535) -/

theorem State.vqpsNext_swaps (s : State) : Only [.tw, .regs, .out] s s.vqpsNext := by
  unfold State.vqpsNext
  split
  · exact (Only.refl s).mono (by simp)
  · exact .ite ((Only.refl s).mono (by simp)) (by simp [Only])

theorem State.vqpsNext_none (h : s.tw.vqpsQ = []) : s.vqpsNext = s := by simp [State.vqpsNext, h]

/-- Asking for a switching only makes the pulses of the fuse controller wait. -/
theorem State.vqpsAsk_otp (s : State) (on : Bool) : (s.vqpsAsk on).otp = { s.otp with pulseAt := none } :=
  (State.vqpsNext_swaps _).same .otp (by decide)

theorem State.vqpsAsk_only (s : State) (on : Bool) : Only [.otp, .tw, .regs, .out] s (s.vqpsAsk on) :=
  Only.andThen (t := { s with tw := { s.tw with vqpsQ := s.tw.vqpsQ ++ [on] }, otp := { s.otp with pulseAt := none } })
    (by simp [Only]) (State.vqpsNext_swaps _)

/-- The regulator's address on the two-wire bus (R535). -/
def State.vqpsTarget (s : State) : Nat := max 8 (min 0x77 (fieldOf (s.otp.sh 2) 0 7))

/-- The bytes that switch VQPS (R535). -/
def State.vqpsBytes (s : State) (on : Bool) : Nat :=
  fieldOf (s.otp.sh 2) 8 8 + 2 ^ 8 * (if on then fieldOf (s.otp.sh 2) 16 8 else fieldOf (s.otp.sh 2) 24 8)

/-- The two-wire controller is taken for a switching of VQPS. -/
def State.vqpsTaken (s : State) (on : Bool) (rest : List Bool) : State :=
  let u := (s.setCfg .twCbuf 0 (withField (s.cfgWord .twCbuf 0) 0 16 (s.vqpsBytes on))).setCfg .twCcmd 0 (packed [(s.vqpsTarget, 0, 7), (2, 8, 6)])
  { u with tw := { u.tw with
    busy := true, bootRead := false, vqpsQ := rest, vqps := some on, result := 0, doneN := 0, asked := (2, 0), losses := 0 } }

theorem State.vqpsNext_starts {rest : List Bool} (hq : s.tw.vqpsQ = on :: rest) (hfree : s.tw.busy = false) (hok : s.hiveOk = true) :
    s.vqpsNext = (s.vqpsTaken on rest).emit (.twStart (BitVec.ofNat 8 s.vqpsTarget)) := by
  simp only [State.vqpsNext, hq, hfree, hok, Bool.not_true, Bool.false_eq_true, or_self, if_false]
  rfl

theorem State.vqpsBytes_lt (s : State) (on : Bool) : s.vqpsBytes on < 2 ^ 16 := by
  have hbyte (w : Word) (lo : Nat) : fieldOf w lo 8 < 256 := Nat.mod_lt _ (by decide)
  unfold State.vqpsBytes
  have h1 := hbyte (s.otp.sh 2) 8
  have h2 := hbyte (s.otp.sh 2) 16
  have h3 := hbyte (s.otp.sh 2) 24
  split <;> omega

/-- The two bytes stand in the controller's buffer. -/
theorem State.vqpsTaken_buffer {rest : List Bool} (h : (s.regs.cfg.map Prod.fst).Pairwise (· < ·)) :
    fieldOf ((s.vqpsTaken on rest).cfgWord .twCbuf 0) 0 16 = s.vqpsBytes on := by
  have hsorted := (Tab.set_sorted (regReset .twCbuf 0) s.regs.cfg (regKey .twCbuf 0) (withField (s.cfgWord .twCbuf 0) 0 16 (s.vqpsBytes on)) h).1
  have hword : (s.vqpsTaken on rest).cfgWord .twCbuf 0 = withField (s.cfgWord .twCbuf 0) 0 16 (s.vqpsBytes on) :=
    (Tab.get_set_other _ _ _ (by decide) hsorted).trans (Tab.get_set_of_sorted _ _ _ _ h)
  rw [hword, fieldOf_withField_of_lt (by decide) (s.vqpsBytes_lt on)]

/-! ## A command starts (R451) -/

theorem OtpCmd.fromHive_iff (c : OtpCmd) : c.fromHive = true ↔ 1 ≤ c.why ∨ c.who = 0 := by simp [OtpCmd.fromHive]

theorem State.otpGo_bus (h : c.fromHive = false) : s.otpGo c = { s with otp := { s.otp with busy := some c, err := 0, locked := false } } :=
  if_neg (by simp [h])

theorem State.otpGo_hive (h : c.fromHive = true) :
    s.otpGo c = ({ s with otp := { s.otp with busy := some c, err := 0, locked := false } } : State).vqpsAsk true := if_pos h

theorem State.pulsing_bus (h : c.fromHive = false) : s.pulsing c = true := by simp [State.pulsing, h]

theorem State.pulsing_hive (h : c.fromHive = true) : s.pulsing c = true ↔ ∃ t, s.otp.pulseAt = some t ∧ t ≤ s.now := by
  cases hat : s.otp.pulseAt <;> simp [State.pulsing, h, hat]

/-! ## A region found untrusted (R441) -/

/-- A region that stays trusted, and one that was untrusted before, raise nothing. -/
theorem State.raiseUntrusted_same (h : s.otp.trusted = was) : s.raiseUntrusted was = s := by
  have hkept : ∀ l : List Nat, l.foldl (fun (s : State) r =>
      if was.getLsbD r && !(s.otp.trusted.getLsbD r) then s.raise 82 (1 + 2 ^ 8 * r) else s) s = s := by
    intro l
    induction l with
    | nil => rfl
    | cons r l ih => rw [List.foldl_cons, if_neg (by simp only [h, Bool.and_not_self, Bool.false_eq_true, not_false_eq_true]), ih]
  exact hkept _

theorem State.raise_line (s : State) (src detail : Nat) : ∃ l ∈ (s.raise src detail).flt.lines, l.src = BitVec.ofNat 7 src :=
  ⟨⟨BitVec.ofNat 7 src, BitVec.ofNat 64 detail⟩, by simp [State.raise], rfl⟩

theorem State.raiseUntrusted_line {r : Nat} (hr : r < 4) (hwas : was.getLsbD r = true) (hnow : s.otp.trusted.getLsbD r = false) :
    ∃ l ∈ (s.raiseUntrusted was).flt.lines, l.src = 82 := by
  have hfold : ∀ (l : List Nat) (t : State), t.otp = s.otp → (r ∈ l ∨ ∃ x ∈ t.flt.lines, x.src = 82) →
      ∃ x ∈ (l.foldl (fun (s : State) r =>
        if was.getLsbD r && !(s.otp.trusted.getLsbD r) then s.raise 82 (1 + 2 ^ 8 * r) else s) t).flt.lines, x.src = 82 := by
    intro l
    induction l with
    | nil => exact fun t _ h => h.resolve_left List.not_mem_nil
    | cons k l ih =>
      intro t hotp h
      rw [List.foldl_cons]
      split
      case isTrue => exact ih _ hotp (.inr (t.raise_line 82 _))
      case isFalse hk =>
        refine ih t hotp (h.imp (fun hmem => (List.mem_cons.mp hmem).resolve_left fun hrk => hk ?_) id)
        rw [← hrk, hwas, hotp, hnow]
        rfl
  exact hfold _ s rfl (.inl (List.mem_range.mpr hr))

/-! ## A word has been programmed (R450) -/

/-- The fuse controller once its command has ended with a word. -/
def Otp.wordEnded (o : Otp) (c : OtpCmd) (normal strict : BitVec 39) : Otp :=
  { (o.programmed c.addr.toNat c.data normal strict).judge with
    busy := none, err := if !(strict == fuseCode c.data) then 3 else if c.rest.isEmpty then 0 else 2 }

/-- The words of a command that are blank still. -/
def Otp.wordsLeft (o : Otp) (c : OtpCmd) (normal strict : BitVec 39) : List (BitVec 12 × Word) :=
  c.rest.filter fun e => !(o.programmed c.addr.toNat c.data normal strict).isUsed e.1.toNat

theorem otpCommandEnd_waits (hbusy : s.otp.busy = some c) (h : s.pulsing c = false) : exec (.otpCommandEnd normal strict) s = .next s := by
  change execOtpCommandEnd normal strict s = _
  simp only [execOtpCommandEnd, hbusy, h, Bool.not_false, if_true]

theorem otpCommandEnd_next {x : BitVec 12 × Word} {l : List (BitVec 12 × Word)} (hbusy : s.otp.busy = some c) (hpulse : s.pulsing c = true)
    (hok : strict = fuseCode c.data) (hleft : s.otp.wordsLeft c normal strict = x :: l) : exec (.otpCommandEnd normal strict) s =
      .next { s with otp := { s.otp.programmed c.addr.toNat c.data normal strict with busy := some { c with addr := x.1, data := x.2, rest := l } } } := by
  change execOtpCommandEnd normal strict s = _
  simp only [Otp.wordsLeft] at hleft
  simp only [execOtpCommandEnd, hbusy, hpulse, hok, hok ▸ hleft, Bool.not_true, Bool.false_eq_true, if_false, beq_self_eq_true, if_true]

theorem otpCommandEnd_last (hbusy : s.otp.busy = some c) (hpulse : s.pulsing c = true)
    (hleft : strict = fuseCode c.data → s.otp.wordsLeft c normal strict = []) : exec (.otpCommandEnd normal strict) s =
      .next (((({ s with otp := s.otp.wordEnded c normal strict } : State).raiseUntrusted s.otp.trusted).otpAfter c
        (strict == fuseCode c.data)).otpDone c) := by
  have hnone : (if strict == fuseCode c.data then
      c.rest.filter (fun e => !(s.otp.programmed c.addr.toNat c.data normal strict).isUsed e.1.toNat) else []) = [] := by
    split
    case isTrue h => exact hleft (beq_iff_eq.mp h)
    case isFalse => rfl
  change execOtpCommandEnd normal strict s = _
  simp only [execOtpCommandEnd, hbusy, hpulse, hnone, Bool.not_true, Bool.false_eq_true, if_false]
  rfl

/-! ## A command has ended (R451, R452) -/

theorem State.otpDone_idle (hq : s.otp.queue = []) :
    s.otpDone c = (if c.fromHive ∧ s.otp.pulseAt.isSome then s.vqpsAsk false else s).noteLevel := by
  unfold State.otpDone
  split
  case isTrue =>
    have hqueue : (s.vqpsAsk false).otp.queue = [] := by rw [State.vqpsAsk_otp]; exact hq
    dsimp only
    rw [hqueue]
    rfl
  case isFalse =>
    dsimp only
    rw [hq]
    rfl

/-- What the end of a command leaves of the fuse controller. -/
theorem State.otpDone_otp (hq : s.otp.queue = []) : ∃ p : Option Nat, (s.otpDone c).otp = { s.otp with pulseAt := p } := by
  have hlevel (t : State) : t.noteLevel.otp = t.otp := t.noteLevel_only.same .otp (by decide)
  rw [State.otpDone_idle hq, hlevel]
  split
  · exact ⟨none, State.vqpsAsk_otp s false⟩
  · exact ⟨s.otp.pulseAt, rfl⟩

theorem State.otpDone_dbg_sec (hq : s.otp.queue = []) : (s.otpDone c).dbg = s.dbg ∧ (s.otpDone c).sec = s.sec := by
  have hlevel (t : State) : t.noteLevel.dbg = t.dbg ∧ t.noteLevel.sec = t.sec :=
    ⟨t.noteLevel_only.same .dbg (by decide), t.noteLevel_only.same .sec (by decide)⟩
  rw [State.otpDone_idle hq]
  obtain ⟨hdbg, hsec⟩ := hlevel (if c.fromHive ∧ s.otp.pulseAt.isSome then s.vqpsAsk false else s)
  rw [hdbg, hsec]
  split
  · exact ⟨(s.vqpsAsk_only false).same .dbg (by decide), (s.vqpsAsk_only false).same .sec (by decide)⟩
  · exact ⟨rfl, rfl⟩

/-- A debug session that ends with no command waiting for the Hive core. -/
theorem State.endSession_idle (hq : s.otp.queue = []) : s.endSession = s.closeSession := by
  unfold State.endSession
  rw [hq]
  exact ite_self _

/-- A transition's step has ended (R483): the session is closed, and the keys may go. -/
theorem State.otpAfter_transition (hwhy : c.why = 6) (hq : s.otp.queue = []) :
    (s.otpAfter c ok).dbg.level = 0 ∧ (s.otpAfter c ok).dbg.left = none ∧ (s.otpAfter c ok).sec.busy = 0 ∧ (s.otpAfter c ok).otp = s.otp := by
  generalize hu : ({ s with sec := { s.sec with busy := 0, err := 0 } } : State) = u
  have hqueue : u.otp.queue = [] := by rw [← hu]; exact hq
  have hafter : s.otpAfter c ok = if u.closeSession.lifecycle = 3 then u.closeSession.eraseAll else u.closeSession := by
    unfold State.otpAfter
    rw [hwhy, ← State.endSession_idle hqueue, ← hu]
    rfl
  rw [hafter]
  have hsec : u.sec.busy = 0 := by rw [← hu]
  have hotp : u.otp = s.otp := by rw [← hu]
  split
  · exact ⟨rfl, rfl, hsec, hotp⟩
  · exact ⟨rfl, rfl, hsec, hotp⟩

/-- A command of a register whose VQPS could not be switched on: no pulse (R535). -/
theorem State.otpUnpowered_register (hbusy : s.otp.busy = some c) (hwhy : c.why = 0) :
    s.otpUnpowered = ({ s with otp := { s.otp with busy := none, err := 3 } } : State).otpDone c := by
  simp [State.otpUnpowered, hbusy, hwhy, State.otpAfter]

theorem State.otpAfter_register (hwhy : c.why = 0) : s.otpAfter c ok = s := by simp [State.otpAfter, hwhy]

end

end Sys2Proof.Machine
end

section
/-! PROOF. The end of fuse commands, and the switching of VQPS (O17). -/

namespace Sys2Proof.Proofs
set_option Elab.async false
open Sys2Proof.Machine Sys2Proof.Safety

section
variable {s : State} {c : OtpCmd} {normal strict : BitVec 39}

/-- A command of a register has ended: the fuse controller, the fault lines of regions that are untrusted now, and VQPS off again. -/
theorem otpCommandEnd_register (hbusy : s.otp.busy = some c) (hwhy : c.why = 0) (hq : s.otp.queue = []) (hpulse : s.pulsing c = true)
    (hleft : strict = fuseCode c.data → s.otp.wordsLeft c normal strict = []) : ∃ u : State,
      u = { s with otp := s.otp.wordEnded c normal strict, flt := u.flt } ∧
      exec (.otpCommandEnd normal strict) s = .next (if c.fromHive then u.vqpsAsk false else u).noteLevel ∧
      ((s.otp.wordEnded c normal strict).trusted = s.otp.trusted → u.flt = s.flt) ∧
      (∀ r, r < 4 → s.otp.trusted.getLsbD r = true → (s.otp.wordEnded c normal strict).trusted.getLsbD r = false →
        ∃ l ∈ u.flt.lines, l.src = 82) := by
  generalize hv : ({ s with otp := s.otp.wordEnded c normal strict } : State) = v
  have hflt := Only.flt_eq (v.raiseUntrusted_only s.otp.trusted)
  have hotp : (v.raiseUntrusted s.otp.trusted).otp = s.otp.wordEnded c normal strict := by rw [hflt, ← hv]
  have hqueue : (v.raiseUntrusted s.otp.trusted).otp.queue = [] := by rw [hotp]; exact hq
  have hpulses : (v.raiseUntrusted s.otp.trusted).otp.pulseAt = s.otp.pulseAt := by rw [hotp]; rfl
  have hswitch : (c.fromHive = true ∧ (v.raiseUntrusted s.otp.trusted).otp.pulseAt.isSome = true) ↔ c.fromHive = true := by
    refine ⟨And.left, fun hhive => ⟨hhive, ?_⟩⟩
    obtain ⟨t, hat, -⟩ := (State.pulsing_hive hhive).mp hpulse
    rw [hpulses, hat]
    rfl
  have hexec := otpCommandEnd_last (normal := normal) hbusy hpulse hleft
  rw [hv, State.otpAfter_register hwhy, State.otpDone_idle hqueue, if_congr hswitch rfl rfl] at hexec
  refine ⟨_, by rw [← hv] at hflt ⊢; exact hflt, hexec, fun hsame => ?_, fun r hr hwas hnow => State.raiseUntrusted_line hr hwas ?_⟩
  · rw [State.raiseUntrusted_same (by rw [← hv]; exact hsame), ← hv]
  · rw [← hv]
    exact hnow

theorem otpCommandEnd_goesOn (hbusy : s.otp.busy = some c) (hpulse : s.pulsing c = true) (hok : strict = fuseCode c.data)
    (x : BitVec 12 × Word) (l : List (BitVec 12 × Word)) (hleft : s.otp.wordsLeft c normal strict = x :: l) : ∃ o : Otp,
      exec (.otpCommandEnd normal strict) s = .next { s with otp := o } ∧ o.busy = some { c with addr := x.1, data := x.2, rest := l } ∧
      o.shadow = Tab.set 0 s.otp.shadow c.addr.toNat c.data :=
  ⟨_, otpCommandEnd_next hbusy hpulse hok hleft, rfl, if_pos (beq_iff_eq.mpr hok)⟩

theorem otpCommandEnd_verified (hbusy : s.otp.busy = some c) (hwhy : c.why = 0) (hq : s.otp.queue = []) (hpulse : s.pulsing c = true)
    (hok : strict = fuseCode c.data) (hleft : s.otp.wordsLeft c normal strict = []) : ∃ (o : Otp) (u : State),
      u = { s with otp := o, flt := u.flt } ∧ exec (.otpCommandEnd normal strict) s =
        .next (if c.fromHive then u.vqpsAsk false else u).noteLevel ∧ o.busy = none ∧ o.err = (if c.rest = [] then 0 else 2) ∧
      (o.trusted = s.otp.trusted → u.flt = s.flt) ∧
      (∀ r, r < 4 → s.otp.trusted.getLsbD r = true → o.trusted.getLsbD r = false → ∃ l ∈ u.flt.lines, l.src = 82) ∧
      o.shadow = Tab.set 0 s.otp.shadow c.addr.toNat c.data ∧ o.normal = Tab.set 0 s.otp.normal c.addr.toNat normal ∧
      o.strict = Tab.set 0 s.otp.strict c.addr.toNat strict := by
  obtain ⟨u, hu, hexec, hsame, hlines⟩ := otpCommandEnd_register (normal := normal) hbusy hwhy hq hpulse fun _ => hleft
  have herr : (s.otp.wordEnded c normal strict).err = (if c.rest = [] then 0 else 2) := by simp [Otp.wordEnded, hok]
  exact ⟨_, u, hu, hexec, rfl, herr, hsame, hlines, if_pos (beq_iff_eq.mpr hok), rfl, rfl⟩

theorem otpCommandEnd_fails (hbusy : s.otp.busy = some c) (hwhy : c.why = 0) (hq : s.otp.queue = []) (hpulse : s.pulsing c = true)
    (hbad : strict ≠ fuseCode c.data) : ∃ (o : Otp) (u : State),
      u = { s with otp := o, flt := u.flt } ∧ exec (.otpCommandEnd normal strict) s =
        .next (if c.fromHive then u.vqpsAsk false else u).noteLevel ∧ o.busy = none ∧ o.err = 3 ∧
      o.shadow = s.otp.shadow ∧ o.used = Tab.set false s.otp.used c.addr.toNat true := by
  obtain ⟨u, hu, hexec, -, -⟩ := otpCommandEnd_register (normal := normal) hbusy hwhy hq hpulse fun hok => absurd hok hbad
  have hne : (strict == fuseCode c.data) = false := beq_eq_false_iff_ne.mpr hbad
  refine ⟨_, u, hu, hexec, rfl, ?_, ?_, ?_⟩
  · simp [Otp.wordEnded, hne]
  · simp [Otp.wordEnded, Otp.judge, Otp.programmed, hne]
  · simp [Otp.wordEnded, Otp.judge, Otp.programmed, hne]

/-- A transition's step, with the session (R446, R483). -/
theorem otpCommandEnd_transition (hbusy : s.otp.busy = some c) (hwhy : c.why = 6) (hrest : c.rest = []) (hq : s.otp.queue = [])
    (hpulse : s.pulsing c = true) : ∃ t : State, exec (.otpCommandEnd normal strict) s = .next t ∧ t.dbg.level = 0 ∧ t.dbg.left = none ∧
      t.sec.busy = 0 ∧ t.otp.err = (if strict = fuseCode c.data then 0 else 3) := by
  have hexec := otpCommandEnd_last (normal := normal) (strict := strict) hbusy hpulse fun _ => by rw [Otp.wordsLeft, hrest]; rfl
  generalize hv : (({ s with otp := s.otp.wordEnded c normal strict } : State).raiseUntrusted s.otp.trusted) = v at hexec
  have hotp : v.otp = s.otp.wordEnded c normal strict := by rw [← hv]; exact (State.raiseUntrusted_only _ _).same .otp (by decide)
  have hqueue : v.otp.queue = [] := by rw [hotp]; exact hq
  obtain ⟨hlevel, hleft, hidle, hfuses⟩ := State.otpAfter_transition (ok := strict == fuseCode c.data) hwhy hqueue
  have hqueue' : (v.otpAfter c (strict == fuseCode c.data)).otp.queue = [] := by rw [hfuses]; exact hqueue
  obtain ⟨hdbg, hsec⟩ := State.otpDone_dbg_sec (c := c) hqueue'
  obtain ⟨x, hdone⟩ := State.otpDone_otp (c := c) hqueue'
  refine ⟨_, hexec, by rw [hdbg, hlevel], by rw [hdbg, hleft], by rw [hsec, hidle], ?_⟩
  rw [hdone, hfuses, hotp]
  by_cases hok : strict = fuseCode c.data <;> simp [Otp.wordEnded, hok, hrest]

/-! ## VQPS (R451, R535) -/

theorem otpGo_switches (hhive : c.fromHive = true) (hfree : s.tw.busy = false) (hnone : s.tw.vqpsQ = []) (hok : s.hiveOk = true) : ∃ u : State,
      s.otpGo c = u.emit (.twStart (BitVec.ofNat 8 (max 8 (min 0x77 (fieldOf (s.otp.sh 2) 0 7))))) ∧ Only [.otp, .tw, .regs] s u ∧
      u.otp = { s.otp with busy := some c, err := 0, locked := false, pulseAt := none } ∧
      u.tw.busy = true ∧ u.tw.vqps = some true ∧ u.tw.asked = (2, 0) ∧
      ((s.regs.cfg.map Prod.fst).Pairwise (· < ·) →
        fieldOf (u.cfgWord .twCbuf 0) 0 16 = fieldOf (s.otp.sh 2) 8 8 + 256 * fieldOf (s.otp.sh 2) 16 8) := by
  generalize hv : ({ s with
    tw := { s.tw with vqpsQ := s.tw.vqpsQ ++ [true] }
    otp := { s.otp with busy := some c, err := 0, locked := false, pulseAt := none } } : State) = v
  have hgo : s.otpGo c = v.vqpsNext := by rw [State.otpGo_hive hhive, ← hv]; rfl
  have hstart : v.vqpsNext = (v.vqpsTaken true []).emit (.twStart (BitVec.ofNat 8 v.vqpsTarget)) := by
    rw [← hv]
    exact State.vqpsNext_starts (by simp [hnone]) hfree hok
  refine ⟨v.vqpsTaken true [], ?_, ?_, ?_, rfl, rfl, rfl, fun hsorted => ?_⟩
  · rw [hgo, hstart, ← hv]
    rfl
  · rw [← hv]
    simp [Only, State.vqpsTaken]
  · rw [← hv]
    rfl
  · rw [State.vqpsTaken_buffer (by rw [← hv]; exact hsorted), ← hv]
    rfl

/-- The enable has ended well: the pulses wait a millisecond. -/
theorem vqpsOn_ends {done : Nat} (hbusy : s.otp.busy = some c) (htw : s.tw.busy = true) (hboot : s.tw.bootRead = false)
    (hon : s.tw.vqps = some true) (hq : s.tw.vqpsQ = []) (hdone : done ≤ s.tw.asked.1 + s.tw.asked.2) :
    exec (.twTransactionEnd .ok done []) s = .next { s with
      tw := { s.tw with busy := false, result := 0, doneN := min 64 done, vqps := none }
      otp := { s.otp with pulseAt := some (s.now + 1000) } } := by
  rw [transactionEnd_user (by decide) htw hboot (Nat.zero_le _) hdone, if_pos rfl, State.twFill]
  simp only [State.vqpsEnded, hon, hbusy, Option.isSome_some, if_true]
  exact congrArg Host.Outcome.next (State.vqpsNext_none hq)

/-- The enable has failed: the command ends with no pulse. -/
theorem vqpsOn_fails {done : Nat} (hbusy : s.otp.busy = some c) (htw : s.tw.busy = true) (hboot : s.tw.bootRead = false)
    (hon : s.tw.vqps = some true) (hdone : done ≤ s.tw.asked.1 + s.tw.asked.2) (hwhy : c.why = 0) (hqueue : s.otp.queue = []) :
    ∃ t : State, exec (.twTransactionEnd .addrNack done []) s = .next t ∧ t.otp.busy = none ∧ t.otp.err = 3 ∧
      t.otp.normal = s.otp.normal ∧ t.otp.strict = s.otp.strict ∧ t.otp.shadow = s.otp.shadow := by
  generalize hv : (({ s with tw := { twFailed s.tw .addrNack done with vqps := none } } : State).raise 85 (1 + 2 ^ 8 * twCode .addrNack)) = v
  have hvotp : v.otp = s.otp := by rw [← hv]; rfl
  have hended : s.twFail .addrNack done = v.otpUnpowered.vqpsNext := by
    simp only [State.twFail, hboot, Bool.false_eq_true, if_false]
    rw [← hv]
    simp [State.vqpsEnded, State.raise, hon, twFailed]
  have hexec := transactionEnd_user (bytes := []) (by decide) htw hboot (Nat.zero_le _) hdone (res := .addrNack)
  rw [if_neg (by decide), State.twFill, hended, State.otpUnpowered_register (hvotp ▸ hbusy) hwhy] at hexec
  generalize hw : ({ v with otp := { v.otp with busy := none, err := 3 } } : State) = w at hexec
  have hwotp : w.otp = { s.otp with busy := none, err := 3 } := by rw [← hw, hvotp]
  obtain ⟨x, hdone'⟩ := State.otpDone_otp (s := w) (c := c) (by rw [hwotp]; exact hqueue)
  have hotp : (w.otpDone c).vqpsNext.otp = { { s.otp with busy := none, err := 3 } with pulseAt := x } := by
    rw [(State.vqpsNext_swaps _).same .otp (by decide), hdone', hwotp]
  exact ⟨_, hexec, by rw [hotp], by rw [hotp], by rw [hotp], by rw [hotp], by rw [hotp]⟩

end

/-- Settles O17: by how the word reads, by what asked for it, and by what VQPS has been switched to. -/
theorem otpCommandsEnd : Obligations.OtpCommandsEnd := by
  unfold Obligations.OtpCommandsEnd
  refine ⟨fun normal strict c s hbusy hwhy hq hpulse => ⟨otpCommandEnd_goesOn hbusy hpulse, otpCommandEnd_verified hbusy hwhy hq hpulse,
      otpCommandEnd_fails hbusy hwhy hq hpulse⟩, fun normal strict c s => otpCommandEnd_transition,
    fun c s => ⟨c.fromHive_iff, State.otpGo_bus, otpGo_switches⟩,
    fun c done s hbusy htw hboot hon hq hdone => ⟨vqpsOn_ends hbusy htw hboot hon hq hdone, vqpsOn_fails hbusy htw hboot hon hdone⟩,
    fun normal strict c s hbusy => ⟨State.pulsing_bus, State.pulsing_hive, otpCommandEnd_waits hbusy⟩⟩

end Sys2Proof.Proofs
end

section
/-! SUPPORT. SEC_CTL: the words that KEYGEN programs, and a fuse command that nothing holds up (R452, R469, R491). -/

namespace Sys2Proof.Machine
set_option Elab.async false
open Sys2Proof.Safety

theorem SameLate.trans {s t u : State} (h : SameLate s t) (g : SameLate t u) : SameLate s u := ⟨g.late.trans h.late⟩

/-! ## Words of bytes -/

theorem length_bytesWords {l : List Byte} {n : Nat} (h : l.length = 4 * n) : (bytesWords l).length = n := by
  induction n generalizing l with
  | zero => rw [List.eq_nil_of_length_eq_zero h]; rfl
  | succ n ih =>
    match l, h with
    | _ :: _ :: _ :: _ :: t, h =>
      rw [bytesWords, List.length_cons, ih (by simp only [List.length_cons] at h; omega)]

theorem length_pointBytes (q : Point) : (pointBytes q).length = 96 := by
  cases q with
  | none => rfl
  | some q => simp [pointBytes, beBytes, length_leBytes]

/-! ## Words programmed one after another (R469) -/

/-- A run of words from an address. -/
def wordRun (a : Nat) (ws : List Word) : List (BitVec 12 × Word) :=
  ((List.range ws.length).zip ws).map fun e => (BitVec.ofNat 12 (a + e.1), e.2)

theorem wordRun_addresses (a : Nat) (ws : List Word) :
    (wordRun a ws).map (fun e => e.1.toNat) = (List.range ws.length).map fun k => (a + k) % 4096 := by
  have hzip : ((List.range ws.length).zip ws).map Prod.fst = List.range ws.length := List.map_fst_zip (by simp)
  calc (wordRun a ws).map (fun e => e.1.toNat)
      = (((List.range ws.length).zip ws).map Prod.fst).map fun k => (a + k) % 4096 := by
        simp only [wordRun, List.map_map]
        exact List.map_congr_left fun e _ => by simp
    _ = _ := by rw [hzip]

theorem keygenWords_runs {d seed q : List Word} (hd : d.length = 12) (hseed : seed.length = 8) (hq : q.length = 24) :
    (wordRun 0x500 d ++ wordRun 0x50C seed ++ wordRun 0x102 q).map (fun e => e.1.toNat) = keygenWords := by
  rw [List.map_append, List.map_append, wordRun_addresses, wordRun_addresses, wordRun_addresses, hd, hseed, hq]
  decide

section
variable {s : State} {c : OtpCmd} {w : RegWrite} {i : Nat}

/-! ## A command that nothing holds up (R452) -/

theorem State.otpAsk_idle (hbusy : s.otp.busy = none) (hq : s.otp.queue = []) (hok : s.hiveOk = true) : s.otpAsk c = s.otpBegin c := by
  have hs : ({ s with otp := { s.otp with queue := [] } } : State) = s := by rw [← hq]
  have hpump (t : State) (ht : t.otp.busy = none) (hqueue : t.otp.queue = [c]) (hhive : t.hiveOk = true) :
      State.otpPump 1 t = ({ t with otp := { t.otp with queue := [] } } : State).otpBegin c := by
    simp [State.otpPump, ht, hqueue, hhive]
  have hpumped := hpump { s with otp := { s.otp with queue := s.otp.queue ++ [c] } } hbusy (by simp [hq]) hok
  have hlen : (s.otp.queue ++ [c]).length = 1 := by simp [hq]
  unfold State.otpAsk
  simp only [hlen]
  rw [hpumped]
  exact congrArg (fun t : State => t.otpBegin c) hs

/-- A command that names its words, all of them blank. -/
theorem State.otpBegin_words (hwhy : c.why = 1) (hblank : ∀ e ∈ (c.addr, c.data) :: c.rest, s.otp.isUsed e.1.toNat = false) :
    s.otpBegin c = s.otpGo c := by
  have hfirst := hblank (c.addr, c.data) (List.mem_cons_self ..)
  have hrest : c.rest.any (fun e => s.otp.isUsed e.1.toNat) = false := by
    rw [List.any_eq_false]
    exact fun e he => by simp [hblank e (List.mem_cons_of_mem _ he)]
  unfold State.otpBegin
  rw [if_neg (by simp [hwhy]), if_neg (by simp [hwhy]), if_neg (by simp only [hfirst, hrest, Bool.false_eq_true, or_self, not_false_eq_true])]

/-- A counter's step names the next word of its run. -/
theorem State.otpBegin_step {a : Nat} (hwhy : c.why = 5 ∨ c.why = 6) (ha : s.otp.stepAddr c.who = some a) :
    s.otpBegin c = s.otpGo { c with addr := BitVec.ofNat 12 a, data := 0xFFFFFFFF } := by
  unfold State.otpBegin
  rw [if_neg (by omega), if_pos (by omega), ha]

/-! ## KEYGEN (R469) -/

/-- The words of KEYGEN: d, the seed and Q, in the order of their addresses. -/
def keygenRun (d : Nat) (seed : List Word) : List (BitVec 12 × Word) :=
  wordRun 0x500 (bytesWords (leBytes 48 d)) ++ wordRun 0x50C seed ++ wordRun 0x102 (bytesWords (pointBytes (ecMul d base384)))

theorem keygenRun_addresses (d : Nat) {seed : List Word} (h : seed.length = 8) : (keygenRun d seed).map (fun e => e.1.toNat) = keygenWords :=
  keygenWords_runs (length_bytesWords (length_leBytes 48 d)) h (length_bytesWords (length_pointBytes _))

theorem State.keygen_busy_free (hbusy : s.sec.busy = 0) (hlife : s.lifecycle ≠ 0) : s.keygen = (s.secRefuse 1, .refused) :=
  (if_neg (by simp [hbusy])).trans (if_pos hlife)

theorem State.keygen_used (hbusy : s.sec.busy = 0) (hlife : s.lifecycle = 0) (hused : keygenWords.any s.otp.isUsed = true) :
    s.keygen = (s.secRefuse 2, .refused) :=
  (if_neg (by simp [hbusy])).trans ((if_neg (by simp [hlife])).trans (if_pos (.inr (.inr (.inr hused)))))

/-- The random-bit generator's words for d and for the seed. -/
def State.keygenSeed (s : State) : Nat × List Word :=
  (s.randomScalar.1, (s.randomScalar.2.randoms 8).1)

theorem State.keygen_starts (hbusy : s.sec.busy = 0) (hlife : s.lifecycle = 0)
    (hfree : ¬ (s.secOut = true ∨ s.otp.isLocked 1 = true ∨ s.otp.isLocked 2 = true ∨ keygenWords.any s.otp.isUsed = true)) :
    s.keygen = (match keygenRun s.keygenSeed.1 s.keygenSeed.2 with
      | [] => { s with free := s.free + 12 + 8, sec := { s.sec with busy := 1, err := 0 } }
      | x :: t => ({ s with free := s.free + 12 + 8, sec := { s.sec with busy := 1, err := 0 } } : State).otpAsk
          { otpCmd 1 0 x.2 with addr := x.1, rest := t }, .taken) := by
  refine (if_neg (by simp [hbusy])).trans ((if_neg (by simp [hlife])).trans ((if_neg hfree).trans ?_))
  change (match keygenRun s.keygenSeed.1 s.keygenSeed.2 with
    | [] => (({ s with free := s.free + 12 + 8, sec := { s.sec with busy := 1, err := 0 } } : State), Verdict.taken)
    | x :: t => (({ s with free := s.free + 12 + 8, sec := { s.sec with busy := 1, err := 0 } } : State).otpAsk
        { otpCmd 1 0 x.2 with addr := x.1, rest := t }, .taken)) = _
  cases keygenRun s.keygenSeed.1 s.keygenSeed.2 <;> rfl

/-! ## SEC_CTL, bit by bit (R491) -/

theorem State.act_secCtl_keygen (h : w.data = 0x196) : s.act w .secCtl i = State.reported s.keygen w := by
  simp [State.act, State.actSecCtl, h, fieldOf, bitOf]

theorem State.act_secCtl_kxSet (h : w.data = 0x296) : s.act w .secCtl i = State.reported s.kxSet w := by
  simp [State.act, State.actSecCtl, h, fieldOf, bitOf]

theorem State.act_secCtl_revoke (h : w.data = 0x496) : s.act w .secCtl i = State.reported s.revoke w := by
  simp [State.act, State.actSecCtl, h, fieldOf, bitOf]

/-- The word that LIFE_ADV is written with. -/
def lifeAdvData (t : BitVec 2) : Word := 0x96 ||| (t.setWidth 32 <<< 11)

theorem lifeAdvData_fields (t : BitVec 2) : fieldOf (lifeAdvData t) 0 8 = 0x96 ∧ bitOf (lifeAdvData t) 8 = false ∧
    bitOf (lifeAdvData t) 9 = false ∧ bitOf (lifeAdvData t) 10 = false ∧ fieldOf (lifeAdvData t) 11 2 = t.toNat := by
  revert t; decide

theorem State.act_secCtl_lifeAdv {t : BitVec 2} (h : w.data = lifeAdvData t) (ht : t ≠ 0) :
    s.act w .secCtl i = State.reported (s.lifeAdv t.toNat) w := by
  obtain ⟨hkey, h8, h9, h10, htarget⟩ := lifeAdvData_fields t
  have hne : t.toNat ≠ 0 := fun e => ht (BitVec.eq_of_toNat_eq e)
  simp [State.act, State.actSecCtl, h, hkey, h8, h9, h10, htarget, hne]

/-! ## KX_SET, REVOKE and LIFE_ADV (R476, R482, R483) -/

theorem State.kxSet_judged (hbusy : s.sec.busy = 0) (hlife : s.lifecycle = 1 ∨ (s.lifecycle = 2 ∧ s.dbg.level ≠ 2)) (hout : s.secOut = false)
    (hpair : s.keyPair = true) : s.kxSet = if !(onCurve s.kxPoint) then (s.secRefuse 3, .taken)
      else ({ s with sec := { s.sec with kwk := some (s.agreeKwk s.kxPoint), err := 0 } }, .taken) := by
  have hmay : ¬ (s.lifecycle = 0 ∨ s.lifecycle = 3 ∨ (s.lifecycle = 2 ∧ s.dbg.level = 2)) := by
    obtain h | ⟨h, hlevel⟩ := hlife
    · omega
    · rintro (h0 | h3 | ⟨-, h2⟩)
      · omega
      · omega
      · exact hlevel h2
  exact (if_neg (by simp [hbusy])).trans ((if_neg hmay).trans (if_neg (by simp [hout, hpair])))

theorem State.revoke_judged (hbusy : s.sec.busy = 0) (hlife : s.lifecycle = 1 ∨ s.lifecycle = 2) :
    s.revoke = if 252 ≤ s.otp.counter 2 then (s.secRefuse 4, .refused)
      else (({ s with sec := { s.sec with busy := 3, err := 0 } } : State).otpAsk (otpCmd 5 2 0), .taken) :=
  (if_neg (by simp [hbusy])).trans (if_neg (by omega))

theorem State.lifeAdv_other {t : Nat} (hbusy : s.sec.busy = 0) (ht : t ≠ s.lifecycle + 1) : s.lifeAdv t = (s.secRefuse 1, .refusedBy 11 2) :=
  (if_neg (by simp [hbusy])).trans (if_pos ht)

theorem State.lifeAdv_next {t : Nat} (hbusy : s.sec.busy = 0) (ht : t = s.lifecycle + 1) (hmay : s.mayAdvance = true) : s.lifeAdv t =
    (({ s with sec := { s.sec with busy := 4, err := 0, target := BitVec.ofNat 2 t } } : State).otpAsk (otpCmd 6 0 0), .taken) :=
  (if_neg (by simp [hbusy])).trans ((if_neg (by simp [ht])).trans (if_neg (by simp [hmay])))

/-- A state before RETIRED has a word left in the lifecycle's run. -/
theorem State.lifecycle_step (h : s.lifecycle < 3) : s.otp.stepAddr 0 = some (0x640 + s.otp.counter 0) := by
  have hcount : s.otp.counter 0 < 4 := by
    unfold State.lifecycle Otp.lifecycle at h
    omega
  exact if_pos hcount

theorem State.revocation_step (h : s.otp.counter 2 < 252) : s.otp.stepAddr 2 = some (0x744 + s.otp.counter 2) := if_pos h

end

end Sys2Proof.Machine
end

section
/-! PROOF. The actions of SEC_CTL (O18). -/

namespace Sys2Proof.Proofs
set_option Elab.async false
open Sys2Proof.Machine Sys2Proof.Safety

section
variable {p : Path} {s v : State} {d : Word} {r : State × Verdict}

theorem secCtl_acts : (regFields .secCtl 0).all (fun f => !f.typ.stored) = true := by decide

theorem secCtl_written (h : Acts p .secCtl 0 s) (hact : s.act (writeOf p .secCtl 0 d) .secCtl 0 = v) (hlate : SameLate s v) :
    s.namedWrite p .secCtl 0 d 0 none = v.noteLevel := State.namedWrite_act_done h secCtl_acts rfl hact hlate

/-- An action that is taken. -/
theorem secCtl_taken (h : Acts p .secCtl 0 s) (hact : s.act (writeOf p .secCtl 0 d) .secCtl 0 = State.reported r (writeOf p .secCtl 0 d))
    (hr : r = (v, .taken)) (hlate : SameLate s v) : s.namedWrite p .secCtl 0 d 0 none = v.noteLevel :=
  secCtl_written h (hact.trans (State.reported_taken hr)) hlate

/-- An action that is refused. -/
theorem secCtl_refused (h : Acts p .secCtl 0 s) (hact : s.act (writeOf p .secCtl 0 d) .secCtl 0 = State.reported r (writeOf p .secCtl 0 d))
    (hr : r = (v, .refused)) (hlate : SameLate s v) : s.namedWrite p .secCtl 0 d 0 none = (turnedAway p .secCtl 0 d v).noteLevel :=
  secCtl_written h (hact.trans (State.reported_refused hr)) (hlate.trans turnedAway_late)

theorem secRefuse_late (err : Nat) : SameLate s (s.secRefuse err) := ⟨rfl⟩

theorem keygen_starts (h : Acts p .secCtl 0 s) (hidle : s.sec.busy = 0) (hlife : s.lifecycle = 0) (hout : s.secOut = false)
    (hlock1 : s.otp.isLocked 1 = false) (hlock2 : s.otp.isLocked 2 = false) (hblank : ∀ a ∈ keygenWords, s.otp.isUsed a = false)
    (hbusy : s.otp.busy = none) (hq : s.otp.queue = []) (hok : s.hiveOk = true) : ∃ (n : Nat) (c : OtpCmd),
      exec (.keygen p 0x96) s = .next ({ s with free := n, sec := { s.sec with busy := 1, err := 0 } }.otpGo c).noteLevel ∧
      s.free < n ∧ c.why = 1 ∧ ((c.addr, c.data) :: c.rest).map (fun e => e.1.toNat) = keygenWords := by
  have hany : keygenWords.any s.otp.isUsed = false := by rw [List.any_eq_false]; exact fun a ha => by simp [hblank a ha]
  have hstart := State.keygen_starts hidle hlife (by simp only [hout, hlock1, hlock2, hany, Bool.false_eq_true, or_self, not_false_eq_true])
  have haddr := keygenRun_addresses s.keygenSeed.1 (seed := s.keygenSeed.2) (by simp [State.keygenSeed, State.randoms])
  cases hrun : keygenRun s.keygenSeed.1 s.keygenSeed.2 with
  | nil =>
    rw [hrun] at haddr
    exact absurd haddr (by decide)
  | cons x t =>
    rw [hrun] at hstart haddr
    generalize hu : ({ s with free := s.free + 12 + 8, sec := { s.sec with busy := 1, err := 0 } } : State) = u at hstart
    have hwords : ∀ e ∈ x :: t, u.otp.isUsed e.1.toNat = false := by
      intro e he
      have hmem : e.1.toNat ∈ keygenWords := by rw [← haddr]; exact List.mem_map_of_mem he
      rw [← hu]
      exact hblank _ hmem
    have hask : u.otpAsk { otpCmd 1 0 x.2 with addr := x.1, rest := t } = u.otpGo { otpCmd 1 0 x.2 with addr := x.1, rest := t } := by
      rw [State.otpAsk_idle (by rw [← hu]; exact hbusy) (by rw [← hu]; exact hq) (by rw [← hu]; exact hok)]
      exact State.otpBegin_words rfl hwords
    have hlate : SameLate s (u.otpGo { otpCmd 1 0 x.2 with addr := x.1, rest := t }) := by
      rw [← hu]
      exact SameLate.otpGo ⟨rfl⟩
    have hwritten := secCtl_taken h (State.act_secCtl_keygen (w := writeOf p .secCtl 0 0x196) rfl) (hstart.trans (congrArg (·, Verdict.taken) hask)) hlate
    rw [← hu] at hwritten
    exact ⟨_, _, congrArg Host.Outcome.next hwritten, by omega, rfl, haddr⟩

theorem kxSet_does (h : Acts p .secCtl 0 s) (hr : s.kxSet = (v, .taken)) (hlate : SameLate s v) : exec (.kxSet p 0x96) s = .next v.noteLevel :=
  congrArg Host.Outcome.next (secCtl_taken h (State.act_secCtl_kxSet (w := writeOf p .secCtl 0 0x296) rfl) hr hlate)

theorem revoke_steps (h : Acts p .secCtl 0 s) (hidle : s.sec.busy = 0) (hbusy : s.otp.busy = none) (hq : s.otp.queue = []) (hok : s.hiveOk = true)
    (hlife : s.lifecycle = 1 ∨ s.lifecycle = 2) (hcount : s.otp.counter 2 < 252) : exec (.revoke p 0x96) s =
      .next ({ s with sec := { s.sec with busy := 3, err := 0 } }.otpGo
        ⟨false, 0, BitVec.ofNat 12 (0x744 + s.otp.counter 2), 0xFFFFFFFF, [], 5, 2⟩).noteLevel := by
  have hr := (State.revoke_judged hidle hlife).trans (if_neg (by omega))
  have hask := (State.otpAsk_idle (s := { s with sec := { s.sec with busy := 3, err := 0 } }) (c := otpCmd 5 2 0) hbusy hq hok).trans
    (State.otpBegin_step (.inl rfl) (State.revocation_step hcount))
  exact congrArg Host.Outcome.next (secCtl_taken h (State.act_secCtl_revoke (w := writeOf p .secCtl 0 0x496) rfl)
    (hr.trans (congrArg (·, Verdict.taken) hask)) (SameLate.otpGo ⟨rfl⟩))

theorem revoke_full (h : Acts p .secCtl 0 s) (hidle : s.sec.busy = 0) (hlife : s.lifecycle = 1 ∨ s.lifecycle = 2) (hfull : 252 ≤ s.otp.counter 2) :
    exec (.revoke p 0x96) s = .next (turnedAway p .secCtl 0 0x496 { s with sec := { s.sec with err := 4 } }).noteLevel :=
  congrArg Host.Outcome.next (secCtl_refused h (State.act_secCtl_revoke (w := writeOf p .secCtl 0 0x496) rfl)
    ((State.revoke_judged hidle hlife).trans (if_pos hfull)) (secRefuse_late 4))

theorem lifeAdv_steps (h : Acts p .secCtl 0 s) (hidle : s.sec.busy = 0) (hbusy : s.otp.busy = none) (hq : s.otp.queue = []) (hok : s.hiveOk = true)
    (target : BitVec 2) (htarget : target.toNat = s.lifecycle + 1) (hmay : s.mayAdvance = true) : exec (.lifeAdv p 0x96 target) s =
      .next ({ s with sec := { s.sec with busy := 4, err := 0, target := target } }.otpGo
        ⟨false, 0, BitVec.ofNat 12 (0x640 + s.otp.counter 0), 0xFFFFFFFF, [], 6, 0⟩).noteLevel := by
  have hlt := target.isLt
  have hne : target ≠ 0 := fun e => by rw [e] at htarget; exact absurd htarget.symm (Nat.succ_ne_zero _)
  have hr := State.lifeAdv_next hidle htarget hmay
  rw [BitVec.ofNat_toNat, BitVec.setWidth_eq] at hr
  have hask := (State.otpAsk_idle (s := { s with sec := { s.sec with busy := 4, err := 0, target := target } }) (c := otpCmd 6 0 0) hbusy hq hok).trans
    (State.otpBegin_step (.inr rfl) (State.lifecycle_step (s := s) (by omega)))
  exact congrArg Host.Outcome.next (secCtl_taken h
    (State.act_secCtl_lifeAdv (w := writeOf p .secCtl 0 (lifeAdvData target)) rfl hne)
    (hr.trans (congrArg (·, Verdict.taken) hask)) (SameLate.otpGo ⟨rfl⟩))

theorem lifeAdv_refused (h : Acts p .secCtl 0 s) (hidle : s.sec.busy = 0) (target : BitVec 2) (hne : target ≠ 0)
    (hother : target.toNat ≠ s.lifecycle + 1) : exec (.lifeAdv p 0x96 target) s = .next
      (ignored p .secCtl 0 (0x96 ||| (target.setWidth 32 <<< 11)) 11 2 { s with sec := { s.sec with err := 1 } }).noteLevel := by
  have hact := State.act_secCtl_lifeAdv (s := s) (w := writeOf p .secCtl 0 (lifeAdvData target)) (i := 0) rfl hne
  have hreported := hact.trans (State.reported_refusedBy (State.lifeAdv_other hidle hother))
  exact congrArg Host.Outcome.next (secCtl_written h hreported ((secRefuse_late 1).trans (ignored_late ..)))

end

/-- Settles O18: action by action, by the checks that each finds. -/
theorem securityEngineActions : Obligations.SecurityEngineActions := by
  unfold Obligations.SecurityEngineActions
  refine ⟨fun p s h hidle => ⟨keygen_starts h hidle, fun hlife => ?_, fun hlife hused => ?_⟩,
    fun p s h hidle hlife hout hpair => ⟨fun hon => ?_, fun hoff => ?_⟩,
    fun p s h hidle hbusy hq hok => ⟨revoke_steps h hidle hbusy hq hok, revoke_full h hidle, lifeAdv_steps h hidle hbusy hq hok,
      lifeAdv_refused h hidle⟩⟩
  · exact congrArg Host.Outcome.next (secCtl_refused h (State.act_secCtl_keygen (w := writeOf p .secCtl 0 0x196) rfl)
      (State.keygen_busy_free hidle hlife) (secRefuse_late 1))
  · have hany : keygenWords.any s.otp.isUsed = true := List.any_eq_true.mpr hused
    exact congrArg Host.Outcome.next (secCtl_refused h (State.act_secCtl_keygen (w := writeOf p .secCtl 0 0x196) rfl)
      (State.keygen_used hidle hlife hany) (secRefuse_late 2))
  · exact kxSet_does h ((State.kxSet_judged hidle hlife hout hpair).trans (if_neg (by simp [hon]))) ⟨rfl⟩
  · exact kxSet_does h ((State.kxSet_judged hidle hlife hout hpair).trans (if_pos (by simp [hoff]))) (secRefuse_late 3)

end Sys2Proof.Proofs
end

section
/-! SUPPORT. Debug sessions: the end of one, the challenge, and what a request for a level finds (R488, R489, R492). -/

namespace Sys2Proof.Machine
set_option Elab.async false
open Sys2Proof.Safety

section
variable {s : State} {w : RegWrite} {i : Nat} {level : Nat}

/-! ## A session ends (R489) -/

/-- The level is CLOSED, the Hive core is not halted, and the core's fuse commands may start. -/
theorem State.endSession_closes (s : State) : s.endSession.dbg = { s.dbg with level := 0, left := none } ∧
    s.endSession.die = { s.die with hiveHalted := false } ∧ SameBooks s s.endSession := by
  have hclose : SameBooks s s.closeSession := (SameBooks.refl s).step
  have hpump := State.otpPump_only s.closeSession s.otp.queue.length
  unfold State.endSession
  split
  · exact ⟨hpump.same .dbg (by decide), hpump.same .die (by decide), hclose.otpPump⟩
  · exact ⟨rfl, rfl, hclose⟩

/-- No fuse command waits for a halted core, and no cause either. -/
theorem State.endSession_alone (hidle : s.die.hiveHalted = false ∨ s.otp.queue = []) (hcause : s.die.hiveHalted = false ∨ s.qos.causes = 0) :
    s.endSession = { s with die := { s.die with hiveHalted := false }, dbg := { s.dbg with level := 0, left := none } } := by
  have hstale : (s.qos.stale || (s.die.hiveHalted && s.qos.causes != 0)) = s.qos.stale := by
    obtain h | h := hcause
    · rw [h, Bool.false_and, Bool.or_false]
    · simp [h]
  have hclose : s.closeSession = { s with die := { s.die with hiveHalted := false }, dbg := { s.dbg with level := 0, left := none } } := by
    simp only [State.closeSession, State.hiveResume, hstale]
  obtain h | h := hidle
  · rw [State.endSession, h, hclose]
    rfl
  · rw [State.endSession_idle h, hclose]

/-! ## The challenge (R488) -/

theorem State.newChallenge_words (s : State) : s.newChallenge = { s with
    free := s.free + 8
    dbg := { s.dbg with chal := Tab.setList 0 [] 0 ((List.range 8).map fun k => Config.randomWord (s.free + k)) } } := rfl

/-! ## A request for a level, check by check (R488) -/

theorem State.levelRequest_low (h : level = 0 ∨ level = 3 ∨ level ≤ s.dbg.level.toNat) : s.levelRequest level = (s, .refusedBy 0 2) := if_pos h

/-- A level above the one in force. -/
def State.levelAbove (s : State) (level : Nat) : Prop := ¬ (level = 0 ∨ level = 3 ∨ level ≤ s.dbg.level.toNat)

theorem State.levelRequest_held (hlevel : s.levelAbove level)
    (h : s.dbg.lockout = true ∨ s.dbg.checking.isSome = true ∨ s.dbg.erasing = true ∨ 4 ≤ s.pwr.state.toNat) :
    s.levelRequest level = (s, .refused) := (if_neg hlevel).trans (if_pos h)

theorem State.levelRequest_open (hlevel : s.levelAbove level) (hlock : s.dbg.lockout = false) (hcheck : s.dbg.checking = none)
    (herase : s.dbg.erasing = false) (hawake : s.pwr.state.toNat < 4) : s.levelRequest level =
      if !needsToken s.lifecycle level then (s.openSession (BitVec.ofNat 2 level) none, .taken)
      else if s.otp.noAuthority ∨ s.secOut then (s, .refused)
      else ({ s.takeId with dbg := { s.dbg with
        reqId := s.rng.nextId, checking := some (BitVec.ofNat 2 level), chkOk := s.tokenGood level
        chkDur := leVal ((s.dbg.tokenBytes.drop 4).take 4) } }, .taken) := by
  have hmay : ¬ (s.dbg.lockout = true ∨ s.dbg.checking.isSome = true ∨ s.dbg.erasing = true ∨ 4 ≤ s.pwr.state.toNat) := by
    rw [hlock, hcheck, herase]
    simp
    omega
  exact (if_neg hlevel).trans (if_neg hmay)

/-! ## DBG_REQ, by the bit that is written (R492) -/

theorem levelData_fields (level : BitVec 2) : fieldOf (level.setWidth 32) 0 2 = level.toNat ∧ bitOf (level.setWidth 32) 2 = false ∧
    bitOf (level.setWidth 32) 3 = false := by
  revert level; decide

theorem State.act_dbgReq_level {level : BitVec 2} (h : w.data = level.setWidth 32) :
    s.act w .dbgReq i = State.reported (s.levelRequest level.toNat) w := by
  obtain ⟨hlevel, h2, h3⟩ := levelData_fields level
  simp only [State.act, State.actDbgReq, h, hlevel, h2, h3, Bool.false_eq_true, if_false]

/-- LEVEL 0 is reported in every write (R488). -/
theorem State.dbgReq_closed (h : fieldOf w.data 0 2 = 0) : State.reported (s.levelRequest (fieldOf w.data 0 2)) w = s.ignoredField w 0 2 :=
  State.reported_refusedBy (State.levelRequest_low (.inl h))

theorem State.act_dbgReq_end (h : w.data = 4) : s.act w .dbgReq i = (s.ignoredField w 0 2).endSession := by
  have h0 : fieldOf w.data 0 2 = 0 := by rw [h]; decide
  have h2 : bitOf w.data 2 = true := by rw [h]; decide
  have h3 : bitOf w.data 3 = false := by rw [h]; decide
  simp only [State.act, State.actDbgReq, State.dbgReq_closed h0, h2, h3, Bool.false_eq_true, if_false, if_true]

theorem State.act_dbgReq_newchal (h : w.data = 8) : s.act w .dbgReq i = (s.ignoredField w 0 2).newChallenge := by
  have h0 : fieldOf w.data 0 2 = 0 := by rw [h]; decide
  have h2 : bitOf w.data 2 = false := by rw [h]; decide
  have h3 : bitOf w.data 3 = true := by rw [h]; decide
  simp only [State.act, State.actDbgReq, State.dbgReq_closed h0, h2, h3, Bool.false_eq_true, if_false, if_true]

/-! ## FULL in DEPLOYED (R488 step 3) -/

/-- The erasures asked for, one for every slot that holds a key. -/
theorem State.eraseAs_slots (s : State) (id : Nat) : ∀ k ∈ s.sec.slots.map Prod.fst, (k, id) ∈ (s.eraseAs id).sec.erasing := by
  intro k hk
  have hmem : k ∈ ((s.sec.slots.map fun e => e.1) ++
      (s.rng.cmds.filter fun c => c.op == .keyLoad && decide (c.id < id)).map fun c => c.key.toNat).eraseDups :=
    List.mem_eraseDups.mpr (List.mem_append_left _ hk)
  exact List.mem_append_right _ (List.mem_map_of_mem (f := fun k => (k, id)) hmem)

/-- Once FULL waits for erasures, it is open where none is left, and else waits. -/
theorem State.fullWhenErased_waits (h : s.dbg.erasing = true) (hcheck : s.dbg.checking = none) (hkwk : s.sec.kwk = none) :
    s.fullWhenErased.sec.kwk = none ∧ s.fullWhenErased.dbg.checking = none ∧
    (s.fullWhenErased.dbg.level = 2 ∨ s.fullWhenErased.dbg.erasing = true) ∧ s.fullWhenErased.sec.erasing = s.sec.erasing := by
  unfold State.fullWhenErased
  split
  · exact ⟨rfl, rfl, .inl rfl, rfl⟩
  · exact ⟨hkwk, hcheck, .inr h, rfl⟩

end

end Sys2Proof.Machine
end

section
/-! PROOF. Debug sessions (O19). -/

namespace Sys2Proof.Proofs
set_option Elab.async false
open Sys2Proof.Machine Sys2Proof.Safety

section
variable {p : Path} {s v : State} {d : Word} {level : BitVec 2}

theorem dbgReq_acts : (regFields .dbgReq 0).all (fun f => !f.typ.stored) = true := by decide

theorem dbgReq_written (h : Acts p .dbgReq 0 s) (hact : s.act (writeOf p .dbgReq 0 d) .dbgReq 0 = v) (hlate : SameLate s v) :
    s.namedWrite p .dbgReq 0 d 0 none = v.noteLevel := State.namedWrite_act_done h dbgReq_acts rfl hact hlate

/-! ## Requests -/

theorem dbgLevelRequest_does (h : Acts p .dbgReq 0 s)
    (hact : State.reported (s.levelRequest level.toNat) (writeOf p .dbgReq 0 (level.setWidth 32)) = v) (hlate : SameLate s v) :
    exec (.dbgLevelRequest p level) s = .next v.noteLevel :=
  congrArg Host.Outcome.next (dbgReq_written h ((State.act_dbgReq_level (w := writeOf p .dbgReq 0 (level.setWidth 32)) rfl).trans hact) hlate)

theorem dbgLevelRequest_refused (h : Acts p .dbgReq 0 s) (hr : s.levelRequest level.toNat = (s, .refused)) :
    exec (.dbgLevelRequest p level) s = .next (turnedAway p .dbgReq 0 (level.setWidth 32) s).noteLevel :=
  dbgLevelRequest_does h (State.reported_refused hr) turnedAway_late

theorem dbgLevelRequest_low (h : Acts p .dbgReq 0 s) (hlow : level = 0 ∨ level = 3 ∨ level.toNat ≤ s.dbg.level.toNat) :
    exec (.dbgLevelRequest p level) s = .next (ignored p .dbgReq 0 (level.setWidth 32) 0 2 s).noteLevel := by
  have hnat : level.toNat = 0 ∨ level.toNat = 3 ∨ level.toNat ≤ s.dbg.level.toNat :=
    hlow.imp (fun e => by rw [e]; rfl) (Or.imp_left fun e => by rw [e]; rfl)
  exact dbgLevelRequest_does h (State.reported_refusedBy (State.levelRequest_low hnat)) (ignored_late ..)

theorem level_above (hlevel : level = 1 ∨ level = 2) (hlt : s.dbg.level.toNat < level.toNat) : s.levelAbove level.toNat := by
  obtain rfl | rfl := hlevel
  · rintro (h | h | h)
    · exact absurd h (by decide)
    · exact absurd h (by decide)
    · omega
  · rintro (h | h | h)
    · exact absurd h (by decide)
    · exact absurd h (by decide)
    · omega

theorem dbgLevelRequest_above (h : Acts p .dbgReq 0 s) (hlevel : level = 1 ∨ level = 2) (hlt : s.dbg.level.toNat < level.toNat)
    (hlock : s.dbg.lockout = false) (hcheck : s.dbg.checking = none) (herase : s.dbg.erasing = false) (hawake : s.pwr.state.toNat < 4) :
    (needsToken s.lifecycle level.toNat = false →
      exec (.dbgLevelRequest p level) s = .next { s with dbg := { s.dbg with
        level := level, max := if s.dbg.max.toNat < level.toNat then level else s.dbg.max,
        sessions := satInc s.dbg.sessions 1, left := none, checking := none, erasing := false } }.noteLevel) ∧
    (needsToken s.lifecycle level.toNat = true → (s.otp.noAuthority = true ∨ s.secOut = true) →
      exec (.dbgLevelRequest p level) s = .next (turnedAway p .dbgReq 0 (level.setWidth 32) s).noteLevel) ∧
    (needsToken s.lifecycle level.toNat = true → s.otp.noAuthority = false → s.secOut = false → ∃ (ok : Bool) (n : Nat),
      exec (.dbgLevelRequest p level) s = .next { s with
        rng := { s.rng with nextId := s.rng.nextId + 1 }
        dbg := { s.dbg with reqId := s.rng.nextId, checking := some level, chkOk := ok, chkDur := n } }.noteLevel ∧
      ok = s.tokenGood level.toNat) := by
  have hopen := State.levelRequest_open (level_above hlevel hlt) hlock hcheck herase hawake
  rw [BitVec.ofNat_toNat, BitVec.setWidth_eq] at hopen
  refine ⟨fun hfree => ?_, fun hneeds hnone => ?_, fun hneeds hauth hengine => ⟨_, leVal ((s.dbg.tokenBytes.drop 4).take 4), ?_, rfl⟩⟩
  · exact dbgLevelRequest_does h (State.reported_taken (hopen.trans (if_pos (by simp [hfree])))) ⟨rfl⟩
  · exact dbgLevelRequest_refused h (hopen.trans ((if_neg (by simp [hneeds])).trans (if_pos hnone)))
  · exact dbgLevelRequest_does h (State.reported_taken (hopen.trans ((if_neg (by simp [hneeds])).trans (if_neg (by simp [hauth, hengine]))))) ⟨rfl⟩

/-! ## The end of a token's check -/

/-- What the end of a check makes, before the challenge is renewed. -/
theorem debugTokenChecked_does (hcheck : s.dbg.checking = some level) : exec .debugTokenChecked s = .next (if !s.dbg.chkOk then s.tokenFailed
    else if level = 2 ∧ s.lifecycle = 2 then
      ({ s.eraseAs s.dbg.reqId with dbg := { s.dbg with checking := none, erasing := true } } : State).fullWhenErased
    else s.openSession level (sessionLeft s.dbg.chkDur)).newChallenge := by
  change execDebugTokenChecked s = _
  simp only [execDebugTokenChecked, hcheck]
  rfl

theorem debugTokenChecked_fails (hcheck : s.dbg.checking = some level) (hbad : s.dbg.chkOk = false) : ∃ (f : Flt) (c : Tab Word),
    exec .debugTokenChecked s = .next { s with
      flt := f, free := s.free + 8, dbg := { s.dbg with
        checking := none, fails := BitVec.ofNat 2 (min 3 (s.dbg.fails.toNat + 1)),
        lockout := decide (2 ≤ s.dbg.fails.toNat), chal := c } } ∧
    (∃ l ∈ f.lines, l.src = 86 ∧ l.detail = if 2 ≤ s.dbg.fails.toNat then 2 else 1) := by
  have hexec := debugTokenChecked_does hcheck
  rw [if_pos (by simp [hbad])] at hexec
  have hthird : (3 ≤ s.dbg.fails.toNat + 1) = (2 ≤ s.dbg.fails.toNat) := by simp
  refine ⟨s.tokenFailed.flt, s.tokenFailed.newChallenge.dbg.chal, ?_, ⟨86, BitVec.ofNat 64 (if 2 ≤ s.dbg.fails.toNat then 2 else 1)⟩, ?_, rfl, ?_⟩
  · rw [hexec, State.newChallenge_words]
    simp only [State.tokenFailed, State.raise, hthird]
  · simp only [State.tokenFailed, State.raise, hthird]
    exact List.mem_append_right _ (List.mem_singleton_self _)
  · split <;> rfl

theorem debugTokenChecked_opens (hcheck : s.dbg.checking = some level) (hok : s.dbg.chkOk = true) (hother : ¬ (level = 2 ∧ s.lifecycle = 2)) :
    ∃ c : Tab Word, exec .debugTokenChecked s = .next { s with
      free := s.free + 8, dbg := { s.dbg with
        level := level, max := if s.dbg.max.toNat < level.toNat then level else s.dbg.max, sessions := satInc s.dbg.sessions 1,
        left := if s.dbg.chkDur = 0 then none else some (s.dbg.chkDur * 1000000), checking := none, erasing := false,
        chal := c } } := by
  have hexec := debugTokenChecked_does hcheck
  rw [if_neg (by simp [hok]), if_neg hother, State.newChallenge_words] at hexec
  exact ⟨_, hexec⟩

theorem debugTokenChecked_full (hcheck : s.dbg.checking = some level) (hok : s.dbg.chkOk = true) (hfull : level = 2) (hlife : s.lifecycle = 2) :
    ∃ t : State, exec .debugTokenChecked s = .next t ∧ t.sec.kwk = none ∧ t.dbg.checking = none ∧
      (t.dbg.level = 2 ∨ t.dbg.erasing = true) ∧ (∀ k ∈ s.sec.slots.map Prod.fst, (k, s.dbg.reqId) ∈ t.sec.erasing) := by
  have hexec := debugTokenChecked_does hcheck
  rw [if_neg (by simp [hok]), if_pos ⟨hfull, hlife⟩] at hexec
  obtain ⟨hkwk, hdone, hopen, herasing⟩ := State.fullWhenErased_waits
    (s := { s.eraseAs s.dbg.reqId with dbg := { s.dbg with checking := none, erasing := true } }) rfl rfl rfl
  refine ⟨_, hexec, hkwk, hdone, hopen, fun k hk => ?_⟩
  rw [State.newChallenge_words]
  exact herasing ▸ s.eraseAs_slots s.dbg.reqId k hk

/-! ## END, NEWCHAL and the end of DURATION -/

theorem dbgEnd_closes (h : Acts p .dbgReq 0 s) : ∃ t : State, exec (.dbgEnd p) s = .next t.noteLevel ∧ t.dbg.level = 0 ∧ t.dbg.left = none ∧
    t.dbg.checking = s.dbg.checking ∧ t.die.hiveHalted = false ∧ t.regs.clampNext = s.regs.clampNext + 1 ∧
    ((s.die.hiveHalted = false ∨ s.otp.queue = []) → (s.die.hiveHalted = false ∨ s.qos.causes = 0) → ∀ u,
      u = ignored p .dbgReq 0 4 0 2 s →
      t = { u with die := { u.die with hiveHalted := false }, dbg := { u.dbg with level := 0, left := none } }) := by
  obtain ⟨hdbg, hdie, hbooks⟩ := (ignored p .dbgReq 0 4 0 2 s).endSession_closes
  have hlate : SameLate s (ignored p .dbgReq 0 4 0 2 s).endSession := (ignored_late p .dbgReq 0 4 0 2 s).booked hbooks
  have hwritten := dbgReq_written h (State.act_dbgReq_end (w := writeOf p .dbgReq 0 4) rfl) hlate
  refine ⟨(ignored p .dbgReq 0 4 0 2 s).endSession, congrArg Host.Outcome.next hwritten, by rw [hdbg], by rw [hdbg], by rw [hdbg]; rfl, by rw [hdie], hbooks.clampNext,
    fun hidle hcause u hu => ?_⟩
  rw [hu]
  exact State.endSession_alone hidle hcause

theorem newchal_renews (h : Acts p .dbgReq 0 s) : exec (.newchal p) s = .next (ignored p .dbgReq 0 8 0 2 s).newChallenge.noteLevel :=
  congrArg Host.Outcome.next (dbgReq_written h (State.act_dbgReq_newchal (w := writeOf p .dbgReq 0 8) rfl)
    ((ignored_late p .dbgReq 0 8 0 2 s).trans ⟨rfl⟩))

theorem debugSessionExpire_closes (hlevel : s.dbg.level ≠ 0) (hleft : s.dbg.left = some 0) : ∃ t : State,
    exec .debugSessionExpire s = .next t ∧ t.dbg.level = 0 ∧ t.dbg.left = none ∧ t.die.hiveHalted = false ∧
    ((s.die.hiveHalted = false ∨ s.otp.queue = []) → (s.die.hiveHalted = false ∨ s.qos.causes = 0) →
      t = { s with die := { s.die with hiveHalted := false }, dbg := { s.dbg with level := 0, left := none } }) := by
  obtain ⟨hdbg, hdie, -⟩ := s.endSession_closes
  exact ⟨_, congrArg Host.Outcome.next (if_pos ⟨hlevel, hleft⟩), by rw [hdbg], by rw [hdbg], by rw [hdie], State.endSession_alone⟩

end

/-- Settles O19: by what a request for a level finds, by how a token's check ends, and by what closes a session. -/
theorem debugSessions : Obligations.DebugSessions := by
  unfold Obligations.DebugSessions
  refine ⟨fun p level s h => ⟨dbgLevelRequest_low h, fun hlevel hlt hheld => ?_, dbgLevelRequest_above h⟩,
    fun level s hcheck => ⟨debugTokenChecked_fails hcheck, debugTokenChecked_opens hcheck, debugTokenChecked_full hcheck⟩,
    fun p s h => dbgEnd_closes h, fun p s u h hu => ?_, fun s => debugSessionExpire_closes, fun s hno => ?_⟩
  · exact dbgLevelRequest_refused h (State.levelRequest_held (level_above hlevel hlt) hheld)
  · rw [hu]
    exact newchal_renews h
  · have hopen : ¬ (s.dbg.level ≠ 0 ∧ s.dbg.left = some 0) := fun ⟨hlevel, hleft⟩ => hno.elim hlevel fun h => h hleft
    exact congrArg Host.Outcome.next (if_neg hopen)

end Sys2Proof.Proofs
end

section
/-! SUPPORT. The die stays as it is, but for the service level last noted, while ports go DOWN, and in the safe state (R46, R353, R511). -/

namespace Sys2Proof.Machine
set_option Elab.async false
open Sys2Proof.Safety

/-- Two states have the same die, but for the service level last noted. -/
structure SameDie (s t : State) : Prop where
  die : t.die = { s.die with lastLevel := t.die.lastLevel }

namespace SameDie
variable {s t u : State}

theorem refl (s : State) : SameDie s s := ⟨rfl⟩

theorem trans (h : SameDie s t) (g : SameDie t u) : SameDie s u := ⟨by rw [g.die, h.die]⟩

/-- One more step, outside the die. -/
theorem only {ps : List Part} (h : SameDie s t) (g : Only ps t u) (hps : .die ∉ ps := by decide) : SameDie s u :=
  h.trans ⟨by rw [g.same .die hps]⟩

theorem ite {c : Prop} [Decidable c] (h : SameDie s t) (g : SameDie s u) : SameDie s (if c then t else u) := by
  split
  · exact h
  · exact g

theorem foldl {α : Type} {f : State → α → State} {l : List α} (hf : ∀ t a, SameDie s t → SameDie s (f t a)) (h : SameDie s t) :
    SameDie s (l.foldl f t) := by
  induction l generalizing t with
  | nil => exact h
  | cons a l ih => exact ih (hf t a h)

theorem noteLevel (h : SameDie s t) : SameDie s t.noteLevel := by
  have hnoted (f : Flt) : SameDie t { t with die := { t.die with lastLevel := t.serviceLevel }, flt := f } := ⟨rfl⟩
  exact h.trans (ite (refl t) ((ite (hnoted t.flt) (hnoted _)).only (Posts.postAs ..)))

theorem portDown {n : Nat} (h : SameDie s t) : SameDie s (t.portDown n) := by
  unfold State.portDown
  extract_lets p up _ s₁ s₂ s₃ s₄ s₅ s₆
  have h₁ : SameDie s s₁ := h.only (Posts.links ..)
  have h₂ : SameDie s s₂ := ite h₁ (foldl (fun u _ h => ite h (h.only (u.dropPacket_posts _))) h₁)
  have h₃ : SameDie s s₃ := ite (h₂.only (Halts.refl s₂).stopRings) h₂
  have h₄ : SameDie s s₄ := ite (h₃.only (State.raise_only ..)) h₃
  have h₅ : SameDie s s₅ := h₄.only (Posts.postEvent ..)
  have h₆ : SameDie s s₆ := ite (h₅.only (State.goOrphan_only _)) h₅
  exact ite h (noteLevel (h₆.only (State.retarget_only _)))

theorem portsDown {idle : Bool} (h : SameDie s t) : SameDie s (t.portsDown idle) :=
  foldl (fun u _ h => ite h (portDown (ite (h.only (Posts.emit u _)) h))) h

end SameDie

/-- A die that may enter the safe state is in it. -/
theorem State.enterSafe_mode {s : State}
    (h : ¬ (s.die.mode = .safe ∨ s.die.mode = .porstLow ∨ s.die.mode = .rcHold ∨ s.die.mode = .bootHeld ∨ s.die.mode = .off)) :
    s.enterSafe.die.mode = .safe := by
  unfold State.enterSafe
  rw [if_neg h]
  extract_lets s₁ _ s₂ s₃
  clear_value s₁
  have h₂ : s₂.die.mode = .safe := rfl
  have h₃ : SameDie s₂ s₃ := (SameDie.refl s₂).portsDown
  clear_value s₂ s₃
  have h₄ : s₃.die.mode = .safe := by rw [h₃.die]; exact h₂
  exact (congrArg Die.mode ((SameDie.refl _).noteLevel.die)).trans h₄

end Sys2Proof.Machine
end

section
/-! SUPPORT. The record of an event: its entry, its status bit and its source's last event (R498 to R501). -/

namespace Sys2Proof.Machine
set_option Elab.async false
open Sys2Proof.Safety

/-- The entry that an event gets. -/
def State.entryOf (s : State) (g : Graded) (same : Bool) (react : Nat) : FltEntry :=
  { time := s.tim.count, seq := s.flt.next, source := BitVec.ofNat 8 g.src, cls := BitVec.ofNat 8 g.cls, react := BitVec.ofNat 8 react
    shadowed := g.shadow, same := same, injected := g.injected, safe := s.die.mode == DieMode.safe
    count := BitVec.ofNat 16 g.count, detail := g.detail }

section
variable {s : State} {g : Graded} {same : Bool} {r : Nat}

theorem State.record_shadowed (h : g.shadow = true) : s.record g same r =
    { s with flt := { s.flt.entered (s.entryOf g same r) with shadowN := satInc s.flt.shadowN 1 } } := if_pos h

/-- The collector with an event that was not shadowed. -/
def State.recorded (s : State) (g : Graded) (same : Bool) (react : Nat) : State := { s with flt := { s.flt.entered (s.entryOf g same react) with
  status := s.flt.status ||| BitVec.ofNat 96 (2 ^ g.src), last := Tab.set (0, 0) s.flt.last g.src (g.cls, s.flt.next)
  first := if s.flt.status = 0 then packed [(g.src, 0, 7), (g.cls, 8, 2), (1, 15, 1), (s.flt.next.toNat, 16, 16)] else s.flt.first } }

theorem State.record_plain (h : g.shadow = false) : s.record g same r = if (s.recorded g same r).fld .fltCfg 0 2 2 ≤ g.cls then
    (s.recorded g same r).postAs (!(s.recorded g same r).dataFloor) 0x0010 0 g.cls (BitVec.ofNat 32 g.src) s.flt.next.toNat
    else s.recorded g same r := if_neg (by simp [h])

/-- The record of an event, but for what it posts. -/
theorem State.record_posts (h : g.shadow = false) : Posts (s.recorded g same r) (s.record g same r) := by
  rw [State.record_plain h]
  exact .ite (Posts.postAs ..) ((Only.refl _).mono (by simp))

theorem State.record_flt (h : g.shadow = false) : (s.record g same r).flt = (s.recorded g same r).flt :=
  (State.record_posts h).same .flt (by decide)

theorem State.record_only (h : g.shadow = false) : Only [.flt, .clk, .rng, .lnk, .pwr, .out] s (s.record g same r) :=
  have hset : Only [.flt, .clk, .rng, .lnk, .pwr, .out] s (s.recorded g same r) := by simp [Only, State.recorded]
  hset.andThen (State.record_posts h)

/-- The newest entry is the event's. -/
theorem Flt.entered_last (f : Flt) (e : FltEntry) : (f.entered e).hist.getLast? = some { e with seq := f.next } := List.getLast?_concat

/-- The history grows to 16 entries at most. -/
theorem Flt.entered_length (f : Flt) (e : FltEntry) (h : f.hist.length ≤ 16) : (f.entered e).hist.length ≤ 16 := by
  have hroom : (roomIn f.hist e.shadowed).1.length ≤ 15 := by
    unfold roomIn
    split
    case isTrue hfull =>
      have hcount := List.length_filter_le (fun e => e.shadowed) f.hist
      cases hfind : f.hist.find? fun e => e.shadowed with
      | none =>
        have hnone : f.hist.filter (fun e => e.shadowed) = [] := by
          rw [List.filter_eq_nil_iff]
          exact fun x hx => List.find?_eq_none.mp hfind x hx
        rw [hnone] at hfull
        exact absurd hfull.2 (by decide)
      | some x =>
        have hmem := List.mem_of_find?_eq_some hfind
        dsimp only
        rw [List.length_erase_of_mem hmem]
        omega
    case isFalse =>
      split
      · rw [List.length_drop]
        omega
      · dsimp only
        omega
  change ((roomIn f.hist e.shadowed).1 ++ [{ e with seq := f.next }]).length ≤ 16
  rw [List.length_append, List.length_singleton]
  omega

end

end Sys2Proof.Machine
end

section
/-! PROOF. Counting windows, shadows, and parity (O11). -/

namespace Sys2Proof.Machine
set_option Elab.async false
open Sys2Proof.Safety

/-- The shadows of a source, once the resets that made them have ended. -/
def State.shadowsLeft (s : State) (k : Nat) : State :=
  { s with flt := { s.flt with shadows := s.flt.shadows.filter fun e => e.1 != k || s.shadowStays e.2 } }

/-- A reset of the die had shadowed the source, and has ended. -/
def State.shadowEnded (s : State) (k : Nat) : Bool := s.flt.shadows.any fun e => e.1 == k && e.2 == 0x100 && !s.shadowStays e.2

section
variable {s : State} {k : Nat}

theorem State.shadowStays_iff (s : State) (b : Nat) : s.shadowStays b = true ↔
    (b = 0x100 ∧ (s.die.mode = .resetHold ∨ s.die.mode = .restarting)) ∨ (b ≠ 0x100 ∧ s.die.resetting (BitVec.ofNat 8 b) = true) := by
  unfold State.shadowStays
  split
  case isTrue h => simp [h]
  case isFalse h => simp [h]

theorem State.shadowEnded_iff : s.shadowEnded k = true ↔
    (k, 0x100) ∈ s.flt.shadows ∧ s.die.mode ≠ .resetHold ∧ s.die.mode ≠ .restarting := by
  have hstays : s.shadowStays 0x100 = false ↔ s.die.mode ≠ .resetHold ∧ s.die.mode ≠ .restarting := by
    rw [← Bool.not_eq_true, State.shadowStays_iff]
    simp
  unfold State.shadowEnded
  rw [List.any_eq_true, ← hstays]
  constructor
  · rintro ⟨⟨a, b⟩, hmem, h⟩
    simp only [Bool.and_eq_true, beq_iff_eq, Bool.not_eq_true'] at h
    obtain ⟨⟨rfl, rfl⟩, hgone⟩ := h
    exact ⟨hmem, hgone⟩
  · rintro ⟨hmem, hgone⟩
    exact ⟨_, hmem, by simp [hgone]⟩

theorem shadowEnd_eq (src : BitVec 7) (s : State) : exec (.shadowEnd src) s = .next
    (match (if s.shadowEnded src.toNat && !(s.shadowsLeft src.toNat).masked src.toNat then (s.shadowsLeft src.toNat).standing src.toNat else none) with
      | some d => (s.shadowsLeft src.toNat).raise src.toNat d
      | none => s.shadowsLeft src.toNat) := rfl

/-! ## Parity in the collector (R515) -/

/-- The event of a parity mismatch. -/
def parityEvent : Graded := { src := 92, detail := 1, shadow := false, cls := 3, count := 0, react := 6 }

/-- A parity mismatch has been noted, with an entry where the history's own parity holds. -/
def State.parityNoted (s : State) (histOk : Bool) : State :=
  if histOk then s.record parityEvent false (if s.takesWide 6 then 6 else 0)
  else { s with flt := { s.flt with
    status := s.flt.status ||| BitVec.ofNat 96 (2 ^ 92), last := Tab.set (0, 0) s.flt.last 92 (3, s.flt.next - 1) } }

theorem State.parityTrip_eq (s : State) (histOk : Bool) : s.parityTrip histOk = (s.parityNoted histOk).enterSafe := rfl

theorem State.parityNoted_die (s : State) (histOk : Bool) : (s.parityNoted histOk).die = s.die := by
  cases histOk
  case false => rfl
  case true => exact (State.record_only (g := parityEvent) rfl).same .die (by decide)

theorem State.parityNoted_bit (s : State) (histOk : Bool) : (s.parityNoted histOk).flt.status = s.flt.status ||| BitVec.ofNat 96 (2 ^ 92) ∧
    (Tab.get (0, 0) (s.parityNoted histOk).flt.last 92).1 = 3 := by
  have hlast (n : BitVec 16) : (Tab.get (0, 0) (Tab.set (0, 0) s.flt.last 92 (3, n)) 92).1 = 3 := by
    rw [Tab.get_set_ne_default _ _ (fun h => Nat.succ_ne_zero 2 (congrArg Prod.fst h))]
  cases histOk
  case false => exact ⟨rfl, hlast _⟩
  case true =>
    have hflt := State.record_flt (s := s) (g := parityEvent) (same := false) (r := if s.takesWide 6 then 6 else 0) rfl
    change (s.record parityEvent false (if s.takesWide 6 then 6 else 0)).flt.status = _ ∧ _
    exact ⟨by rw [hflt]; rfl, by simp only [State.parityNoted, if_true]; rw [hflt]; exact hlast _⟩

theorem State.parityNoted_entry (hwide : s.takesWide 6 = true) : (s.parityNoted true).flt.made = s.flt.made + 1 ∧
    (s.parityNoted true).flt.hist.getLast?.map (fun e => (e.source, e.cls, e.react)) = some (92, 3, 6) := by
  have hflt := State.record_flt (s := s) (g := parityEvent) (same := false) (r := 6) rfl
  have hnoted : s.parityNoted true = s.record parityEvent false 6 := by rw [State.parityNoted, hwide]; rfl
  rw [hnoted, hflt]
  exact ⟨rfl, (congrArg (Option.map fun e : FltEntry => (e.source, e.cls, e.react)) (s.flt.entered_last (s.entryOf parityEvent false 6))).trans rfl⟩

/-! ## The parity scan (R516, R559) -/

/-- One register of the scan. -/
def State.scanOne (s : State) (e : Nat × Bool) : State := if e.2 then s.raise 81 (parityDetail e.1) else s

theorem configParityScan_eq (hscans : s.scans = true) (u : Option Upset) : exec (.configParityScan u) s =
    .next ((match u with | some x => s.upsetFound x | none => s).regs.par.foldl State.scanOne (match u with | some x => s.upsetFound x | none => s)) := by
  refine (if_pos hscans).trans ?_
  cases u <;> rfl

theorem State.scan_only (s : State) (l : List (Nat × Bool)) : Only [.flt] s (l.foldl State.scanOne s) :=
  Only.foldl (fun t e => .ite (t.raise_only 81 _) ((Only.refl t).mono (by simp))) l s

/-- An upset that no register of the collector shows is not found at once. -/
theorem State.upsetFound_elsewhere {u : Upset} (h : ∀ e ∈ (s.upset u).regs.par, e.2 = true → collectorKey e.1 = false) :
    s.upsetFound u = s.upset u := by
  have hnone : (s.upset u).regs.par.any (fun e => e.2 && collectorKey e.1 && !(Tab.get false s.regs.par e.1)) = false := by
    rw [List.any_eq_false]
    intro e he
    cases hodd : e.2
    · simp
    · simp [h e he hodd]
  exact if_neg (by simp [hnone])

theorem State.store_only (s : State) (src : Nat) (n : RegName) (i : Nat) (x : Word) : Only [.regs, .rng, .pcd, .lnk] s (s.store src n i x) := by
  unfold State.store
  split <;> simp [Only]

theorem State.upset_only (s : State) (u : Upset) : Only [.regs, .rng, .pcd, .lnk] s (s.upset u) := by
  have hpar (t : State) (src : Nat) (n : RegName) (i : Nat) (odd : Bool) : Only [.regs] t (t.setPar src n i odd) := by simp [Only, State.setPar]
  unfold State.upset
  extract_lets
  split
  · exact (Only.refl s).mono (by simp)
  · exact (State.store_only ..).andThen (hpar ..)

end

end Sys2Proof.Machine

namespace Sys2Proof.Proofs
set_option Elab.async false
open Sys2Proof.Machine Sys2Proof.Safety

section
variable {s : State}

theorem faultWindowEnd_ends (src : BitVec 7) (t : Nat) (s : State) (hopen : Tab.get none s.flt.window src.toNat = some t)
    (hrun : t + 1000 * s.fld .fltSrcW1 src.toNat 0 16 ≤ s.now) :
    exec (.faultWindowEnd src) s = .next { s with flt := { s.flt with
      counts := Tab.set 0 s.flt.counts src.toNat 0, window := Tab.set none s.flt.window src.toNat none } } := by
  change execFaultWindowEnd src s = _
  simp only [execFaultWindowEnd, hopen]
  exact if_neg (Nat.not_lt.mpr hrun)

theorem shadowEnd_none {src : BitVec 7} (h : (src.toNat, 0x100) ∉ s.flt.shadows ∨ s.die.mode = .resetHold ∨ s.die.mode = .restarting ∨
    (s.shadowsLeft src.toNat).masked src.toNat = true ∨ (s.shadowsLeft src.toNat).standing src.toNat = none) :
    exec (.shadowEnd src) s = .next (s.shadowsLeft src.toNat) := by
  have hnone : (if s.shadowEnded src.toNat && !(s.shadowsLeft src.toNat).masked src.toNat then
      (s.shadowsLeft src.toNat).standing src.toNat else none) = none := by
    split
    case isTrue hraises =>
      rw [Bool.and_eq_true, State.shadowEnded_iff, Bool.not_eq_true'] at hraises
      obtain ⟨⟨hmem, hhold, hrestart⟩, hmasked⟩ := hraises
      obtain h | h | h | h | h := h
      · exact absurd hmem h
      · exact absurd h hhold
      · exact absurd h hrestart
      · exact absurd h (by simp [hmasked])
      · exact h
    case isFalse => rfl
  rw [shadowEnd_eq, hnone]

theorem shadowEnd_raises {src : BitVec 7} (d : Nat) (hmem : (src.toNat, 0x100) ∈ s.flt.shadows) (hhold : s.die.mode ≠ .resetHold)
    (hrestart : s.die.mode ≠ .restarting) (hmasked : (s.shadowsLeft src.toNat).masked src.toNat = false)
    (hstanding : (s.shadowsLeft src.toNat).standing src.toNat = some d) :
    exec (.shadowEnd src) s = .next ((s.shadowsLeft src.toNat).raise src.toNat d) := by
  have hended : s.shadowEnded src.toNat = true := State.shadowEnded_iff.mpr ⟨hmem, hhold, hrestart⟩
  rw [shadowEnd_eq, hended, hmasked, hstanding]
  rfl

theorem shadowsLeft_mem (k : Nat) (e : Nat × Nat) : e ∈ (s.shadowsLeft k).flt.shadows ↔ e ∈ s.flt.shadows ∧ (e.1 ≠ k ∨
    (e.2 = 0x100 ∧ (s.die.mode = .resetHold ∨ s.die.mode = .restarting)) ∨
    (e.2 ≠ 0x100 ∧ s.die.resetting (BitVec.ofNat 8 e.2) = true)) := by
  change e ∈ s.flt.shadows.filter _ ↔ _
  rw [List.mem_filter, Bool.or_eq_true, State.shadowStays_iff, bne_iff_ne]

theorem State.parity_takesWide (h : s.die.mode = .running ∨ s.die.mode = .restarting ∨ s.die.mode = .clickHold ∨ s.die.mode = .resetHold ∨
    s.die.mode = .startWatch) : s.takesWide 6 = true ∧ s.collects = true ∧
    ¬ (s.die.mode = .safe ∨ s.die.mode = .porstLow ∨ s.die.mode = .rcHold ∨ s.die.mode = .bootHeld ∨ s.die.mode = .off) := by
  obtain h | h | h | h | h := h <;> simp [State.takesWide, State.collects, h]

/-- A mismatch, by whether the history's own parity holds (R515). -/
theorem collectorParity_trips (h : Bool) (hmode : s.die.mode = .running ∨ s.die.mode = .restarting ∨ s.die.mode = .clickHold ∨
    s.die.mode = .resetHold ∨ s.die.mode = .startWatch) :
    ∃ u t : State, exec (.collectorParity h) s = .next t ∧ t = u.enterSafe ∧ t.die.mode = .safe ∧
      u.flt.status = s.flt.status ||| BitVec.ofNat 96 (2 ^ 92) ∧ (Tab.get (0, 0) u.flt.last 92).1 = 3 ∧
      (h = true → s.flt.histOdd = false → u.flt.made = s.flt.made + 1 ∧
        u.flt.hist.getLast?.map (fun e => (e.source, e.cls, e.react)) = some (92, 3, 6)) ∧
      ((h = false ∨ s.flt.histOdd = true) → u.flt.hist = s.flt.hist ∧ u.flt.made = s.flt.made) := by
  obtain ⟨hwide, hcollects, henters⟩ := State.parity_takesWide hmode
  have hexec : exec (.collectorParity h) s = .next ((s.collectorOdd (!h)).parityTrip !(s.flt.histOdd || !h)) :=
    congrArg Host.Outcome.next (if_pos hcollects)
  have hdie := (s.collectorOdd (!h)).parityNoted_die (!(s.flt.histOdd || !h))
  obtain ⟨hstatus, hlast⟩ := (s.collectorOdd (!h)).parityNoted_bit (!(s.flt.histOdd || !h))
  rw [State.parityTrip_eq] at hexec
  refine ⟨_, _, hexec, rfl, ?_, hstatus, hlast, fun hok hfit => ?_, fun hodd => ?_⟩
  · exact State.enterSafe_mode (by rw [hdie]; exact henters)
  · subst hok
    rw [hfit]
    exact State.parityNoted_entry (s := s.collectorOdd false) hwide
  · have hunfit : (!(s.flt.histOdd || !h)) = false := by
      obtain h | h := hodd
      · rw [h, Bool.not_false, Bool.or_true, Bool.not_true]
      · rw [h, Bool.true_or, Bool.not_true]
    rw [hunfit]
    exact ⟨rfl, rfl⟩

end

/-- Settles O11: windows and shadows that end, a collector whose parity does not fit, and the scan of the register file. -/
theorem faultWindowsShadowsAndParity : Obligations.FaultWindowsShadowsAndParity := by
  unfold Obligations.FaultWindowsShadowsAndParity
  refine ⟨⟨faultWindowEnd_ends, fun src s => ⟨s.shadowsLeft src.toNat, by simp [Only, State.shadowsLeft], rfl, shadowsLeft_mem _,
      shadowEnd_none, shadowEnd_raises⟩⟩, fun h s => collectorParity_trips h, fun s hscans => ⟨fun hfit => ?_, fun k hodd => ?_, fun u helse => ?_⟩⟩
  · rw [configParityScan_eq hscans]
    dsimp only
    rw [hfit]
    rfl
  · rw [configParityScan_eq hscans]
    dsimp only
    rw [hodd]
    rfl
  · rw [configParityScan_eq hscans]
    dsimp only
    rw [State.upsetFound_elsewhere helse]
    exact ⟨_, rfl, (((s.upset_only u).mono (by simp))).andThen (State.scan_only _ _)⟩

end Sys2Proof.Proofs
end

section
/-! SUPPORT. The order of entry is a rearrangement of the events of a cycle, by class and source (R499); one event alone (R496, R508). -/

namespace Sys2Proof.Machine
set_option Elab.async false
open Sys2Proof.Safety

/-- A list taken key by key, each key once, is the list rearranged. -/
theorem flatMap_filter_perm {α κ : Type} [BEq κ] [LawfulBEq κ] (f : α → κ) {ks : List κ} (hks : ks.Nodup) :
    ∀ l : List α, (∀ x ∈ l, f x ∈ ks) → (ks.flatMap fun k => l.filter fun x => f x == k).Perm l := by
  induction ks with
  | nil =>
    intro l hl
    rw [List.eq_nil_iff_forall_not_mem.mpr fun x hx => List.not_mem_nil (hl x hx)]
    rfl
  | cons k ks ih =>
    intro l hl
    obtain ⟨hk, hnodup⟩ := List.nodup_cons.mp hks
    have hrest : ∀ x ∈ l.filter (fun x => !(f x == k)), f x ∈ ks := by
      intro x hx
      obtain ⟨hmem, hne⟩ := List.mem_filter.mp hx
      exact (List.mem_cons.mp (hl x hmem)).resolve_left fun h => by simp [h] at hne
    have hsame : (ks.flatMap fun j => (l.filter fun x => !(f x == k)).filter fun x => f x == j) = ks.flatMap fun j => l.filter fun x => f x == j := by
      refine List.flatMap_congr fun j hj => ?_
      rw [List.filter_filter]
      refine List.filter_congr fun x _ => ?_
      by_cases hx : f x = j
      · have hjk : j ≠ k := fun h => hk (h ▸ hj)
        simp [hx, hjk]
      · simp [hx]
    rw [List.flatMap_cons, ← hsame]
    exact ((ih hnodup _ hrest).append_left _).trans (List.filter_append_perm _ l)

theorem entryOrder_perm {gs : List Graded} (h : ∀ g ∈ gs, g.cls ≤ 3 ∧ g.src < 96) : (entryOrder gs).Perm gs := by
  have hclass (c : Nat) : ((List.range 96).flatMap fun k => gs.filter fun g => g.cls == c && g.src == k).Perm (gs.filter fun g => g.cls == c) := by
    have hmem : ∀ g ∈ gs.filter (fun g => g.cls == c), g.src ∈ List.range 96 := fun g hg =>
      List.mem_range.mpr (h g (List.mem_of_mem_filter hg)).2
    have hperm := flatMap_filter_perm Graded.src List.nodup_range (gs.filter fun g => g.cls == c) hmem
    simpa only [List.filter_filter, Bool.and_comm] using hperm
  have hmem : ∀ g ∈ gs, g.cls ∈ [3, 2, 1, 0] := by
    intro g hg
    have hcls := (h g hg).1
    simp only [List.mem_cons, List.not_mem_nil, or_false]
    omega
  exact (List.Perm.flatMap_left _ fun c _ => hclass c).trans (flatMap_filter_perm Graded.cls (by decide) gs hmem)

/-- Higher classes first, and within a class the lower sources. -/
theorem entryOrder_sorted (gs : List Graded) :
    (entryOrder gs).Pairwise (fun a b => b.cls < a.cls ∨ (a.cls = b.cls ∧ a.src ≤ b.src)) := by
  have hkeys {c k : Nat} {g : Graded} (hg : g ∈ gs.filter fun g => g.cls == c && g.src == k) : g.cls = c ∧ g.src = k := by
    simpa using List.of_mem_filter hg
  refine List.pairwise_flatMap.mpr ⟨fun c _ => List.pairwise_flatMap.mpr ⟨fun k _ => ?_, ?_⟩, ?_⟩
  · refine List.pairwise_of_forall_mem_list fun a ha b hb => ?_
    obtain ⟨hac, hak⟩ := hkeys ha
    obtain ⟨hbc, hbk⟩ := hkeys hb
    exact .inr ⟨hac.trans hbc.symm, (hak.trans hbk.symm).le⟩
  · refine List.pairwise_lt_range.imp fun {j k} hjk a ha b hb => ?_
    obtain ⟨hac, haj⟩ := hkeys ha
    obtain ⟨hbc, hbk⟩ := hkeys hb
    exact .inr ⟨hac.trans hbc.symm, by omega⟩
  · have hclasses : [3, 2, 1, 0].Pairwise (fun a b : Nat => b < a) := by decide
    refine hclasses.imp fun {c d} hcd a ha b hb => ?_
    obtain ⟨j, -, ha⟩ := List.mem_flatMap.mp ha
    obtain ⟨k, -, hb⟩ := List.mem_flatMap.mp hb
    obtain ⟨hac, -⟩ := hkeys ha
    obtain ⟨hbd, -⟩ := hkeys hb
    exact .inl (by omega)

/-! ## One event alone -/

/-- A reaction outranks none. -/
theorem rankOf_pos {r : Nat} (h : r ≠ 0) : rankOf 0 < rankOf r := by
  change 0 < rankOf r
  unfold rankOf
  split <;> omega

theorem top_alone (r : Nat) : (if rankOf 0 < rankOf r then r else 0) = r := by
  by_cases h : r = 0
  · subst h; rfl
  · exact if_pos (rankOf_pos h)

section
variable {s : State} {l : FaultLine} {g : Graded}

/-- What the fixed reaction of an injected event adds. -/
def State.fixedAfter (s : State) (g : Graded) : State :=
  if s.die.mode = .safe then s else if g.injected && fixedSource g.src then s.fixedReaction g.src else s

/-- The record of an event that comes alone. -/
def State.recordAlone (s : State) (g : Graded) : State := s.record g false (if s.performs g.react g then g.react else 0)

theorem State.performAll_one (s : State) (g : Graded) : s.performAll [g] = s.perform g := by
  unfold State.performAll
  cases h : [g].find? (fun g => decide (4 ≤ g.react)) with
  | none => rfl
  | some x => rw [List.mem_singleton.mp (List.mem_of_find?_eq_some h)]

theorem State.collect_one (hgrade : s.grade l = (g, s)) (hshadow : g.shadow = false) (hcls : g.cls ≤ 3) (hsrc : g.src < 96) :
    s.collect [l] = (if s.performs g.react g then ((s.recordAlone g).fixedAfter g).perform g else (s.recordAlone g).fixedAfter g).noteLevel := by
  have horder : entryOrder [g] = [g] := List.perm_singleton.mp (entryOrder_perm fun x hx => by rw [List.mem_singleton.mp hx]; exact ⟨hcls, hsrc⟩)
  have hall : s.gradeAll [l] = ([g], s) := by simp only [State.gradeAll, hgrade]
  have hfixed (t : State) : (if t.die.mode = .safe then t else ([g].filter fun g => g.injected && fixedSource g.src).foldl
      (fun (s : State) g => s.fixedReaction g.src) t) = t.fixedAfter g := by
    unfold State.fixedAfter
    congr 1
    cases h : g.injected && fixedSource g.src <;> simp [h]
  have htop : ([g].filter fun g => !g.shadow).foldl (fun a g => if rankOf a < rankOf g.react then g.react else a) 0 = g.react := by
    simp only [List.filter_cons, hshadow, Bool.not_false, if_true, List.filter_nil, List.foldl_cons, List.foldl_nil]
    exact top_alone g.react
  unfold State.collect
  simp only [hall, horder, htop, hfixed, List.map_cons, List.map_nil, List.foldl_cons, List.foldl_nil]
  change (((s.recordAlone g).fixedAfter g).performAll _).noteLevel = _
  cases hdo : s.performs g.react g
  · rfl
  · exact congrArg State.noteLevel (State.performAll_one _ g)

theorem State.collect_none (s : State) : s.collect [] = s.noteLevel := by
  have horder : entryOrder [] = [] := (entryOrder_perm (gs := []) fun x hx => absurd hx List.not_mem_nil).eq_nil
  unfold State.collect State.gradeAll
  simp only [horder, List.map_nil, List.filter_nil, List.foldl_nil, ite_self]
  rfl

/-- A line of a source that is neither masked nor counted has the class of its register (R496). -/
theorem State.grade_plain (hmask : s.masked l.src.toNat = false) (hcount : s.flag .fltSrcW0 l.src.toNat 0 = false) : s.grade l =
    (⟨l.src.toNat, l.detail, false, s.fld .fltSrcW0 l.src.toNat 1 2, 0, s.reactionOf l.src.toNat (s.fld .fltSrcW0 l.src.toNat 1 2)⟩, s) := by
  simp only [State.grade, hmask, hcount, Bool.false_eq_true, if_false]

/-- A line in counting mode has the class that its count reaches (R497). -/
theorem State.grade_counted (hmask : s.masked l.src.toNat = false) (hcount : s.flag .fltSrcW0 l.src.toNat 0 = true) :
    (s.grade l).1.count = Tab.get 0 s.flt.counts l.src.toNat + 1 ∧
    (s.grade l).1.cls = (if s.fld .fltSrcW0 l.src.toNat 24 8 ≤ Tab.get 0 s.flt.counts l.src.toNat + 1 then 3
      else if s.fld .fltSrcW0 l.src.toNat 16 8 ≤ Tab.get 0 s.flt.counts l.src.toNat + 1 then 2 else 1) ∧
    (s.grade l).2 = (s.countEvent l.src.toNat false).2 := by
  refine ⟨?_, ?_, ?_⟩
  · simp only [State.grade, hmask, hcount, if_true]
    rfl
  · simp only [State.grade, hmask, hcount, if_true, Bool.false_eq_true, if_false]
    rfl
  · simp only [State.grade, hmask, hcount, if_true]

theorem State.countEvent_plain (s : State) (k : Nat) : Tab.get 0 (s.countEvent k false).2.flt.counts k = Tab.get 0 s.flt.counts k + 1 ∧
    (Tab.get none s.flt.window k = none → Tab.get none (s.countEvent k false).2.flt.window k = some s.now) := by
  unfold State.countEvent
  rw [if_neg (by decide)]
  refine ⟨Tab.get_set_ne_default _ _ (Nat.succ_ne_zero _), fun hnone => ?_⟩
  dsimp only
  rw [hnone]
  exact Tab.get_set_ne_default _ _ (Option.some_ne_none _)

end

end Sys2Proof.Machine
end

section
/-! PROOF. Fault events (O12). -/

namespace Sys2Proof.Proofs
set_option Elab.async false
open Sys2Proof.Machine Sys2Proof.Safety

section
variable {s e : State}

theorem faultEvent_samples (h : s.collects = true) :
    exec (.faultEvent []) s = .next (({ s with flt := { s.flt with lines := [] } } : State).collect s.flt.lines) :=
  if_neg (by simp [h])

theorem faultEvent_stopped (ext : List FaultLine) (s : State) (h : s.collects = false) : exec (.faultEvent ext) s = .next s :=
  if_pos (by simp [h])

theorem faultEvent_none (s : State) (h : s.collects = true) (hlines : s.flt.lines = []) : exec (.faultEvent []) s = .next s.noteLevel := by
  have hs : ({ s with flt := { s.flt with lines := [] } } : State) = s := by rw [← hlines]
  rw [faultEvent_samples h, hlines, State.collect_none, hs]

/-- The class of a source's register is one of four. -/
theorem plainClass_le (s : State) (k : Nat) : s.fld .fltSrcW0 k 1 2 ≤ 3 := Nat.le_of_lt_succ (Nat.mod_lt _ (by decide))

theorem faultEvent_alone (l : FaultLine) (s e : State) (k : Nat) (h : s.collects = true) (hlines : s.flt.lines = [l]) (hk : k = l.src.toNat)
    (hlt : k < 96) (he : e = { s with flt := { s.flt with lines := [] } }) (hmask : s.masked k = false) (hcount : s.flag .fltSrcW0 k 0 = false) :
    ∃ (g : Graded) (u v : State),
      g = ⟨k, l.detail, false, s.fld .fltSrcW0 k 1 2, 0, s.reactionOf k (s.fld .fltSrcW0 k 1 2)⟩ ∧
      exec (.faultEvent []) s = .next (if e.performs g.react g then v.perform g else v).noteLevel ∧
      (fieldOf (l.detail.setWidth 32) 0 8 ≠ 0xFF → v = u) ∧
      (fieldOf (l.detail.setWidth 32) 0 8 = 0xFF → v = if fixedSource k = true ∧ s.die.mode ≠ .safe then u.fixedReaction k else u) ∧
      u = e.record g false (if e.performs g.react g then g.react else 0) ∧
      u.flt.status = s.flt.status ||| BitVec.ofNat 96 (2 ^ k) ∧ u.flt.next = s.flt.next + 1 ∧ u.flt.made = s.flt.made + 1 ∧ u.flt.lines = [] ∧
      u.flt.last = Tab.set (0, 0) s.flt.last k (g.cls, s.flt.next) ∧ (s.flt.status ≠ 0 → u.flt.first = s.flt.first) ∧
      (u.flt.hist.length ≤ 16 ∨ 16 < s.flt.hist.length) ∧
      (∃ h, u.flt.hist.getLast? = some h ∧ h.source = BitVec.ofNat 8 k ∧ h.cls = BitVec.ofNat 8 g.cls ∧ h.seq = s.flt.next ∧ h.detail = l.detail ∧
        h.time = s.tim.count ∧ h.shadowed = false ∧ h.react = BitVec.ofNat 8 (if e.performs g.react g then g.react else 0)) := by
  subst hk
  have hmaske : e.masked l.src.toNat = false := by rw [he]; exact hmask
  have hcounte : e.flag .fltSrcW0 l.src.toNat 0 = false := by rw [he]; exact hcount
  have hgrade := State.grade_plain hmaske hcounte
  have hgraded : (⟨l.src.toNat, l.detail, false, e.fld .fltSrcW0 l.src.toNat 1 2, 0,
      e.reactionOf l.src.toNat (e.fld .fltSrcW0 l.src.toNat 1 2)⟩ : Graded) = ⟨l.src.toNat, l.detail, false, s.fld .fltSrcW0 l.src.toNat 1 2, 0,
      s.reactionOf l.src.toNat (s.fld .fltSrcW0 l.src.toNat 1 2)⟩ := by rw [he]; rfl
  rw [hgraded] at hgrade
  generalize hg : (⟨l.src.toNat, l.detail, false, s.fld .fltSrcW0 l.src.toNat 1 2, 0,
    s.reactionOf l.src.toNat (s.fld .fltSrcW0 l.src.toNat 1 2)⟩ : Graded) = g at hgrade
  have hshadow : g.shadow = false := by rw [← hg]
  have hexec : exec (.faultEvent []) s = .next (if e.performs g.react g then ((e.recordAlone g).fixedAfter g).perform g
      else (e.recordAlone g).fixedAfter g).noteLevel := by
    rw [faultEvent_samples h, hlines, ← he]
    exact congrArg Host.Outcome.next (State.collect_one hgrade hshadow (by rw [← hg]; exact plainClass_le s _) (by rw [← hg]; exact hlt))
  have hflt : (e.recordAlone g).flt = (e.recorded g false (if e.performs g.react g then g.react else 0)).flt := State.record_flt hshadow
  have hmode : (e.recordAlone g).die.mode = s.die.mode := by
    have hdie : (e.recordAlone g).die = e.die := (State.record_only hshadow).same .die (by decide)
    rw [hdie, he]
  have hsrc : g.src = l.src.toNat := by rw [← hg]
  have hdetail : g.detail = l.detail := by rw [← hg]
  refine ⟨g, e.recordAlone g, (e.recordAlone g).fixedAfter g, rfl, hexec, fun hreal => ?_, fun hmade => ?_, rfl, ?_⟩
  · have hinj : g.injected = false := by rw [Graded.injected, hdetail]; exact beq_false_of_ne hreal
    simp [State.fixedAfter, hinj]
  · have hinj : g.injected = true := by rw [Graded.injected, hdetail]; exact beq_iff_eq.mpr hmade
    unfold State.fixedAfter
    rw [hmode, hinj, hsrc]
    by_cases hsafe : s.die.mode = .safe <;> simp [hsafe]
  · rw [hflt]
    generalize (if e.performs g.react g then g.react else 0) = r
    refine ⟨?_, ?_, ?_, ?_, ?_, fun hnone => ?_, ?_, _, e.flt.entered_last (e.entryOf g false r), ?_⟩
    · change e.flt.status ||| BitVec.ofNat 96 (2 ^ g.src) = _
      rw [hsrc, he]
    · change e.flt.next + 1 = _
      rw [he]
    · change e.flt.made + 1 = _
      rw [he]
    · change e.flt.lines = []
      rw [he]
    · change Tab.set (0, 0) e.flt.last g.src (g.cls, e.flt.next) = _
      rw [hsrc, he]
    · rw [he]
      exact if_neg hnone
    · have hhist : e.flt.hist = s.flt.hist := by rw [he]
      by_cases hlen : s.flt.hist.length ≤ 16
      · exact .inl (e.flt.entered_length (e.entryOf g false r) (hhist ▸ hlen))
      · exact .inr (Nat.lt_of_not_le hlen)
    · rw [State.entryOf, hsrc, hdetail, hshadow, he]
      exact ⟨rfl, rfl, rfl, rfl, rfl, rfl, rfl⟩

theorem record_shadow (g : Graded) (same : Bool) (r : Nat) (s : State) (h : g.shadow = true) :
    (s.record g same r).flt.status = s.flt.status ∧ (s.record g same r).flt.shadowN = satInc s.flt.shadowN 1 ∧
    (s.record g same r).flt.last = s.flt.last ∧ Only [.flt] s (s.record g same r) := by
  rw [State.record_shadowed h]
  exact ⟨rfl, rfl, rfl, by simp [Only]⟩

theorem grade_counts (l : FaultLine) (s : State) (k : Nat) (hk : k = l.src.toNat) (hmask : s.masked k = false)
    (hcount : s.flag .fltSrcW0 k 0 = true) (c : Nat) (hc : c = Tab.get 0 s.flt.counts k + 1) :
    (s.grade l).1.count = c ∧ Tab.get 0 (s.grade l).2.flt.counts k = c ∧
    (s.grade l).1.cls = (if s.fld .fltSrcW0 k 24 8 ≤ c then 3 else if s.fld .fltSrcW0 k 16 8 ≤ c then 2 else 1) ∧
    (Tab.get none s.flt.window k = none → Tab.get none (s.grade l).2.flt.window k = some s.now) := by
  subst hk
  subst hc
  obtain ⟨hn, hcls, hstate⟩ := State.grade_counted hmask hcount
  obtain ⟨hkept, hopens⟩ := s.countEvent_plain l.src.toNat
  exact ⟨hn, by rw [hstate, hkept], hcls, fun hnone => by rw [hstate, hopens hnone]⟩

end

/-- Settles O12: one line alone, step by step, and the events of a cycle as a rearrangement by class and source. -/
theorem faultEventsAreRecordedInOrder : Obligations.FaultEventsAreRecordedInOrder := by
  unfold Obligations.FaultEventsAreRecordedInOrder
  refine ⟨⟨faultEvent_stopped, faultEvent_none, faultEvent_alone, record_shadow, grade_counts⟩, fun gs h => ⟨entryOrder_sorted gs, fun g => ?_, ?_⟩⟩
  · exact (entryOrder_perm h).mem_iff
  · exact (entryOrder_perm h).length_eq

end Sys2Proof.Proofs
end

section
/-! PROOF. The mark of data service saturates (R433): a counterexample to what the restart's last step is said to leave (O37). -/

namespace Sys2Proof.Machine
set_option Elab.async false
open Sys2Proof.Safety

/-- Admission works outside the die. -/
theorem SameDie.admitNow {s t : State} (h : SameDie s t) : SameDie s t.admitNow := by
  obtain ⟨log, g, hposts⟩ := State.admitNow_posts (s := t)
  have hdie : t.admitNow.die = t.die := hposts.same .die (by decide)
  exact h.trans ⟨by rw [hdie]⟩

end Sys2Proof.Machine

namespace Sys2Proof.Proofs
set_option Elab.async false
open Sys2Proof.Machine Sys2Proof.Safety

/-- A die that is ready for data service 2 ^ 32 µs after the origin of its marks. -/
def lateService : State := { Tests.dsv with die := { Tests.dsv.die with markUs := 2 ^ 32 } }

theorem lateService_ready : lateService.die.mode = .running ∧ lateService.hiveOk = true ∧ lateService.die.dataService = false ∧
    4 ≤ lateService.tch.group ∧ lateService.firstRounds = true ∧ lateService.otp.trusted.getLsbD 1 = true ∧
    imageField lateService.die.image 0xE 2 % 2 = 0 := by decide

/-- Data service has begun, before admission. -/
def State.serviceBegun (s : State) : State := { s with
  die := { s.die with dataService := true, mark2 := s.mark }
  scb := { s.scb with running := true, passStart := s.now }
  pwr := { s.pwr with idleSince := s.now } }

theorem dataService_begins {s : State} (hmode : s.die.mode = .running) (hok : s.hiveOk = true) (hnot : s.die.dataService = false)
    (hgroup : 4 ≤ s.tch.group) (hrounds : s.firstRounds = true) (htrust : s.otp.trusted.getLsbD 1 = true)
    (himage : imageField s.die.image 0xE 2 % 2 = 0) : exec .dataService s = .next (State.serviceBegun s).admitNow.noteLevel := by
  have hmay : ¬ (s.die.mode ≠ .running ∨ (!s.hiveOk) = true ∨ s.die.dataService = true ∨ s.tch.group < 4 ∨ (!s.firstRounds) = true ∨
      (!(s.otp.trusted.getLsbD 1)) = true) := by
    rw [hok, hnot, hrounds, htrust]
    simp [hmode]
    omega
  have hsteps : (if imageField s.die.image 0xE 2 % 2 = 1 then imageArb s.die.image - s.otp.counter 1 else 0) = 0 := if_neg (by omega)
  refine (if_neg hmay).trans ?_
  change Host.Outcome.next (((State.serviceBegun s).admitNow.stepCounter 1
    (if imageField s.die.image 0xE 2 % 2 = 1 then imageArb s.die.image - s.otp.counter 1 else 0)).noteLevel) = _
  rw [hsteps]
  rfl

/-- Refutes O37: the mark of data service is said to be the microseconds since the origin reduced to 32 bits, and it saturates (R433): at
2 ^ 32 µs the mark is all ones and the statement asks for 0. -/
theorem not_restartSteps : ¬ Obligations.RestartSteps := by
  unfold Obligations.RestartSteps
  rintro ⟨-, -, hservice⟩
  obtain ⟨hmode, hok, hnot, hgroup, hrounds, htrust, himage⟩ := lateService_ready
  obtain ⟨-, hbegins⟩ := hservice lateService
  obtain ⟨u, hu, -, -, hmark, -⟩ := hbegins hmode hok hnot hgroup hrounds htrust himage
  rw [dataService_begins hmode hok hnot hgroup hrounds htrust himage] at hu
  have hkept (t : State) : t.admitNow.noteLevel.die.mark2 = t.die.mark2 := by
    rw [(SameDie.refl t).admitNow.noteLevel.die]
  have hdie := congrArg (fun t : State => t.die.mark2) (Host.Outcome.next.inj hu)
  have hmarks : (State.serviceBegun lateService).die.mark2 = u.die.mark2 := (hkept _).symm.trans (hdie.trans (hkept u))
  rw [hmark] at hmarks
  exact absurd hmarks (by decide)

end Sys2Proof.Proofs
end

section
/-! PROOF. A stack test that goes on to its retention step ends the commands in progress, and with one of them a register may be written (R233,
R464): a counterexample (O15). -/

namespace Sys2Proof.Proofs
set_option Elab.async false
open Sys2Proof.Machine Sys2Proof.Safety

/-- A node that may take a stack test, with two commands outstanding: a NOP that has not ended, and, behind it, a SET_LATENCY of the node's
tolerance whose final entry is the next to be written. -/
def latencyOutstanding : State := { Tests.scr with
  rng := { Tests.scr.rng with cmds := [{ (default : Cmd) with id := 1 }, latencyToEnd] } }

theorem latencyOutstanding_ready : Acts .tw .bstCtl 0 latencyOutstanding ∧ latencyOutstanding.stackReady = true ∧
    latencyOutstanding.bst.state = 0 ∧ latencyOutstanding.hiveOk = true ∧ latencyOutstanding.stackFirst 0 = 0 := by
  unfold Acts
  decide +kernel

/-- The flow's first steps are under way. -/
def retainFirst : RetainRun := { begun := false, bank := 0, at_ := none, written := 0, read := 0, fail := 0 }
def stackUnderWay : State := { latencyOutstanding with bst := { latencyOutstanding.bst with state := 2, retain := some retainFirst } }

/-- As the rings stop, the NOP ends without a trace and the SET_LATENCY with its entry: PWR_LAT_TOL takes its value. -/
theorem stackUnderWay_stops : (stackUnderWay.stackResults false).stopRings.regs.late = [] ∧
    (stackUnderWay.stackResults false).stopRings.fld .pwrLatTol 0 0 16 = 5 ∧ latencyOutstanding.fld .pwrLatTol 0 0 16 = 65535 := by
  decide +kernel

/-- The flow's memory test, where no group fails, only notes results once it has spoilt what the SRAMs hold. -/
theorem stackMemory_quiet (s : State) : Only [.bst, .free] s.spoilMemory (s.stackMemory false) := by
  unfold State.stackMemory
  extract_lets mask s₁ _ s₂
  have hbegin : Only [.bst, .free] s₁ s₂ := by simp [Only, s₂]
  refine hbegin.step (Only.foldl (fun u g => ?_) _ s₂)
  extract_lets bad r _ v
  have hpass : bad = false := by simp [bad, mask]
  have hnoted : Only [.bst, .free] u v := by simp [Only, v]
  rw [hpass]
  exact hnoted

theorem spoilMemory_regs (s : State) : s.spoilMemory.regs = s.stopRings.regs := rfl

/-- The pattern of every bank leaves the register file as it is. -/
theorem patternRows_regs (s : State) (b a z : Nat) : (s.patternRows b a z).regs = s.regs :=
  have h : Only [.pcd] s (s.patternRows b a z) := Only.foldl (fun t _ => Only.foldl (fun u _ => u.putSlot_only ..) _ t) _ s
  h.same .regs (by decide)

theorem patternBanks_regs (s : State) (l : List Nat) (a z : Nat) : (l.foldl (fun (s : State) b => s.patternRows b a z) s).regs = s.regs := by
  induction l generalizing s with
  | nil => rfl
  | cons b l ih => exact (ih _).trans (patternRows_regs s b a z)

/-- The flow's first steps, with so many pattern rows in a bank. -/
def stackSteps (s : State) (r : RetainRun) (fail : BitVec 4) (rows : Nat) : State :=
  let k := fail.toNat
  let s := (s.stackResults (k == 1)).stackMemory (k == 1 || k == 2)
  let s := (List.range 16).foldl (fun s b => s.patternRows b 0 rows) s
  if 1 ≤ k ∧ k ≤ 5 then s.stackEnd fail
  else { s with bst := { s.bst with retain := some { r with begun := true, fail := fail } } }

theorem stackBegin_eq (s : State) (r : RetainRun) : s.stackBegin r = stackSteps s r (s.stackFirst r.fail) 4128 := rfl

/-- What the first steps leave of the register file where none of them fails. -/
theorem stackSteps_regs (s : State) (r : RetainRun) {f : BitVec 4} (rows : Nat) (hpass1 : (f.toNat == 1) = false)
    (hpass2 : (f.toNat == 2) = false) (hpass : ¬ (1 ≤ f.toNat ∧ f.toNat ≤ 5)) :
    (stackSteps s r f rows).regs = ((s.stackResults false).stackMemory false).regs := by
  unfold stackSteps
  simp only [hpass1, hpass2, Bool.or_self, if_neg hpass]
  exact patternBanks_regs _ _ _ _

/-- A flow whose first five steps pass (R465). -/
theorem stackBegin_passes {s : State} (h : s.stackFirst 0 = 0) : (s.stackBegin retainFirst).regs = (s.stackResults false).stopRings.regs := by
  have hquiet : ((s.stackResults false).stackMemory false).regs = (s.stackResults false).spoilMemory.regs :=
    (stackMemory_quiet (s.stackResults false)).same .regs (by decide)
  have hfirst : s.stackFirst retainFirst.fail = 0 := h
  rw [stackBegin_eq, hfirst, stackSteps_regs s retainFirst 4128 rfl rfl (by decide), hquiet, spoilMemory_regs]

/-- The word that STACK_TEST is written with. -/
theorem stackTest_act {s : State} (w : RegWrite) (h : w.data = 4) (i : Nat) : s.act w .bstCtl i = s.bitAction w 2 fun s => s.stackTest w.fail := by
  simp only [State.act]
  rw [State.bitAction_clear (lo := 1) (by rw [h]; decide), State.bitAction_clear (lo := 0) (by rw [h]; decide)]

theorem latencyOutstanding_tested : ∃ v : State, exec (.stackTest .tw none) latencyOutstanding = .next v.noteLevel ∧
    v.fld .pwrLatTol 0 0 16 = 5 := by
  obtain ⟨hacts, hready, hidle, hok, hfirst⟩ := latencyOutstanding_ready
  obtain ⟨hlate, hwritten, -⟩ := stackUnderWay_stops
  have hregs : (stackUnderWay.stackBegin retainFirst).regs = (stackUnderWay.stackResults false).stopRings.regs := stackBegin_passes hfirst
  have hgo : latencyOutstanding.stackTest none = some (stackUnderWay.stackBegin retainFirst) := by
    refine (if_neg (by simp [hready, hidle])).trans (congrArg some ?_)
    exact if_pos hok
  have hact : latencyOutstanding.act (writeOf .tw .bstCtl 0 4) .bstCtl 0 = stackUnderWay.stackBegin retainFirst :=
    (stackTest_act _ rfl 0).trans (State.bitAction_taken (by decide) hgo)
  have hexec := State.namedWrite_act hacts bstCtl_acts rfl hact
  rw [State.actLate_nil _ (by rw [hregs]; exact hlate)] at hexec
  exact ⟨_, congrArg Host.Outcome.next hexec, by rw [State.fld, State.cfgWord, hregs]; exact hwritten⟩

/-- Refutes O15: a stack test that passes its first five steps is said to leave the register file as it is, and the memory test in it stops the
rings: a NOP then ends without a trace, and with it the SET_LATENCY behind it, which writes PWR_LAT_TOL (R233, R464). -/
theorem not_stackTestAndMemorySelfTest : ¬ Obligations.StackTestAndMemorySelfTest := by
  unfold Obligations.StackTestAndMemorySelfTest
  rintro ⟨⟨htest, -⟩, -⟩
  obtain ⟨hacts, hready, hidle, hok, hfirst⟩ := latencyOutstanding_ready
  obtain ⟨-, hpasses, -⟩ := htest .tw none latencyOutstanding hacts
  obtain ⟨t, ht, -, -, -, -, -, -, honly⟩ := hpasses hready hidle hok (.inl (congrArg BitVec.toNat hfirst))
  obtain ⟨v, hv, hwritten⟩ := latencyOutstanding_tested
  obtain ⟨-, -, hbefore⟩ := stackUnderWay_stops
  have hkept (x : State) : x.noteLevel.regs = x.regs := x.noteLevel_only.same .regs (by decide)
  have hsame : v.regs = latencyOutstanding.regs := by
    have hregs := congrArg State.regs (Host.Outcome.next.inj (hv.symm.trans ht))
    rw [hkept, hkept] at hregs
    exact hregs.trans (Only.same honly .regs (by decide))
  have hvalue : (5 : Nat) = 65535 := by
    rw [← hwritten, ← hbefore, State.fld, State.cfgWord, hsame]
    rfl
  exact absurd hvalue (by decide)

end Sys2Proof.Proofs
end
